-- ==== Sys2Proof/Word.lean ====
section
/-! DEFINITION. The word types of the QF-1280 (spec/00_scope.md R5): 32-bit registers, bytes, and the sizes the
numbering of R11 fixes. -/

namespace Sys2Proof

/-- A 32-bit register or memory word (R5). -/
abbrev W32 := BitVec 32
/-- A byte of the byte address space (R5). -/
abbrev Byte := BitVec 8
/-- A 64-bit tick count such as DEVTIME (R37). -/
abbrev W64 := BitVec 64
/-- An engine number (R11): 0-511 drive, 512-1023 probe, 1024-1279 flux. -/
abbrev Eng := Fin 1280
/-- A demodulation channel number (R11). -/
abbrev Chan := Fin 512
/-- An output port: drive ports 0-127, then probe ports 128-191, then flux ports 192-447 (R11). -/
abbrev OPort := Fin 448
/-- A feedline, which numbers a read-out input port (R11). -/
abbrev Feed := Fin 64
/-- A tile number (R11). -/
abbrev Tile := Fin 48

end Sys2Proof
end

