-- ==== Sys2Proof/Syntax.lean ====
section
/-! DEFINITION. The commands of the block: one constructor for each row of spec/opcode_table.json, with the operands
that the row's rule gives it. An operand is what the command, message or measurement carries; everything else a
command uses is state. -/

namespace Sys2Proof

/-- The port a command packet came in on (R285). -/
inductive CPort where
  | mgmtUp | mgmtDn | hl (k : Fin 4)
deriving DecidableEq, Repr

/-- The header fields of a command packet that its execution uses (R281, R282), with the packet's CRC (R292) and the source MAC of the
frame it came in (R286), 0 from a host link. -/
structure Hdr where
  port : CPort
  mac : BitVec 48
  ver : Byte
  dest : Byte
  flags : BitVec 16
  seq : BitVec 16
  tag : W32
  crc : W32
deriving DecidableEq, Repr

/-- The two sides of the unit (R15). -/
inductive Side where
  | host | field
deriving DecidableEq, Repr

/-- The two microcoded controllers (R362). -/
inductive Ctl where
  | ci | fm
deriving DecidableEq, Repr

/-- A serial port: host links HL0-HL3, seam A, seam B (R253). -/
inductive LPort where
  | hl (k : Fin 4) | seamA | seamB
deriving DecidableEq, Repr

/-- A temperature sensor (R381). -/
inductive Sensor where
  | host (s : Fin 8) | field (s : Fin 64)
deriving DecidableEq, Repr

/-- A type 1 request crossing the Lining (R18), with its address. -/
inductive Access where
  | read (addr : W32) | write (addr v : W32) | modify (addr mask v : W32)
  | readBlock (addr count : W32) | writeBlock (addr : W32) (ws : List W32)
deriving DecidableEq, Repr

/-- One outcome as a seam message carries it (R345). -/
structure SeamOutcome where
  source : BitVec 11
  value : BitVec 2
  uncertain : Bool
  absent : Bool
  viaA : Bool
  stamp : W32
deriving DecidableEq, Repr

/-- The body of a REPORT (R345). -/
structure ReportMsg where
  sync : Bool
  group : Fin 64
  inst : Nat
  shotNo : W32
  cMax : W32
  offset : BitVec 12
  paceGap : Nat
  leadReq : Nat
  left : Bool
deriving DecidableEq, Repr

/-- The body of a COMPLETE (R345). -/
structure CompleteMsg where
  sync : Bool
  group : Fin 64
  inst : Nat
  shotNo : W32
  b : W32
  closed : Bool
  last : Bool
deriving DecidableEq, Repr

/-- The MEND_XCHG flits of one commit (R345): its first round, overflow causes, parities and the cross edges chosen, each with its round
and its detectors, lead first. -/
structure XchgMsg where
  round : Nat
  ovf : BitVec 4
  obs : BitVec 16
  edges : List (Nat × Nat × Nat)
deriving DecidableEq, Repr

/-- A beacon's fields (R319); NET_OFFSET counts 2^-16 ns. -/
structure BeaconMsg where
  bseq : BitVec 16
  flags : Byte
  validFrom : W32
  netOffset : Nat
  netRate : W32
  seconds : Nat
  utc : BitVec 16
deriving DecidableEq, Repr

/-- The four fitted correction factors of one ADC slice (R141), with whether its residual error passes (R144). -/
structure SliceFit where
  port : Fin 4
  slice : Fin 17
  offset : Int
  gain : Int
  skew : Int
  bw : Int
  residualOk : Bool
deriving DecidableEq, Repr

/-- The fitted DC factors of one flux port in one mode and range (R387). -/
structure FluxFit where
  port : Fin 16
  r : Fin 4
  offset : Int
  gain : Int
deriving DecidableEq, Repr

/-- What a received TRAIN flit carries (R271). -/
structure TrainMsg where
  kind : Fin 4
  link : Fin 4
  serial : W64
  credits : Nat × Nat × Nat
  pass : Bool
  loopReq : Bool
  lanesInOrder : Bool
  roundTrip : Nat
deriving DecidableEq, Repr

/-- A HEARTBEAT's body (R345), and, over seam A, the set of sources that the partner's slots have bound, where the hubs
have exchanged a new one since the heartbeat before it (spec/06, "Outcomes across seam A": no message is named for it). -/
structure HeartbeatMsg where
  state : Fin 8
  twinRole : Fin 4
  health : Bool
  storm : Bool
  interlockOut : Bool
  block : W32
  bound : Option (List (BitVec 11))
deriving DecidableEq, Repr

/-- A HELLO's body (R345), with the skew that the seam exchange of R335 measured and, over seam A, the set of sources that
the partner's slots have bound, which the hubs exchange at PAIR_JOIN. -/
structure HelloMsg where
  role : Fin 8
  serial : W64
  pairPresent : Bool
  state : Fin 8
  skew : Int
  bound : List (BitVec 11)
deriving DecidableEq, Repr

/-- An Announce message as the master selection uses it (R325): the dataset in comparison order, lower is better. -/
structure AnnounceMsg where
  domain : Byte
  rank : Nat
  gmId : W64
  utc : BitVec 16
  syncInterval : Nat
deriving DecidableEq, Repr

/-- A PTP message (R322-R324): domain, the identity and sequence by which it is matched, one-step flag; the instants on DEV_IMAGE
at which it passes the MAC of the port it enters and of the port it leaves by (for a Delay_Resp, leaves: the clock's own Delay_Req);
the timestamp it carries and its correctionField, in 2^-16 ns. -/
structure PtpMsg where
  domain : Byte
  ident : Nat
  seq : BitVec 16
  oneStep : Bool
  ingress : W64
  egress : W64
  origin : Int
  correction : Int
deriving DecidableEq, Repr

/-- An Ethernet II frame at a management port (R285): its MACs, EtherType, length, whether its FCS holds, its payload. -/
structure Frame where
  dst : BitVec 48
  src : BitVec 48
  etherType : BitVec 16
  len : Nat
  fcsOk : Bool
  payload : List Byte
deriving DecidableEq, Repr

/-- A flit as its receiver sees it (R257, R258): the kind bit, whether the sync headers agree, the 256 bits. -/
structure Flit where
  data : Bool
  syncOk : Bool
  bits : BitVec 256
deriving DecidableEq, Repr

/-- The commands: one constructor for each row of spec/opcode_table.json, in the table's order. -/
inductive Instr where
  -- command packets (R294)
  | ping (h : Hdr) (ws : List W32)
  | read (h : Hdr) (addr : W32)
  | write (h : Hdr) (addr v : W32)
  | readBlock (h : Hdr) (addr count : W32)
  | writeBlock (h : Hdr) (addr : W32) (ws : List W32)
  | modify (h : Hdr) (addr mask v : W32)
  | enumerate (h : Hdr) (w0 : W32)
  | assignAddress (h : Hdr) (w0 w1 w2 : W32)
  | load (h : Hdr) (w0 w1 : W32) (data : List W32)
  | start (h : Hdr) (w0 w1 w2 w3 : W32) (set : List W32)
  | stop (h : Hdr) (w0 : W32) (set : List W32)
  | abort (h : Hdr) (w0 w1 : W32) (set : List W32)
  | calibrateReadout (h : Hdr) (w0 : W32)
  | calibrateFlux (h : Hdr) (w0 : W32)
  | calibrateHostHk (h : Hdr) (w0 : W32)
  | calibrateFieldHk (h : Hdr) (w0 : W32)
  | canarySweep (h : Hdr) (w0 : W32)
  | sensorCheck (h : Hdr) (w0 : W32)
  | nvVerify (h : Hdr) (w0 : W32)
  | memBist (h : Hdr) (w0 : W32)
  | converterLoop (h : Hdr) (w0 : W32)
  | engineCheck (h : Hdr) (w0 : W32)
  | hostMem (h : Hdr) (w0 : W32)
  | selfTestDone (c : Ctl) (fail : Option W32)
  | patchLoad (h : Hdr) (w0 w1 : W32) (data : List Byte)
  | patchApply (h : Hdr) (w0 w1 : W32) (sig : List W32)
  | patchActivate (c : Ctl)
  | nvWrite (h : Hdr) (w0 : W32) (data : List Byte)
  | nvRead (h : Hdr) (w0 w1 w2 : W32)
  | nvProgramDone (verifyFails : Nat)
  | pairJoin (h : Hdr) (w0 : W32)
  | pairSplit (h : Hdr)
  | pairHandover (h : Hdr) (w0 : W32)
  | pairResync (h : Hdr)
  | timeSet (h : Hdr) (w0 w1 w2 w3 : W32)
  | timeStep (h : Hdr) (w0 w1 : W32)
  | timeAlignSource (h : Hdr) (w0 : W32)
  | timeAlignFollowSync (h : Hdr) (w0 : W32)
  | timeAlignFollowSeam (h : Hdr) (w0 : W32)
  | testUnlock (h : Hdr) (ws : List W32)
  | reset (h : Hdr) (w0 : W32)
  | resetEffect
  -- engine instructions: engine e executes the instruction at its PC, which is this one (R77)
  | halt (e : Eng)
  | nop (e : Eng)
  | play (e : Eng)
  | playStream (e : Eng)
  | wait (e : Eng)
  | waitUntil (e : Eng)
  | setFreq (e : Eng)
  | shiftPhase (e : Eng)
  | setPhase (e : Eng)
  | framePauli (e : Eng)
  | acquire (e : Eng)
  | publish (e : Eng)
  | branch (e : Eng)
  | loop (e : Eng)
  | call (e : Eng)
  | ret (e : Eng)
  | mark (e : Eng)
  | sync (e : Eng)
  | commit (e : Eng)
  | armJump (e : Eng)
  | counter (e : Eng)
  | shotEnd (e : Eng)
  | shotRendezvousComplete (set : Nat)
  | syncComplete (set : Nat) (group : Fin 64) (inst : Nat)
  | syncTimeout (set : Nat) (group : Fin 64) (inst : Nat)
  -- the Hem
  | hemAdmit (e : Eng)
  | descriptorDequeue (e : Eng)
  | segmentStart (e : Eng)
  | markOutPulse (e : Eng)
  | frameUpdate
  | windowOpen (c : Chan)
  | outcomeRelease (c : Chan) (given : Option (List (BitVec 16 × BitVec 16)))
  | slotEntryArrival (e : Eng) (slot : Fin 16)
  | trigInEdge (pin : Fin 8) (tick : BitVec 6)
  | engineDisable (e : Eng) (v : W32)
  | removalEffect
  | engineReenable (e : Eng) (v : W32)
  | engineReenableEffect (e : Eng)
  | leadClr (e : Eng) (v : W32)
  | portEnable (p : OPort) (v : W32)
  | portEnableEffect (p : OPort)
  | portDisable (p : OPort) (v : W32)
  | portCommit (p : OPort) (block : W32)
  | tileCommit (t : Tile) (block : W32)
  | commitApply
  | fluxCfgWrite (f : Fin 256) (v : W32)
  | rangeClampStart (f : Fin 256)
  | rangeClampRelease (f : Fin 256)
  | governorRequest
  | governorGrant
  | portWakeReady (p : OPort)
  | portDoze (p : OPort)
  | streamCfgWrite (e : Eng) (v : W32)
  | streamRequest (e : Eng)
  | streamRefill (e : Eng)
  | adcEnable (l : Feed) (v : W32)
  | adcPortReady (l : Feed)
  | readoutCalTileDone (k : Fin 16) (fits : List SliceFit)
  | rotationStep (l : Feed) (converged : Bool) (fit : SliceFit)
  | rotStalled (l : Feed)
  | fluxCalTileDone (m : Fin 16) (fits : List FluxFit)
  | hkCalDone (s : Side) (offset gain : Int)
  -- outcome network and seam messages
  | pledge (source : BitVec 11) (stamp : W32)
  | outcome (b : Bool) (o : SeamOutcome)
  | remoteDeadline
  | mirrorDeadline
  | report (b : Bool) (m : ReportMsg)
  | complete (m : CompleteMsg)
  | trig (pin : Fin 8) (stamp : W64)
  -- Mender
  | menderEnable (v : W32)
  | menderCheckDone
  | menderInput
  | emptyRoundClose
  | menderCommit
  | mendXchg (m : XchgMsg)
  | seamLostExchange
  | observablePublish
  | menderFrameUpdate
  | menderScrub (bad : List Nat)
  -- DMA
  | dmaRun (n : Fin 32) (v : W32)
  | dmaKick (n : Fin 32) (v : W32)
  | dmaBytesComplete (n : Fin 32) (units : Nat)
  | readData (k : Fin 4) (tag : Byte) (status : BitVec 3) (data : List Byte)
  | writeAck (k : Fin 4) (tag : Byte) (status : BitVec 3)
  | memReadTimeout (k : Fin 4) (tag : Byte)
  -- pocket capture
  | arm (k : Fin 16) (v : W32)
  | disarm (k : Fin 16) (v : W32)
  | force (k : Fin 16) (v : W32)
  | triggerDecision (k : Fin 16)
  | captureComplete (k : Fin 16)
  | rearmEnd (k : Fin 16)
  | pocketData (k : Fin 16)
  | pocketOverflow (k : Fin 16)
  -- the Lining
  | liningFrameReceive (rx : Side) (ok : Bool) (lane : Fin 64)
  | liningHeartbeat (s : Side)
  | liningDown (s : Side)
  | liningTrainingAttempt (s : Side)
  | liningUp
  | registerAccess (a : Access)
  | bulkLoad (addr : W32) (data : List W32)
  | outcomeAndResultRecord
  | eventNotice
  | timeBeacon
  -- host links and seams
  | flitReceive (p : LPort) (f : Flit)
  | nak (p : LPort) (seq : BitVec 7)
  | nakRepeat (p : LPort)
  | credit (p : LPort) (c0 c1 c2 : BitVec 12)
  | creditSend (p : LPort)
  | command (k : Fin 4) (packet : List Byte)
  | train (p : LPort) (m : TrainMsg)
  | trainingPhasePass (p : LPort)
  | trainingPhaseTimeout (p : LPort) (cause : Fin 3) (lanes : BitVec 9)
  | hostLinkRetrainTimer (k : Fin 4)
  | clockLaneLost (p : LPort)
  | silence (p : LPort)
  | laneDrift (p : LPort)
  | retrain (p : LPort) (v : W32)
  | loopback (p : LPort) (v : W32)
  | sleep (p : LPort)
  | quietEntry (k : Fin 4)
  | dormantEntry (k : Fin 4)
  | linkWake (k : Fin 4) (tx : Bool)
  -- management chain
  | mgmtFrameReceive (up : Bool) (f : Frame)
  | mgmtLinkChange (up : Bool) (link : Bool)
  | commandPacket (port : CPort) (mac : BitVec 48) (bytes : List Byte)
  -- registers
  | registerWrite (addr v : W32)
  | readClear (addr : W32)
  | devtimeLoRead
  | netNowLoRead
  | frameFreqLoRead (f : Fin 4096) (anchor : Bool)
  | frameFreqLoWrite (f : Fin 4096) (anchor : Bool) (v : W32)
  | frameFreqHiWrite (f : Fin 4096) (anchor : Bool) (v : W32)
  -- network time
  | timeProbe (sent reply : W64)
  | imageLost
  | beaconSend
  | mappingValidFrom (s : Side)
  | announce (up : Bool) (m : AnnounceMsg)
  | ptpSync (up : Bool) (m : PtpMsg)
  | followUp (up : Bool) (m : PtpMsg)
  | delayReq (up : Bool) (m : PtpMsg)
  | delayResp (up : Bool) (m : PtpMsg) (freq : Int)
  | holdover
  | tcUnmatchedTimeout (up : Bool) (ident : Nat) (seq : BitVec 16)
  | alignmentWordSend
  | alignmentSourceEnd
  | alignmentWordReceive (bits : BitVec 80) (edge : W64)
  | seamTimeProbe (probes : List (Nat × Int))
  | alignTimeout (checkFailed : Bool)
  -- pairing
  | hello (p : LPort) (m : HelloMsg)
  | helloTimeout
  | autoJoinRetry
  | seamBRetrain
  | heartbeatSend (p : LPort)
  | heartbeat (p : LPort) (m : HeartbeatMsg)
  | heartbeatLost (p : LPort)
  | digest (block : W32) (d : List W32)
  | digestGap
  | digestReq (block : W32) (yoke : Fin 4)
  | digestDetail (block : W32) (yoke : Fin 4) (first : Fin 112) (ds : List W32)
  | relay (part : Nat) (last : Bool) (data : List Byte)
  | releaseCause (cause : Fin 10)
  | release (cause : Fin 16) (block : W32)
  | handover (seq : Byte) (h : W32) (cause : Fin 16)
  | handoverAck (p : LPort) (seq : Byte) (accept : Bool)
  | handoverAckTimeout
  | handoverBlock
  | handoverReq (cause : Fin 16) (origin : Fin 4)
  | claimed (block : W32)
  | interlockHigh
  | claimUnmute (lineLow : Bool)
  | split
  | resyncData (addr : W32) (data : List W32)
  | resyncCtrl (kind : Fin 16) (value : W32)
  | resyncPassEnd
  -- controllers
  | interrupt (c : Ctl)
  | safePoint (c : Ctl) (gapNs : Nat)
  | longAbort (c : Ctl) (v : W32)
  | watchdog (c : Ctl)
  | machineCheck (c : Ctl) (cause : Fin 16) (patchSpace : Bool) (word : BitVec 3) (addr : BitVec 14) (opcode : Byte)
  -- temperature, power, housekeeping
  | sensorConversion (s : Sensor) (reading : Int)
  | sensorReferenceCheck (s : Sensor) (diff : Int)
  | sensorTimeout (s : Sensor)
  | throttleStep (y : Fin 4)
  | bandChange (y : Fin 4)
  | fieldShutdown (cause : Fin 8)
  | yokeFault (y : Fin 4) (rail : Bool)
  | hostShutdown
  | avAdjust (readVout status : BitVec 16) (busOk : Bool)
  | hkConversion (s : Side) (raw : Int)
  | hkIntervalEnd (s : Side)
  | hkInject (s : Side) (v : W32)
  | canaryMeasurement (margins : List (Fin 96 × Int))
  | wearEstimate (canary trim em nv : Nat) (early : Bool)
  | wearSave
  | unlockExpiry (s : Side)
  | bhLock (v : W32)
  -- start-up and reset
  | supplyGood (s : Side)
  | supplyLoss (s : Side)
  | hostResetN
  | fieldResetN
  | hostBoot
  | fmPatchRestore
  | refclkValid
  | refLost
  | pllLock
  | memClearDone
  | adcOverRange (l : Feed) (m : Fin 32)
  | inServiceSliceFailure (l : Feed) (slice : Fin 17)
  | handoverRetry
  | interlockLowTimeout
  | fieldResetRelease
  | tilePowerUpDone (t : Tile)
deriving DecidableEq, Repr

end Sys2Proof
end

