-- ==== Sys2Proof/Decode.lean ====
section
/-! DEFINITION. The commands that a word spells by the bits of spec/opcode_table.json. No row of the table gives bits
(every row's fields are empty), so no word spells a command. -/

namespace Sys2Proof

/-- The command whose bits, as the opcode table numbers them, are w: none, since no row gives bits. -/
def decodeTableWord (_nbits _w : Nat) : Option Instr := none

end Sys2Proof
end

