-- ==== Sys2Proof/Config.lean ====
section
/-! DEFINITION. What one unit or one implementation fixes, and the free values: constants without a body, so that no
proof sees what they are. -/

namespace Sys2Proof

/-- The fused serial number (R446). Per unit. -/
opaque Config.serial : W64
/-- The silicon stepping (R14): A0, A1 or B0. Per unit. -/
opaque Config.silicon : Fin 3
/-- ID_PART.STEPPING: 0xA0, 0xA1 or 0xB0 (R447). -/
def Config.stepping : Byte := if Config.silicon = 0 then 0xA0 else if Config.silicon = 1 then 0xA1 else 0xB0
/-- ID_PART.ORDER: true for QF-1280-F (R14, R447). Per unit. -/
opaque Config.orderF : Bool
/-- The ROM release of a controller (R379); the argument is false for the CI and true for the FM. Per unit. -/
opaque Config.romRelease : Bool → BitVec 16
/-- Whether SHA-256 of the public key in these bytes equals the key hash that the selector names (false: the fused
Plynfel hash; true: the customer slot's), R377 order 5. Per unit. -/
opaque Config.keyHashOk : Bool → List Byte → Bool
/-- Whether these signature words are a valid ECDSA P-256 signature over SHA-256 of the bytes (R377 order 6, R419). -/
opaque Config.sigOk : List Byte → List W32 → Bool
/-- The factory trim tables (R386, R413): the entry of a band for the trim register at an address. Per unit; the pages'
layout is not given. -/
opaque Config.trimEntry : Nat → Nat → Int
/-- CANARY_TARGET as the factory pages give it (R408, R413). Per unit. -/
opaque Config.canaryTarget : BitVec 16
/-- The bytes of a page that the unit writes for itself, by page, values held and offset: its layout is not given (R413). -/
opaque Config.unitByte : Nat → List W32 → Nat → Byte
/-- A byte of a factory page (R413): its contents are not given. Per unit. -/
opaque Config.factoryByte : Nat → Nat → Byte
/-- A free 32-bit value: nothing constrains it. The argument is the count of free values drawn before it. -/
opaque Config.freeWord : Nat → W32
/-- What a register of the twinset partner holds (R209), by the count of free values drawn before and its address. -/
opaque Config.partnerReg : Nat → Nat → W32
/-- The identity of the unit's own PTP port (R322, R324), by which a Delay_Resp names its requester: not given. -/
opaque Config.ptpIdentity : Nat
/-- The destination MAC of a command frame that the unit itself sends on MGMT_DN (R288, R302): not given. -/
opaque Config.chainMac : BitVec 48
/-- An ADC sample (R137): a physical signal, by input port, 64-bit block and sample of the block. -/
opaque Config.adcCode : Nat → Nat → Nat → BitVec 12
/-- The fractional-delay and bandwidth corrections of a slice (R141), by its SKEW and BW, of the samples around one: their
coefficients are not given. -/
opaque Config.sliceFilter : Int → Int → (Int → Rat) → Rat
/-- A corrected sample as 16 bits (R136): its scale and rounding are not given. -/
opaque Config.adcWord : Rat → BitVec 16
/-- The decimated sample of 32 mixed samples (R136, R149): the coefficients and roundings of its filters are not given. -/
opaque Config.decimate : List (Rat × Rat) → BitVec 16 × BitVec 16
/-- Whether a weight written within the 5 ns in which either form may be used is used in its new form (R154), by its address and
the 64-bit block of the window. -/
opaque Config.weightNew : Nat → Nat → Bool
/-- The weight of an envelope sample at a distance from its centre in ticks, up to 32 (R111): the interpolator's coefficients are not
given. -/
opaque Config.interpTap : Nat → Rat
/-- Whether a cosine (false) or a sine (true) of a truncated phase is held in its upper neighbour (R120): the last bit is not given. -/
opaque Config.trigUp : Bool → BitVec 24 → Bool
/-- Whether an entry of the flux oscillator's table is held in its upper neighbour (R124): its rounding is not given. -/
opaque Config.tableUp : Nat → Bool
/-- Where the binary point of a filter state's 40 bits lies (R125), and whether a state is held in its upper neighbour: not given. -/
opaque Config.statePoint : Nat
/-- See Config.statePoint. -/
opaque Config.stateUp : Rat → Bool
/-- What a stream segment plays at a byte of its samples when STREAM_CFG has emptied its window: not given. -/
opaque Config.lostSample : W64 → Nat → W32
/-- A word of a controller's microcode ROM, of the FM where the argument is true (R362): its contents are not given. -/
opaque Config.romMicro : Bool → BitVec 14 → BitVec 16
/-- A word of a controller's nanoword ROM (R362): its contents are not given. -/
opaque Config.romNano : Bool → Nat → BitVec 192
/-- The result of a controller's ALU_OP (R364): the sixteen operations are named, their codes are not given. -/
opaque Config.alu : BitVec 4 → W32 → W32 → W32
/-- An entry of a controller's dispatch table (R363), by entry and opcode: its contents are not given. -/
opaque Config.dispatch : Bool → Nat → Byte → BitVec 15
/-- Which of two equally near codes a sample takes (R121). -/
opaque Config.tieDown : Rat → Bool

end Sys2Proof
end

