-- ==== Sys2Proof/Machine/State.lean ====
section
/-! DEFINITION. The state of the QF-1280 as plain data: registers and memories as sparse tables in one canonical form,
and the internal state of every block the spec describes. INVENTORY.md lists each piece with its rule. -/

namespace Sys2Proof.Machine

/-- A sparse table: keys strictly rising, no entry equal to what its key holds when unlisted. -/
abbrev Tab (α : Type) := List (Nat × α)

/-- A point of the schedule: a 32-bit block and a tick within it (R74). -/
structure Tm where
  b : W32
  t : BitVec 6
deriving DecidableEq, Repr

/-- An update of a frame register (R115), by a FRAME descriptor, by Mender, or by a host word or pair (R477). -/
inductive FrameOp where
  | setFreq (f : BitVec 48) (reset : Bool)
  | shift (p : W32)
  | setPhase (p : W32)
  | pauli (x z : BitVec 2)
  | word (offset : Nat) (v : W32)
  | pair (anchor : Bool) (lo hi : W32)
deriving DecidableEq, Repr

/-- What a Hem descriptor of each KIND carries in its reused bits (R41, R116, R151). -/
inductive Body where
  | play (env len : Nat) (amp : BitVec 16) (frame : Nat)
  | stream (len : Nat) (amp : BitVec 16) (frame : Nat)
  | acquire (mask : BitVec 8) (wset : Nat) (len : Nat)
  | mark (event : Bool) (pin width : Nat) (code : BitVec 16)
  | frame (n : Nat) (op : FrameOp)
deriving DecidableEq, Repr

/-- A Hem descriptor (R41). -/
structure Desc where
  start : W32
  tick : BitVec 6
  body : Body
  cond : Bool
  remote : Bool
  absent : Bool
  armed : Bool
  fbDelta : Nat
deriving DecidableEq, Repr

/-- Where accepted work stands: in the queue, out of the queue on its way to the pin (R40), or at the pin. -/
inductive Stage where
  | queued | pipe | playing
deriving DecidableEq, Repr

/-- An accepted descriptor: the 64-bit number of its START block (R39), the point at which it was cut or truncated, if it was
(R58, R99), and the samples that a stream segment reserved at admission (R101, R102). Ended work stays: the filters of the
port it played on remember it. -/
structure Work where
  d : Desc
  stage : Stage
  b64 : W64
  cut : Option Tm
  samples : List Byte
deriving DecidableEq, Repr

/-- An outcome slot's entry (R91). An entry issued by R175, R178 or R205 carries no stamp. -/
structure Entry where
  value : BitVec 2
  uncertain : Bool
  absent : Bool
  remote : Bool
  stamp : Option W32
deriving DecidableEq, Repr

/-- An ARM_JUMP (R98); span is the armed segment once one is bound. -/
structure Arm where
  trig : Bool
  pin : Nat
  target : Nat
  slot : Nat
  value : BitVec 2
  fEvent : Nat
  span : Option (Tm × Tm)
deriving DecidableEq, Repr

/-- An engine's state code (R68). -/
inductive EngSt where
  | idle | running | waiting | halted | done | fault | disabled
deriving DecidableEq, Repr

/-- An engine's stream window (R101, R102, R105): the bytes it holds that no accepted segment has reserved, oldest first. -/
structure Stream where
  data : List Byte
  req : Bool
  owed : Nat
  untilMark : Bool
  underran : Bool
deriving DecidableEq, Repr

/-- A descriptor offered to the Hem and not yet answered, with the marks of R45. -/
structure Offer where
  d : Desc
  slot : Bool
  stream : Bool
deriving DecidableEq, Repr

/-- An engine's internal state (R68-R105); its host-written registers lie in State.regs. gone holds the engines that have reported or
left their START set since its shot began (R175). -/
structure Engine where
  st : EngSt
  cause : Nat
  pc : Nat
  cur : Tm
  stack : List Nat
  shotNo : W32
  shotStart : W32
  s0 : W32
  set : Option Nat
  offer : Option Offer
  work : List Work
  slots : Tab (List Entry)
  decL : Option W32
  decR : Option W32
  arm : Option Arm
  live : List Arm
  refuse : Bool
  trigs : List (Nat × W64)
  goEnd : Bool
  gone : List Nat
  syncs : Tab Nat
  draining : Bool
  stream : Stream
  pledgeWait : Option (Desc × List Nat)
deriving DecidableEq, Repr

/-- A START set and its shot rendezvous (R69, R70, R298, R346, R349). far are the engines it names in a twinset's follow, partner
the REPORTs received, each with its seam (B where true), leftUp the SYNC groups for which this unit has told its hub that no
member of the set remains here. -/
structure StartSet where
  id : Nat
  members : List Nat
  far : List Nat
  halted : List Nat
  reports : List (Nat × W32)
  shotNo : W32
  shotCount : W32
  gap : Nat
  s0 : W32
  shotStart : W32
  stopping : Bool
  twin : Bool
  pair : Bool
  mender : Bool
  menderDone : Bool
  partner : List (Bool × ReportMsg)
  lost : Bool
  sentUp : Bool
  leftUp : List Nat
deriving DecidableEq, Repr

/-- An instance of a SYNC group in one START set's shot (R95). -/
structure SyncInst where
  set : Nat
  group : Nat
  inst : Nat
  arrived : List (Nat × W32)
  offset : Nat
  first : W32
  partner : List (Bool × ReportMsg)
  closed : Bool
  sentUp : Bool
deriving DecidableEq, Repr

/-- A removal waiting for its block E (R57, R58). -/
inductive Removal where
  | engine (e : Nat) (cut : Bool) (block : W32)
  | port (p : Nat) (block : W32)
  | abort (sets : List Nat) (engs : List Nat) (block : W32)
deriving DecidableEq, Repr

/-- A commit waiting for its block (R127, R88): the engine to flag when an engine asked for it. -/
structure Commit where
  port : Nat
  block : W32
  late : Bool
  eng : Option Nat
deriving DecidableEq, Repr

/-- What a governor request is for (R395). -/
inductive GovKind where
  | tile (t : Nat) (cal : Bool)
  | inport (l : Nat)
  | port (p : Nat) (enable : Bool)
deriving DecidableEq, Repr

/-- A request waiting at the governor, with its arrival block, scheduled use and tie-break engine (R395). -/
structure GovReq where
  kind : GovKind
  arrival : W32
  use : Option W32
  eng : Nat
deriving DecidableEq, Repr

/-- A grant placed by the governor (R395). -/
structure Grant where
  kind : GovKind
  g : W32
  len : Nat
  done : Bool
deriving DecidableEq, Repr

/-- A range clamp of a flux port (R131), or a calibration's (R387), and whether the port is awake apart from it. -/
structure Clamp where
  port : Nat
  start : W32
  release : W32
  started : Bool
  wasAwake : Bool
deriving DecidableEq, Repr

/-- A shadow write that reached the Hem while a commit was pending (R128). -/
structure ShadowWrite where
  addr : Nat
  block : W32
  before : W32
deriving DecidableEq, Repr

/-- The read latches and write holds of a frame register's two pairs (R477). -/
structure FrameAux where
  freqLatch : W32
  freqHold : Option W32
  ancLatch : W32
  ancHold : Option W32
deriving DecidableEq, Repr

/-- A frame update waiting for its boundary; cls orders it by R117: the engine number for a descriptor, then Mender,
then host writes in order of arrival. -/
structure FrameUpd where
  block : W32
  frame : Nat
  cls : Nat
  op : FrameOp
deriving DecidableEq, Repr

/-- The Hem and the governor. config, fast and band are CONFIG, FAST_FEEDBACK in force and the band in force; ready,
tileWait and inWait hold the block at which a port wakes, a tile is powered, an input port becomes READY; calRun the
block at which a tile's running calibration ends, rotBad the dwells in a row in which a port's spare did not
converge (R147), rotAt the 64-bit block at which a port's dwell, or its swap's wait, began (R145, R146), refs the blocks of the refusals of the last 1 µs (R352). -/
structure Hem where
  config : BitVec 2
  fast : Bool
  fastPend : Option (Bool × Option W64)
  band : BitVec 2
  removals : List Removal
  reenables : List (Nat × W32)
  commits : List Commit
  enables : List (Nat × W32)
  clamps : List Clamp
  adcOff : List (Nat × W32)
  requests : List GovReq
  grants : List Grant
  ready : Tab W32
  dozeFrom : Tab W32
  shadowLog : List ShadowWrite
  frameQ : List FrameUpd
  tileWait : Tab W32
  inWait : Tab W32
  calRun : Tab W32
  rotBad : Tab Nat
  rotAt : Tab W64
  refs : List W32
deriving DecidableEq, Repr

/-- A window context of a demodulation channel (R155): dead holds the ABSENT cause of a window that does not integrate;
words is the weight set entry latched by R154; flip holds the Pauli bits of R159 once the stamp block has passed. -/
structure Ctx where
  start : W32
  tick : BitVec 6
  len : Nat
  wset : Nat
  shotNo : W32
  eng : Nat
  words : List W32
  opened : Bool
  dead : Option Nat
  ovr : Bool
  flip : Option Bool
deriving DecidableEq, Repr

/-- A record on its way to the host (R161, R162, R206): its yoke queue (none: the hub's), stream and RECORD_SEQ. -/
structure Rec where
  yoke : Option Nat
  stream : Nat
  seq : W32
  words : List W32
deriving DecidableEq, Repr

/-- An entry on its way to a slot (R174). -/
structure Delivery where
  eng : Nat
  slot : Nat
  entry : Entry
deriving DecidableEq, Repr

/-- An outcome on its way to Mender's input. -/
structure MendIn where
  source : Nat
  value : BitVec 2
  absent : Bool
  stamp : Option W32
deriving DecidableEq, Repr

/-- A pledge held at the remote stage, and the slots that have had ABSENT in its outcome's place (R176, R177). -/
structure Pledge where
  source : Nat
  stamp : W32
  absentTo : List (Nat × Nat)
deriving DecidableEq, Repr

/-- One direction of a seam's outcome traffic (R179): outcomes waiting with the block each began to wait, pledges
waiting, and how many were sent in the block last served. -/
structure SeamQ where
  outs : List (W32 × SeamOutcome)
  pledges : List (Nat × W32)
  blk : W32
  used : Nat
deriving DecidableEq, Repr

/-- A mirrored entry that the standby's own release, or the active, has made due (R180): source, stamp, whether the
active received it over seam A, the words of its record, and whether the Pauli frame inverts it (R159)
and boundary 1 is in use (R158). -/
structure Due where
  source : Nat
  stamp : W32
  viaA : Bool
  words : List W32
  flips : Bool
  b1 : Bool
deriving DecidableEq, Repr

/-- The outcome network (R169-R185). unformed holds the outcome records that wait to be formed in the order of R162; rate the block
in which the field side last formed records, and the units it formed in it; mirrorGone the sources and stamps of the mirrored remote
entries in whose place ABSENT went (R180). -/
structure Onet where
  deliv : List Delivery
  mendIn : List MendIn
  pledges : List Pledge
  partnerBound : List Nat
  qa : SeamQ
  qb : SeamQ
  due : List Due
  mirrored : List SeamOutcome
  mirrorGone : List (Nat × W32)
  runId : BitVec 16
  seq0 : W32
  seq1 : W32
  unformed : List (List W32)
  rate : W32 × Nat
  recs : List Rec
  held : List Rec
deriving DecidableEq, Repr

/-- One round's input of one detector (R189). -/
structure RoundIn where
  round : Nat
  det : Nat
  v : Bool
  event : Bool
  absent : Bool
deriving DecidableEq, Repr

/-- A detector's progress through the shot: outcomes taken, and its previous value (R188, R189). -/
structure DetSt where
  taken : Nat
  prev : Option Bool
deriving DecidableEq, Repr

/-- A round close waiting to be decoded (R195). -/
structure Close where
  round : Nat
  stamp : W32
  final : Bool
  late : Bool
deriving DecidableEq, Repr

/-- A register command whose reply waits for Mender's check (R193): its opcode, and the parameters of either reply. -/
structure Deferred where
  h : Hdr
  op : Nat
  okParams : List W32
  badParams : List W32
deriving DecidableEq, Repr

/-- Mender's internal state (R186-R211). -/
structure Mend where
  set : Option Nat
  shotStart : W32
  closed : Nat
  lastStamp : W32
  ins : List RoundIn
  dets : Tab DetSt
  stamps : Tab W32
  carries : List (Nat × Nat)
  closes : List Close
  finalDone : Bool
  forced : Bool
  pubs : List (W32 × Nat × Bool × Bool × W32)
  finalAt : Option W32
  bad : List Nat
  off : List Nat
  check : Option (W32 × Option Deferred)
  exch : Option XchgMsg
  mine : Option XchgMsg
  alone : Bool
  detachAfter : Bool
deriving DecidableEq, Repr

/-- A burst that a paced channel has begun to send (R228): its engine, the bytes still to come, those sent, the shot-start
mark, and whether its request was cancelled meanwhile (R226). -/
structure Burst where
  eng : Nat
  left : Nat
  data : List Byte
  mark : Bool
  cancelled : Bool
deriving DecidableEq, Repr

/-- A MEM_READ outstanding on a host link (R265), with its answer once that has arrived. -/
structure MemRead where
  link : Nat
  tag : Nat
  ch : Nat
  addr : W64
  len : Nat
  data : Option (List Byte)
deriving DecidableEq, Repr

/-- A MEM_WRITE with ACK_REQ = 1 whose WRITE_ACK has not come (R265), and its place in the order of sending. -/
structure MemWrite where
  nth : Nat
  link : Nat
  tag : Nat
  addr : W64
  data : List Byte
deriving DecidableEq, Repr

/-- A DMA channel's internal state (R217, R221, R223, R228): the descriptor as fetched, whether its first half has been
reported and its shot-start mark sent, a stop asked for, COMPAT as sampled, bytes asked of the source since the
descriptor began (those read ahead through the chain among them), bytes handed to the destination's path, bytes held from
the source, writes not acknowledged, the descriptors read ahead (R228), the burst being sent, and the host link that
carried its last transaction (R225). -/
structure Dma where
  desc : List W32
  half : Bool
  marked : Bool
  stopReq : Bool
  compat : Bool
  asked : Nat
  moved : Nat
  ready : List Byte
  writes : List MemWrite
  ahead : List (Nat × List W32)
  burst : Option Burst
  stripe : Nat
deriving DecidableEq, Repr

/-- A stream request (R227), stamped with the block at which it crossed out of the Hem (R34). -/
structure StreamReq where
  eng : Nat
  block : W32
  bytes : Nat
  underrun : Bool
  discarding : Bool
deriving DecidableEq, Repr

/-- The DMA block: channels, host-link reads outstanding, the link and tag of each transaction whose channel has given it up
and whose answer has not come (R265), the channel served last (R225), the pending-request table (R229), and the stream
requests the field side holds while the Lining is down (R27). -/
structure DmaUnit where
  chans : Tab Dma
  reads : List MemRead
  stray : List (Nat × Nat)
  turn : Nat
  table : List StreamReq
  liningHeld : List StreamReq
deriving DecidableEq, Repr

/-- A trigger candidate of a pocket (R242): its cause and its trigger point, a tick at the pins. -/
structure Cand where
  cause : Nat
  p : W64
deriving DecidableEq, Repr

/-- A pocket's internal state (R240-R249): entries are the INTEGRATION units stored since the arm block, lastUnit the last unit
streamed, levels the LEVEL causes counted so far. -/
structure Pocket where
  armBlock : W32
  cands : List Cand
  causes : BitVec 5
  trigP : W64
  trigUnit : W32
  missed : Nat
  doneAt : W32
  entries : List (List W32)
  fifo : List Byte
  streamed : Nat
  lastUnit : W32
  levels : Nat
deriving DecidableEq, Repr

/-- A reply as it is cached and sent (R290, R292). -/
structure Reply where
  port : CPort
  mac : BitVec 48
  src : Byte
  ver : Byte
  opcode : Byte
  seq : BitVec 16
  tag : W32
  status : Byte
  params : List W32
deriving DecidableEq, Repr

/-- A queued command packet (R291). -/
structure Pkt where
  h : Hdr
  opcode : Byte
  params : List W32
deriving DecidableEq, Repr

/-- A repeat cache entry (R292): none while the command has not finished. -/
structure Cached where
  port : CPort
  seq : BitVec 16
  tag : W32
  crc : W32
  final : Option Reply
deriving DecidableEq, Repr

/-- A long command running in a controller (R291, R368): the tiles still to do, the registers it has written with
their earlier values, from which a rollback restores them, whether its final reply went out already (R27), and a
PATCH_APPLY's signature (R377). -/
structure Long where
  op : Byte
  h : Hdr
  arg : W32
  tiles : List Nat
  failed : Bool
  journal : List (Nat × W32)
  answered : Bool
  sig : List W32
deriving DecidableEq, Repr

/-- What the unit sends outward. A reply on a management port goes to the MAC that it names, a notice frame to the first of its MACs
from the second (R286), in a packet with OPCODE 0, REPLY 1 and DEST 0 (R306); a RESULT batch holds one part of a record (R310). -/
inductive Out where
  | reply (r : Reply)
  | notice (mgmt : Option (BitVec 48 × BitVec 48)) (words : List W32)
  | records (r : Rec) (part : Nat)
  | frame (up : Bool) (f : Frame)
  | linkCommand (k : Nat) (packet : List Byte)
  | ptp (up : Bool) (kind : Nat) (correction : Int)
  | lining (type : Nat) (words : List W32)
  | liningBeat (d : Side)
  | liningTrain (d : Side)
  | beacon (b : BeaconMsg)
  | seam (b : Bool) (mtype : Nat) (fields : List Nat)
  | control (p : LPort) (f : Flit)
  | train (p : LPort) (kind link : Nat) (serial : W64) (credits : Nat × Nat × Nat) (pass loopReq : Bool)
  | trainEcho (p : LPort) (m : TrainMsg)
  | retransmit (p : LPort) (seq : BitVec 7) (f : Flit)
  | pulse (pin width : Nat) (block : W32)
  | syncOut (bits : List Bool)
  | memRead (k tag : Nat) (addr : W64) (len : Nat)
  | memWrite (ch k tag : Nat) (ack : Bool) (addr : W64) (bytes : List Byte)
  | pmbus (addr : Nat) (command : Byte) (data : BitVec 16) (pec fast : Bool)
  | sync (group : Nat)
deriving DecidableEq, Repr

/-- A transaction for a serial port: its credit class, its rank in the order of sending (0 before 1 before 2; R267, R349), its flits'
kinds and payloads (R257-R264). -/
structure Tx where
  vc : Nat
  rank : Nat
  flits : List (Bool × BitVec 224)
  out : Out
deriving DecidableEq, Repr

/-- A flit of a transaction begun: its rank, class, kind and payload. -/
structure QFlit where
  rank : Nat
  vc : Nat
  data : Bool
  payload : BitVec 224
deriving DecidableEq, Repr

/-- A sequenced flit that is not acknowledged (R260), and how often it was sent again (R274). -/
structure Sent where
  seq : BitVec 7
  flit : Flit
  again : Nat
deriving DecidableEq, Repr

/-- A serial port's flit layer and training (R260-R280). replay holds the flits not acknowledged; queue the flits of
transactions begun and not yet sent; wait the transactions that lack credit; begun each transaction
begun with its flits not acknowledged; credits what the partner's buffers still take in each class and credSeen its
latest counts; freed the counts of flits freed here and credTold those last reported; ackTold the expected SEQ as the latest flit sent
told it; tries the attempts at the phase in progress; accepted the TRAIN flits in a row with PASS; phase the training phase in a
near-end loopback, 5 once trained, and farLoop whether the partner loops back (R277); laneCfg the LANE_CFG registers as sampled
(R278). -/
structure Link where
  nextSeq : BitVec 7
  expSeq : BitVec 7
  replay : List Sent
  queue : List QFlit
  wait : List Tx
  begun : List (Out × Nat)
  credits : Nat × Nat × Nat
  credSeen : Nat × Nat × Nat
  freed : Nat × Nat × Nat
  credTold : Nat × Nat × Nat
  ackTold : BitVec 7
  nakWait : Bool
  tries : Nat
  accepted : Nat
  phase : Nat
  farLoop : Bool
  laneCfg : List W32
deriving DecidableEq, Repr

/-- A command of a host link that went onto MGMT_DN, with the count of DEV_IMAGE at which it did (R288). -/
structure Fwd where
  seq : BitVec 16
  tag : W32
  link : Fin 4
  at_ : W64
deriving DecidableEq, Repr

/-- The command unit: CI queue, repeat cache, long commands, forwarded host-link commands, host buffer and the link whose
turn it is (R266). -/
structure CmdUnit where
  queue : List Pkt
  cache : List Cached
  ci : Option Long
  fm : Option Long
  stops : List (Hdr × List Nat)
  fwd : List Fwd
  hostBuf : List Out
  rot : Nat
  pendRsp : List (BitVec 16)
  resetPend : Option (BitVec 2 × BitVec 16)
deriving DecidableEq, Repr

/-- A field event notice on its way to the host (R304-R308). -/
structure Notice where
  source : Nat
  reg : Nat
  bit : Nat
  index : Nat
  detail : BitVec 16
  block : W32
  ns : W32
  lost : Bool
deriving DecidableEq, Repr

/-- The event path: notices on their way, FM event log overflow map, notices dropped on the host side. -/
structure Evt where
  way : List Notice
  lostMap : List Nat
  lostCount : Tab Nat
deriving DecidableEq, Repr

/-- One direction of the Lining, by its receiving side (R23): the retries of each lane's frame in transit, the moments of
each lane's check failures of the last 1 ms, the lanes retired. -/
structure LiningDir where
  retry : Tab Nat
  fails : Tab (List W64)
  out : List Nat
deriving DecidableEq, Repr

/-- A message that the host side has begun to send and the field side has not yet taken (R27): a refill burst with its
engine, its data, its shot-start mark, the channel that waits for it under BARRIER (R223), and whether its request was
cancelled (R226); or a beacon. -/
inductive LinMsg where
  | refill (eng : Nat) (data : List Byte) (mark : Bool) (barrier : Option Nat) (cancelled : Bool)
  | beacon (b : BeaconMsg)
deriving DecidableEq, Repr

/-- Class C towards the host (R19): the block since which its work has waited, and the bytes of classes C and B sent since
it has had its share. -/
structure ClassC where
  since : Option W32
  sentC : Nat
  sentB : Nat
deriving DecidableEq, Repr

/-- The Lining: towards the host, towards the field; the host side's replay store (R23, R27); class C's wait; whether the host side was reset since it was last up (R27), and
whether either side was reset since the CI last restored the FM patch (R431). -/
structure Lining where
  host : LiningDir
  field : LiningDir
  store : List LinMsg
  classC : ClassC
  hostReset : Bool
  fmDue : Bool
deriving DecidableEq, Repr

/-- Temperature and adaptive voltage (R381-R398, R407, R408): the sensors converted since reset (host sensor s as 64 + s),
the band changes recognised, each with its block and whether a shot boundary fixed it, whether the last READ_VOUT
differed from its command, and each canary's latest ten measurements. -/
structure Thermal where
  scanned : List Nat
  bandAt : Tab (W32 × Bool)
  avOff : Bool
  canary : Tab (List Int)
deriving DecidableEq, Repr

/-- A housekeeping ADC (R399-R401): the channels left in the scan in progress, whether a scan is in progress, whether the
conversion in progress is the injected one, the injected channel waiting, a calibration asked for. -/
structure HkAdc where
  left : List Nat
  scanning : Bool
  injNow : Bool
  inj : Option Nat
  cal : Bool
deriving DecidableEq, Repr

/-- The wear estimate (R411): which of its flags have been set since the host reset. -/
structure Wear where
  said2y : Bool
  said6m : Bool
deriving DecidableEq, Repr

/-- A network time mapping (R317): NET_OFFSET in 2^-16 ns. -/
structure Mapping where
  offset : Nat
  rate : W32
  validFrom : W32
  bseq : BitVec 16
  stepped : Bool
deriving DecidableEq, Repr

/-- A transparent clock entry (R324). -/
structure TcEntry where
  up : Bool
  ident : Nat
  seq : BitVec 16
  delay : Bool
  residence : Int
deriving DecidableEq, Repr

/-- What the ordinary clock keeps of the latest Sync it accepted (R326): identity, sequence, its ingress stamp as network time, its
corrections, and the master's origin timestamp once its Follow_Up has come; times in 2^-16 ns. -/
structure SyncSample where
  ident : Nat
  seq : BitVec 16
  t2 : Int
  corr : Int
  t1 : Option Int
deriving DecidableEq, Repr

/-- The time unit (R315-R339). -/
structure TimeUnit where
  hostMap : Mapping
  fieldMap : Mapping
  hostNext : Option Mapping
  fieldNext : Option Mapping
  stepNext : Option Int
  accepted : Nat
  freq : Int
  slew : Int
  master : Option AnnounceMsg
  measured : Nat
  tc : List TcEntry
  sample : Option SyncSample
  bseq : BitVec 16
  latch : List W32
  align : Option (Nat × W32)
deriving DecidableEq, Repr

/-- A handover in progress (R353, R357). -/
structure Handing where
  h : W32
  cause : Nat
  acks : List LPort
  seq : Byte
  giving : Bool
  host : Bool
deriving DecidableEq, Repr

/-- The pairing logic's internal state (R340-R361). -/
structure Pair where
  role : Nat
  joining : Bool
  waitSeams : List LPort
  helloOk : List LPort
  hand : Option Handing
  lastCause : Nat
  lost : Bool
  highs : Nat
  highAt : Option W32
  lowFrom : Option W32
  released : Option W32
  hbLost : Option W32
  hbSeen : Tab HeartbeatMsg
  claimAt : Option W32
  seq : Byte
  relay : List Byte
  dirty : List Nat
  copying : Bool
  copied : Bool
  healthLost : Bool
  joint : Bool
  todo : List Nat
  unmuted : Bool
  digested : W64
deriving DecidableEq, Repr

/-- A controller's internal state (R362, R366-R369): interrupts pending, an abort asked for, its microstack, newest first, and its
register file. -/
structure Ctrl where
  ints : Nat
  abort : Bool
  stack : List (BitVec 15)
  scratch : Tab W32
deriving DecidableEq, Repr

/-- One physical copy of an NV page (R412): its bytes, or, in a page that the unit writes for itself (R413), the values
it holds. -/
structure NvCopy where
  data : List Byte
  vals : List W32
  seq : W32
  valid : Bool
  cycles : Nat
deriving DecidableEq, Repr

/-- A logical NV page's two copies (R412). -/
structure NvPage where
  a : NvCopy
  b : NvCopy
deriving DecidableEq, Repr

/-- What an NV write is for: a command, a pinned address, or the unit's own values. -/
structure NvJob where
  page : Nat
  data : List Byte
  vals : List W32
  h : Option Hdr
  op : Byte
deriving DecidableEq, Repr

/-- The NV store (R412-R417). -/
structure Nv where
  pages : Tab NvPage
  jobs : List NvJob
  cut : Option Nat
deriving DecidableEq, Repr

/-- The pins and supplies the unit samples or drives (R425, R437); fieldHot: the valid field sensors that last read above 100 °C while
the hub holds the field side's reset after a shutdown (R391). -/
structure Pins where
  hostOn : Bool
  fieldOn : Bool
  hostPower : Bool
  fieldPower : Bool
  hostShut : Bool
  fieldHot : List Nat
  chainHead : Bool
  pairPresent : Bool
  interlock : Bool
  markOut : Tab W32
deriving DecidableEq, Repr

/-- Device time (R37, R60, R315): DEVTIME, whether it runs, DEV_IMAGE, the DEVTIME_HI latch. -/
structure Clock where
  devtime : W64
  run : Bool
  image : W64
  devHi : W32
deriving DecidableEq, Repr

/-- What a past value is one of: the working copy of a shadow register, a register, a word of memory. -/
inductive PastKind where
  | work | reg | mem
deriving DecidableEq, Repr

/-- A value that something the output ports compute with had before a 64-bit block (R110, R117, R127). -/
structure Past where
  block : W64
  kind : PastKind
  addr : Nat
  old : W32
deriving DecidableEq, Repr

/-- What the synthesis of the outputs remembers (R108-R131): earlier values, each port's output-state codes (R349) with the 64-bit
block from which each holds, the blocks at which each engine's work was aborted (R58), and the block up to which each port's
saturated samples are counted (R122). -/
structure Synth where
  past : List Past
  states : Tab (List (W64 × Nat))
  aborts : Tab (List W64)
  counted : Tab W64
deriving DecidableEq, Repr

/-- The whole machine. -/
structure State where
  pending : List Instr
  regs : Tab W32
  work : Tab W32
  mem : List Host.Cell
  clk : Clock
  hem : Hem
  engines : Tab Engine
  sets : List StartSet
  syncs : List SyncInst
  nextSet : Nat
  frameAux : Tab FrameAux
  synth : Synth
  chans : Tab (List Ctx)
  onet : Onet
  mend : Mend
  dma : DmaUnit
  pockets : Tab Pocket
  links : Tab Link
  cmd : CmdUnit
  evt : Evt
  lining : Lining
  thermal : Thermal
  hkHost : HkAdc
  hkField : HkAdc
  wear : Wear
  time : TimeUnit
  pair : Pair
  ci : Ctrl
  fm : Ctrl
  banks : Tab Byte
  nv : Nv
  pins : Pins
  sent : List Out
  free : Nat
deriving DecidableEq, Repr

/-- No command of this model stops with a fault: every command of the spec ends in a next state (R293), and what the
spec calls a fault of an engine (R68), a port (R144) or a yoke (R392) is part of State. -/
inductive Fault where
  /-- Raised by no meaning: the type has one constructor because the interface asks for a fault type; safe. -/
  | unused
deriving DecidableEq, Repr

/-- Why a command has no meaning. -/
inductive Refusal where
  /-- Raised by an arm of exec whose command has no meaning yet; safe. -/
  | notModelled (mnemonic : String)
deriving DecidableEq, Repr

/-- What a command does. -/
abbrev Res := Host.Outcome State Fault Refusal

/-- A stream window at reset: empty (R101). -/
def Stream.reset : Stream :=
  { data := [], req := false, owed := 0, untilMark := false, underran := false }

/-- An engine at reset: IDLE (R68), every register of R104 at 0. -/
def Engine.reset : Engine :=
  { st := .idle, cause := 0, pc := 0, cur := { b := 0, t := 0 }, stack := [], shotNo := 0, shotStart := 0, s0 := 0
    set := none, offer := none, work := [], slots := [], decL := none, decR := none, arm := none, live := []
    refuse := false, trigs := [], goEnd := false, gone := [], syncs := [], draining := false, stream := Stream.reset
    pledgeWait := none }

/-- The Hem at reset: alone, FAST_FEEDBACK clear, band 3 (R61). -/
def Hem.reset : Hem :=
  { config := 0, fast := false, fastPend := none, band := 3, removals := [], reenables := [], commits := []
    enables := [], clamps := [], adcOff := [], requests := [], grants := [], ready := [], dozeFrom := []
    shadowLog := [], frameQ := [], tileWait := [], inWait := [], calRun := []
    rotBad := [], rotAt := [], refs := [] }

/-- The latches and holds of a frame register at reset (R477). -/
def FrameAux.reset : FrameAux := { freqLatch := 0, freqHold := none, ancLatch := 0, ancHold := none }

/-- The synthesis at reset: every port unenabled, nothing remembered. -/
def Synth.reset : Synth := { past := [], states := [], aborts := [], counted := [] }

/-- A seam's outcome traffic at reset: nothing waiting. -/
def SeamQ.reset : SeamQ := { outs := [], pledges := [], blk := 0, used := 0 }

/-- The outcome network at reset. -/
def Onet.reset : Onet :=
  { deliv := [], mendIn := [], pledges := [], partnerBound := [], qa := SeamQ.reset, qb := SeamQ.reset, due := []
    mirrored := [], mirrorGone := [], runId := 0, seq0 := 0, seq1 := 0, unformed := [], rate := (0, 0), recs := [], held := [] }

/-- A detector at the start of a shot. -/
def DetSt.reset : DetSt := { taken := 0, prev := none }

/-- Mender at reset: off, nothing attached (R186). -/
def Mend.reset : Mend :=
  { set := none, shotStart := 0, closed := 0, lastStamp := 0, ins := [], dets := [], stamps := [], carries := []
    closes := [], finalDone := false, forced := false, pubs := [], finalAt := none, bad := [], off := []
    check := none, exch := none, mine := none, alone := false, detachAfter := false }

/-- A DMA channel at reset. -/
def Dma.reset : Dma :=
  { desc := [], half := false, marked := false, stopReq := false, compat := false, asked := 0, moved := 0, ready := []
    writes := [], ahead := [], burst := none, stripe := 0 }

/-- The DMA block at reset. -/
def DmaUnit.reset : DmaUnit := { chans := [], reads := [], stray := [], turn := 0, table := [], liningHeld := [] }

/-- A pocket at reset: IDLE. -/
def Pocket.reset : Pocket :=
  { armBlock := 0, cands := [], causes := 0, trigP := 0, trigUnit := 0, missed := 0, doneAt := 0, entries := []
    fifo := [], streamed := 0, lastUnit := 0, levels := 0 }

/-- A serial port at reset: nothing sent, nothing received. -/
def Link.reset : Link :=
  { nextSeq := 0, expSeq := 0, replay := [], queue := [], wait := [], begun := [], credits := (0, 0, 0)
    credSeen := (0, 0, 0), freed := (0, 0, 0), credTold := (0, 0, 0), ackTold := 0, nakWait := false, tries := 0
    accepted := 0, phase := 0, farLoop := false, laneCfg := [] }

/-- The command unit at reset: queue and cache empty (R429). -/
def CmdUnit.reset : CmdUnit :=
  { queue := [], cache := [], ci := none, fm := none, stops := [], fwd := [], hostBuf := [], rot := 0, pendRsp := []
    resetPend := none }

/-- The event path at reset. -/
def Evt.reset : Evt := { way := [], lostMap := [], lostCount := [] }

/-- A direction of the Lining at reset. -/
def LiningDir.reset : LiningDir := { retry := [], fails := [], out := [] }

/-- The Lining at reset: down. -/
def Lining.reset : Lining :=
  { host := LiningDir.reset, field := LiningDir.reset, store := [], classC := { since := none, sentC := 0, sentB := 0 }
    hostReset := false, fmDue := true }

/-- Nothing converted, nothing measured. -/
def Thermal.reset : Thermal := { scanned := [], bandAt := [], avOff := false, canary := [] }

/-- A housekeeping ADC at reset: powered down, no scan begun. -/
def HkAdc.reset : HkAdc := { left := [], scanning := false, injNow := false, inj := none, cal := false }

/-- No wear flag set. -/
def Wear.reset : Wear := { said2y := false, said6m := false }

/-- A mapping at reset: NET_OFFSET and NET_RATE 0 (R429). -/
def Mapping.reset : Mapping := { offset := 0, rate := 0, validFrom := 0, bseq := 0, stepped := false }

/-- The time unit at reset: FREE, image from 0 (R315, R429). -/
def TimeUnit.reset : TimeUnit :=
  { hostMap := Mapping.reset, fieldMap := Mapping.reset, hostNext := none, fieldNext := none, stepNext := none
    accepted := 0, freq := 0, slew := 0, master := none, measured := 0, tc := [], sample := none, bseq := 0, latch := []
    align := none }

/-- The pairing logic at reset: ALONE (R341). -/
def Pair.reset : Pair :=
  { role := 0, joining := false, waitSeams := [], helloOk := [], hand := none, lastCause := 15, lost := false, highs := 0
    highAt := none, lowFrom := none, released := none, hbLost := none, hbSeen := [], claimAt := none, seq := 0
    relay := [], dirty := [], copying := false, copied := false, healthLost := false, joint := false, todo := []
    unmuted := false, digested := 0 }

/-- A controller at reset: ROM mode, nothing running. -/
def Ctrl.reset : Ctrl := { ints := 0, abort := false, stack := [], scratch := [] }

/-- A copy that has never been programmed: not valid. -/
def NvCopy.blank : NvCopy := { data := [], vals := [], seq := 0, valid := false, cycles := 0 }

/-- A page with no valid copy. -/
def NvPage.blank : NvPage := { a := NvCopy.blank, b := NvCopy.blank }

/-- A page as the unit leaves the factory: pages 0 to 127 are programmed there (R413), the others blank (log entry 7). -/
def NvPage.factory (n : Nat) : NvPage :=
  if n < 128 then { a := { NvCopy.blank with seq := 1, valid := true, cycles := 1 }, b := NvCopy.blank } else NvPage.blank

/-- The machine right after both sides leave their power-on reset, before either boots (R425, R430, R433): every
register at its reset value, every memory as R434 and R429 leave it, nothing running, nothing waiting. The NV store
is as the factory left it (DESIGN CHOICE, log entry 7); the straps are low (DESIGN CHOICE, log entry 8). -/
def State.reset : State :=
  { pending := [], regs := [], work := [], mem := []
    clk := { devtime := 0, run := false, image := 0, devHi := 0 }
    hem := Hem.reset, engines := [], sets := [], syncs := [], nextSet := 0, frameAux := [], synth := Synth.reset, chans := []
    onet := Onet.reset, mend := Mend.reset, dma := DmaUnit.reset, pockets := [], links := [], cmd := CmdUnit.reset
    evt := Evt.reset, lining := Lining.reset, thermal := Thermal.reset, hkHost := HkAdc.reset, hkField := HkAdc.reset, wear := Wear.reset
    time := TimeUnit.reset, pair := Pair.reset, ci := Ctrl.reset
    fm := Ctrl.reset, banks := [], nv := { pages := [], jobs := [], cut := none }
    pins := { hostOn := true, fieldOn := true, hostPower := true, fieldPower := true, hostShut := false, fieldHot := []
              chainHead := false, pairPresent := false, interlock := true, markOut := [] }
    sent := [], free := 1 }

end Sys2Proof.Machine
end

