-- ==== Sys2Proof/Machine/RegMap.lean ====
section
/-! DEFINITION. The address map (spec/18_address_map.md R441-R451): where every register set and memory lies, and for
each register its access code, the bits a write can act on, and its reset value, as the map of its owning chapter. -/

namespace Sys2Proof.Machine

/-- The access codes of R6 that the maps use. -/
inductive Acc where
  | rw | ro | wo | w1c | rc | rws
deriving DecidableEq, Repr

/-- A row of a register map: offset, access, bits that a write can act on, reset value. -/
structure Row where
  off : Nat
  acc : Acc
  mask : W32
  rst : W32
deriving DecidableEq, Repr

/-- What lies at an address (R444): a hole, the pocket stream window of R445, a memory word with the bits its layout
defines, a reserved offset of a register block, or a register. -/
inductive Loc where
  | hole
  | window
  | mem (mask : W32)
  | reserved
  | reg (acc : Acc) (mask rst : W32)
deriving DecidableEq, Repr

/-- The row of a map at an offset. -/
def rowAt (l : List Row) (off : Nat) : Option Row := l.find? (fun r => r.off == off)

/-- n rows of one shape, stride bytes apart from base. -/
def rowSet (base stride n : Nat) (acc : Acc) (mask rst : W32) (off : Nat) : Option Row :=
  if base ≤ off ∧ off < base + stride * n ∧ (off - base) % stride = 0 then some ⟨off, acc, mask, rst⟩ else none

/-- The base address of tile n (R445). -/
def tileBase (n : Nat) : Nat := 0x20000000 + n * 0x01000000

/-- The type of tile n: 0 drive, 1 read-out, 2 flux (R11, R448). -/
def tileType (n : Nat) : Nat := n / 16

/-- The yoke of tile n (R11). -/
def yokeOfTile (n : Nat) : Nat := (n % 16) / 4

/-- The tile of engine e (R11). -/
def tileOfEng (e : Nat) : Nat :=
  if e < 512 then e / 32 else if e < 1024 then 16 + (e - 512) / 32 else 32 + (e - 1024) / 16

/-- The index of engine e within its tile (R64). -/
def idxOfEng (e : Nat) : Nat := if e < 1024 then e % 32 else (e - 1024) % 16

/-- The engine with index i in tile n (R11). -/
def engOfTile (n i : Nat) : Nat :=
  if n < 16 then 32 * n + i else if n < 32 then 512 + 32 * (n - 16) + i else 1024 + 16 * (n - 32) + i

/-- Engines in tile n (R11). -/
def engsInTile (n : Nat) : Nat := if n < 32 then 32 else 16

/-- The output port of engine e, numbered as OPort (R11). -/
def portOfEng (e : Nat) : Nat :=
  if e < 512 then e / 4 else if e < 1024 then 128 + (e - 512) / 8 else 192 + (e - 1024)

/-- The tile of output port p (R11). -/
def tileOfPort (p : Nat) : Nat :=
  if p < 128 then p / 8 else if p < 192 then 16 + (p - 128) / 4 else 32 + (p - 192) / 16

/-- The index of output port p within its tile (R134). -/
def idxOfPort (p : Nat) : Nat :=
  if p < 128 then p % 8 else if p < 192 then (p - 128) % 4 else (p - 192) % 16

/-- The output port with index i in tile n. -/
def portOfTile (n i : Nat) : Nat :=
  if n < 16 then 8 * n + i else if n < 32 then 128 + 4 * (n - 16) + i else 192 + 16 * (n - 32) + i

/-- Output ports in tile n (R448). -/
def portsInTile (n : Nat) : Nat := if n < 16 then 8 else if n < 32 then 4 else 16

/-- The engines of output port p, tone 0 first (R11). -/
def engsOfPort (p : Nat) : List Nat :=
  if p < 128 then (List.range 4).map (4 * p + ·)
  else if p < 192 then (List.range 8).map (512 + 8 * (p - 128) + ·)
  else [1024 + (p - 192)]

/-- The engine whose source reports the flags of output port p (R122). -/
def port0Eng (p : Nat) : Nat :=
  if p < 128 then 4 * p else if p < 192 then 512 + 8 * (p - 128) else 1024 + (p - 192)

/-- Whether output port p is a flux port. -/
def isFlux (p : Nat) : Bool := 192 ≤ p

/-- The Hem set of engine e (R64). -/
def hemAddr (e off : Nat) : Nat := tileBase (tileOfEng e) + 0x8000 + 0x40 * idxOfEng e + off

/-- The execution set of engine e (R104). -/
def engAddr (e off : Nat) : Nat := tileBase (tileOfEng e) + 0xA000 + 0x40 * idxOfEng e + off

/-- SLOT_BIND[n] of engine e (R173). -/
def bindAddr (e n : Nat) : Nat := tileBase (tileOfEng e) + 0xB000 + 0x40 * idxOfEng e + 4 * n

/-- The register set of output port p (R134). -/
def portAddr (p off : Nat) : Nat := tileBase (tileOfPort p) + 0xC200 + 0x200 * idxOfPort p + off

/-- The register set of read-out input port l (R164). -/
def adcAddr (l off : Nat) : Nat := tileBase (16 + l / 4) + 0xD000 + 0x200 * (l % 4) + off

/-- The register set of demodulation channel c (R166). -/
def chAddr (c off : Nat) : Nat := tileBase (16 + c / 32) + 0xE000 + 0x80 * (c % 32) + off

/-- Weight set entry n of channel c (R166). -/
def wsetAddr (c n off : Nat) : Nat := tileBase (16 + c / 32) + 0x10000 + 0x200 * (c % 32) + 0x20 * n + off

/-- The pocket set of read-out tile 16 + k (R251). -/
def pocketAddr (k off : Nat) : Nat := tileBase (16 + k) + 0xF000 + off

/-- The set of DMA channel n (R235). -/
def dmaAddr (n off : Nat) : Nat := 0x00020000 + 0x100 * n + off

/-- The set of a serial port (R278). -/
def linkAddr (p : LPort) (off : Nat) : Nat :=
  match p with
  | .hl k => 0x00030000 + 0x1000 * k.val + off
  | .seamA => 0x10028000 + off
  | .seamB => 0x10029000 + off

/-- The controller set (R379). -/
def ctrlAddr (c : Ctl) (off : Nat) : Nat :=
  match c with
  | .ci => 0x00010400 + off
  | .fm => 0x10000400 + off

/-- The boot registers of a side (R439). -/
def bootAddr (d : Side) (off : Nat) : Nat :=
  match d with
  | .host => 0x00010100 + off
  | .field => 0x10000100 + off

/-- The housekeeping ADC set of a side (R405). -/
def hkAddr (d : Side) (off : Nat) : Nat :=
  match d with
  | .host => 0x00081000 + off
  | .field => 0x10051000 + off

/-- The set of yoke manager y (R404). -/
def yokeAddr (y off : Nat) : Nat := 0x10060000 + 0x4000 * y + off

/-- Word off of FRAME[n] (R112). -/
def frameAddr (n off : Nat) : Nat := 0x11000000 + 0x20 * n + off

/-- Word w of graph table entry n (R191). -/
def graphAddr (n w : Nat) : Nat := 0x12000000 + 16 * n + 4 * w

/-- DET_INDEX[L][d] (R192). -/
def detIndexAddr (l d : Nat) : Nat := 0x10044000 + 0x1000 * l + 4 * d

/-- MEND_DET[d] (R187). -/
def mendDetAddr (d : Nat) : Nat := 0x10041000 + 4 * d

/-- QUBIT_MAP[q] (R107). -/
def qmapAddr (q : Nat) : Nat := 0x10008000 + 4 * q

/-- PUB_OWNER[p] (R184). -/
def pubOwnerAddr (p : Nat) : Nat := 0x10031000 + 4 * p

/-- Word w of DMA descriptor i (R216). -/
def descAddr (i w : Nat) : Nat := 0x00100000 + 32 * i + 4 * w

/-- ID_PART (R447). -/
def idPart : W32 :=
  0x12800000#32 ||| (Config.stepping.setWidth 32 <<< 8) ||| (if Config.orderF then 1#32 else 0#32)

/-- TILE_ID of tile n (R448). -/
def tileId (n : Nat) : W32 :=
  BitVec.ofNat 32 (portsInTile n * 2 ^ 24 + engsInTile n * 2 ^ 16 + yokeOfTile n * 2 ^ 12 + tileType n * 2 ^ 8 + n)

/-- The identity block (R446). ID_FEATURES resets to 0: the customer slot lies in the NV store, which holds no valid
copy at reset (log entry 7). -/
def idRows : List Row :=
  [⟨0x0, .ro, 0, idPart⟩, ⟨0x4, .ro, 0, Config.serial.setWidth 32⟩,
   ⟨0x8, .ro, 0, (Config.serial >>> 32).setWidth 32⟩, ⟨0xC, .ro, 0, 0⟩, ⟨0x10, .ro, 0, 1⟩]

/-- A controller set (R379). -/
def ctrlRows (c : Ctl) : List Row :=
  let rom := Config.romRelease (c == .fm)
  let low : W32 := if c = .fm then 1 else 0
  [⟨0x00, .ro, 0, (rom.setWidth 32 <<< 16) ||| (Config.stepping.setWidth 32 <<< 8) ||| low⟩,
   ⟨0x04, .ro, 0, 0⟩, ⟨0x08, .ro, 0, 0⟩, ⟨0x0C, .w1c, 0x3F, 0⟩, ⟨0x10, .ro, 0, 0⟩, ⟨0x14, .ro, 0, 0⟩,
   ⟨0x18, .rc, 0, 0⟩, ⟨0x1C, .wo, 1, 0⟩, ⟨0x20, .ro, 0, 0⟩, ⟨0x24, .rc, 0, 0⟩]

/-- The boot registers of the host side (R439). -/
def hostBootRows : List Row :=
  [⟨0x0, .ro, 0, 0⟩, ⟨0x4, .w1c, 0xF, 0⟩, ⟨0x8, .ro, 0, 0⟩, ⟨0xC, .ro, 0, 0⟩]

/-- The boot registers of the field side (R439). -/
def fieldBootRows : List Row :=
  [⟨0x0, .ro, 0, 0⟩, ⟨0x4, .w1c, 0x3, 0⟩, ⟨0x8, .ro, 0, 0⟩, ⟨0xC, .ro, 0, 0⟩]

/-- The command registers of the CI block and its Lining registers (R312, R24). -/
def ciRows : List Row :=
  [⟨0x00, .rw, 1, 0⟩, ⟨0x04, .ro, 0, 0⟩, ⟨0x08, .rc, 0, 0⟩, ⟨0x0C, .rc, 0, 0⟩, ⟨0x10, .rc, 0, 0⟩,
   ⟨0x14, .rc, 0, 0⟩, ⟨0x18, .ro, 0, 0⟩, ⟨0x200, .ro, 0, 0⟩, ⟨0x204, .rc, 0, 0⟩, ⟨0x208, .rc, 0, 0⟩]

/-- The CI block from 0x0001_0000 (R312, R439, R24, R379). -/
def ciRow (off : Nat) : Option Row :=
  if 0x100 ≤ off ∧ off < 0x200 then rowAt hostBootRows (off - 0x100)
  else if 0x400 ≤ off ∧ off < 0x500 then
    (rowAt (ctrlRows .ci) (off - 0x400)).or (rowSet 0x80 4 32 .ro 0 0 (off - 0x400))
  else rowAt ciRows off

/-- A DMA channel set (R235, R236). -/
def dmaRows : List Row :=
  [⟨0x00, .rw, 1, 0⟩, ⟨0x04, .rw, 0x1FFFF, 0x3C⟩, ⟨0x08, .ro, 0, 0⟩, ⟨0x0C, .w1c, 0x3FE, 0⟩,
   ⟨0x10, .rw, 0x1FFF, 0⟩, ⟨0x14, .ro, 0, 0⟩, ⟨0x18, .ro, 0, 0⟩, ⟨0x1C, .rw, 0xFFFFFFFF, 0⟩, ⟨0x20, .rc, 0, 0⟩,
   ⟨0x24, .rc, 0, 0⟩, ⟨0x28, .rc, 0, 0⟩, ⟨0x2C, .wo, 1, 0⟩, ⟨0x30, .ro, 0, 0⟩]

/-- The DMA block (R235, R237). -/
def dmaRow (off : Nat) : Option Row :=
  if off < 0x2000 then rowAt dmaRows (off % 0x100)
  else rowAt [⟨0x2000, .ro, 0, 0⟩, ⟨0x2004, .ro, 0, 0⟩, ⟨0x2008, .ro, 0, 0⟩] off

/-- The fixed part of a serial port set (R278-R280). -/
def linkRows (seam : Bool) : List Row :=
  [⟨0x00, .rw, if seam then 0x1FE else 0x1FF, if seam then 0 else 1⟩, ⟨0x04, .ro, 0, 0⟩, ⟨0x08, .w1c, 0xFF, 0⟩,
   ⟨0x0C, .ro, 0, 0⟩,
   if seam then ⟨0x10, .ro, 0, 0⟩ else ⟨0x10, .rw, 0x3FFFFFFF, 0x106400C8⟩,
   ⟨0x14, .rw, 0x7F, 0xA⟩, ⟨0x18, .rc, 0, 0⟩, ⟨0x1C, .rc, 0, 0⟩, ⟨0x20, .rc, 0, 0⟩, ⟨0x24, .ro, 0, 0⟩,
   ⟨0x28, .ro, 0, 0⟩, ⟨0x2C, .ro, 0, 0⟩, ⟨0x30, .ro, 0, 0⟩]

/-- A serial port set; lanes 4-7 are reserved on host links (R278). -/
def linkRow (seam : Bool) (off : Nat) : Option Row :=
  if 0x100 ≤ off ∧ off < 0x190 then
    let n := (off - 0x100) / 0x10
    if !seam && 4 ≤ n && n < 8 then none
    else rowAt [⟨0, .rw, 0x3FFF, 0x8C⟩, ⟨4, .ro, 0, 0⟩, ⟨8, .rc, 0, 0⟩] ((off - 0x100) % 0x10)
  else rowAt (linkRows seam) off

/-- The host link block (R278). -/
def hlRow (off : Nat) : Option Row :=
  if off < 0x4000 then linkRow false (off % 0x1000) else rowAt [⟨0x4000, .rw, 0xF, 0xF⟩] off

/-- The management block (R312). -/
def mgmtRow (off : Nat) : Option Row :=
  (rowAt [⟨0x00, .rw, 0xFFFF, 0x88B5⟩, ⟨0x04, .ro, 0, 0⟩, ⟨0x08, .ro, 0, Config.serial.setWidth 32⟩,
    ⟨0x0C, .ro, 0, 0x200#32 ||| ((Config.serial >>> 32).setWidth 32 &&& 0xFF#32)⟩, ⟨0x10, .rw, 0xFFFFFFFF, 0⟩,
    ⟨0x14, .rw, 0xFFFF, 0⟩] off).or
  (if 0x20 ≤ off ∧ off < 0x40 then
    rowAt [⟨0, .rc, 0, 0⟩, ⟨4, .rc, 0, 0⟩, ⟨8, .rc, 0, 0⟩, ⟨0xC, .w1c, 7, 0⟩] (off % 0x10) else none)

/-- The time unit (R337, R338). -/
def timeRow (off : Nat) : Option Row :=
  if off = 0 then some ⟨0, .rw, 0xFF03FF03, 0xA01⟩
  else if off = 4 then some ⟨4, .ro, 0, 0⟩
  else if off = 8 then some ⟨8, .w1c, 0x3F, 0⟩
  else if 0x10 ≤ off ∧ off ≤ 0x60 then rowSet 0x10 4 21 .ro 0 0 off
  else if off = 0x64 ∨ off = 0x68 then some ⟨off, .rc, 0, 0⟩
  else if 0x80 ≤ off ∧ off < 0xA0 then
    rowAt [⟨0, .rw, 0xFFFFFFFF, 0⟩, ⟨4, .ro, 0, 0x364CCD⟩, ⟨8, .ro, 0, 0x26B333⟩, ⟨0xC, .rc, 0, 0⟩] (off % 0x10)
  else none

/-- The bits of event word w that stand for a source that exists: 0-1336 (R304, R314). -/
def evtMask (w : Nat) : W32 := if w < 41 then 0xFFFFFFFF else if w = 41 then 0x1FFFFFF else 0

/-- The event unit (R314). EVT_NOTICE_EN resets to 1 in every bit of a source that exists (R314: bits for reserved
sources read 0). -/
def evtRow (off : Nat) : Option Row :=
  if off < 0x100 then
    rowAt [⟨0, .rw, 7, 3⟩, ⟨4, .ro, 0, 0x07FF0000⟩, ⟨8, .rc, 0, 0⟩, ⟨0xC, .ro, 0, 0⟩, ⟨0x10, .ro, 0, 0⟩,
      ⟨0x14, .ro, 0, 0⟩] off
  else if off < 0x1C0 then rowSet 0x100 4 48 .w1c (evtMask ((off - 0x100) / 4)) 0 off
  else if 0x200 ≤ off ∧ off < 0x2C0 then rowSet 0x200 4 48 .rw (evtMask ((off - 0x200) / 4)) 0 off
  else if 0x300 ≤ off then rowSet 0x300 4 48 .rw (evtMask ((off - 0x300) / 4)) (evtMask ((off - 0x300) / 4)) off
  else none

/-- The NV block (R423). With no valid copy in the store, SPARES_LEFT is 64 and no cycle is counted (log entry 7). -/
def nvRows : List Row :=
  [⟨0x00, .ro, 0, 0x00400000⟩, ⟨0x04, .w1c, 0x1F, 0⟩, ⟨0x08, .ro, 0, 0⟩, ⟨0x0C, .rc, 0, 0⟩, ⟨0x10, .ro, 0, 0⟩,
   ⟨0x14, .ro, 0, 0⟩]

/-- A housekeeping ADC set (R405). -/
def hkRow (off : Nat) : Option Row :=
  if 0x100 ≤ off then rowSet 0x100 4 128 .ro 0 0 off
  else if 0x20 ≤ off then rowSet 0x20 4 4 .rw 0xFFFFFFFF 0xFFFFFFFF off
  else rowAt [⟨0x0, .rw, 0xFFFF0001, 0x00640001⟩, ⟨0x4, .ro, 0, 0⟩, ⟨0x8, .wo, 0x8000007F, 0⟩, ⟨0xC, .ro, 0, 0⟩,
    ⟨0x10, .ro, 0, 0⟩, ⟨0x14, .ro, 0, 0⟩] off

/-- The host health, wear and housekeeping block (R405, R406, R423). -/
def hhRow (off : Nat) : Option Row :=
  if 0x1000 ≤ off ∧ off < 0x1300 then hkRow (off - 0x1000)
  else if 0x100 ≤ off ∧ off < 0x120 then rowSet 0x100 4 8 .ro 0 0 off
  else rowAt [⟨0x0, .ro, 0, 0⟩, ⟨0x4, .w1c, 7, 0⟩, ⟨0x200, .ro, 0, 0xFFFF⟩, ⟨0x204, .w1c, 7, 0⟩,
    ⟨0x208, .ro, 0, 0xFFFF⟩, ⟨0x20C, .ro, 0, 0xFFFF⟩, ⟨0x210, .ro, 0, 0xFFFF⟩, ⟨0x214, .ro, 0, 0xFFFF⟩,
    ⟨0x218, .ro, 0, 0⟩] off

/-- The host test access block (R423, R418). BH_NONCE is random: a free value (log entry 4). -/
def bhRow (off : Nat) : Option Row :=
  (rowAt [⟨0x0, .wo, 1, 0⟩, ⟨0x4, .ro, 0, 0⟩, ⟨0x8, .w1c, 0xF, 0⟩, ⟨0xC, .ro, 0, Config.freeWord 0⟩,
    ⟨0x10, .ro, 0, 0⟩] off).or (rowSet 0x100 4 8 .rw 0xFFF 0 off)

/-- The host side's register blocks by their 64 KiB block number (R442). -/
def hostRow (blk off : Nat) : Option Row :=
  match blk with
  | 0 => rowAt idRows off
  | 1 => ciRow off
  | 2 => dmaRow off
  | 3 => hlRow off
  | 4 => mgmtRow off
  | 5 => timeRow off
  | 6 => evtRow off
  | 7 => rowAt nvRows off
  | 8 => hhRow off
  | 9 => bhRow off
  | _ => none

/-- The FM block from 0x1000_0000 (R439, R24, R379). -/
def fmRow (off : Nat) : Option Row :=
  if 0x100 ≤ off ∧ off < 0x200 then rowAt fieldBootRows (off - 0x100)
  else if 0x200 ≤ off ∧ off < 0x300 then rowAt [⟨0x200, .ro, 0, 0⟩, ⟨0x204, .ro, 0, 0⟩, ⟨0x208, .rc, 0, 0⟩] off
  else if 0x400 ≤ off ∧ off < 0x500 then
    (rowAt (ctrlRows .fm) (off - 0x400)).or (rowSet 0x80 4 32 .ro 0 0 (off - 0x400))
  else none

/-- The Hem and device time block (R60, R339). -/
def hemBlockRow (off : Nat) : Option Row :=
  rowAt [⟨0x00, .ro, 0, 0⟩, ⟨0x04, .ro, 0, 0⟩, ⟨0x08, .ro, 0, 0⟩, ⟨0x0C, .ro, 0, 0xC⟩, ⟨0x10, .rw, 1, 0x300⟩,
    ⟨0x14, .ro, 0, 0x50⟩, ⟨0x18, .ro, 0, 0x28⟩, ⟨0x1C, .rc, 0, 0⟩, ⟨0x20, .ro, 0, 0⟩, ⟨0x24, .ro, 0, 0⟩,
    ⟨0x28, .rc, 0, 0⟩, ⟨0x100, .rw, 0xFFFF, 0⟩, ⟨0x104, .ro, 0, 0⟩, ⟨0x108, .ro, 0, 0⟩, ⟨0x10C, .ro, 0, 0⟩,
    ⟨0x110, .ro, 0, 0⟩, ⟨0x114, .rc, 0, 0⟩] off

/-- The seam and pairing block (R360, R361, R278). PAIR_STATUS resets with INTERLOCK_IN high. -/
def pairRow (off : Nat) : Option Row :=
  if 0x8000 ≤ off ∧ off < 0xA000 then linkRow true (off % 0x1000)
  else rowAt [⟨0x00, .rw, 1, 0⟩, ⟨0x04, .ro, 0, 0x40⟩, ⟨0x08, .w1c, 0x1FFF, 0⟩, ⟨0x0C, .rw, 0x1FFF, 0x1F40⟩,
    ⟨0x10, .ro, 0, 0⟩, ⟨0x14, .rc, 0, 0⟩, ⟨0x18, .rc, 0, 0⟩, ⟨0x1C, .ro, 0, 0⟩, ⟨0x20, .ro, 0, 0⟩, ⟨0x24, .rc, 0, 0⟩,
    ⟨0x28, .ro, 0, 0⟩] off

/-- The outcome network and SYNC block (R184, R185, R106). -/
def onetRow (off : Nat) : Option Row :=
  if 0x5000 ≤ off ∧ off < 0x7800 then rowSet 0x5000 4 2560 .rw 0xFFFFFFFF 0 off
  else if 0x4000 ≤ off ∧ off < 0x4100 then rowSet 0x4000 4 64 .rw 0xFFFF0001 0 off
  else if 0x1000 ≤ off ∧ off < 0x2000 then rowSet 0x1000 4 1024 .rw 0x800007FF 0 off
  else rowAt [⟨0x00, .ro, 0, 0⟩, ⟨0x04, .w1c, 0xF, 0⟩, ⟨0x08, .rc, 0, 0⟩, ⟨0x0C, .rc, 0, 0⟩, ⟨0x10, .rc, 0, 0⟩,
    ⟨0x14, .rc, 0, 0⟩] off

/-- The Mender control block (R212, R213, R187, R192, R204). -/
def mendRow (off : Nat) : Option Row :=
  if 0x4000 ≤ off ∧ off < 0xC000 then rowSet 0x4000 4 8192 .rw 0xFF01FFFF 0 off
  else if 0x1000 ≤ off ∧ off < 0x2000 then rowSet 0x1000 4 1024 .rw 0xE00007FF 0 off
  else if 0x200 ≤ off ∧ off < 0x300 then rowSet 0x200 4 64 .rw 7 0 off
  else if 0x100 ≤ off ∧ off < 0x140 then rowSet 0x100 4 16 .rw 0xE00003FF 0 off
  else rowAt [⟨0x00, .rw, 0xF, 4⟩, ⟨0x04, .rw, 0x07FFFFFF, 0x00180201⟩, ⟨0x08, .rw, 0xFFFF, 0⟩,
    ⟨0x0C, .ro, 0, 0xB476⟩, ⟨0x10, .ro, 0, 0⟩, ⟨0x14, .w1c, 0xFF, 0⟩, ⟨0x18, .rc, 0, 0⟩, ⟨0x1C, .rc, 0, 0⟩,
    ⟨0x20, .rc, 0, 0⟩, ⟨0x24, .rc, 0, 0⟩, ⟨0x28, .ro, 0, 0⟩, ⟨0x2C, .ro, 0, 0⟩, ⟨0x30, .ro, 0, 0⟩] off

/-- The field health, housekeeping, test access and canary block (R402, R403, R405, R424). -/
def fhRow (off : Nat) : Option Row :=
  if 0x3100 ≤ off ∧ off < 0x3280 then rowSet 0x3100 4 96 .ro 0 0 off
  else if 0x3000 ≤ off then rowAt [⟨0x3000, .ro, 0, 0⟩, ⟨0x3004, .ro, 0, 0⟩, ⟨0x3008, .w1c, 1, 0⟩] off
  else if 0x2000 ≤ off then rowSet 0x2000 4 8 .rw 0xFFF 0 off
  else if 0x1000 ≤ off then (if off < 0x1300 then hkRow (off - 0x1000) else none)
  else if 0x100 ≤ off then rowSet 0x100 4 64 .ro 0 0 off
  else rowAt [⟨0x00, .rw, 0xFFFF, 0xA0A⟩, ⟨0x04, .ro, 0, 0⟩, ⟨0x08, .w1c, 0xFFF, 0⟩, ⟨0x0C, .ro, 0, 0⟩,
    ⟨0x10, .ro, 0, 0⟩, ⟨0x14, .ro, 0, 0⟩, ⟨0x18, .ro, 0, 0⟩, ⟨0x1C, .rc, 0, 0⟩, ⟨0x20, .rw, 0x03FF7FFF, 0⟩,
    ⟨0x24, .ro, 0, 0⟩, ⟨0x28, .ro, 0, 0⟩] off

/-- A yoke manager set (R404). -/
def yokeRow (off : Nat) : Option Row :=
  rowAt [⟨0x00, .rw, 7, 0⟩, ⟨0x04, .ro, 0, 3⟩, ⟨0x08, .w1c, 7, 0⟩, ⟨0x0C, .ro, 0, 0⟩, ⟨0x10, .ro, 0, 0⟩]
    (off % 0x4000)

/-- The field side's register blocks outside the tiles, by 64 KiB block number from 0x1000_0000 (R443). -/
def fieldRow (blk off : Nat) : Option Row :=
  match blk with
  | 0 => fmRow off
  | 1 => hemBlockRow off
  | 2 => pairRow off
  | 3 => onetRow off
  | 4 => mendRow off
  | 5 => fhRow off
  | 6 => yokeRow off
  | _ => none

/-- A Hem engine set (R64-R67). -/
def hemEngRows : List Row :=
  [⟨0x00, .rw, 0xFFFF000D, 1⟩, ⟨0x04, .ro, 0, 0⟩, ⟨0x08, .w1c, 0xFF, 0⟩, ⟨0x0C, .ro, 0, 0xFFFFFFFF⟩, ⟨0x10, .ro, 0, 0⟩,
   ⟨0x14, .ro, 0, 0⟩, ⟨0x18, .rc, 0, 0⟩, ⟨0x1C, .rc, 0, 0⟩, ⟨0x20, .rc, 0, 0⟩]

/-- The execution set of engine e (R104, R105). -/
def engRows (e : Nat) : List Row :=
  [⟨0x00, .rw, 0x3FFF, 0⟩, ⟨0x04, .rw, 1, 0⟩, ⟨0x08, .ro, 0, 0⟩, ⟨0x0C, .w1c, 0xFF, 0⟩, ⟨0x10, .ro, 0, 0⟩,
   ⟨0x14, .ro, 0, 0⟩, ⟨0x18, .rw, 0x0FFF0FFF, BitVec.ofNat 32 e⟩, ⟨0x1C, .rw, 0x0FFF0FFF, 0⟩,
   ⟨0x20, .rw, 0xFFFFFFFF, 0⟩, ⟨0x24, .rw, 0xFFFFFFFF, 0⟩, ⟨0x28, .rw, 0xFFFFFFFF, 0⟩, ⟨0x2C, .rw, 0xFFFFFFFF, 0⟩,
   ⟨0x30, .ro, 0, 0⟩, ⟨0x34, .ro, 0, 0⟩, ⟨0x38, .rw, 0x1FFFFF, 0⟩, ⟨0x3C, .ro, 0, 0⟩]

/-- The RF port set of a drive (tones 4) or probe (tones 8) port (R134, R135, R386). -/
def rfPortRow (probe : Bool) (off : Nat) : Option Row :=
  (rowAt [⟨0x00, .rw, 3, 0⟩, ⟨0x04, .ro, 0, 0⟩, ⟨0x08, .w1c, 7, 0⟩, ⟨0x0C, .rc, 0, 0⟩, ⟨0x10, .wo, 0xFFFFFFFF, 0⟩,
    ⟨0x14, .ro, 0, 0⟩, ⟨0x18, .rws, 0xFFFF, 0x7FFF⟩, ⟨0x100, .rw, 0xFFFF, 0⟩, ⟨0x104, .rw, 0xFFFF, 0⟩,
    ⟨0x108, .rw, 0xFFFF, 0⟩] off).or
  ((rowSet 0x20 4 (if probe then 8 else 4) .rws 0xFFFF (if probe then 0x1000 else 0x2000) off).or
   (rowSet 0x40 4 16 .rws 0x3FFFF (if off = 0x50 then 0x10000 else 0) off))

/-- The flux port set (R134, R135, R386). -/
def fluxPortRow (off : Nat) : Option Row :=
  (rowAt [⟨0x00, .rw, 3, 0⟩, ⟨0x04, .ro, 0, 0x60⟩, ⟨0x08, .w1c, 7, 0⟩, ⟨0x0C, .rc, 0, 0⟩, ⟨0x10, .wo, 0xFFFFFFFF, 0⟩,
    ⟨0x14, .ro, 0, 0⟩, ⟨0x18, .rws, 0xFFFF, 0x7FFF⟩, ⟨0x1C, .rw, 7, 2⟩, ⟨0x20, .rws, 0xFFFF, 0⟩] off).or
  ((rowSet 0x24 4 4 .rws 0x3FFFF 0 off).or
   ((rowSet 0x34 4 4 .rws 0xFFFFFF 0 off).or
    ((rowSet 0x80 4 32 .rws 0x3FFFF (if off = 0x80 then 0x10000 else 0) off).or
     (rowSet 0x100 4 8 .rw 0x3FFFF 0 off))))

/-- A read-out input port set (R164, R165). -/
def adcRow (off : Nat) : Option Row :=
  if 0x40 ≤ off ∧ off < 0x150 then
    rowAt [⟨0, .rw, 0xFFFF, 0⟩, ⟨4, .rw, 0x3FFFF, 0⟩, ⟨8, .rw, 0xFFFF, 0⟩, ⟨0xC, .rw, 0xFFFF, 0⟩] (off % 0x10)
  else rowAt [⟨0x00, .rw, 7, 2⟩, ⟨0x04, .ro, 0, 0x10⟩, ⟨0x08, .w1c, 0x1F, 0⟩, ⟨0x0C, .rc, 0, 0⟩,
    ⟨0x10, .rw, 0xFFFF, 0x64⟩, ⟨0x14, .ro, 0, 0⟩, ⟨0x18, .ro, 0, 0⟩, ⟨0x1C, .ro, 0, 0⟩] off

/-- The set of demodulation channel c (R166, R167). -/
def chRows (c : Nat) : List Row :=
  [⟨0x00, .rw, 0xF, 3⟩, ⟨0x04, .rw, 0x0FFF0FFF, BitVec.ofNat 32 (c * 2 ^ 16 + 512 + c)⟩, ⟨0x08, .ro, 0, 0⟩,
   ⟨0x0C, .w1c, 0xF, 0⟩, ⟨0x10, .rc, 0, 0⟩, ⟨0x14, .rc, 0, 0⟩, ⟨0x18, .rc, 0, 0⟩, ⟨0x1C, .ro, 0, 0⟩, ⟨0x20, .ro, 0, 0⟩,
   ⟨0x24, .ro, 0, 0⟩, ⟨0x28, .ro, 0, 0⟩, ⟨0x2C, .ro, 0, 0⟩, ⟨0x30, .ro, 0, 0⟩]

/-- A weight set entry (R168). -/
def wsetRows : List Row :=
  [⟨0x00, .rw, 0x0FFFFFFF, 0⟩, ⟨0x04, .rw, 0x3F, 0⟩, ⟨0x08, .rw, 0xFFFFFFFF, 0⟩, ⟨0x0C, .rw, 0xFFFFFFFF, 0⟩,
   ⟨0x10, .rw, 0xFFFFFFFF, 0⟩, ⟨0x14, .rw, 0xFFFFFFFF, 0⟩, ⟨0x18, .rw, 0xFFFFFFFF, 0⟩, ⟨0x1C, .rw, 0xFFFFFFFF, 0⟩]

/-- A pocket set (R251, R252). -/
def pocketRows : List Row :=
  [⟨0x00, .rw, 0x37, 0⟩, ⟨0x04, .rw, 0xFFFF03F7, 0x10000⟩, ⟨0x08, .rw, 0xFFFF, 0⟩, ⟨0x0C, .rw, 0xFFFF, 1⟩,
   ⟨0x10, .rw, 0x1F, 1⟩, ⟨0x14, .rw, 0x1F, 0⟩, ⟨0x18, .rw, 0x03FFFFFF, 0⟩, ⟨0x1C, .rw, 0xFFFFFFFF, 0⟩, ⟨0x20, .ro, 0, 0⟩,
   ⟨0x24, .w1c, 0x1F, 0⟩, ⟨0x28, .rc, 0, 0⟩, ⟨0x2C, .rc, 0, 0⟩]

/-- The register block of tile n (R445, R451). -/
def tileRow (n off : Nat) : Option Row :=
  let ne := engsInTile n
  let np := portsInTile n
  if off = 0 then some ⟨0, .ro, 0, tileId n⟩
  else if 0x8000 ≤ off ∧ off < 0x8000 + 0x40 * ne then rowAt hemEngRows (off % 0x40)
  else if 0xA000 ≤ off ∧ off < 0xA000 + 0x40 * ne then rowAt (engRows (engOfTile n ((off - 0xA000) / 0x40))) (off % 0x40)
  else if 0xB000 ≤ off ∧ off < 0xB000 + 0x40 * ne then rowSet 0xB000 4 (16 * ne) .rw 0xC0FF07FF 0 off
  else if off = 0xC000 then some ⟨off, .wo, 0xFFFFFFFF, 0⟩
  else if 0xC200 ≤ off ∧ off < 0xC200 + 0x200 * np then
    if tileType n = 2 then fluxPortRow ((off - 0xC200) % 0x200)
    else rfPortRow (tileType n = 1) ((off - 0xC200) % 0x200)
  else if tileType n = 1 ∧ 0xD000 ≤ off ∧ off < 0xD800 then adcRow ((off - 0xD000) % 0x200)
  else if tileType n = 1 ∧ 0xE000 ≤ off ∧ off < 0xF000 then
    rowAt (chRows (32 * (n - 16) + (off - 0xE000) / 0x80)) (off % 0x80)
  else if tileType n = 1 ∧ 0xF000 ≤ off ∧ off < 0xF100 then rowAt pocketRows (off - 0xF000)
  else if tileType n = 1 ∧ 0x10000 ≤ off ∧ off < 0x14000 then rowAt wsetRows (off % 0x20)
  else none

/-- A register of a register block: its row, or a reserved offset (R444). -/
def locOfRow : Option Row → Loc
  | some r => .reg r.acc r.mask r.rst
  | none => .reserved

/-- The bits that graph table word w defines (R191). -/
def graphMask (w : Nat) : W32 :=
  if w = 0 then 0x0F7FFFFF else if w = 1 then 0xFFFF else if w = 2 then 0x3FFF else 0

/-- A memory region: base, size, and the region's kind for DMA and LOAD (R215, R296). -/
structure Region where
  base : Nat
  size : Nat
  isMem : Bool
deriving DecidableEq, Repr

/-- The region of tile n that holds an offset (R445); none for a hole. The pocket stream window is no memory. -/
def tileRegion (n off : Nat) : Option Region :=
  let b := tileBase n
  if off < 0x100000 then some ⟨b, 0x100000, false⟩
  else if off < 0x120000 then some ⟨b + 0x100000, 0x20000, true⟩
  else if tileType n = 1 ∧ 0x200000 ≤ off ∧ off < 0x240000 then some ⟨b + 0x200000, 0x40000, true⟩
  else if 0x400000 ≤ off ∧ off < (if tileType n = 1 then 0x500000 else 0x600000) then
    some ⟨b + 0x400000, if tileType n = 1 then 0x100000 else 0x200000, true⟩
  else if tileType n = 1 ∧ 0x800000 ≤ off ∧ off < 0xC00000 then some ⟨b + 0x800000, 0x400000, true⟩
  else none

/-- Whether an address lies in a pocket stream window (R445, R247). -/
def inWindow (a : Nat) : Bool :=
  0x30000000 ≤ a && a < 0x40000000 && 0xC00000 ≤ a % 0x1000000

/-- The region of R442, R443 and R445 that holds an address; none for a hole or the stream window. -/
def regionOf (a : Nat) : Option Region :=
  if a < 0x000A0000 then some ⟨a / 0x10000 * 0x10000, 0x10000, false⟩
  else if 0x00100000 ≤ a ∧ a < 0x00140000 then some ⟨0x00100000, 0x40000, true⟩
  else if 0x10000000 ≤ a ∧ a < 0x10008000 then some ⟨0x10000000, 0x8000, false⟩
  else if 0x10008000 ≤ a ∧ a < 0x10008800 then some ⟨0x10008000, 0x800, true⟩
  else if 0x10008800 ≤ a ∧ a < 0x10010000 then some ⟨0x10008800, 0x7800, false⟩
  else if 0x10010000 ≤ a ∧ a < 0x10070000 then some ⟨a / 0x10000 * 0x10000, 0x10000, false⟩
  else if 0x11000000 ≤ a ∧ a < 0x11020000 then some ⟨0x11000000, 0x20000, true⟩
  else if 0x12000000 ≤ a ∧ a < 0x12200000 then some ⟨0x12000000, 0x200000, true⟩
  else if 0x20000000 ≤ a ∧ a < 0x50000000 then tileRegion ((a - 0x20000000) / 0x1000000) (a % 0x1000000)
  else none

/-- The bits a memory word defines (R9): QUBIT_MAP (R107), frames (R112), the graph table (R191: reserved bits there
are kept, since the check of R193 tests them), everything else whole. -/
def memMask (a : Nat) : W32 :=
  if 0x10008000 ≤ a ∧ a < 0x10008800 then 0x8BFFFFFF else 0xFFFFFFFF

/-- Whether an address belongs to what the active copies to a unit in SYNCING (R358): program, envelope and weight memory,
frames, QUBIT_MAP, the graph table, and the registers of the data tree. Trims, slice factors, input ports, pockets,
health, time and pairing registers do not. -/
def isCopied (a : Nat) : Bool :=
  if a < 0x10000000 then false
  else if inWindow a then false
  else if a < 0x20000000 then
    (decide (0x10008000 ≤ a) && decide (a < 0x10008800)) || a == 0x10010010 ||
    (decide (0x10031000 ≤ a) && decide (a < 0x10037800)) || (decide (0x10040000 ≤ a) && decide (a < 0x1004C000)) ||
    (decide (0x11000000 ≤ a) && decide (a < 0x11020000)) || (decide (0x12000000 ≤ a) && decide (a < 0x12200000))
  else
    let off := a % 0x1000000
    match regionOf a with
    | none => false
    | some r =>
      if r.isMem then decide (off < 0x800000)
      else if 0xC200 ≤ off ∧ off < 0xD000 then decide ((off - 0xC200) % 0x200 < 0x100)
      else (decide (0x8000 ≤ off) && decide (off < 0xC200)) || (decide (0xE000 ≤ off) && decide (off < 0xF000)) ||
        (decide (0x10000 ≤ off) && decide (off < 0x14000))

/-- The row of frame word off (R112, R113). -/
def frameRow (off : Nat) : Loc :=
  if off = 0x04 then .reg .rw 0xFFFF 0
  else if off = 0x0C then .reg .rw 0x103 0
  else if off = 0x18 then .reg .ro 0 0
  else if off = 0x1C then .reserved
  else .reg .rw 0xFFFFFFFF 0

/-- What lies at a word address (R444). -/
def locate (a : Nat) : Loc :=
  if inWindow a then .window
  else match regionOf a with
  | none => .hole
  | some r =>
    if 0x11000000 ≤ a ∧ a < 0x11020000 then frameRow (a % 0x20)
    else if r.isMem then .mem (memMask a)
    else if a < 0x10000000 then locOfRow (hostRow (a / 0x10000) (a % 0x10000))
    else if a < 0x11000000 then locOfRow (fieldRow ((a - 0x10000000) / 0x10000) (a % 0x10000))
    else locOfRow (tileRow ((a - 0x20000000) / 0x1000000) (a % 0x1000000))

/-- The reset value of the register at an address; 0 elsewhere. -/
def regReset (a : Nat) : W32 :=
  match locate a with
  | .reg _ _ r => r
  | _ => 0

/-- Whether an address lies on the field side (R443). -/
def isFieldAddr (a : Nat) : Bool := 0x10000000 ≤ a

/-- What a byte of memory that nothing has written reads as: 0 (R434, R429), but QUBIT_MAP entry q at its reset value
VALID = 1, DEMOD = q, DRIVE = q (R107). -/
def memReset (a : Nat) : Byte :=
  if 0x10008000 ≤ a ∧ a < 0x10008800 then
    let q := (a - 0x10008000) / 4
    ((BitVec.ofNat 32 (0x80000000 + q * 512 + q)) >>> (8 * (a % 4))).setWidth 8
  else 0

end Sys2Proof.Machine
end

