-- ==== Sys2Proof/Machine/Wire.lean ====
section
/-! DEFINITION. Bytes and bits on the wire: byte order (R281, R295), flits and their check code (R257-R259), the headers
of host-link transactions (R264), seam messages (R345), command packets and CRC-32C (R281, R283). -/

namespace Sys2Proof.Machine

/-! ## Words and bytes -/

/-- The four bytes of a word, lowest address first. -/
def leBytes (v : W32) : List Byte :=
  [v.setWidth 8, (v >>> 8).setWidth 8, (v >>> 16).setWidth 8, (v >>> 24).setWidth 8]

/-- The four bytes of a word, most significant first (R281). -/
def beBytes (v : W32) : List Byte := (leBytes v).reverse

/-- The two bytes of a half word, most significant first. -/
def beHalf (v : BitVec 16) : List Byte := [(v >>> 8).setWidth 8, v.setWidth 8]

/-- A word from up to four bytes, most significant first. -/
def beWord (bs : List Byte) : W32 := bs.foldl (fun a b => (a <<< 8) ||| b.setWidth 32) 0

/-- A word from up to four bytes, least significant first. -/
def leWord (bs : List Byte) : W32 := beWord bs.reverse

/-- Bytes in groups of four, as big-endian words; n bounds the words. -/
def beWords : Nat → List Byte → List W32
  | 0, _ => []
  | n + 1, bs => if bs.isEmpty then [] else beWord (bs.take 4) :: beWords n (bs.drop 4)

/-! ## CRC-32C (R283) -/

/-- One bit of the reflected CRC-32C register. -/
def crcBit (c : W32) : W32 := if c.getLsbD 0 then (c >>> 1) ^^^ 0x82F63B78 else c >>> 1

/-- One byte of the reflected CRC-32C register. -/
def crcByte (c : W32) (b : Byte) : W32 :=
  crcBit (crcBit (crcBit (crcBit (crcBit (crcBit (crcBit (crcBit (c ^^^ b.setWidth 32))))))))

/-- CRC-32C (R283). -/
def crc32c (bs : List Byte) : W32 := bs.foldl crcByte 0xFFFFFFFF ^^^ 0xFFFFFFFF

/-! ## Flits (R257-R259) -/

/-- One bit of the flit check register (R259). -/
def crc16Bit (c : BitVec 16) (b : Bool) : BitVec 16 := (c <<< 1) ^^^ (if c.getLsbD 15 != b then 0x8BB7 else 0)

/-- The check code of a flit: the kind bit, then bits [255:16] from bit 255 downward (R259). -/
def flitCrc (data : Bool) (bits : BitVec 256) : BitVec 16 :=
  (List.range 240).foldl (fun c i => crc16Bit c (bits.getLsbD (255 - i))) (crc16Bit 0xFFFF data)

/-- Bits [hi:lo] of a flit as a number. -/
def fbits (f : Flit) (hi lo : Nat) : Nat := (f.bits.toNat / 2 ^ lo) % 2 ^ (hi + 1 - lo)

/-- PAYLOAD of a flit (R258). -/
def Flit.payload (f : Flit) : BitVec 224 := (f.bits >>> 32).setWidth 224
/-- SEQ of a flit. -/
def Flit.seq (f : Flit) : BitVec 7 := BitVec.ofNat 7 (fbits f 31 25)
/-- ACK of a flit. -/
def Flit.ack (f : Flit) : BitVec 7 := BitVec.ofNat 7 (fbits f 24 18)
/-- VC of a flit. -/
def Flit.vc (f : Flit) : Nat := fbits f 17 16
/-- FTYPE of a header or control flit (R263). -/
def Flit.ftype (f : Flit) : Nat := fbits f 255 252
/-- The flit passes its check and its sync headers agree (R257, R261). -/
def Flit.good (f : Flit) : Bool := f.syncOk && flitCrc f.data f.bits == f.bits.setWidth 16

/-- A flit with its fields (R258, R259). -/
def mkFlit (data : Bool) (payload : BitVec 224) (seq ack : BitVec 7) (vc : Nat) : Flit :=
  let b : BitVec 256 :=
    ((payload ++ seq ++ ack ++ BitVec.ofNat 2 vc ++ (0 : BitVec 16)).cast (by decide))
  { data, syncOk := true, bits := b ||| (flitCrc data b).setWidth 256 }

/-- Fields packed from a bit position downward: widths and values. -/
def packFrom (top : Nat) : List (Nat × Nat) → Nat
  | [] => 0
  | (w, v) :: t => v % 2 ^ w * 2 ^ (top + 1 - w) + packFrom (top - w) t

/-- A host-link header (R264). -/
def hlHeader (ftype tag : Nat) (ack : Bool) (status len : Nat) (addr : W64) : BitVec 224 :=
  BitVec.ofNat 224 (packFrom 223 [(4, ftype), (8, tag), (1, ack.toNat), (3, status), (14, len), (64, addr.toNat)])

/-- 28 bytes of a data flit, the byte of lowest address first (R258). -/
def dataPayload (bs : List Byte) : BitVec 224 := BitVec.ofNat 224 (packFrom 223 (bs.map (fun b => (8, b.toNat))))

/-- The data flits of some bytes; n bounds the flits. -/
def dataFlits : Nat → List Byte → List (Bool × BitVec 224)
  | 0, _ => []
  | n + 1, bs => if bs.isEmpty then [] else (true, dataPayload (bs.take 28)) :: dataFlits n (bs.drop 28)

/-- A transaction's flits: header and data (R263). -/
def txFlits (header : BitVec 224) (bs : List Byte) : List (Bool × BitVec 224) :=
  (false, header) :: dataFlits (bs.length / 28 + 1) bs

/-! ## Seam messages (R345) -/

/-- The widths of a message's body fields; DIGEST_DETAIL's digests and RELAY's and RESYNC_DATA's bytes follow theirs. -/
def seamWidths (mtype : Nat) (n : Nat) : List Nat :=
  match mtype with
  | 0x01 => [11, 2, 1, 1, 1, 32]
  | 0x02 => [11, 32]
  | 0x03 => [2, 6, 16, 32, 32, 12, 24, 8, 1]
  | 0x04 => [2, 6, 16, 32, 32, 1, 1]
  | 0x05 => [32, 4, 16, 1, 3] ++ List.replicate (n - 5) 10
  | 0x06 => [3, 64]
  | 0x07 => [3, 2, 1, 1, 1, 32]
  | 0x08 => [4, 32]
  | 0x09 => [8, 32, 4]
  | 0x0A => [8, 32, 1, 4]
  | 0x0B => [4, 2]
  | 0x0C => [32]
  | 0x0D => [3, 64, 1, 3]
  | 0x20 => [32, 32, 32, 32, 32]
  | 0x21 => [32, 2]
  | 0x22 => [32, 2, 7, 3] ++ List.replicate (n - 4) 32
  | 0x23 => [9, 1] ++ List.replicate (n - 2) 8
  | 0x24 => [32] ++ List.replicate (n - 1) 8
  | 0x25 => [4, 32]
  | _ => []

/-- A seam flit's payload: FTYPE, MTYPE and the body. -/
def seamPayload (mtype : Nat) (body : List (Nat × Nat)) : BitVec 224 :=
  BitVec.ofNat 224 (packFrom 223 ([(4, if 0x20 ≤ mtype then 9 else 8), (6, mtype)] ++ body))

/-- The flits of a seam message. OUTCOME and PLEDGE carry one entry, so COUNT - 1 is 0. -/
def seamFlits (mtype : Nat) (fields : List Nat) : List (Bool × BitVec 224) :=
  let body := (seamWidths mtype fields.length).zip fields
  [(false, seamPayload mtype ((if mtype = 1 ∨ mtype = 2 then [(2, 0)] else []) ++ body))]

/-- A control flit's payload (R263): its FTYPE, an unused bit where the fields begin a bit lower, and its fields. -/
def controlPayload (ftype : Nat) (fields : List (Nat × Nat)) : BitVec 224 := BitVec.ofNat 224 (packFrom 223 ((4, ftype) :: fields))

/-- A flit as it is sent again, with the latest ACK of its sender (R260). -/
def Flit.withAck (f : Flit) (ack : BitVec 7) : Flit := mkFlit f.data (Flit.payload f) (Flit.seq f) ack (Flit.vc f)

/-! ## Command packets (R281) -/

/-- A packet's bytes from its header fields and parameters, with its CRC (R281, R283). -/
def packetBytes (ver dest src opcode : Byte) (seq : BitVec 16) (flags : BitVec 16) (status : Byte) (tag : W32)
    (params : List W32) : List Byte :=
  let body := [ver, dest, src, opcode] ++ beHalf seq ++ beHalf (BitVec.ofNat 16 (4 * params.length)) ++ beHalf flags ++
    beHalf (status.setWidth 16) ++ beBytes tag ++ params.flatMap beBytes
  body ++ beBytes (crc32c body)

/-- A reply as its packet (R290): REPLY = 1, DEST 0. -/
def replyBytes (r : Reply) : List Byte := packetBytes r.ver 0 r.src r.opcode r.seq 1 r.status r.tag r.params

/-! ## Transactions -/

/-- The words of a record that one RESULT batch takes at most: 4,096 bytes with the header (R264, R310). -/
def partWords : Nat := 1020

/-- The parts that a record is sent in (R310). -/
def Rec.parts (r : Rec) : Nat := max 1 ((r.words.length + partWords - 1) / partWords)

/-- A part of a record. -/
def Rec.part (r : Rec) (i : Nat) : List W32 := (r.words.drop (partWords * i)).take partWords

/-- The header of a RESULT batch that holds one part of a record (R310). -/
def batchHead (r : Rec) (part : Nat) (runId : BitVec 16) (standby : Bool) (unit : Byte) : List W32 :=
  [BitVec.ofNat 32 (r.stream * 2 ^ 24 + (decide (0 < part)).toNat * 2 ^ 23 + (decide (part + 1 < r.parts)).toNat * 2 ^ 22 +
      standby.toNat * 2 ^ 21 + unit.toNat), r.seq, ((runId.setWidth 32) <<< 16) ||| BitVec.ofNat 32 (4 * partWords * part), 1]

/-- What goes over a serial port, with its port, credit class and flits; the records and notices of R266 go on link k.
head gives a RESULT batch its header. On a seam VC0 goes before VC1, and of VC1 a DIGEST before the rest (R267, R349). -/
def outTx (o : Out) (k : Fin 4) (head : Rec → Nat → List W32) : Option (LPort × Tx) :=
  match o with
  | .memRead l t a n => some (.hl (Fin.ofNat 4 l), { vc := 1, rank := 0, flits := txFlits (hlHeader 9 t false 0 n a) [], out := o })
  | .memWrite _ l t ack a bs => some (.hl (Fin.ofNat 4 l), { vc := 0, rank := 0, flits := txFlits (hlHeader 8 t ack 0 bs.length a) bs, out := o })
  | .reply r =>
    match r.port with
    | .hl l =>
      let bs := replyBytes r
      some (.hl l, { vc := 0, rank := 0, flits := txFlits (hlHeader 12 0 false 0 bs.length 0) bs, out := o })
    | _ => none
  | .linkCommand l bs => some (.hl (Fin.ofNat 4 l), { vc := 0, rank := 0, flits := txFlits (hlHeader 12 0 false 0 bs.length 0) bs, out := o })
  | .records r i =>
    let bs := (head r i ++ r.part i).flatMap leBytes
    some (.hl k, { vc := 0, rank := 0, flits := txFlits (hlHeader 13 0 false 0 bs.length 0) bs, out := o })
  | .notice none ws =>
    let bs := ws.flatMap leBytes
    some (.hl k, { vc := 0, rank := 0, flits := txFlits (hlHeader 14 0 false 0 bs.length 0) bs, out := o })
  | .seam b m fields =>
    some (if b then .seamB else .seamA,
      { vc := if 0x20 ≤ m then 1 else 0, rank := if m = 0x20 then 1 else if 0x20 ≤ m then 2 else 0, flits := seamFlits m fields, out := o })
  | _ => none

end Sys2Proof.Machine
end

