-- ==== Sys2Proof/Machine/Ops.lean ====
section
/-! DEFINITION. The named operations over State: sparse tables, registers and their fields, memory, block arithmetic
(R39), device time (R37), network time stamps (R317, R321), raising an event source (R304-R308). -/

namespace Sys2Proof.Machine

/-- The entry of a table at a key. -/
def tabFind {α : Type} : Tab α → Nat → Option α
  | [], _ => none
  | (k', v) :: t, k => if k = k' then some v else tabFind t k

/-- A table with an entry put in key order. -/
def tabIns {α : Type} (k : Nat) (v : α) : Tab α → Tab α
  | [] => [(k, v)]
  | (k', v') :: t =>
    if k < k' then (k, v) :: (k', v') :: t else if k = k' then (k, v) :: t else (k', v') :: tabIns k v t

/-- A table without the entry of a key. -/
def tabDel {α : Type} (k : Nat) : Tab α → Tab α
  | [] => []
  | (k', v') :: t => if k = k' then tabDel k t else (k', v') :: tabDel k t

/-- What a table holds at a key whose unlisted value is d. -/
def tabGet {α : Type} (d : α) (t : Tab α) (k : Nat) : α := (tabFind t k).getD d

/-- Write a table in canonical form: the unlisted value removes the entry. -/
def tabSet {α : Type} [DecidableEq α] (d : α) (t : Tab α) (k : Nat) (v : α) : Tab α :=
  if v = d then tabDel k t else tabIns k v t

/-- Whether a table's keys lie strictly above a bound and rise, with no entry at its unlisted value. -/
def tabWfFrom {α : Type} [DecidableEq α] (d : Nat → α) : Option Nat → Tab α → Bool
  | _, [] => true
  | lo, (k, v) :: t =>
    (match lo with | none => true | some b => decide (b < k)) && decide (v ≠ d k) && tabWfFrom d (some k) t

/-- The canonical form of a table. -/
def tabWf {α : Type} [DecidableEq α] (d : Nat → α) (t : Tab α) : Bool := tabWfFrom d none t

/-! ## Registers -/

/-- The register at an address. -/
def State.reg (s : State) (a : Nat) : W32 := tabGet (regReset a) s.regs a

/-- Set the register at an address. -/
def State.setReg (s : State) (a : Nat) (v : W32) : State := { s with regs := tabSet (regReset a) s.regs a v }

/-- The working copy of a shadow register (R127): the value the last commit gave it. -/
def State.workReg (s : State) (a : Nat) : W32 := tabGet (regReset a) s.work a

/-- Set a working copy. -/
def State.setWork (s : State) (a : Nat) (v : W32) : State := { s with work := tabSet (regReset a) s.work a v }

/-- Bits [hi:lo] of a word as a number. -/
def wfld (v : W32) (hi lo : Nat) : Nat := (v.toNat / 2 ^ lo) % 2 ^ (hi + 1 - lo)

/-- A word with bits [hi:lo] replaced. -/
def putFld (v : W32) (hi lo n : Nat) : W32 :=
  let m : W32 := BitVec.ofNat 32 ((2 ^ (hi + 1 - lo) - 1) * 2 ^ lo)
  (v &&& ~~~m) ||| (BitVec.ofNat 32 (n * 2 ^ lo) &&& m)

/-- The low w bits of a word as a signed number. -/
def sfld (v : W32) (w : Nat) : Int := Int.bmod (v.toNat % 2 ^ w) (2 ^ w)

/-- Bit b of the register at a. -/
def State.bit (s : State) (a b : Nat) : Bool := (s.reg a).getLsbD b

/-- Bits [hi:lo] of the register at a. -/
def State.fld (s : State) (a hi lo : Nat) : Nat := wfld (s.reg a) hi lo

/-- Replace bits [hi:lo] of the register at a. -/
def State.setFld (s : State) (a hi lo n : Nat) : State := s.setReg a (putFld (s.reg a) hi lo n)

/-- Set or clear bit b of the register at a. -/
def State.setBit (s : State) (a b : Nat) (v : Bool) : State := s.setFld a b b (if v then 1 else 0)

/-- Add to a counter that saturates at 0xFFFF_FFFF (R6, the RC counters of the maps). -/
def State.addSat (s : State) (a n : Nat) : State :=
  s.setReg a (BitVec.ofNat 32 (min 0xFFFFFFFF ((s.reg a).toNat + n)))

/-- Raise a register to a value if that is larger (peaks and maxima). -/
def State.maxReg (s : State) (a n : Nat) : State :=
  if (s.reg a).toNat < n then s.setReg a (BitVec.ofNat 32 n) else s

/-! ## Memory -/

/-- A byte of memory. -/
def State.byte (s : State) (a : Nat) : Byte := tabGet (memReset a) s.mem a

/-- Write a byte of memory. -/
def State.setByte (s : State) (a : Nat) (v : Byte) : State := { s with mem := tabSet (memReset a) s.mem a v }

/-- The little-endian memory word at a (R295). -/
def State.word (s : State) (a : Nat) : W32 :=
  s.byte (a + 3) ++ (s.byte (a + 2) ++ (s.byte (a + 1) ++ s.byte a))

/-- Write the little-endian memory word at a (R295). -/
def State.setWord (s : State) (a : Nat) (v : W32) : State :=
  ((((s.setByte a (v.setWidth 8)).setByte (a + 1) ((v >>> 8).setWidth 8)).setByte (a + 2)
    ((v >>> 16).setWidth 8)).setByte (a + 3) ((v >>> 24).setWidth 8))

/-- Write consecutive bytes. -/
def State.setBytes (s : State) (a : Nat) : List Byte → State
  | [] => s
  | b :: bs => (s.setByte a b).setBytes (a + 1) bs

/-- Read n consecutive bytes. -/
def State.bytes (s : State) (a n : Nat) : List Byte := (List.range n).map (fun i => s.byte (a + i))

/-- While the active copies its state, a write to a copied range marks its 4 KiB dirty (R358). -/
def State.touch (s : State) (a : Nat) : State :=
  if s.pair.copying && isCopied a && !(a / 4096 ∈ s.pair.dirty) then
    { s with pair := { s.pair with dirty := s.pair.dirty ++ [a / 4096] } }
  else s

/-- The protected word of Mender's tables that an address lies in (R191, R192, R194): a graph table entry by its number, or the
DET_INDEX word of layout l and detector d as 131,072 + 1,024 l + d. -/
def tableWord (a : Nat) : Option Nat :=
  if 0x12000000 ≤ a ∧ a < 0x12200000 then some ((a - 0x12000000) / 16)
  else if 0x10044000 ≤ a ∧ a < 0x1004C000 then some (131072 + (a - 0x10044000) / 4)
  else none

/-- A rewritten table word holds no error any more (R194). -/
def State.heal (s : State) (a : Nat) : State :=
  match tableWord a with
  | some n => { s with mend := { s.mend with bad := s.mend.bad.filter (· != n) } }
  | none => s

/-! ## Engines and other numbered objects -/

/-- Engine e. -/
def State.eng (s : State) (e : Nat) : Engine := tabGet Engine.reset s.engines e

/-- Set engine e. -/
def State.setEng (s : State) (e : Nat) (x : Engine) : State :=
  { s with engines := tabSet Engine.reset s.engines e x }

/-- Change engine e. -/
def State.modEng (s : State) (e : Nat) (f : Engine → Engine) : State := s.setEng e (f (s.eng e))

/-- The window contexts of channel c, oldest first (R155). -/
def State.ctxs (s : State) (c : Nat) : List Ctx := tabGet [] s.chans c

/-- Set the window contexts of channel c. -/
def State.setCtxs (s : State) (c : Nat) (l : List Ctx) : State := { s with chans := tabSet [] s.chans c l }

/-- Frame register n's latches and holds (R477). -/
def State.faux (s : State) (n : Nat) : FrameAux := tabGet FrameAux.reset s.frameAux n

/-- Set frame register n's latches and holds. -/
def State.setFaux (s : State) (n : Nat) (x : FrameAux) : State :=
  { s with frameAux := tabSet FrameAux.reset s.frameAux n x }

/-- Pocket k. -/
def State.pocket (s : State) (k : Nat) : Pocket := tabGet Pocket.reset s.pockets k

/-- Set pocket k. -/
def State.setPocket (s : State) (k : Nat) (x : Pocket) : State :=
  { s with pockets := tabSet Pocket.reset s.pockets k x }

/-- The key of a serial port in State.links. -/
def lportKey : LPort → Nat
  | .hl k => k.val
  | .seamA => 4
  | .seamB => 5

/-- Serial port p. -/
def State.link (s : State) (p : LPort) : Link := tabGet Link.reset s.links (lportKey p)

/-- Set serial port p. -/
def State.setLink (s : State) (p : LPort) (x : Link) : State :=
  { s with links := tabSet Link.reset s.links (lportKey p) x }

/-- DMA channel n. -/
def State.dmaCh (s : State) (n : Nat) : Dma := tabGet Dma.reset s.dma.chans n

/-- Set DMA channel n. -/
def State.setDma (s : State) (n : Nat) (x : Dma) : State :=
  { s with dma := { s.dma with chans := tabSet Dma.reset s.dma.chans n x } }

/-! ## Sending over the serial ports (R260, R262, R266) -/

/-- Serial port p is UP (R279). -/
def State.linkUp (s : State) (p : LPort) : Bool := s.fld (linkAddr p 4) 2 0 == 5

/-- The host links that RESULT_LINKS permits and that are UP (R266). -/
def State.resultLinks (s : State) : List (Fin 4) :=
  (List.finRange 4).filter (fun k => s.linkUp (.hl k) && (s.reg 0x00034000).getLsbD k.val)

/-- The component of a class. -/
def credOf (c : Nat × Nat × Nat) (vc : Nat) : Nat := if vc = 0 then c.1 else if vc = 1 then c.2.1 else c.2.2
/-- Change the component of a class. -/
def credMod (c : Nat × Nat × Nat) (vc : Nat) (f : Nat → Nat) : Nat × Nat × Nat :=
  if vc = 0 then (f c.1, c.2.1, c.2.2) else if vc = 1 then (c.1, f c.2.1, c.2.2) else (c.1, c.2.1, f c.2.2)

/-- The transactions of a waiting list that may begin, and the rest: each needs credit for all its flits, behind its
class's earlier ones (R262). -/
def splitReady (c : Nat × Nat × Nat) (blocked : List Nat) : List Tx → List Tx × List Tx × (Nat × Nat × Nat)
  | [] => ([], [], c)
  | t :: ts =>
    if t.vc ∈ blocked ∨ credOf c t.vc < t.flits.length then
      let (a, b, c) := splitReady c (t.vc :: blocked) ts
      (a, t :: b, c)
    else
      let (a, b, c) := splitReady (credMod c t.vc (· - t.flits.length)) blocked ts
      (t :: a, b, c)

/-- Put a flit behind those of its rank and of lower ones (R267). -/
def insFlit (f : QFlit) : List QFlit → List QFlit
  | [] => [f]
  | g :: t => if f.rank < g.rank then f :: g :: t else g :: insFlit f t

/-- Put a transaction behind those of its rank and of lower ones. -/
def insTx (x : Tx) : List Tx → List Tx
  | [] => [x]
  | y :: t => if x.rank < y.rank then x :: y :: t else y :: insTx x t

/-- Begun transactions' flits take sequence numbers and go out while the replay buffer of 64 has room (R260). n bounds
them. -/
def Link.transmit (x : Link) : Nat → Link
  | 0 => x
  | n + 1 =>
    match x.queue with
    | f :: q =>
      if 64 ≤ x.replay.length then x
      else
        Link.transmit { x with
          queue := q, nextSeq := x.nextSeq + 1, ackTold := x.expSeq
          replay := x.replay ++ [({ seq := x.nextSeq, flit := mkFlit f.data f.payload x.nextSeq (x.expSeq - 1) f.vc, again := 0 } : Sent)] } n
    | [] => x

/-- Whatever may be sent is sent (R260, R262): of what waits, a lower rank first (R267). -/
def Link.pump (x : Link) : Link :=
  let (go, rest, c) := splitReady x.credits [] x.wait
  let fs := go.flatMap (fun t => t.flits.map (fun f => ({ rank := t.rank, vc := t.vc, data := f.1, payload := f.2 } : QFlit)))
  let q := fs.foldl (fun q f => insFlit f q) x.queue
  Link.transmit { x with
    wait := rest, credits := c, queue := q, begun := x.begun ++ go.map (fun t => (t.out, t.flits.length)) } q.length

/-- A direction of a host link that sends is ACTIVE, and its flits tell the latest SEQ received (R260, R276). -/
def State.wakeTx (s : State) (p : LPort) : State :=
  (s.setFld (linkAddr p 4) 6 5 0).setLink p { s.link p with ackTold := (s.link p).expSeq }

/-- A transaction enters its port's flit layer and wakes its direction (R276): RESULT and EVENT take the permitted links
in rotation (R266). -/
def State.transmit (s : State) (o : Out) : State :=
  let ks := s.resultLinks
  let k := ((ks.find? (fun k => decide (s.cmd.rot ≤ k.val))).orElse (fun _ => ks.head?)).getD 0
  let head := fun (r : Rec) (i : Nat) => batchHead r i s.onet.runId
    (4 ≤ s.fld 0x10020004 2 0 && s.fld 0x10020004 2 0 ≤ 6) (BitVec.ofNat 8 (s.fld 0x00040004 15 8))
  match outTx o k head with
  | none => s
  | some (p, t) =>
    let s := match o with
      | .records _ _ => { s with cmd := { s.cmd with rot := (k.val + 1) % 4 } }
      | .notice _ _ => { s with cmd := { s.cmd with rot := (k.val + 1) % 4 } }
      | _ => s
    if s.linkUp p then (s.setFld (linkAddr p 4) 6 5 0).setLink p (Link.pump { s.link p with wait := insTx t (s.link p).wait }) else s

/-- The management port whose TX_FRAMES counts what is sent (R312): 0 MGMT_UP, 1 MGMT_DN. -/
def mgmtTx : Out → Option Nat
  | .reply r => match r.port with
    | .mgmtUp => some 0
    | .mgmtDn => some 1
    | .hl _ => none
  | .notice m _ => if m.isSome then some 0 else none
  | .frame up _ => some (if up then 0 else 1)
  | .ptp up _ _ => some (if up then 0 else 1)
  | _ => none

/-- Send something: it is noted, counted where it is a management frame, and enters its port's flit layer where it goes
over a serial port. -/
def State.send (s : State) (o : Out) : State :=
  let s := match mgmtTx o with
    | some p => s.addSat (0x00040024 + 0x10 * p) 1
    | none => s
  State.transmit { s with sent := s.sent ++ [o] } o

/-- Draw a free value: the next index of the opaque constants of Config. -/
def State.draw (s : State) : State := { s with free := s.free + 1 }

/-! ## Blocks and device time -/

/-- The pin block DEVTIME[37:6] (R38). -/
def State.pin (s : State) : W32 := (s.clk.devtime >>> 6).setWidth 32

/-- The pin block as the 64-bit block of DEVTIME. -/
def State.pin64 (s : State) : W64 := s.clk.devtime >>> 6

/-- ADMIT_BLOCK (R40). -/
def State.admitBlock (s : State) : W32 := s.pin + 12

/-- The difference of two schedule blocks, as R39 takes it. -/
def bdiff (a b : W32) : Int := (a - b).toInt

/-- Block a lies at or after block b (R39). -/
def bge (a b : W32) : Bool := 0 ≤ bdiff a b

/-- Block a lies before block b (R39). -/
def blt (a b : W32) : Bool := bdiff a b < 0

/-- The later of two blocks (R39). -/
def bmax (a b : W32) : W32 := if bge a b then a else b

/-- The first block boundary at least 4 blocks after a request that reaches the Hem now (R57). -/
def State.effBlock (s : State) : W32 := s.pin + 4

/-- The 64-bit block number of a 32-bit block, within 2^31 blocks of the pin block (R115). -/
def State.block64 (s : State) (b : W32) : W64 := (s.clk.devtime >>> 6) + (b - s.pin).signExtend 64

/-- The DEVTIME of the first tick of a block (R115). -/
def State.tickOf (s : State) (b : W32) : W64 := s.block64 b <<< 6

/-- A point of the schedule in ticks, as a number: a 32-bit block and a tick. -/
def Tm.plus (x : Tm) (blocks : W32) : Tm := { x with b := x.b + blocks }

/-- Point x lies before point y, blocks compared by R39. -/
def tmLt (x y : Tm) : Bool := blt x.b y.b || (x.b == y.b && decide (x.t.toNat < y.t.toNat))

/-- The block a cursor counts as (R70): the following one when its tick is not zero. -/
def Tm.ceil (x : Tm) : W32 := if x.t = 0 then x.b else x.b + 1

/-- One block of the sample clock (R37, R315): DEVTIME and DEV_IMAGE advance by 64 ticks. DEVTIME runs only once the
field PLLs have locked; DEV_IMAGE runs on the host side from its own reset. -/
def State.tickBlock (s : State) : State :=
  { s with clk := { s.clk with
      devtime := if s.clk.run then s.clk.devtime + 64 else s.clk.devtime
      image := if s.pins.hostOn then s.clk.image + 64 else s.clk.image } }

/-- Bring the pin block up to block b when that lies ahead (log entry 2). -/
def State.advanceTo (s : State) (b : W32) : State :=
  let d := bdiff b s.pin
  if s.clk.run ∧ 0 < d then
    { s with clk := { s.clk with
        devtime := s.clk.devtime + BitVec.ofInt 64 (d * 64)
        image := if s.pins.hostOn then s.clk.image + BitVec.ofInt 64 (d * 64) else s.clk.image } }
  else s

/-- Bring the pin block up to a 64-bit block when that lies ahead. -/
def State.advance64 (s : State) (b : W64) : State :=
  let d := b.toNat - s.pin64.toNat
  if s.clk.run ∧ 0 < d then
    { s with clk := { s.clk with
        devtime := s.clk.devtime + BitVec.ofNat 64 (d * 64)
        image := if s.pins.hostOn then s.clk.image + BitVec.ofNat 64 (d * 64) else s.clk.image } }
  else s

/-! ## Earlier values (R110, R117, R127) -/

/-- Remember the value that something had before block b. -/
def State.logPast (s : State) (b : W64) (k : PastKind) (a : Nat) (old : W32) : State :=
  { s with synth := { s.synth with past := s.synth.past ++ [{ block := b, kind := k, addr := a, old }] } }

/-- A register by which a sample that has left the pin is judged or corrected later (R137, R141, R238): ADC_STATUS and the slice
factors of an input port, CH_CTRL and CH_FRAME of a channel. -/
def heard (a : Nat) : Bool :=
  let off := a % 0x1000000
  decide (0x30000000 ≤ a) && decide (a < 0x40000000) &&
    ((decide (0xD000 ≤ off) && decide (off < 0xD800) && (off % 0x200 == 4 || decide (0x40 ≤ off % 0x200))) ||
     (decide (0xE000 ≤ off) && decide (off < 0xF000) && decide (off % 0x80 < 8)))

/-- Such a register is remembered as it was before the pin block. -/
def State.remember (s : State) (a : Nat) : State := if heard a then s.logPast s.pin64 .reg a (s.reg a) else s

/-- The value that a change from block x on replaced, if there was one: what held before it. -/
def State.pastOf (s : State) (k : PastKind) (a x : Nat) : Option W32 :=
  (s.synth.past.find? (fun u => u.kind == k && u.addr == a && decide (x ≤ u.block.toNat))).map (·.old)

/-- The working copy of a shadow register in block b (R127). -/
def State.workAt (s : State) (a b : Nat) : W32 := (s.pastOf .work a (b + 1)).getD (s.workReg a)

/-- A register as the samples of block b see it (R117, R131). -/
def State.regAt (s : State) (a b : Nat) : W32 := (s.pastOf .reg a (b + 1)).getD (s.reg a)

/-- A word of memory as a fetch that begins in block b finds it (R110). -/
def State.wordAt (s : State) (a b : Nat) : W32 := (s.pastOf .mem a b).getD (s.word a)

/-! ## Network time (R317, R321) -/

/-- Network time at a count of ticks under a mapping, in 2^-16 ns (R317). -/
def netTime (m : Mapping) (d : W64) : Int :=
  (m.offset : Int) + (5 * (d.toNat : Int) * (2 ^ 40 + m.rate.toInt)) / 2 ^ 31

/-- An event stamp: whole nanoseconds modulo 2^32 (R321). -/
def netStamp (m : Mapping) (d : W64) : W32 := BitVec.ofInt 32 (netTime m d / 65536)

/-! ## The Lining and the host side's buffer -/

/-- LINING_STATUS. -/
def aLining : Nat := 0x00010200
/-- FM_LINING_STATUS. -/
def aFmLining : Nat := 0x10000200
/-- RESULTS_HELD. -/
def aResultsHeld : Nat := 0x10000204
/-- RESULTS_LOST. -/
def aResultsLost : Nat := 0x10000208

/-- The Lining is up as the host side sees it (R25). -/
def State.hostUp (s : State) : Bool := s.bit aLining 0

/-- The Lining is up as the field side sees it (R25). -/
def State.fieldUp (s : State) : Bool := s.bit aFmLining 0

/-- Bytes an outward transaction takes in the 1 MiB buffer of R266. -/
def outBytes : Out → Nat
  | .records r i => 16 + 4 * (r.part i).length
  | _ => 16

/-- Bytes waiting in the 1 MiB buffer (R266). -/
def hostBufBytes (l : List Out) : Nat := l.foldl (fun n o => n + outBytes o) 0

/-- Some host link that RESULT_LINKS permits is UP (R266). -/
def State.resultLink (s : State) : Bool := !s.resultLinks.isEmpty

/-- The 1 MiB buffer has no room for another transaction of n bytes (R266). -/
def State.hostBufFull (s : State) (n : Nat) : Bool :=
  !s.resultLink && decide (0x100000 < hostBufBytes s.cmd.hostBuf + n)

/-- Send a RESULT or EVENT transaction: over a permitted link that is UP, else into the buffer (R266). -/
def State.sendResult (s : State) (o : Out) : State :=
  if s.resultLink then s.send o else { s with cmd := { s.cmd with hostBuf := s.cmd.hostBuf ++ [o] } }

/-- A permitted link has come UP: what the buffer holds leaves in order (R266). -/
def State.flushHostBuf (s : State) : State :=
  if s.resultLink then
    s.cmd.hostBuf.foldl State.send { s with cmd := { s.cmd with hostBuf := [] } }
  else s

/-! ## Events (R304-R308) -/

/-- Whether an event source is on the field side (R304). -/
def isFieldSource (n : Nat) : Bool :=
  n < 1280 || n == 1316 || n == 1317 || n == 1320 || n == 1321 || n == 1324 || n == 1326 || (1329 ≤ n && n ≤ 1333)

/-- EVT_PEND[w]. -/
def aPend (w : Nat) : Nat := 0x00060100 + 4 * w
/-- EVT_PIN_EN[w]. -/
def aPinEn (w : Nat) : Nat := 0x00060200 + 4 * w
/-- EVT_NOTICE_EN[w]. -/
def aNoticeEn (w : Nat) : Nat := 0x00060300 + 4 * w
/-- EVT_LOST. -/
def aEvtLost : Nat := 0x00060008
/-- EVT_NSEQ. -/
def aNseq : Nat := 0x0006000C

/-- The four words of a notice (R306). -/
def noticeWords (n : Notice) (nseq : Nat) : List W32 :=
  [BitVec.ofNat 32 (0x80000000 + (if n.lost then 0x08000000 else 0) + n.source * 0x10000 + nseq % 0x10000),
   BitVec.ofNat 32 (n.reg * 0x20000000 + n.bit * 0x1000000 + n.index * 0x10000 + n.detail.toNat),
   n.block, n.ns]

/-- Set a source's pending bit (R305). -/
def State.setPend (s : State) (src : Nat) : State :=
  s.setReg (aPend (src / 32)) (s.reg (aPend (src / 32)) ||| (1#32 <<< (src % 32)))

/-- The unit's own MAC address (R286, R312). -/
def State.ownMac (s : State) : BitVec 48 := (s.reg 0x0004000C).setWidth 16 ++ s.reg 0x00040008

/-- HOST_MAC, to which notice frames go (R286, R312). -/
def State.hostMac (s : State) : BitVec 48 := (s.reg 0x00040014).setWidth 16 ++ s.reg 0x00040010

/-- Form one notice and send it as EVT_CTRL directs (R306): on a host link, or dropped and counted when the buffer of
R266 is full (R308), and in a frame on MGMT_UP. -/
def State.sendNotice (s : State) (n : Notice) : State :=
  let seq := s.fld aNseq 15 0
  let ws := noticeWords n seq
  let s := s.setFld aNseq 15 0 ((seq + 1) % 0x10000)
  let s :=
    if !s.bit 0x00060000 1 then s
    else if s.hostBufFull 16 then
      let s := s.addSat aEvtLost 1
      let d := tabGet 0 s.evt.lostCount 1336
      ({ s with evt := { s.evt with lostCount := tabSet 0 s.evt.lostCount 1336 (min 0xFFFF (d + 1)) } }).setPend 1336
    else s.sendResult (.notice none ws)
  if s.bit 0x00060000 2 && s.bit 0x00040004 0 then s.send (.notice (some (s.hostMac, s.ownMac)) ws) else s

/-- The summary of notices dropped on the host side goes out once there is room (R307 row 1336). -/
def State.lostNotice (s : State) : State :=
  let d := tabGet 0 s.evt.lostCount 1336
  if d = 0 ∨ s.hostBufFull 16 then s
  else
    let s := { s with evt := { s.evt with lostCount := tabSet 0 s.evt.lostCount 1336 0 } }
    if s.bit (aNoticeEn 41) 24 then
      s.sendNotice { source := 1336, reg := 0, bit := 0, index := 0, detail := BitVec.ofNat 16 d, block := 0xFFFFFFFF
                     ns := netStamp s.time.hostMap s.clk.image, lost := false }
    else s

/-- A source is raised on the host side (R305): its pending bit is set and its notice formed. -/
def State.hostRaise (s : State) (n : Notice) : State :=
  let s := s.setPend n.source
  if s.bit (aNoticeEn (n.source / 32)) (n.source % 32) then (s.lostNotice).sendNotice n else s

/-- A field source is raised (R27, R308): its notice joins those on their way across the Lining, or, with the Lining
down or the host side taking none (R266) and 1,024 held, is dropped and its source marked in the lost map. -/
def State.fieldRaise (s : State) (n : Notice) : State :=
  if (!s.fieldUp || s.hostBufFull 16) && decide (1024 ≤ s.evt.way.length) then
    { s with evt := { s.evt with
        lostMap := if n.source ∈ s.evt.lostMap then s.evt.lostMap else s.evt.lostMap ++ [n.source]
        lostCount := tabSet 0 s.evt.lostCount n.source (min 0xFFFF (tabGet 0 s.evt.lostCount n.source + 1)) } }
  else { s with evt := { s.evt with way := s.evt.way ++ [n] } }

/-- Raise an event source (R304, R306): the notice carries the pin block and field stamp of a field source, and
0xFFFF_FFFF and the host stamp of a host source. -/
def State.raise (s : State) (source reg bit index : Nat) (detail : BitVec 16) : State :=
  if isFieldSource source then
    s.fieldRaise { source, reg, bit, index, detail, block := s.pin
                   ns := netStamp s.time.fieldMap (s.tickOf s.pin), lost := false }
  else
    s.hostRaise { source, reg, bit, index, detail, block := 0xFFFFFFFF
                  ns := netStamp s.time.hostMap s.clk.image, lost := false }

end Sys2Proof.Machine
end

