-- ==== Sys2Proof/Machine/Flags.lean ====
section
/-! DEFINITION. Every flags register of the spec, with the event source, REG and INDEX its notices carry (R53, R306,
R307), and the one operation that sets a flag. -/

namespace Sys2Proof.Machine

/-- A flags register: its address and what the notice of a 0-to-1 change names (R306, R307). -/
structure FlagReg where
  addr : Nat
  source : Nat
  reg : Nat
  index : Nat
deriving DecidableEq, Repr

/-- HEM_REFUSE_FLAGS of engine e (R64, R53). -/
def hemFlags (e : Nat) : FlagReg := ⟨hemAddr e 0x08, e, 0, 0⟩
/-- ENG_FLAGS of engine e (R105). -/
def engFlags (e : Nat) : FlagReg := ⟨engAddr e 0x0C, e, 1, 0⟩
/-- PORT_FLAGS of output port p (R122, R135). -/
def portFlags (p : Nat) : FlagReg := ⟨portAddr p 0x08, port0Eng p, 2, idxOfPort p⟩
/-- ADC_FLAGS of input port l (R165). -/
def adcFlags (l : Nat) : FlagReg := ⟨adcAddr l 0x08, 512 + 8 * l, 3, l % 4⟩
/-- CH_FLAGS of channel c (R167). -/
def chFlags (c : Nat) : FlagReg := ⟨chAddr c 0x0C, 512 + c, 4, c % 32⟩
/-- POCKET_FLAGS of the pocket of read-out tile 16 + k (R252). -/
def pocketFlags (k : Nat) : FlagReg := ⟨pocketAddr k 0x24, 512 + 32 * k, 5, 0⟩
/-- DMA_FLAGS of channel n (R236). -/
def dmaFlags (n : Nat) : FlagReg := ⟨dmaAddr n 0x0C, 1280 + n, 0, 0⟩
/-- LINK_FLAGS of a serial port (R279). -/
def linkFlags (p : LPort) : FlagReg := ⟨linkAddr p 0x08, 1312 + lportKey p, 0, 0⟩
/-- MGMT_FLAGS[p], p = 0 MGMT_UP, 1 MGMT_DN (R312). -/
def mgmtFlags (p : Nat) : FlagReg := ⟨0x0004002C + 0x10 * p, 1318 + p, 0, 0⟩
/-- ONET_FLAGS (R185). -/
def onetFlags : FlagReg := ⟨0x10030004, 1320, 0, 0⟩
/-- MEND_FLAGS (R213). -/
def mendFlags : FlagReg := ⟨0x10040014, 1321, 0, 0⟩
/-- CTRL_FLAGS of a controller (R380). -/
def ctrlFlags (c : Ctl) : FlagReg := ⟨ctrlAddr c 0x0C, if c = .ci then 1323 else 1324, 0, 0⟩
/-- The boot flags of a side (R440). -/
def bootFlags (d : Side) : FlagReg := ⟨bootAddr d 4, if d = .host then 1323 else 1324, 1, 0⟩
/-- TIME_FLAGS (R338). -/
def timeFlags : FlagReg := ⟨0x00050008, 1325, 0, 0⟩
/-- PAIR_FLAGS (R361). -/
def pairFlags : FlagReg := ⟨0x10020008, 1326, 0, 0⟩
/-- NV_FLAGS (R423). -/
def nvFlags : FlagReg := ⟨0x00070004, 1327, 0, 0⟩
/-- HH_FLAGS (R406). -/
def hhFlags : FlagReg := ⟨0x00080004, 1328, 0, 0⟩
/-- FH_FLAGS (R403). -/
def fhFlags : FlagReg := ⟨0x10050008, 1329, 0, 0⟩
/-- CANARY_FLAGS (R424). -/
def canaryFlags : FlagReg := ⟨0x10053008, 1329, 1, 0⟩
/-- YOKE_FLAGS of yoke y (R404). -/
def yokeFlags (y : Nat) : FlagReg := ⟨yokeAddr y 8, 1330 + y, 0, 0⟩
/-- WEAR_FLAGS (R423). -/
def wearFlags : FlagReg := ⟨0x00080204, 1334, 0, 0⟩
/-- BH_FLAGS (R423). -/
def bhFlags : FlagReg := ⟨0x00090008, 1335, 0, 0⟩

/-- Set a flag with the DETAIL its notice carries. Its 0-to-1 change raises the source; a flag already set is left as
it is, without a new event (R53). -/
def State.flagD (s : State) (f : FlagReg) (bit : Nat) (detail : BitVec 16) : State :=
  if s.bit f.addr bit then s
  else (s.setReg f.addr (s.reg f.addr ||| (1#32 <<< bit))).raise f.source f.reg bit f.index detail

/-- Set a flag. -/
def State.flag (s : State) (f : FlagReg) (bit : Nat) : State := s.flagD f bit 0

/-- Set several flags of one register, lowest first. -/
def State.flags (s : State) (f : FlagReg) : List Nat → State
  | [] => s
  | b :: bs => (s.flag f b).flags f bs

/-- Apply a state change over a list, in order. -/
def foldS {α : Type} (l : List α) (f : α → State → State) (s : State) : State := l.foldl (fun s x => f x s) s

end Sys2Proof.Machine
end

