-- ==== Sys2Proof/Machine/CmdOps.lean ====
section
/-! DEFINITION. The command unit (spec/11): status codes, the packet checks of R283 and R284, the repeat cache of R292,
replies (R290) and long commands (R291, R294). -/

namespace Sys2Proof.Machine

/-- OK. -/
def stOk : Byte := 0x00
/-- PENDING. -/
def stPending : Byte := 0x01
/-- BAD_OPCODE. -/
def stBadOpcode : Byte := 0x10
/-- BAD_PARAM. -/
def stBadParam : Byte := 0x11
/-- MISALIGNED. -/
def stMisaligned : Byte := 0x12
/-- RANGE. -/
def stRange : Byte := 0x13
/-- BUSY. -/
def stBusy : Byte := 0x20
/-- REFUSED_LATE. -/
def stRefusedLate : Byte := 0x21
/-- AUTH_FAIL. -/
def stAuthFail : Byte := 0x30
/-- MACHINE_CHECK. -/
def stMachineCheck : Byte := 0x40
/-- NOT_OWNER. -/
def stNotOwner : Byte := 0x50
/-- NOT_PAIRED. -/
def stNotPaired : Byte := 0x51
/-- INTERNAL. -/
def stInternal : Byte := 0x7F

/-- CMD_COUNT. -/
def aCmdCount : Nat := 0x00010008
/-- CMD_ERR_COUNT. -/
def aCmdErrCount : Nat := 0x0001000C
/-- CMD_LAST_ERR. -/
def aCmdLastErr : Nat := 0x00010018
/-- MGMT_STATUS. -/
def aMgmtStatus : Nat := 0x00040004

/-- MGMT_UP or MGMT_DN has link (R313). -/
def State.mgmtLink (s : State) (up : Bool) : Bool := s.bit aMgmtStatus (if up then 0 else 1)

/-- The unit's address in force (R301, R313). -/
def State.unitAddr (s : State) : Byte := BitVec.ofNat 8 (s.fld aMgmtStatus 15 8)

/-- The unit's serial number, as two big-endian parameter words (R294). -/
def serialWords : List W32 := [(Config.serial >>> 32).setWidth 32, Config.serial.setWidth 32]

/-- CTRL_STATUS.MODE of a controller (R380). -/
def State.ctlMode (s : State) (c : Ctl) : Nat := s.fld (ctrlAddr c 8) 2 0

/-- ACK_REQ of a packet (R282). -/
def ackReq (h : Hdr) : Bool := h.flags.getLsbD 1
/-- TWIN of a packet (R282). -/
def twinFlag (h : Hdr) : Bool := h.flags.getLsbD 3
/-- PAIR of a packet (R282). -/
def pairFlag (h : Hdr) : Bool := h.flags.getLsbD 4

/-- The opcodes of R294. -/
def opcodes : List Nat :=
  [0x01, 0x02, 0x03, 0x04, 0x05, 0x06, 0x10, 0x11, 0x20, 0x21, 0x22, 0x23, 0x30, 0x31, 0x40, 0x41, 0x50, 0x51, 0x60, 0x61,
   0x62, 0x63, 0x70, 0x71, 0x72, 0x78, 0x7F]

/-- The opcodes valid for VERSION 0x01 (R284). -/
def opcodesV1 : List Nat := [0x01, 0x02, 0x03, 0x04, 0x05, 0x06, 0x20, 0x21, 0x22, 0x23, 0x7F]

/-- Orders 4 to 6 of R283 with R284: the status a packet's header is refused with. -/
def State.headerStatus (s : State) (h : Hdr) (op : Nat) (len : Nat) : Option Byte :=
  let v1 := h.ver = 1 ∧ s.bit 0x00010000 0
  if h.ver ≠ 2 ∧ ¬ v1 then some stBadParam
  else if len % 4 ≠ 0 ∨ 8192 < len ∨ (h.flags &&& 0xFFE0) ≠ 0 ∨ (v1 ∧ (h.flags &&& 0x1C) ≠ 0) then some stBadParam
  else if op ∉ opcodes ∨ (v1 ∧ op ∉ opcodesV1) then some stBadOpcode
  else none

/-- The packet's VERSION is supported (R281, R283 order 4). -/
def State.verOk (s : State) (h : Hdr) : Bool := h.ver == 2 || (h.ver == 1 && s.bit 0x00010000 0)

/-- The header that answers a refused packet (R283 order 4): VERSION 0x02 where its own is not supported. -/
def State.refusedHdr (s : State) (h : Hdr) : Hdr := if s.verOk h then h else { h with ver := 2 }

/-- The packet and cache entry name one packet (R292). -/
def Cached.isFor (c : Cached) (h : Hdr) : Bool := c.port == h.port && c.seq == h.seq && c.tag == h.tag && c.crc == h.crc

/-- The repeat cache entry of a packet (R292). -/
def State.cached (s : State) (h : Hdr) : Option Cached := s.cmd.cache.find? (fun c => Cached.isFor c h)

/-- Send a reply unless R290 leaves it out: OK and PENDING without reply parameters go only on ACK_REQ. -/
def State.sendReply (s : State) (h : Hdr) (r : Reply) : State :=
  if (r.status = stOk ∨ r.status = stPending) ∧ ackReq h = false ∧ r.params.isEmpty then s
  else s.send (.reply r)

/-- The reply to a packet (R290), with the packet's VERSION (R284), to the MAC it came from (R286). -/
def State.mkReply (s : State) (h : Hdr) (op : Nat) (status : Byte) (ps : List W32) : Reply :=
  { port := h.port, mac := h.mac, src := s.unitAddr, ver := if h.ver = 1 then 1 else 2, opcode := BitVec.ofNat 8 op, seq := h.seq, tag := h.tag
    status, params := ps }

/-- A final reply whose status is an error is counted, recorded, and raises source 1323 with REG 2 (R307, R312). -/
def State.countError (s : State) (h : Hdr) (op : Nat) (status : Byte) : State :=
  if status = stOk ∨ status = stPending then s
  else
    let d : BitVec 16 := BitVec.ofNat 16 (op * 256 + status.toNat)
    ((s.addSat aCmdErrCount 1).setReg aCmdLastErr (d ++ h.seq)).raise 1323 2 0 0 d

/-- Keep at most 64 entries of a port in the repeat cache, the newest (R292). -/
def trimCache (p : CPort) (l : List Cached) : List Cached :=
  if 64 < (l.filter (·.port == p)).length then
    match l.findIdx? (·.port == p) with
    | some i => l.eraseIdx i
    | none => l
  else l

/-- Put a packet in the repeat cache, or its final reply beside it (R292). -/
def State.cachePut (s : State) (h : Hdr) (final : Option Reply) : State :=
  let l := s.cmd.cache
  let l' :=
    if l.any (fun c => Cached.isFor c h) then l.map (fun c => if Cached.isFor c h then { c with final } else c)
    else trimCache h.port (l ++ [{ port := h.port, seq := h.seq, tag := h.tag, crc := h.crc, final }])
  { s with cmd := { s.cmd with cache := l' } }

/-- The packet leaves the CI's queue as it is executed (R291). -/
def State.dequeue (s : State) (h : Hdr) : State :=
  let q := s.cmd.queue
  let q' := match q.findIdx? (fun p => p.h == h) with
    | some i => q.eraseIdx i
    | none => q
  { s with cmd := { s.cmd with queue := q' } }

/-- A command ends its first execution with a status and reply parameters (R290): it is counted, cached and
answered. -/
def State.finish (s : State) (h : Hdr) (op : Nat) (status : Byte) (ps : List W32 := []) : State :=
  let r := s.mkReply h op status ps
  let s := (s.dequeue h).addSat aCmdCount 1
  let s := s.cachePut h (if status = stPending then none else some r)
  (s.countError h op status).sendReply h r

/-- The final reply of a command that replied PENDING (R290). -/
def State.finalReply (s : State) (h : Hdr) (op : Nat) (status : Byte) (ps : List W32 := []) : State :=
  let r := s.mkReply h op status ps
  ((s.cachePut h (some r)).countError h op status).sendReply h r

/-- A command begins that is answered later, without PENDING (R193). -/
def State.hold (s : State) (h : Hdr) : State := ((s.dequeue h).addSat aCmdCount 1).cachePut h none

/-! ## Which commands the unit takes -/

/-- The host side is out of reset, powered and not shut down (R394): the CI runs. -/
def State.hostAlive (s : State) : Bool := s.pins.hostOn && s.pins.hostPower && !s.pins.hostShut

/-- The field side is out of reset and powered. -/
def State.fieldAlive (s : State) : Bool := s.pins.fieldOn && s.pins.fieldPower

/-- HOST_READY (R430): from then on the CI serves its queue. -/
def State.hostReady (s : State) : Bool := s.bit 0x00010100 0

/-- The identity block (R446). -/
def inIdBlock (a : W32) : Bool := a.toNat < 0x10000

/-- The opcodes an unaddressed unit executes (R301): READ and READ_BLOCK of the identity block only. -/
def unaddressedOk (op : Nat) (addr : W32) : Bool :=
  op == 0x01 || op == 0x10 || op == 0x11 || ((op == 0x02 || op == 0x04) && inIdBlock addr)

/-- What a command is refused with before its own checks (R283, R301, R373, R27): a halted controller answers INTERNAL,
and so does a field target with the Lining down. A packet from the queue has passed the checks of its header. addr is the address a READ names. -/
def State.gate (s : State) (h : Hdr) (op : Nat) (field : Bool) (addr : W32 := 0) : Option Byte :=
  match (if s.cmd.queue.any (fun p => p.h == h) then none else s.headerStatus h op 0) with
  | some st => some st
  | none =>
    if s.unitAddr = 0 ∧ !unaddressedOk op addr then some stBadParam
    else if field && (!s.hostUp || s.ctlMode .fm == 4) then some stInternal
    else none

/-- A repeated packet is answered from the cache, or PENDING while its command has not finished (R292). -/
def State.resend (s : State) (h : Hdr) (op : Nat) (c : Cached) : State :=
  match c.final with
  | some r => (s.dequeue h).sendReply h r
  | none => (s.dequeue h).sendReply h (s.mkReply h op stPending [])

/-- A packet that waits in the queue is taken when it is the first (R291). -/
def State.myTurn (s : State) (h : Hdr) : Bool :=
  match s.cmd.queue with
  | [] => true
  | p :: q => p.h == h || !q.any (fun x => x.h == h)

/-- Run a command's own part when the CI takes it (R283 order 7), which it does once HOST_READY is set (R430): a packet the
cache already holds is not executed again (R292), one behind others in the queue waits (R291). -/
def State.runCmd (s : State) (h : Hdr) (op : Nat) (field : Bool) (body : State → State) (addr : W32 := 0) : State :=
  if !s.hostAlive || !s.hostReady || !s.myTurn h then s
  else if s.ctlMode .ci = 4 then s.finish h op stInternal
  else match s.cached h, s.gate h op field addr with
    | some c, _ => s.resend h op c
    | none, some st => s.finish (s.refusedHdr h) op st
    | none, none => body s

/-! ## Long commands (R291, R367, R368) -/

/-- The privileged routine that a controller runs. -/
def State.long (s : State) : Ctl → Option Long
  | .ci => s.cmd.ci
  | .fm => s.cmd.fm

/-- Set a controller's routine; CTRL_STATUS.ROUTINE shows its opcode (R380). -/
def State.setLong (s : State) (c : Ctl) (l : Option Long) : State :=
  let s := { s with cmd := match c with
      | .ci => { s.cmd with ci := l }
      | .fm => { s.cmd with fm := l } }
  s.setFld (ctrlAddr c 8) 15 8 (match l with | some x => x.op.toNat | none => 0)

/-- Begin a long command in a controller: PENDING (R294), or BUSY where the controller runs one already (R291). -/
def State.startLong (s : State) (c : Ctl) (h : Hdr) (op : Nat) (arg : W32) (tiles : List Nat) (body : State → State) :
    State :=
  if (s.long c).isSome then s.finish h op stBusy
  else
    let s := s.finish h op stPending
    body (s.setLong c (some { op := BitVec.ofNat 8 op, h, arg, tiles, failed := false, journal := [], answered := false, sig := [] }))

/-- Set a register and note its earlier value in the controller's journal (R368). -/
def State.setJournal (s : State) (c : Ctl) (a : Nat) (v : W32) : State :=
  let old := s.reg a
  let s := (s.remember a).setReg a v
  match s.long c with
  | some l => s.setLong c (some { l with journal := (a, old) :: l.journal })
  | none => s

/-- A long command ends with its final reply. -/
def State.endLong (s : State) (c : Ctl) (status : Byte) (ps : List W32 := []) : State :=
  match s.long c with
  | some l => if l.answered then s.setLong c none else (s.setLong c none).finalReply l.h l.op.toNat status ps
  | none => s

end Sys2Proof.Machine
end

