-- ==== Sys2Proof/Machine/Operands.lean ====
section
/-! DEFINITION. The operand forms of the engine instructions (R77-R98): each instruction word's fields, read from the
64-bit word, or none where a reserved bit is set, a field holds a reserved value, or a field the form does not use is
not 0. -/

namespace Sys2Proof.Machine

/-- Bits [hi:lo] of an instruction word as a number. -/
def ib (w : W64) (hi lo : Nat) : Nat := (w.toNat / 2 ^ lo) % 2 ^ (hi + 1 - lo)

/-- Bit b of an instruction word. -/
def ibit (w : W64) (b : Nat) : Bool := w.getLsbD b

/-- The OPCODE of an instruction word (R77). -/
def opcodeOf (w : W64) : Nat := ib w 63 58

/-- A number of n bits as a signed one. -/
def signedOf (n v : Nat) : Int := if 2 ^ (n - 1) ≤ v then (v : Int) - 2 ^ n else v

/-- HALT, NOP, SHOT_END and RETURN: bits [57:0] reserved (R77, R90). -/
def bareOk (w : W64) : Bool := ib w 57 0 == 0

/-- The fields of PLAY (R78). -/
structure PlayOp where
  env : Nat
  len : Nat
  amp : BitVec 16
  sel : Nat
  armed : Bool
deriving DecidableEq, Repr

/-- PLAY's operand form (R78). -/
def decPlay (w : W64) : Option PlayOp :=
  if ib w 9 0 = 0 then
    some { env := ib w 57 41, len := ib w 40 29, amp := BitVec.ofNat 16 (ib w 28 13), sel := ib w 12 11
           armed := ibit w 10 }
  else none

/-- The fields of PLAY_STREAM (R78). -/
structure StreamOp where
  len : Nat
  amp : BitVec 16
  sel : Nat
deriving DecidableEq, Repr

/-- PLAY_STREAM's operand form (R78). -/
def decStream (w : W64) : Option StreamOp :=
  if ib w 57 41 = 0 ∧ ib w 5 0 = 0 then
    some { len := ib w 40 24, amp := BitVec.ofNat 16 (ib w 23 8), sel := ib w 7 6 }
  else none

/-- The fields of WAIT (R80). -/
structure WaitOp where
  blocks : W32
  ticks : BitVec 6
  ctr : Option Nat
deriving DecidableEq, Repr

/-- WAIT's operand form (R80). -/
def decWait (w : W64) : Option WaitOp :=
  if ib w 16 0 = 0 then
    some { blocks := BitVec.ofNat 32 (ib w 57 26), ticks := BitVec.ofNat 6 (ib w 25 20)
           ctr := if ibit w 19 then some (ib w 18 17) else none }
  else none

/-- WAIT_UNTIL's operand form: BLOCK and BASE (R80). -/
def decWaitUntil (w : W64) : Option (W32 × Nat) :=
  if ib w 23 0 = 0 ∧ ib w 25 24 ≠ 3 then some (BitVec.ofNat 32 (ib w 57 26), ib w 25 24) else none

/-- SET_FREQ's operand form: FREQ, FRAME_SEL and MODE (R84). -/
def decSetFreq (w : W64) : Option (BitVec 48 × Nat × Bool) :=
  if ib w 6 0 = 0 then some (BitVec.ofNat 48 (ib w 57 10), ib w 9 8, ibit w 7) else none

/-- SHIFT_PHASE's operand form: PHASE, FRAME_SEL, and CTR when USE_CTR = 1 (R84). -/
def decShift (w : W64) : Option (W32 × Nat × Option Nat) :=
  if ib w 20 0 = 0 then
    some (BitVec.ofNat 32 (ib w 57 26), ib w 25 24, if ibit w 23 then some (ib w 22 21) else none)
  else none

/-- SET_PHASE's operand form: PHASE and FRAME_SEL (R84). -/
def decSetPhase (w : W64) : Option (W32 × Nat) :=
  if ib w 23 0 = 0 then some (BitVec.ofNat 32 (ib w 57 26), ib w 25 24) else none

/-- FRAME_PAULI's operand form: FRAME_SEL, X_OP and Z_OP (R84). -/
def decPauli (w : W64) : Option (Nat × BitVec 2 × BitVec 2) :=
  if ib w 51 0 = 0 then some (ib w 57 56, BitVec.ofNat 2 (ib w 55 54), BitVec.ofNat 2 (ib w 53 52)) else none

/-- The fields of ACQUIRE (R85). -/
structure AcqOp where
  mask : BitVec 8
  offset : Nat
  len : Nat
  wset : Nat
deriving DecidableEq, Repr

/-- ACQUIRE's operand form: CH_MASK 0 and LENGTH outside 1 to 2,048 are reserved (R85). -/
def decAcquire (w : W64) : Option AcqOp :=
  if ib w 21 0 = 0 ∧ ib w 57 50 ≠ 0 ∧ 1 ≤ ib w 37 26 ∧ ib w 37 26 ≤ 2048 then
    some { mask := BitVec.ofNat 8 (ib w 57 50), offset := ib w 49 38, len := ib w 37 26, wset := ib w 25 22 }
  else none

/-- What PUBLISH publishes (R86). -/
inductive PubSrc where
  | value (v : Bool) | slot (n : Nat) | parity (mask : Nat)
deriving DecidableEq, Repr

/-- PUBLISH's operand form: PUB_ID, the source with the fields it does not use 0, and INVERT (R86). -/
def decPublish (w : W64) : Option (Nat × PubSrc × Bool) :=
  let id := ib w 57 48
  let slot := ib w 45 42
  let mask := ib w 41 26
  let v := ibit w 25
  let inv := ibit w 24
  if ib w 23 0 ≠ 0 then none
  else match ib w 47 46 with
  | 0 => if slot = 0 ∧ mask = 0 then some (id, .value v, inv) else none
  | 1 => if mask = 0 ∧ v = false then some (id, .slot slot, inv) else none
  | 2 => if slot = 0 ∧ v = false ∧ mask ≠ 0 then some (id, .parity mask, inv) else none
  | _ => none

/-- The fields of BRANCH (R92). -/
structure BranchOp where
  cond : Nat
  target : Nat
  neg : Bool
  absentAct : Nat
  slot : Nat
  ctr : Nat
  cmp : Nat
  imm : Int
  keep : Bool
  trig : Nat
  state : Nat
deriving DecidableEq, Repr

/-- BRANCH's operand form: a field that the condition does not use must be 0 (R92). -/
def decBranch (w : W64) : Option BranchOp :=
  let cond := ib w 57 54
  let outcome := cond = 1 ∨ cond = 2 ∨ cond = 3
  let reads := outcome ∨ cond = 7
  if cond ≤ 7 ∧ ib w 2 0 = 0 ∧ (outcome ∨ ib w 38 37 = 0) ∧ (reads ∨ ib w 36 33 = 0) ∧ (reads ∨ ib w 8 8 = 0) ∧
     (cond = 6 ∨ ib w 32 29 = 0) ∧ (cond = 5 ∨ cond = 6 ∨ ib w 28 9 = 0) ∧ (cond = 4 ∨ cond = 5 ∨ ib w 7 5 = 0) ∧
     (cond = 2 ∨ ib w 4 3 = 0) then
    some { cond, target := ib w 53 40, neg := ibit w 39, absentAct := ib w 38 37, slot := ib w 36 33
           ctr := ib w 32 31, cmp := ib w 30 29, imm := signedOf 20 (ib w 28 9), keep := ibit w 8
           trig := ib w 7 5, state := ib w 4 3 }
  else none

/-- LOOP's operand form: CTR and TARGET (R90). -/
def decLoop (w : W64) : Option (Nat × Nat) :=
  if ib w 55 54 = 0 ∧ ib w 39 0 = 0 then some (ib w 57 56, ib w 53 40) else none

/-- CALL's operand form: TARGET (R90). -/
def decCall (w : W64) : Option Nat :=
  if ib w 57 54 = 0 ∧ ib w 39 0 = 0 then some (ib w 53 40) else none

/-- The fields of MARK (R89). -/
structure MarkOp where
  event : Bool
  pin : Nat
  width : Nat
  code : BitVec 16
deriving DecidableEq, Repr

/-- MARK's operand form: WIDTH 0 is illegal with MODE = 0 (R89). -/
def decMark (w : W64) : Option MarkOp :=
  if ib w 31 0 = 0 ∧ (ibit w 57 ∨ ib w 53 48 ≠ 0) then
    some { event := ibit w 57, pin := ib w 56 54, width := ib w 53 48, code := BitVec.ofNat 16 (ib w 47 32) }
  else none

/-- SYNC's operand form: GROUP and OFFSET (R87). -/
def decSync (w : W64) : Option (Nat × Nat) :=
  if ib w 39 0 = 0 then some (ib w 57 52, ib w 51 40) else none

/-- COMMIT's operand form: whether the scope is the tile, and OFFSET (R87). -/
def decCommit (w : W64) : Option (Bool × Nat) :=
  if ib w 43 0 = 0 ∧ ib w 57 56 < 2 then some (ib w 57 56 == 1, ib w 55 44) else none

/-- The fields of ARM_JUMP (R98). -/
def decArm (w : W64) : Option Arm :=
  if ib w 21 0 = 0 then
    some { trig := ibit w 57, pin := ib w 56 54, target := ib w 53 40, slot := ib w 39 36
           value := BitVec.ofNat 2 (ib w 35 34), fEvent := ib w 33 22, span := none }
  else none

/-- The fields of COUNTER (R89). -/
structure CounterOp where
  ctr : Nat
  op : Nat
  src : Nat
  slot : Nat
  imm : W32
deriving DecidableEq, Repr

/-- COUNTER's operand form: OP 5 to 7 are reserved (R89). -/
def decCounter (w : W64) : Option CounterOp :=
  if ib w 46 32 = 0 ∧ ib w 55 53 ≤ 4 then
    some { ctr := ib w 57 56, op := ib w 55 53, src := ib w 52 51, slot := ib w 50 47
           imm := BitVec.ofNat 32 (ib w 31 0) }
  else none

/-- COUNTER C[CTR] CMP IMM of BRANCH, signed (R92, R93). -/
def cmpHolds (cmp : Nat) (c imm : Int) : Bool :=
  match cmp with
  | 0 => c == imm
  | 1 => c != imm
  | 2 => decide (c < imm)
  | _ => decide (imm ≤ c)

end Sys2Proof.Machine
end

