-- ==== Sys2Proof/Machine/EngineOps.lean ====
section
/-! DEFINITION. Shared operations of the engines, their START sets and SYNC instances (spec/03 R68-R106), of window
contexts (R155, R156), accepted work and stream windows (R58, R102), and of outcomes on the network (spec/06). -/

namespace Sys2Proof.Machine

/-! ## Modes of the module -/

/-- PAIR_STATUS. -/
def aPairStatus : Nat := 0x10020004

/-- The pair state's code (R340). -/
def State.pairState (s : State) : Nat := s.fld aPairStatus 2 0

/-- The unit's outputs are in the standby-muted state (R130, R351): on a pair board, until it drives and reads
INTERLOCK low. -/
def State.muted (s : State) : Bool := s.pins.pairPresent && !s.pair.unmuted

/-- The module is a half of a twinset (R61). -/
def State.twin (s : State) : Bool := s.hem.config.getLsbD 0

/-- The module is a unit of a redundant configuration (R61). -/
def State.redundant (s : State) : Bool := s.hem.config.getLsbD 1

/-- The unit shadows an active unit: STANDBY, SYNCING or SUSPECT (R310, R340). -/
def State.shadow (s : State) : Bool := s.pairState == 4 || s.pairState == 5 || s.pairState == 6

/-- The unit is a twinset follow (R361 TWIN_ROLE 2). -/
def State.follow (s : State) : Bool := s.fld aPairStatus 4 3 == 2

/-- FAST_FEEDBACK in force (R62): a pending change counts from its block of effect. -/
def State.fastNow (s : State) : Bool :=
  match s.hem.fastPend with
  | some (v, some b) => if b.toNat ≤ s.pin64.toNat then v else s.hem.fast
  | _ => s.hem.fast

/-- The local feedback floor in force (R47). -/
def State.floorLocal (s : State) : Nat :=
  (if s.redundant then 96 else 80) - (if s.fastNow then 12 else 0)

/-- The remote feedback floor in force; 0 where no remote outcomes exist (R47, R63). -/
def State.floorRemote (s : State) : Nat :=
  if s.twin then (if s.redundant then 116 else 100) - (if s.fastNow then 12 else 0) else 0

/-- LEAD_REQ of the band in force (R56). -/
def State.leadReq (s : State) : Nat := 31 + 3 * s.hem.band.toNat

/-- The remote deadline D (R177); 0 outside a twinset (R185). -/
def State.deadlineD (s : State) : Nat := if s.twin then (if s.fastNow then 53 else 55) else 0

/-- The mirror deadline D_M (R177); 0 outside a redundant configuration. -/
def State.deadlineM (s : State) : Nat := if s.redundant then (if s.fastNow then 49 else 51) else 0

/-- The deadline D_MR of a mirrored remote outcome (R177); 0 outside a redundant twinset. -/
def State.deadlineMR (s : State) : Nat :=
  if s.redundant && s.twin then (if s.fastNow then 69 else 71) else 0

/-! ## Engine states -/

/-- The engine is in a shot: RUNNING or WAITING (R68). -/
def Engine.inShot (x : Engine) : Bool := x.st == .running || x.st == .waiting

/-- The engine is RUNNING, WAITING or HALTED: host writes to its registers are refused (R104). -/
def Engine.active (x : Engine) : Bool := x.inShot || x.st == .halted

/-- Some engine of the module is RUNNING, WAITING or HALTED (R97, R107, R185). -/
def State.anyActive (s : State) : Bool := s.engines.any (fun p => p.2.active)

/-- Some engine of the module is in a shot (R62, R298). -/
def State.anyInShot (s : State) : Bool := s.engines.any (fun p => p.2.inShot)

/-- Some engine of tile n is RUNNING, WAITING or HALTED (R76). -/
def State.tileActive (s : State) (n : Nat) : Bool :=
  s.engines.any (fun p => tileOfEng p.1 == n && p.2.active)

/-- The end of a segment or window: START plus LENGTH, or where it was cut (R41, R99). -/
def Desc.len : Body → Nat
  | .play _ l _ _ => l
  | .stream l _ _ => l
  | .acquire _ _ l => l
  | _ => 0

/-- The start point of a descriptor. -/
def Desc.at (d : Desc) : Tm := { b := d.start, t := d.tick }

/-- The end point of a descriptor's segment or window. -/
def Desc.fin (d : Desc) : Tm := d.at.plus (BitVec.ofNat 32 (Desc.len d.body))

/-- The end point of accepted work. -/
def Work.fin (w : Work) : Tm := w.cut.getD w.d.fin

/-- A descriptor that makes a segment (R45). -/
def Desc.isSeg (d : Desc) : Bool :=
  match d.body with
  | .play .. | .stream .. => true
  | _ => false

/-- The bytes of stream data a descriptor needs: a granule is 16 bytes (R41, R101). -/
def Desc.streamBytes (d : Desc) : Nat :=
  match d.body with
  | .stream l _ _ => 16 * l
  | _ => 0

/-- KIND of a descriptor (R41). -/
def Desc.kind (d : Desc) : Nat :=
  match d.body with
  | .play .. => 0
  | .stream .. => 1
  | .acquire .. => 2
  | .mark .. => 3
  | .frame .. => 4

/-- The 64-bit number of the block in which accepted work ends. -/
def Work.end64 (w : Work) : W64 := w.b64 + (w.fin.b - w.d.start).signExtend 64

/-- Work that has ended by the pin block: a segment whose end has passed, or a window whose end has passed. -/
def State.workDone (s : State) (w : Work) : Bool :=
  match w.d.body with
  | .mark .. | .frame .. => false
  | _ => w.stage != .queued && decide (w.end64.toNat + (if w.fin.t = 0 then 0 else 1) ≤ s.pin64.toNat)

/-- The engine's accepted work that has not ended. -/
def State.liveWork (s : State) (e : Nat) : List Work := (s.eng e).work.filter (fun w => !s.workDone w)

/-- The engine holds accepted work (R37, R131, R142, R386). -/
def State.holdsWork (s : State) (e : Nat) : Bool := !(s.liveWork e).isEmpty

/-- Descriptors in the engine's queue (R43). -/
def State.queueLevel (s : State) (e : Nat) : Nat := ((s.eng e).work.filter (fun w => w.stage == .queued)).length

/-- A segment of the engine is at the pin (R66). -/
def State.playing (s : State) (e : Nat) : Bool :=
  (s.liveWork e).any (fun w => w.stage == .playing && w.d.isSeg)

/-- Granules of a segment that have played by the pin block: granule k plays in block START + k (R101, R102). -/
def State.granulesPlayed (s : State) (w : Work) : Nat :=
  if w.stage = .playing then min (Desc.len w.d.body) (s.pin64.toNat - w.b64.toNat) else 0

/-- Bytes that a stream segment still holds in its window (R102): consumed as it plays, and discarded at the point of its
truncation. -/
def State.bytesHeld (s : State) (w : Work) : Nat :=
  if s.workDone w then 0 else w.samples.length - 16 * s.granulesPlayed w

/-- Bytes in the engine's stream window, reserved or not (R105). -/
def State.streamHeld (s : State) (e : Nat) : Nat :=
  (s.eng e).stream.data.length + ((s.eng e).work.map s.bytesHeld).sum

/-- The engine drains (R58, R66): disabled under DRAIN with work remaining. -/
def State.drains (s : State) (e : Nat) : Bool := (s.eng e).draining && (s.eng e).st == .disabled && s.holdsWork e

/-- Set an engine's state and wait cause. -/
def State.setSt (s : State) (e : Nat) (st : EngSt) (cause : Nat := 0) : State :=
  s.modEng e (fun x => { x with st := st, cause := cause })

/-- A released engine goes on (R43, R91): WAITING for a Hem answer becomes RUNNING. -/
def State.release (s : State) (e : Nat) (cause : Nat) : State :=
  s.modEng e (fun x => if x.st = .waiting ∧ x.cause = cause then { x with st := .running, cause := 0 } else x)

/-- The per-shot state of R73 is cleared. -/
def Engine.clearShot (x : Engine) : Engine :=
  { x with stack := [], slots := [], trigs := [], decL := none, decR := none, arm := none, live := []
           refuse := false, goEnd := false, gone := [], syncs := [] }

/-! ## START sets -/

/-- The START set with an identity. -/
def State.findSet (s : State) (id : Nat) : Option StartSet := s.sets.find? (fun g => g.id == id)

/-- Change the START set with an identity. -/
def State.modSet (s : State) (id : Nat) (f : StartSet → StartSet) : State :=
  { s with sets := s.sets.map (fun g => if g.id = id then f g else g) }

/-! ## Window contexts (R155, R156) -/

/-- The channels a mask names on the feedline of probe engine e (R85). -/
def maskChans (e : Nat) (mask : BitVec 8) : List Nat :=
  ((List.range 8).filter (fun i => mask.getLsbD i)).map (8 * ((e - 512) / 8) + ·)

/-- A context that counts among the five: one refused or overrun is not held (R155, R156). -/
def Ctx.isHeld (c : Ctx) : Bool := c.dead != some 0 && c.dead != some 3

/-- Contexts a channel holds (R155). -/
def State.ctxHeld (s : State) (c : Nat) : Nat := ((s.ctxs c).filter Ctx.isHeld).length

/-- The last element that passes a test is changed. -/
def modLast {α : Type} (p : α → Bool) (f : α → α) (l : List α) : List α :=
  let r := l.reverse
  (r.takeWhile (fun x => !p x) ++ (match r.dropWhile (fun x => !p x) with | [] => [] | x :: t => f x :: t)).reverse

/-- The windows of an ACQUIRE end ABSENT with a cause (R156). -/
def State.killWindows (s : State) (e : Nat) (d : Desc) (cause : Nat) : State :=
  match d.body with
  | .acquire mask _ len =>
    foldS (maskChans e mask) (fun c s =>
      s.setCtxs c (modLast (fun x => x.eng == e && x.start == d.start && x.tick == d.tick && x.len == len && x.dead.isNone)
        (fun x => { x with dead := some cause }) (s.ctxs c))) s
  | _ => s

/-! ## Removing descriptors (R58, R99, R102) -/

/-- DISCARD_TOTAL. -/
def aDiscardTotal : Nat := 0x10010028

/-- Count a dropped, discarded or withdrawn descriptor (R58, R60). -/
def State.countDiscard (s : State) (e : Nat) : State := (s.addSat (hemAddr e 0x20) 1).addSat aDiscardTotal 1

/-- The live arm of a segment that will not play lapses (R98). -/
def State.lapseArm (s : State) (e : Nat) (d : Desc) : State :=
  if d.armed then s.modEng e (fun x => { x with live := x.live.filter (fun a => a.span != some (d.at, d.fin)) }) else s

/-- A descriptor that was offered and never accepted goes: its windows end ABSENT. -/
def State.dropOffer (s : State) (e : Nat) (d : Desc) (cause : Nat) : State :=
  (s.killWindows e d cause).lapseArm e d

/-- An accepted descriptor is dropped (R58): counted, its windows ABSENT REMOVED; the samples it reserved go with it
(R102). -/
def State.dropWork (s : State) (e : Nat) (w : Work) : State := (s.countDiscard e).dropOffer e w.d 1

/-- Drop the work that has not ended and passes a test. -/
def State.dropWhere (s : State) (e : Nat) (p : Work → Bool) : State :=
  let gone := fun w => !s.workDone w && p w
  let x := s.eng e
  let t := s.modEng e (fun x => { x with work := x.work.filter (fun w => !gone w) })
  foldS (x.work.filter gone) (fun w s => s.dropWork e w) t

/-- Withdraw the engine's waiting offer, and the ACQUIRE it holds for a pledge (R46, R156). -/
def State.withdraw (s : State) (e : Nat) : State :=
  let x := s.eng e
  let s := match x.pledgeWait with
    | some d => (s.dropOffer e d.1 1).modEng e (fun x => { x with pledgeWait := none })
    | none => s
  match x.offer with
  | some o => ((s.countDiscard e).dropOffer e o.d 1).modEng e (fun x => { x with offer := none })
  | none => s

/-- A segment that has not ended ends at a point: the rest of it never plays (R99, R58). -/
def State.cutAt (s : State) (e : Nat) (p : Work → Bool) (x : Tm) : State :=
  s.modEng e (fun g => { g with
    work := g.work.map (fun w => if !s.workDone w && p w && tmLt x w.fin then { w with cut := some x } else w) })

/-! ## Leaving a START set (R71) -/

/-- An engine in a shot remembers an engine that has reported at its shot rendezvous or left its START set (R175). -/
def Engine.noteGone (x : Engine) (o : Nat) : Engine := if x.inShot ∧ ¬ o ∈ x.gone then { x with gone := x.gone ++ [o] } else x

/-- Engine o has reported at its shot rendezvous or has left its START set: every engine in a shot remembers it (R175). -/
def State.noteGone (s : State) (o : Nat) : State :=
  foldS (s.engines.map (·.1)) (fun e s => s.modEng e (fun x => x.noteGone o)) s

/-- An ACQUIRE executed and never offered, because its engine leaves, ends ABSENT REMOVED (R156). -/
def State.dropPledgeWait (s : State) (e : Nat) : State :=
  match (s.eng e).pledgeWait with
  | some d => (s.dropOffer e d.1 1).modEng e (fun x => { x with pledgeWait := none })
  | none => s

/-- The engine leaves its START set (R71): the rendezvous and SYNC instances go on without it. -/
def State.leaveSet (s : State) (e : Nat) (halted : Bool) : State :=
  match (s.eng e).set with
  | none => s
  | some id =>
    let s := s.modSet id (fun g => { g with
      members := g.members.filter (· != e)
      halted := if halted then g.halted ++ [e] else g.halted })
    let s := s.noteGone e
    if halted then s.dropPledgeWait e
    else (s.dropPledgeWait e).modEng e (fun x => { x with set := none })

/-- ENG_ILLEGAL or ENG_STACK (R68, R77, R90): the engine enters FAULT with its PC at the instruction and leaves its
START set. -/
def State.engFault (s : State) (e : Nat) (bit : Nat) : State :=
  (((s.leaveSet e false).setSt e .fault).modEng e (fun x => { x with arm := none })).flag (engFlags e) bit

/-- The members of a START set, and the engines that left it by HALT, enter DONE; the set ends (R70, R71). -/
def State.endSet (s : State) (g : StartSet) : State :=
  let s := foldS (g.members ++ g.halted) (fun e s => s.modEng e (fun x =>
    if x.active then { x with st := .done, cause := 0, set := none, goEnd := false } else { x with set := none })) s
  { s with sets := s.sets.filter (fun h => h.id != g.id), syncs := s.syncs.filter (fun i => i.set != g.id) }

/-! ## Outcomes on the network (R169-R180) -/

/-- The engine and slot of a SLOT_BIND register's address (R173). -/
def bindOf (a : Nat) : Option (Nat × Nat) :=
  if 0x20000000 ≤ a ∧ a < 0x50000000 then
    let n := (a - 0x20000000) / 0x1000000
    let off := a % 0x1000000
    if 0xB000 ≤ off ∧ off < 0xB000 + 0x40 * engsInTile n ∧ off % 4 = 0 then
      some (engOfTile n ((off - 0xB000) / 0x40), (off % 0x40) / 4)
    else none
  else none

/-- The engines and slots bound to a source: the listed SLOT_BIND registers with EN = 1 (R173). -/
def State.boundSlots (s : State) (source : Nat) (remote : Bool) : List (Nat × Nat) :=
  s.regs.filterMap (fun p =>
    match bindOf p.1 with
    | some es => if p.2.getLsbD 31 && p.2.getLsbD 30 == remote && wfld p.2 10 0 == source then some es else none
    | none => none)

/-- The detector bound to a source (R187). -/
def State.detOf (s : State) (source : Nat) : Option Nat :=
  (s.regs.find? (fun p => decide (0x10041000 ≤ p.1 ∧ p.1 < 0x10042000) && p.2.getLsbD 31 && wfld p.2 10 0 == source)).map
    (fun p => (p.1 - 0x10041000) / 4)

/-- A source that some slot or detector of the module is bound to (the mirror of R180). -/
def State.isBound (s : State) (source : Nat) : Bool :=
  !(s.boundSlots source false).isEmpty || (s.detOf source).isSome

/-- Deliver an entry to every slot bound to a local source and to Mender (R174, R188). -/
def State.deliver (s : State) (source : Nat) (en : Entry) : State :=
  let d := (s.boundSlots source false).map (fun es => { eng := es.1, slot := es.2, entry := en : Delivery })
  let m : List MendIn :=
    if (s.detOf source).isSome then [{ source, value := en.value, absent := en.absent, stamp := en.stamp }] else []
  { s with onet := { s.onet with deliv := s.onet.deliv ++ d, mendIn := s.onet.mendIn ++ m } }

/-- What a seam queue may still send in the pin block (R179). -/
def SeamQ.room (q : SeamQ) (pin : W32) : Nat :=
  let d := bdiff pin q.blk
  if d = 0 then 16 - q.used else 16 * d.toNat

/-- The block in which the i-th of a queue's messages goes: 16 a block, from the block last served on (R179). -/
def SeamQ.goesAt (q : SeamQ) (pin : W32) (i : Nat) : W32 := if q.blk = pin then pin else q.blk + 1 + BitVec.ofNat 32 (i / 16)

/-- Send what the blocks since the last service had room for: outcomes first, then pledges (R179). An outcome that waits, or has
waited, more than one block sets SEAM_QUEUED. -/
def State.drainQ (s : State) (b : Bool) : State :=
  let q := if b then s.onet.qb else s.onet.qa
  let n := q.room s.pin
  let k := min n q.outs.length
  let j := min (n - k) q.pledges.length
  let used := if q.blk = s.pin then q.used + (k + j) else k + j - 16 * ((bdiff s.pin q.blk).toNat - 1)
  let q' := { q with outs := q.outs.drop k, pledges := q.pledges.drop j, blk := s.pin, used }
  let msgs : List Out :=
    (q.outs.take k).map (fun o => Out.seam b 0x01 [o.2.source.toNat, o.2.value.toNat, o.2.uncertain.toNat,
      o.2.absent.toNat, o.2.viaA.toNat, o.2.stamp.toNat]) ++
    (q.pledges.take j).map (fun p => Out.seam b 0x02 [p.1, p.2.toNat])
  let late := (q.outs.take k).zipIdx.any (fun o => decide (1 < bdiff (q.goesAt s.pin o.2) o.1.1)) ||
    q'.outs.any (fun o => decide (1 < bdiff s.pin o.1))
  let s := { s with onet := if b then { s.onet with qb := q' } else { s.onet with qa := q' } }
  let s := (msgs.foldl State.send s).maxReg 0x10030014 q'.outs.length
  if late then s.flag onetFlags 3 else s

/-- An outcome enters a seam's outcome queue, or finds its 1,024 entries taken and is discarded (R179). -/
def State.sendOutcome (s : State) (b : Bool) (o : SeamOutcome) : State :=
  if !s.linkUp (if b then .seamB else .seamA) then s
  else
    let s := s.drainQ b
    let q := if b then s.onet.qb else s.onet.qa
    if 1024 ≤ q.outs.length then s
    else
      let q' := { q with outs := q.outs ++ [(s.pin, o)] }
      State.drainQ { s with onet := if b then { s.onet with qb := q' } else { s.onet with qa := q' } } b

/-- A seam message of another kind leaves at once (R345). -/
def State.sendSeam (s : State) (b : Bool) (mtype : Nat) (fields : List Nat) : State :=
  if s.linkUp (if b then .seamB else .seamA) then s.send (.seam b mtype fields) else s

/-- An entry as an OUTCOME message carries it (R345). The STAMP field of an entry without a stamp is stated nowhere: it
is the value given, a free one. -/
def Entry.seamOutcome (en : Entry) (source : Nat) (viaA : Bool) (free : W32) : SeamOutcome :=
  { source := BitVec.ofNat 11 source, value := en.value, uncertain := en.uncertain, absent := en.absent, viaA
    stamp := en.stamp.getD free }

/-- Send an entry over a seam, drawing the free STAMP of one without a stamp. -/
def State.sendEntry (s : State) (b : Bool) (source : Nat) (en : Entry) (viaA : Bool) : State :=
  let s := s.sendOutcome b (en.seamOutcome source viaA (Config.freeWord s.free))
  if en.stamp.isNone then s.draw else s

/-! ## Records (R161, R162, R206, R309) -/

/-- Records of one queue waiting to be sent (R162). -/
def State.recsOf (s : State) (y : Option Nat) : Nat := (s.onet.recs.filter (fun r => r.yoke == y)).length

/-- A record is discarded: RESULTS_LOST counts it, and its change from 0 raises source 1322 with cause 3 (R27, R307).
The raise is a field notice. -/
def State.loseRecord (s : State) : State :=
  let z := s.reg aResultsLost = 0
  let s := s.addSat aResultsLost 1
  if z then s.fieldRaise { source := 1322, reg := 0, bit := 3, index := 0, detail := 0, block := s.pin
                           ns := netStamp s.time.fieldMap (s.tickOf s.pin), lost := false }
  else s

/-- Form a record: it takes the next RECORD_SEQ of its stream (R309) and waits in its yoke's queue of 4,096 or the
hub's of 1,024, or is discarded at a full one (R162). -/
def State.formRecord (s : State) (y : Option Nat) (stream : Nat) (words : List W32) : State :=
  let seq := if stream = 0 then s.onet.seq0 else s.onet.seq1
  let s := { s with onet := if stream = 0 then { s.onet with seq0 := seq + 1 } else { s.onet with seq1 := seq + 1 } }
  if (if y.isSome then 4096 else 1024) ≤ s.recsOf y then s.loseRecord
  else { s with onet := { s.onet with recs := s.onet.recs ++ [{ yoke := y, stream, seq, words }] } }

/-- The stamp block of a window (R85). -/
def Ctx.stamp (x : Ctx) : W32 := x.start + BitVec.ofNat 32 x.len

/-- A window that is open in block b (R152): it integrates, and neither its end block has passed nor, with TICK 0, come. -/
def Ctx.openIn (x : Ctx) (b : W32) : Bool :=
  x.opened && x.dead.isNone && bge b x.start && blt b (x.start + BitVec.ofNat 32 (x.len + (if x.tick = 0 then 0 else 1)))

/-- STAMP and CHANNEL of an outcome record (R161). -/
def recKey (words : List W32) : W32 × Nat := (words.getD 1 0, wfld (words.headD 0) 17 9)

/-- The order of a module's outcome records (R162): by STAMP, then by CHANNEL. -/
def keyLt (a b : W32 × Nat) : Bool := blt a.1 b.1 || (a.1 == b.1 && decide (a.2 < b.2))

/-- An outcome record takes its place in that order. -/
def insRecord (words : List W32) : List (List W32) → List (List W32)
  | [] => [words]
  | v :: t => if keyLt (recKey words) (recKey v) then words :: v :: t else v :: insRecord words t

/-- Some window, or mirrored outcome, whose record comes before is still to be released (R162). -/
def State.recBlocked (s : State) (key : W32 × Nat) : Bool :=
  s.chans.any (fun p => s.fld (chAddr p.1 0) 2 1 != 0 && p.2.any (fun x => keyLt (x.stamp, p.1) key)) ||
    s.onet.due.any (fun d => !d.words.isEmpty && keyLt (d.stamp, d.source) key)

/-- The outcome records whose turn has come are formed (R162, R309); n bounds them. -/
def State.formSome (s : State) : Nat → State
  | 0 => s
  | n + 1 =>
    match s.onet.unformed with
    | [] => s
    | ws :: rest =>
      if s.recBlocked (recKey ws) then s
      else
        let s := { s with onet := { s.onet with unformed := rest } }
        (s.formRecord (some (yokeOfTile (16 + (recKey ws).2 / 32))) 0 ws).formSome n

/-- The outcome records whose turn has come are formed. -/
def State.formReady (s : State) : State := s.formSome s.onet.unformed.length

/-- An outcome record is to be formed, in the order of R162. -/
def State.putRecord (s : State) (words : List W32) : State :=
  if words.isEmpty then s else { s with onet := { s.onet with unformed := insRecord words s.onet.unformed } }

/-- An outcome as a standby has received it for one of its channels. -/
structure Received where
  value : BitVec 2
  uncertain : Bool
  absent : Bool
deriving DecidableEq, Repr

/-- The record that a standby forms (R163): the active's outcome, its RAW_VALUE and FLIPPED by the Pauli frame that both units hold.
What the active does not send - INT_SAT, ABSENT_CAUSE, INT_I, INT_Q, D0, D1, and every value of an outcome whose source is not
bound - is free (DESIGN CHOICE, log entry 126). -/
def State.standbyRecord (s : State) (words : List W32) (flips b1 : Bool) (got : Option Received) : State :=
  match words with
  | w0 :: w1 :: w2 :: w3 :: long =>
    let f := Config.freeWord s.free
    let o : Received := got.getD
      { value := if f.getLsbD 8 then 3 else BitVec.ofNat 2 (wfld f 7 0 % 3), uncertain := !f.getLsbD 8 && f.getLsbD 9, absent := f.getLsbD 8 }
    let flipped := !o.absent && flips && o.value != 2
    let raw := if flipped then o.value ^^^ 1 else o.value
    let w0 := putFld (putFld (putFld w0 8 7 o.value.toNat) 6 5 raw.toNat) 4 4 o.uncertain.toNat
    let w0 := putFld (putFld (putFld w0 3 3 o.absent.toNat) 2 2 flipped.toNat) 1 1 (!o.absent && f.getLsbD 10).toNat
    let w3 := putFld w3 3 2 (if o.absent then wfld f 12 11 else 0)
    let tail := long.zipIdx.map (fun p => if o.absent || (p.2 == 3 && !b1) then 0 else Config.freeWord (s.free + 1 + p.2))
    ({ s with free := s.free + 1 + long.length } : State).putRecord (w0 :: w1 :: w2 :: w3 :: tail)
  | _ => s

/-- A source of the module releases an outcome with its record (R169): to local slots and Mender, over seam A where
the partner has bound it (R176), and, for a channel outcome of an active unit's bound source, over seam B (R180). A
unit that shadows an active one holds a bound source's channel outcome back and delivers the mirrored entry in its
place (R180). -/
def State.releaseOutcome (s : State) (source : Nat) (en : Entry) (words : List W32 := []) (flips b1 : Bool := false) : State :=
  let s := if s.twin && source ∈ s.onet.partnerBound then s.sendEntry false source en false else s
  if source < 512 then
    if s.shadow && s.isBound source then
      match s.onet.mirrored.find? (fun o => o.source.toNat == source && some o.stamp == en.stamp && !o.viaA) with
      | some o =>
        let s := { s with onet := { s.onet with mirrored := s.onet.mirrored.erase o } }
        (s.standbyRecord words flips b1 (some { value := o.value, uncertain := o.uncertain, absent := o.absent })).deliver source
          { en with value := o.value, uncertain := o.uncertain, absent := o.absent }
      | none =>
        { s with onet := { s.onet with
            due := s.onet.due ++ [{ source, stamp := en.stamp.getD s.pin, viaA := false, words, flips, b1 }] } }
    else
      let s := if s.shadow then s.standbyRecord words flips b1 none else s.putRecord words
      let s := if s.pairState == 3 && s.isBound source then s.sendEntry true source en false else s
      s.deliver source en
  else s.deliver source en

/-- An ABSENT entry (R91): a stamp where one is carried. -/
def absentEntry (remote : Bool) (stamp : Option W32) : Entry :=
  { value := 3, uncertain := false, absent := true, remote, stamp }

/-! ## Reading a slot (R91, R175, R178, R205) -/

/-- What a read of a slot finds. -/
inductive SlotRead where
  | entry (en : Entry)
  | absent
  | wait
deriving DecidableEq, Repr

/-- The entries a slot holds. -/
def Engine.slot (x : Engine) (n : Nat) : List Entry := tabGet [] x.slots n

/-- Set a slot's entries. -/
def Engine.setSlot (x : Engine) (n : Nat) (l : List Entry) : Engine := { x with slots := tabSet [] x.slots n l }

/-- The engine has reported at its shot rendezvous, or is in no START set: an engine that is in none counts as having left (DESIGN
CHOICE, log entry 127; R175). -/
def State.reportedOrLeft (s : State) (o : Nat) : Bool :=
  let x := s.eng o
  x.set.isNone || x.st == .halted || (x.st == .waiting && x.cause == 4)

/-- Mender is not attached to a reader's START set, or has reported in this shot (R205). -/
def State.mendSilent (s : State) (set : Option Nat) : Bool :=
  s.mend.set.isNone || s.mend.set != set ||
    (match set with | some id => (s.findSet id).any (fun g => g.menderDone) | none => true)

/-- The partner of a twinset has reported to the shot rendezvous of an engine's set: every engine there has (R175, R345). -/
def State.partnerReported (s : State) (set : Option Nat) : Bool :=
  match set.bind s.findSet with
  | some g => g.partner.any (fun r => !r.1 && !r.2.sync && r.2.shotNo == g.shotNo)
  | none => false

/-- Whether a read that finds the slot empty receives ABSENT at once (R175, R178, R205). A bit still on its way when its owner
reports does not keep the read waiting (DESIGN CHOICE, log entry 128). -/
def State.emptyAbsent (s : State) (e n : Nat) : Bool :=
  let b := s.reg (bindAddr e n)
  let src := wfld b 10 0
  if !b.getLsbD 31 then false
  else if b.getLsbD 30 then
    ((!s.twin || !s.linkUp .seamA) && !s.onet.pledges.any (fun p => p.source == src && !((e, n) ∈ p.absentTo)) &&
        !s.onet.due.any (fun d => d.viaA && d.source == src)) ||
      (512 ≤ src && s.partnerReported (s.eng e).set)
  else if 512 ≤ src then
    let o := s.reg (pubOwnerAddr (src - 512))
    if !o.getLsbD 31 then true
    else if wfld o 10 0 = 0x7FF then s.mendSilent (s.eng e).set
    else decide (wfld o 10 0 ∈ (s.eng e).gone) || s.reportedOrLeft (wfld o 10 0)
  else false

/-- A read of slot n of engine e (R91). -/
def State.readSlot (s : State) (e n : Nat) : SlotRead :=
  match (s.eng e).slot n with
  | en :: _ => .entry en
  | [] => if s.emptyAbsent e n then .absent else .wait

/-- The later of a held stamp and a new one (R75). -/
def laterStamp : Option W32 → W32 → Option W32
  | none, b => some b
  | some a, b => some (bmax b a)

/-- The deciding stamps after an entry is read (R75): an entry without a stamp leaves them. Reading ends a REFUSE
marking (R94). -/
def Engine.decide (x : Engine) (en : Entry) : Engine :=
  match en.stamp with
  | none => { x with refuse := false }
  | some b =>
    if en.remote then { x with decR := laterStamp x.decR b, refuse := false }
    else { x with decL := laterStamp x.decL b, refuse := false }

/-- Take a slot's head entry: the stamps are raised, and it is popped unless kept. -/
def Engine.takeSlot (x : Engine) (n : Nat) (en : Entry) (keep : Bool) : Engine :=
  (if keep then x else x.setSlot n ((x.slot n).drop 1)).decide en

end Sys2Proof.Machine
end

