-- ==== Sys2Proof/Machine/HemOps.lean ====
section
/-! DEFINITION. Shared operations of the Hem: the power-step governor (R395), wakes (R45, R54), frame registers (R112-R118,
R477), commits (R127, R128), removal requests (R57) and the output states of ports (R130). -/

namespace Sys2Proof.Machine

/-! ## The governor (R395) -/

/-- The interval a grant occupies (R395). -/
def GovKind.interval : GovKind → Nat
  | .tile _ _ => 1600
  | .inport _ => 400
  | .port p _ => if isFlux p then 20 else 40

/-- A wake: the latest free interval is sought for it (R395). -/
def GovKind.isWake : GovKind → Bool
  | .port _ _ => true
  | _ => false

/-- An interval of length n at offset g from the arrival block is free of the grants placed. -/
def govFree (busy : List (Int × Nat)) (g : Int) (n : Nat) : Bool :=
  busy.all (fun b => decide (g + n ≤ b.1) || decide (b.1 + b.2 ≤ g))

/-- The least of a list of offsets. -/
def minInt : List Int → Option Int
  | [] => none
  | x :: xs => some (xs.foldl min x)

/-- The largest of a list of offsets. -/
def maxInt : List Int → Option Int
  | [] => none
  | x :: xs => some (xs.foldl max x)

/-- The earliest free interval of length n at or after offset 4 (R395). -/
def govEarliest (busy : List (Int × Nat)) (n : Nat) : Int :=
  (minInt (((4 : Int) :: busy.map (fun b => b.1 + b.2)).filter (fun g => decide (4 ≤ g) && govFree busy g n))).getD 4

/-- The latest free interval of length n between offsets 4 and hi (R395). -/
def govLatest (busy : List (Int × Nat)) (n : Nat) (hi : Int) : Option Int :=
  maxInt ((hi :: busy.map (fun b => b.1 - n)).filter (fun g => decide (4 ≤ g) && decide (g ≤ hi) && govFree busy g n))

/-- The grant block of a request that reaches the governor at block a (R395). -/
def State.govChoose (s : State) (k : GovKind) (a : W32) (use : W32) : W32 :=
  let busy := s.hem.grants.map (fun g => (bdiff g.g a, g.len))
  let n := k.interval
  let off := if k.isWake then (govLatest busy n (bdiff use a - 800)).getD (govEarliest busy n) else govEarliest busy n
  a + BitVec.ofInt 32 off

/-- Place a request's grant (R395): a wake also fixes its port's ready block. Ended intervals are forgotten. -/
def State.govPlace (s : State) (r : GovReq) : State :=
  let g := s.govChoose r.kind r.arrival (r.use.getD r.arrival)
  let keep := s.hem.grants.filter (fun x => !(x.done && bge s.pin (x.g + BitVec.ofNat 32 x.len)))
  let h := { s.hem with grants := keep ++ [{ kind := r.kind, g, len := r.kind.interval, done := false }] }
  { s with hem := match r.kind with
      | .port p _ => { h with ready := tabIns p (g + 800) h.ready }
      | _ => h }

/-- Put a request before the governor. -/
def State.govAsk (s : State) (kind : GovKind) (use : Option W32) (eng : Nat) : State :=
  { s with hem := { s.hem with requests := s.hem.requests ++ [{ kind, arrival := s.pin, use, eng }] } }

/-- The order in which the governor takes requests (R395): by arrival, then earliest scheduled use, then engine. -/
def reqBefore (a b : GovReq) : Bool :=
  if a.arrival ≠ b.arrival then blt a.arrival b.arrival
  else
    let ua := a.use.getD a.arrival
    let ub := b.use.getD b.arrival
    if ua ≠ ub then blt ua ub else decide (a.eng ≤ b.eng)

/-- The first of a list under an order. -/
def firstBy {α : Type} (before : α → α → Bool) : List α → Option α
  | [] => none
  | x :: xs => some (xs.foldl (fun m y => if before m y then m else y) x)

/-! ## Ports -/

/-- PORT_STATUS.AWAKE (R135). -/
def State.awake (s : State) (p : Nat) : Bool := s.bit (portAddr p 4) 2

/-- The port counts as disabled for admission (R45, R46): unenabled or disabled. -/
def State.portDisabled (s : State) (p : Nat) : Bool := !s.bit (portAddr p 4) 0

/-- The port dozes or is unpowered: not awake, and not because of a clamp alone (R131, R396). -/
def State.asleep (s : State) (p : Nat) : Bool :=
  !s.awake p && !s.hem.clamps.any (fun c => c.port == p && c.started && c.wasAwake)

/-- wake_ready_block of R45 without a new wake: the current block of an awake port, the ready block already fixed, none for a
dozing port; with a clamp begun or to begin not before its release (R131). -/
def State.wakeKnown (s : State) (p : Nat) : Option W32 :=
  let own := if s.asleep p then tabFind s.hem.ready p else some s.pin
  match (s.hem.clamps.filter (fun c => c.port == p)).map (·.release) with
  | [] => own
  | r :: rs => own.map (bmax (rs.foldl bmax r))

/-- Some clamp of the port has begun (R131, R387). -/
def State.rangeClamped (s : State) (p : Nat) : Bool := s.hem.clamps.any (fun c => c.port == p && c.started)

/-- The output-state code of a port (R349): 3 clamped (a range clamp, or the shutdown state: log entry 117), 1 enabled, 2 disabled,
0 unenabled. -/
def State.portCode (s : State) (p : Nat) : Nat :=
  if s.rangeClamped p || s.bit (portAddr p 4) 4 then 3
  else if s.bit (portAddr p 4) 0 then 1
  else if s.bit (portAddr p 4) 1 then 2
  else 0

/-- A port's output-state code is remembered from the block at which it changes. -/
def State.noteCode (s : State) (p : Nat) : State :=
  let l := tabGet [] s.synth.states p
  if (l.getLast?.map (·.2)).getD 0 = s.portCode p then s
  else { s with synth := { s.synth with states := tabSet [] s.synth.states p (l ++ [(s.pin64, s.portCode p)]) } }

/-- A port's output state has changed (R130, R135): CLAMPED shows that a flux port is clamped, as it is unless it is enabled, out
of a range clamp and not shut down. -/
def State.clampNow (s : State) (p : Nat) : State :=
  let s := if isFlux p then s.setBit (portAddr p 4) 5 (!s.bit (portAddr p 4) 0 || s.rangeClamped p || s.bit (portAddr p 4) 4) else s
  s.noteCode p

/-- A refusal joins those of the last 1 µs, by which a storm is known (R352). -/
def State.noteRefusal (s : State) : State :=
  { s with hem := { s.hem with refs := (s.hem.refs.filter (fun b => decide (bdiff s.pin b < 400))) ++ [s.pin] } }

/-- A refusal storm (R352): more than STORM_LIMIT refusals in 1 µs; a limit of 0 turns it off. -/
def State.storm (s : State) : Bool :=
  let limit := s.fld 0x1002000C 7 0
  limit != 0 && decide (limit < (s.hem.refs.filter (fun b => decide (bdiff s.pin b < 400))).length)

/-! ## Frame registers (R112-R118, R477) -/

/-- FREQ of frame n as a reader of its words finds it (R112). -/
def frameFreq (rd : Nat → W32) (n : Nat) : BitVec 48 := ((rd (frameAddr n 4)).setWidth 16) ++ rd (frameAddr n 0)

/-- ANCHOR of frame n (R112). -/
def frameAnchor (rd : Nat → W32) (n : Nat) : W64 := rd (frameAddr n 0x14) ++ rd (frameAddr n 0x10)

/-- PHASE_OFFSET of frame n (R112). -/
def framePhase (rd : Nat → W32) (n : Nat) : W32 := rd (frameAddr n 8)

/-- FREQ times the exact difference of a DEVTIME from ANCHOR, modulo 2^48 (R114). -/
def freqPhase (f : BitVec 48) (t anchor : W64) : BitVec 48 := BitVec.ofInt 48 (f.toInt * (t - anchor).toInt)

/-- The phase accumulator acc(t) in 2^-48 turn (R114). -/
def frameAcc (rd : Nat → W32) (n : Nat) (t : W64) : BitVec 48 :=
  (framePhase rd n).setWidth 48 <<< 16 + freqPhase (frameFreq rd n) t (frameAnchor rd n)

/-- The oscillator phase p(t) of an RF tone (R118). -/
def frameTone (rd : Nat → W32) (n : Nat) (t : W64) : BitVec 48 :=
  let ctrl := rd (frameAddr n 0xC)
  if ctrl.getLsbD 8 then
    let c := freqPhase (frameFreq rd n) t (frameAnchor rd n)
    let o := (framePhase rd n).setWidth 48 <<< 16
    (if ctrl.getLsbD 0 then c - o else c + o) + (if ctrl.getLsbD 1 then BitVec.ofNat 48 (2 ^ 47) else 0)
  else frameAcc rd n t

/-- FREQ of frame n. -/
def State.freq (s : State) (n : Nat) : BitVec 48 := frameFreq s.reg n
/-- ANCHOR of frame n. -/
def State.anchor (s : State) (n : Nat) : W64 := frameAnchor s.reg n
/-- PHASE_OFFSET of frame n. -/
def State.phase (s : State) (n : Nat) : W32 := framePhase s.reg n
/-- acc(t) of frame n as it stands (R114). -/
def State.acc (s : State) (n : Nat) (t : W64) : BitVec 48 := frameAcc s.reg n t
/-- p(t) of an RF tone under frame n as it stands (R118). -/
def State.tonePhase (s : State) (n : Nat) (t : W64) : BitVec 48 := frameTone s.reg n t

/-- Set FREQ. -/
def State.setFreq (s : State) (n : Nat) (f : BitVec 48) : State :=
  (s.setReg (frameAddr n 0) (f.setWidth 32)).setReg (frameAddr n 4) ((f >>> 32).setWidth 32)

/-- Set ANCHOR. -/
def State.setAnchor (s : State) (n : Nat) (t : W64) : State :=
  (s.setReg (frameAddr n 0x10) (t.setWidth 32)).setReg (frameAddr n 0x14) ((t >>> 32).setWidth 32)

/-- A Pauli bit under X_OP or Z_OP: keep, clear, set, toggle (R84). -/
def pauliOp (op : BitVec 2) (b : Bool) : Bool :=
  match op.toNat with
  | 0 => b
  | 1 => false
  | 2 => true
  | _ => !b

/-- The words of frame n are remembered as they were before block b. -/
def State.frameLog (s : State) (n : Nat) (b : W64) : State :=
  foldS [0, 4, 8, 0xC, 0x10, 0x14] (fun o s => s.logPast b .reg (frameAddr n o) (s.reg (frameAddr n o))) s

/-- One frame update at block b (R115, R116): FRAME_LAST records the block (R117). -/
def State.frameApply (s : State) (n : Nat) (b : W32) (op : FrameOp) : State :=
  let t := s.tickOf b
  let s := s.frameLog n (s.block64 b)
  let s := match op with
    | .setFreq f reset =>
      let s := s.setFreq n f
      if reset then (s.setReg (frameAddr n 8) 0).setAnchor n t else s
    | .shift p => s.setReg (frameAddr n 8) (s.phase n + p)
    | .setPhase p =>
      s.setReg (frameAddr n 8) (p - ((freqPhase (s.freq n) t (s.anchor n)) >>> 16).setWidth 32)
    | .pauli x z =>
      let c := s.reg (frameAddr n 0xC)
      s.setReg (frameAddr n 0xC)
        (putFld (putFld c 0 0 (pauliOp x (c.getLsbD 0)).toNat) 1 1 (pauliOp z (c.getLsbD 1)).toNat)
    | .word off v => s.setReg (frameAddr n off) v
    | .pair anchor lo hi =>
      let o := if anchor then 0x10 else 0
      (s.setReg (frameAddr n o) lo).setReg (frameAddr n (o + 4)) (if anchor then hi else hi &&& 0xFFFF)
  (s.setReg (frameAddr n 0x18) b).touch (frameAddr n 0)

/-- Class of Mender's updates in the order of R117. -/
def clsMender : Nat := 1280
/-- Class of host writes in the order of R117. -/
def clsHost : Nat := 1281

/-- Put an update before the Hem for a block. -/
def State.frameQueue (s : State) (u : FrameUpd) : State :=
  { s with hem := { s.hem with frameQ := s.hem.frameQ ++ [u] } }

/-- A host write to a frame word, or a pair of words, for the first boundary at least 4 blocks ahead (R117). -/
def State.frameHost (s : State) (n : Nat) (op : FrameOp) : State :=
  s.frameQueue { block := s.effBlock, frame := n, cls := clsHost, op }

/-- The FRAME descriptors accepted by the engines, as updates (R44, R117). -/
def State.frameDescs (s : State) : List FrameUpd :=
  s.engines.flatMap (fun p => p.2.work.filterMap (fun w =>
    match w.d.body with
    | .frame n op => some ({ block := w.d.start, frame := n, cls := p.1, op := op } : FrameUpd)
    | _ => none))

/-- Every update waiting for its boundary. -/
def State.frameAll (s : State) : List FrameUpd := s.frameDescs ++ s.hem.frameQ

/-- The earliest boundary at which an update waits. -/
def State.frameNext (s : State) : Option W32 :=
  (firstBy (fun a b : FrameUpd => !blt b.block a.block) s.frameAll).map (·.block)

/-- Put the updates of a boundary in the order of R117: stable by class. -/
def insUpd (u : FrameUpd) : List FrameUpd → List FrameUpd
  | [] => [u]
  | v :: t => if u.cls < v.cls then u :: v :: t else v :: insUpd u t

/-- PAULI_APPLY and PAULI_X of a channel's Pauli frame (R159). -/
def State.chFlip (s : State) (c : Nat) : Bool :=
  let v := s.reg (frameAddr (s.fld (chAddr c 4) 27 16) 0xC)
  v.getLsbD 8 && v.getLsbD 0

/-- Before the updates of block b, the windows whose stamp block lies before it keep their Pauli bits (R159). -/
def State.latchFlips (s : State) (b : W32) : State :=
  foldS (s.chans.map (·.1)) (fun c s =>
    s.setCtxs c ((s.ctxs c).map (fun x =>
      if x.flip.isNone && blt (x.start + BitVec.ofNat 32 x.len) b then { x with flip := some (s.chFlip c) } else x))) s

/-- Apply every update of block b (R117) and take them from the Hem. -/
def State.framesAt (s : State) (b : W32) : State :=
  let s := s.latchFlips b
  let us := (s.frameAll.filter (fun u => u.block == b)).foldl (fun l u => insUpd u l) []
  let s := { s with
    hem := { s.hem with frameQ := s.hem.frameQ.filter (fun u => u.block != b) }
    engines := s.engines.map (fun p => (p.1, { p.2 with
      work := p.2.work.filter (fun w => match w.d.body with | .frame .. => w.d.start != b | _ => true) })) }
  foldS us (fun u s => s.frameApply u.frame b u.op) s

/-! ## Commits (R127, R128) -/

/-- The shadow registers of port p (R127). -/
def shadowRegs (p : Nat) : List Nat :=
  if isFlux p then
    [portAddr p 0x18, portAddr p 0x20] ++ (List.range 4).map (fun k => portAddr p (0x24 + 4 * k)) ++
      (List.range 4).map (fun k => portAddr p (0x34 + 4 * k)) ++ (List.range 32).map (fun i => portAddr p (0x80 + 4 * i))
  else
    [portAddr p 0x18] ++ (List.range (if p < 128 then 4 else 8)).map (fun i => portAddr p (0x20 + 4 * i)) ++
      (List.range 16).map (fun i => portAddr p (0x40 + 4 * i))

/-- Request a commit of one port for a block (R88, R127): the later of the block and the earliest boundary. -/
def State.askCommit (s : State) (p : Nat) (blk : W32) (eng : Option Nat) : State :=
  let e := s.effBlock
  let c : Commit := { port := p, block := bmax blk e, late := blt blk e, eng := eng }
  State.setBit { s with hem := { s.hem with commits := s.hem.commits ++ [c] } } (portAddr p 4) 8 true

/-- A shadow register's value for a commit at block c: the last write that reached the Hem at least 2 blocks before it
(R128). -/
def State.shadowAt (s : State) (a : Nat) (c : W32) : W32 :=
  match s.hem.shadowLog.find? (fun w => w.addr == a && decide (bdiff c w.block < 2)) with
  | some w => w.before
  | none => s.reg a

/-- Apply a commit (R127, R128): every shadow register of the port is copied, LAST_COMMIT records the block; the working
copies are copied state (R358). One that takes effect later than named flags the engine that asked for it, or the port where the
host did (R88, R127). -/
def State.applyCommit (s : State) (c : Commit) : State :=
  let s := foldS (shadowRegs c.port) (fun a s =>
    (s.logPast (s.block64 c.block) .work a (s.workReg a)).setWork a (s.shadowAt a c.block)) s
  let commits := s.hem.commits.erase c
  let pend := commits.any (fun x => x.port == c.port)
  let log := if pend then s.hem.shadowLog else s.hem.shadowLog.filter (fun w => !(w.addr ∈ shadowRegs c.port))
  let s := { s with hem := { s.hem with commits, shadowLog := log } }
  let s := ((s.setReg (portAddr c.port 0x14) c.block).setBit (portAddr c.port 4) 8 pend).touch (portAddr c.port 0x14)
  match c.eng, c.late with
  | some g, true => s.flag (engFlags g) 5
  | none, true => s.flag (portFlags c.port) 2
  | _, false => s

/-- The commits for blocks up to b apply, in block order (R128); k bounds their number. -/
def State.commitsTo (s : State) (b : W32) : Nat → State
  | 0 => s
  | k + 1 =>
    match firstBy (fun x y : Commit => !blt y.block x.block) s.hem.commits with
    | some c => if blt b c.block then s else (s.applyCommit c).commitsTo b k
    | none => s

/-- A shadow write reaches the Hem (R127, R128): with a commit pending that it misses, SHADOW_LATE is set. -/
def State.writeShadow (s : State) (p a : Nat) (v : W32) : State :=
  let pend := s.hem.commits.filter (fun c => c.port == p)
  let missed := pend.any (fun c => decide (bdiff c.block s.pin < 2))
  let log := if pend.isEmpty then s.hem.shadowLog
    else s.hem.shadowLog ++ [{ addr := a, block := s.pin, before := s.reg a }]
  let s := { s with hem := { s.hem with shadowLog := log } }
  let s := s.setReg a v
  if missed then s.flag (portFlags p) 1 else s

/-! ## Removal (R57, R58) -/

/-- Ask for a removal (R57). -/
def State.askRemoval (s : State) (r : Removal) : State := { s with hem := { s.hem with removals := s.hem.removals ++ [r] } }

/-- The block at which a removal acts. -/
def Removal.block : Removal → W32
  | .engine _ _ b => b
  | .port _ b => b
  | .abort _ _ b => b

end Sys2Proof.Machine
end

