-- ==== Sys2Proof/Machine/Synth.lean ====
section
/-! DEFINITION. What an output port puts out, as a function of the state (R108-R131): its segments' samples from envelope memory
or from the stream, its frames, its working registers and its filters at any tick up to the pin block; the output state and the
pin (R130), the digests (R129, R349) and the count of saturated samples (R122). What the spec does not fix - the interpolator's
coefficients, the last bit of a cosine, a sine and a table entry, the rounding of a held filter state and of a tie - is an opaque
constant of Config (log entry 24). -/

namespace Sys2Proof.Machine

/-- A signed fraction of `bits` bits whose last bit is worth 2^-`point`. -/
def fixed (v : W32) (bits point : Nat) : Rat := (sfld v bits : Rat) / (2 ^ point : Nat)

/-- The block of a tick. -/
def blockAt (t : Int) : Nat := (t / 64).toNat

/-! ## Segments and their samples (R49, R109, R110) -/

/-- AMPLITUDE and FRAME of a segment (R41). -/
def segmentAmp : Body → BitVec 16 × Nat
  | .play _ _ amp n => (amp, n)
  | .stream _ amp n => (amp, n)
  | _ => (0, 0)

/-- The segments of an engine that have left its queue, played and ended ones among them. -/
def State.segments (s : State) (e : Nat) : List Work := (s.eng e).work.filter (fun w => w.d.isSeg && w.stage != .queued)

/-- TICK as a port of the engine uses it: a flux port ignores TICK[2:0] (R41). -/
def playTick (e : Nat) (t : BitVec 6) : Nat := if 1024 ≤ e then t.toNat / 8 * 8 else t.toNat

/-- The tick of a segment's first sample (R111, R124). -/
def Work.startTick (e : Nat) (w : Work) : Int := 64 * w.b64.toNat + playTick e w.d.tick

/-- The tick at which a segment's last sample has played, or at which it is cut (R58, R99). -/
def Work.endTick (e : Nat) (w : Work) : Int := 64 * w.end64.toNat + playTick e w.fin.t

/-- A word of a segment's granule g (R109): of envelope memory as the fetch found it, 12 blocks before the granule reaches the pin
(R110), or of the stream. What a segment plays whose samples are gone from the window is free (log entry 118). -/
def State.granuleWord (s : State) (e : Nat) (w : Work) (g i : Nat) : W32 :=
  match w.d.body with
  | .play env _ _ _ => s.wordAt (tileBase (tileOfEng e) + 0x400000 + 16 * (env + g) + 4 * i) (w.b64.toNat + g - 12)
  | _ =>
    let o := 16 * g + 4 * i
    if w.samples.length < o + 4 then Config.lostSample w.b64 o
    else w.samples.getD (o + 3) 0 ++ (w.samples.getD (o + 2) 0 ++ (w.samples.getD (o + 1) 0 ++ w.samples.getD o 0))

/-- Complex sample k of a segment on a drive or read-out tile, normalised to ±1 (R109, R121). -/
def State.sampleComplex (s : State) (e : Nat) (w : Work) (k : Nat) : Rat × Rat :=
  let v := s.granuleWord e w (k / 4) (k % 4)
  (fixed v 16 15, fixed (v >>> 16) 16 15)

/-- Real sample k of a segment on a flux tile, normalised to ±1 (R109). -/
def State.sampleReal (s : State) (e : Nat) (w : Work) (k : Nat) : Rat :=
  let v := s.granuleWord e w (k / 8) (k / 2 % 4)
  if k % 2 = 0 then fixed v 16 15 else fixed (v >>> 16) 16 15

/-! ## Interpolation and oscillators (R111, R114-R120) -/

/-- The weight of a sample at a distance of d ticks from its centre (R111): the interpolator is linear, reaches two envelope samples
to either side, and is symmetric, its group delay being constant. -/
def interpWeight (d : Int) : Rat := if 32 < d.natAbs then 0 else Config.interpTap d.natAbs

/-- Sample k of a segment as the interpolator sees it: outside the segment it is zero (R111). -/
def State.sampleOrZero (s : State) (e : Nat) (w : Work) (k : Int) : Rat × Rat :=
  if 0 ≤ k ∧ k < 4 * (Desc.len w.d.body : Int) ∧ w.startTick e + 16 * k < w.endTick e then s.sampleComplex e w k.toNat else (0, 0)

/-- A segment's interpolated envelope at tick t (R111): the samples within two of it, each by its weight. -/
def State.envelopeAt (s : State) (e : Nat) (w : Work) (t : Int) : Rat × Rat :=
  let q := (t - w.startTick e) / 16
  (List.range 6).foldl (fun acc j =>
    let k := q + j - 2
    let x := s.sampleOrZero e w k
    let h := interpWeight (t - w.startTick e - 16 * k)
    (acc.1 + h * x.1, acc.2 + h * x.2)) (0, 0)

/-- π, to more digits than any sample shows. -/
def piApprox : Rat := 314159265358979323846 / 100000000000000000000

/-- The alternating series of cosine, or of sine, at x: n terms from term i on, the first being y. -/
def trigSeries (x : Rat) : Nat → Nat → Rat → Rat
  | 0, _, _ => 0
  | n + 1, i, y => y + trigSeries x n (i + 2) (-(y * x * x) / (((i + 1) * (i + 2) : Nat) : Rat))

/-- Cosine and sine of n × 2^-24 turn, to within 2^-40. -/
def cosSinExact (n : Nat) : Rat × Rat :=
  let x := 2 * piApprox * ((n % 2 ^ 22 : Nat) : Rat) / (2 ^ 24 : Nat)
  let c := trigSeries x 12 0 1
  let d := trigSeries x 12 1 x
  match n / 2 ^ 22 % 4 with
  | 0 => (c, d)
  | 1 => (-d, c)
  | 2 => (-c, -d)
  | _ => (d, -c)

/-- A value held in 18 bits, LSB 2^-17: one of its two neighbours, so within 2^-17 of it (R120, R124). up chooses. -/
def hold18 (v : Rat) (up : Bool) : Rat :=
  let f := (131072 * v).floor
  let c := if (f : Rat) = 131072 * v then f else f + up.toNat
  ((max (-131072) (min 131071 c) : Int) : Rat) / 131072

/-- Cosine and sine of the truncated phase to 18 bits (R120). -/
def cosSin (p : BitVec 24) : Rat × Rat :=
  let v := cosSinExact p.toNat
  (hold18 v.1 (Config.trigUp false p), hold18 v.2 (Config.trigUp true p))

/-- Entry i of the flux oscillator's quarter-wave table of 1,024 entries, and the value past its end (R124). -/
def tableEntry (i : Nat) : Rat := hold18 (cosSinExact (4096 * i)).2 (Config.tableUp i)

/-- The sine of a flux port's oscillator: its table, with linear interpolation on the next 8 phase bits (R124). -/
def fluxSine (p : BitVec 48) : Rat :=
  let j := (p.extractLsb' 28 18).toNat
  let q := (p.extractLsb' 46 2).toNat
  let j := if q % 2 = 1 then 2 ^ 18 - j else j
  let a := tableEntry (j / 256)
  let v := a + (tableEntry (j / 256 + 1) - a) * ((j % 256 : Nat) : Rat) / 256
  if 2 ≤ q then -v else v

/-! ## Drive and probe ports (R121-R123) -/

/-- A segment's part of R121 at tick t, without the gains: AMPLITUDE times its envelope turned by its frame's phase (R120). -/
def State.segmentTerm (s : State) (e : Nat) (w : Work) (t : Int) : Rat :=
  let a := segmentAmp w.d.body
  let iq := s.envelopeAt e w t
  let cs := cosSin ((frameTone (fun r => s.regAt r (blockAt t)) a.2 (BitVec.ofInt 64 t)).extractLsb' 24 24)
  fixed (a.1.setWidth 32) 16 15 * (iq.1 * cs.1 - iq.2 * cs.2)

/-- The segments of an engine whose output reaches tick t (R111). -/
def State.heardAt (s : State) (e : Nat) (t : Int) : List Work :=
  (s.segments e).filter (fun w => decide (w.startTick e - 32 ≤ t) && decide (t < w.endTick e + 32))

/-- Tone i of an RF port at tick t (R121): the segments superposed; with none, zero. -/
def State.toneAt (s : State) (p i : Nat) (t : Int) : Rat :=
  let e := port0Eng p + i
  fixed (s.workAt (portAddr p (0x20 + 4 * i)) (blockAt t)) 16 15 * ((s.heardAt e t).map (fun w => s.segmentTerm e w t)).sum

/-- y(t) of a drive or probe port at tick t (R121). -/
def State.rfSum (s : State) (p : Nat) (t : Int) : Rat :=
  fixed (s.workAt (portAddr p 0x18) (blockAt t)) 16 15 *
    ((List.range (engsOfPort p).length).map (fun i => s.toneAt p i t)).sum

/-- The 16-tap filter of an RF port at tick t, tap 4 being the reference (R123). -/
def State.rfFilter (s : State) (p : Nat) (t : Int) : Rat :=
  ((List.range 16).map (fun k => fixed (s.workAt (portAddr p (0x40 + 4 * k)) (blockAt t)) 18 16 * s.rfSum p (t + 4 - k))).sum

/-- The nearest integer; which of two equally near ones is open. -/
def nearest (x : Rat) : Int :=
  let f := (x + 1 / 2).floor
  if x + 1 / 2 = f ∧ Config.tieDown x then f - 1 else f

/-- A code saturated at ±limit, and whether it was (R122). -/
def saturate (limit : Nat) (x : Int) : Int × Bool :=
  if (limit : Int) < x then (limit, true) else if x < -(limit : Int) then (-(limit : Int), true) else (x, false)

/-- The DAC code of a corrected RF sample: ±1 is ±8,191 (R121, R122). -/
def rfCode (y : Rat) : Int × Bool := saturate 8191 (nearest (8191 * y))

/-! ## Flux ports (R124-R126) -/

/-- The segment of a flux engine that plays at tick t (R124). -/
def State.fluxSegment (s : State) (e : Nat) (t : Int) : Option Work :=
  (s.segments e).find? (fun w => decide (w.startTick e ≤ t) && decide (t < w.endTick e))

/-- With no segment playing: an ABORT's 0 until the next segment starts (R58, R124; log entry 119). -/
def State.abortedAt (s : State) (e : Nat) (t : Int) : Bool :=
  (tabGet [] s.synth.aborts e).any (fun b => decide (64 * (b.toNat : Int) ≤ t) &&
    (s.segments e).all (fun w => decide (w.startTick e < 64 * (b.toNat : Int)) || decide (t < w.startTick e)))

/-- The correction input u of a flux port at tick t (R124): the playing segment's sample times AMPLITUDE, in sine mode turned by the
sine of its frame's phase; GAP_CODE between segments. -/
def State.fluxInput (s : State) (p : Nat) (t : Int) : Rat :=
  let e := port0Eng p
  match s.fluxSegment e t with
  | none => if s.abortedAt e t then 0 else fixed (s.workAt (portAddr p 0x20) (blockAt t)) 16 15
  | some w =>
    let a := segmentAmp w.d.body
    let u := fixed (a.1.setWidth 32) 16 15 * s.sampleReal e w ((t - w.startTick e) / 8).toNat
    if (s.regAt (portAddr p 0x1C) (blockAt t)).getLsbD 2 then
      u * fluxSine (frameAcc (fun r => s.regAt r (blockAt t)) a.2 (BitVec.ofInt 64 t))
    else u

/-- A stage's state held to 40 bits (R125): one of the two neighbours of the value; where the point lies and which one is taken is
not stated. -/
def hold40 (x : Rat) : Rat :=
  let m : Nat := 2 ^ (Config.statePoint % 40)
  let f := ((m : Rat) * x).floor
  let c := if (f : Rat) = (m : Rat) * x then f else f + (Config.stateUp x).toNat
  ((max (-(2 ^ 39)) (min (2 ^ 39 - 1) c) : Int) : Rat) / (m : Rat)

/-- One sample of an exponential stage: its output and its next low-pass state (R125). -/
def expStage (a alpha state x : Rat) : Rat × Rat :=
  let st := hold40 (alpha * state + (1 - alpha) * x)
  (x + a * (x - st), st)

/-- A flux port's filters: the four stages' states and the latest outputs of stage 3, newest first (R125, R126). -/
structure FluxSt where
  stages : List Rat
  outs : List Rat
deriving DecidableEq, Repr

/-- The filters after a clamp (R478): reset. -/
def FluxSt.reset : FluxSt := { stages := [0, 0, 0, 0], outs := [] }

/-- One sample u in block b passes PORT_GAIN and the four stages (R125). -/
def State.fluxStages (s : State) (p b : Nat) (st : FluxSt) (u : Rat) : FluxSt :=
  let r := (List.range 4).foldl (fun (acc : Rat × List Rat) k =>
    let r := expStage (fixed (s.workAt (portAddr p (0x24 + 4 * k)) b) 18 16)
      (((s.workAt (portAddr p (0x34 + 4 * k)) b).toNat : Rat) / (2 ^ 24 : Nat)) (st.stages.getD k 0) acc.1
    (r.1, acc.2 ++ [r.2])) (fixed (s.workAt (portAddr p 0x18) b) 16 15 * u, [])
  { stages := r.2, outs := (r.1 :: st.outs).take 32 }

/-- A flux port's filters after the m samples from sample n on, from reset. -/
def State.fluxRun (s : State) (p n : Nat) : Nat → FluxSt
  | 0 => FluxSt.reset
  | m + 1 => s.fluxStages p ((n + m) / 8) (s.fluxRun p n m) (s.fluxInput p (8 * ((n + m : Nat) : Int)))

/-- The 32-tap filter of a flux port in block b, tap 0 being the reference and the others lagging (R126). -/
def State.fluxFilter (s : State) (p b : Nat) (st : FluxSt) : Rat :=
  ((List.range 32).map (fun k => fixed (s.workAt (portAddr p (0x80 + 4 * k)) b) 18 16 * st.outs.getD k 0)).sum

/-- The DAC code of a corrected flux sample (R122, R126), rounded to the nearest code (DESIGN CHOICE, log entry 120). -/
def fluxCode (y : Rat) : Int × Bool := saturate 32767 (nearest (32768 * y))

/-! ## Output states, codes and pins (R108, R130, R478) -/

/-- A port's output-state code in block b and the block from which it holds (R349). -/
def State.codeIn (s : State) (p b : Nat) : Nat × Nat :=
  match ((tabGet [] s.synth.states p).filter (fun x => decide (x.1.toNat ≤ b))).getLast? with
  | some x => (x.2, x.1.toNat)
  | none => (0, 0)

/-- Flux sample n of port p, ahead of the output switch, and whether it saturated: a clamped port's DAC is at 0, its filters reset;
from its release on they run from reset (R478). -/
def State.fluxSample (s : State) (p n : Nat) : Int × Bool :=
  let c := s.codeIn p (n / 8)
  if c.1 ≠ 1 then (0, false)
  else fluxCode (s.fluxFilter p (n / 8) (s.fluxRun p (8 * c.2) (n + 1 - 8 * c.2)))

/-- The samples of block b of port p, ahead of the output switch (R108): 64 of an RF port, 8 of a flux port. -/
def State.blockSamples (s : State) (p b : Nat) : List (Int × Bool) :=
  if isFlux p then (List.range 8).map (fun i => s.fluxSample p (8 * b + i))
  else (List.range 64).map (fun i => rfCode (s.rfFilter p (64 * (b : Int) + i)))

/-- The output states of R130. -/
inductive OutState where
  | unenabled | enabled | disabled | rangeClamp | standbyMuted | shutdown
deriving DecidableEq, Repr

/-- The output state of a port: where more than one applies, the one lower in the table of R130. -/
def State.outState (s : State) (p : Nat) : OutState :=
  if s.bit (portAddr p 4) 4 then .shutdown
  else if s.muted then .standbyMuted
  else if s.rangeClamped p then .rangeClamp
  else if s.bit (portAddr p 4) 0 then .enabled
  else if s.bit (portAddr p 4) 1 then .disabled
  else .unenabled

/-- A read-out tile calibrates: its probe ports are muted (R142). -/
def State.calMuted (s : State) (p : Nat) : Bool :=
  !isFlux p && tileType (tileOfPort p) == 1 && (tabFind s.hem.calRun (tileOfPort p)).isSome

/-- What a port's pin carries in the pin block (R130, R478): muted into 50 Ω, the termination or high impedance of a standby-muted
port, held at 0, or its codes. -/
inductive PinDrive where
  | muted | standby | zero | codes (l : List Int)
deriving DecidableEq, Repr

/-- What the pin of port p carries. -/
def State.pinDrive (s : State) (p : Nat) : PinDrive :=
  match s.outState p with
  | .standbyMuted => .standby
  | .enabled =>
    if s.calMuted p then .muted
    else if !s.awake p then .zero
    else .codes ((s.blockSamples p s.pin64.toNat).map (·.1))
  | _ => if isFlux p then .zero else .muted

/-! ## Digests (R129, R349) -/

/-- A code as two bytes, lower first: 14-bit codes are sign-extended. -/
def code16 (c : Int) : List Byte := [BitVec.ofInt 8 c, BitVec.ofInt 8 (c / 256)]

/-- The port at a place in yoke port order (R349): drive, probe, then flux ports of yoke y. -/
def yokePort (y i : Nat) : Nat := if i < 32 then 32 * y + i else if i < 48 then 128 + 16 * y + (i - 32) else 192 + 64 * y + (i - 48)

/-- The output digest of a port for a 64-bit block: its output-state code, then its codes ahead of the output switch. -/
def State.portDigest (s : State) (p b : Nat) : W32 :=
  crc32c (BitVec.ofNat 8 (s.codeIn p b).1 :: (s.blockSamples p b).flatMap (fun x => code16 x.1))

/-- The output digest of a yoke for a 64-bit block: over its 112 port digests, each lowest byte first (log entry 121). -/
def State.yokeDigest (s : State) (y b : Nat) : W32 :=
  crc32c ((List.range 112).flatMap (fun i => leBytes (s.portDigest (yokePort y i) b)))

/-! ## Saturated samples (R122) -/

/-- Samples of port p that saturate in block b. -/
def State.clipsIn (s : State) (p b : Nat) : Nat := ((s.blockSamples p b).filter (·.2)).length

/-- The first block of which port p's samples are not counted: none has been since it was first enabled. -/
def State.clipFrom (s : State) (p : Nat) : Nat :=
  match tabFind s.synth.counted p with
  | some b => b.toNat
  | none => match (tabGet [] s.synth.states p).head? with
    | some x => x.1.toNat
    | none => s.pin64.toNat

/-- Port p's saturated samples up to the pin block are counted, and CLIP set (R122; log entry 122). -/
def State.clipUp (s : State) (p : Nat) : State :=
  let a := s.clipFrom p
  let n := ((List.range (s.pin64.toNat - a)).map (fun i => s.clipsIn p (a + i))).sum
  let s := { s with synth := { s.synth with counted := tabIns p s.pin64 s.synth.counted } }
  if n = 0 then s else (s.addSat (portAddr p 0xC) n).flag (portFlags p) 0

/-- The saturated samples of every port that was ever enabled are counted. -/
def State.clipAll (s : State) : State := foldS (s.synth.states.map (·.1)) (fun p s => s.clipUp p) s

end Sys2Proof.Machine
end

