-- ==== Sys2Proof/Machine/Demod.lean ====
section
/-! DEFINITION. From the ADC pin to a decimated sample (spec/05 R136-R141, R149, R150, R152): the slice that takes a sample, its
corrections, the mixing with the channel's frame, decimation. The signal at the pin is physical, and the coefficients of the
fractional-delay, bandwidth and decimation filters are not given: opaque constants of Config (log entry 110). An ADC sample n
of a port is sample n mod 32 of 64-bit block n / 32, at tick 2n (R38). -/

namespace Sys2Proof.Machine

/-! ## Ports and slices (R136, R140) -/

/-- The input port of channel c. -/
def portOfChan (c : Nat) : Nat := c / 8

/-- The physical slice that serves a position of the interleave while slice `spare` does not (R140). -/
def sliceOf (spare position : Nat) : Nat := if position < spare then position else position + 1

/-- SPARE of port l in block b. -/
def State.spareAt (s : State) (l b : Nat) : Nat := wfld (s.regAt (adcAddr l 4) b) 4 0

/-- READY without FAULT in block b (R144, R157). -/
def State.adcReadyAt (s : State) (l b : Nat) : Bool :=
  let v := s.regAt (adcAddr l 4) b
  v.getLsbD 6 && !v.getLsbD 11

/-- ADC_STATUS.READY without FAULT (R144, R157). -/
def State.adcReady (s : State) (l : Nat) : Bool := s.bit (adcAddr l 4) 6 && !s.bit (adcAddr l 4) 11

/-! ## Samples (R137, R141) -/

/-- ADC sample n of port l: a 12-bit code. -/
def adcCode (l n : Nat) : BitVec 12 := Config.adcCode l (n / 32) (n % 32)

/-- Factor j of the slice that takes sample n of port l (R140, R141): 0 OFFSET, 1 GAIN, 2 SKEW, 3 BW. -/
def State.sliceFactor (s : State) (l n j : Nat) : W32 :=
  s.regAt (adcAddr l (0x40 + 0x10 * sliceOf (s.spareAt l (n / 32)) (n % 16) + 4 * j)) (n / 32)

/-- Sample n with its slice's OFFSET subtracted, scaled by 1 + GAIN (R141, R164). -/
def State.scaledSample (s : State) (l n : Nat) : Rat :=
  (((adcCode l n).toInt : Rat) - (sfld (s.sliceFactor l n 0) 16 : Rat) / 16) *
    (1 + (sfld (s.sliceFactor l n 1) 18 : Rat) / (2 ^ 20 : Nat))

/-- Sample n corrected, in 16 bits (R136, R141): SKEW and BW filter it among its neighbours. -/
def State.correctedSample (s : State) (l n : Nat) : BitVec 16 :=
  let skew := sfld (s.sliceFactor l n 2) 16
  let bw := sfld (s.sliceFactor l n 3) 16
  Config.adcWord (if skew = 0 ∧ bw = 0 then s.scaledSample l n
    else Config.sliceFilter skew bw (fun d => s.scaledSample l (n + d).toNat))

/-! ## Mixing and decimation (R137, R149, R150, R152) -/

/-- DEMOD_FRAME of channel c in block b (R149). -/
def State.demodFrame (s : State) (c b : Nat) : Nat := wfld (s.regAt (chAddr c 4) b) 11 0

/-- Sample n of channel c's port, mixed with the channel's NCO (R137): times cos 2πacc − j sin 2πacc of the demodulation frame as it
stands in that block, at the sample's DEVTIME; the Pauli bits do not act. -/
def State.mixed (s : State) (c n : Nat) : Rat × Rat :=
  let b := n / 32
  let x : Rat := (s.correctedSample (portOfChan c) n).toInt
  let cs := cosSin ((frameAcc (fun r => s.regAt r b) (s.demodFrame c b) (BitVec.ofNat 64 (2 * n))).extractLsb' 24 24)
  (x * cs.1, -(x * cs.2))

/-- The decimated sample formed from the 32 ADC samples that begin with the first at or after a tick (R152). -/
def State.decimated (s : State) (c tick : Nat) : BitVec 16 × BitVec 16 :=
  Config.decimate ((List.range 32).map (fun i => s.mixed c ((tick + 1) / 2 + i)))

end Sys2Proof.Machine
end

