-- ==== Sys2Proof/Machine/PocketOps.lean ====
section
/-! DEFINITION. Shared operations of pocket capture (spec/09 R238-R250): sources and units, trigger causes, the capture's
data and headers, streaming. -/

namespace Sys2Proof.Machine

/-! ## Sources (R238, R239) -/

/-- POCKET_SRC of a pocket (R252). -/
structure PocketSrc where
  src : Nat
  sel : Nat
  reduce : Bool
  interval : Nat
deriving DecidableEq, Repr

/-- The source that pocket k selects. -/
def State.pocketSrc (s : State) (k : Nat) : PocketSrc :=
  let v := s.reg (pocketAddr k 4)
  { src := wfld v 2 0, sel := wfld v 8 4, reduce := v.getLsbD 9, interval := wfld v 31 16 }

/-- Blocks that a unit covers (R238, R239). -/
def PocketSrc.blocks (p : PocketSrc) : Nat := if p.reduce then max 1 p.interval else 1

/-- Bytes of a unit (R238, R239). -/
def PocketSrc.size (p : PocketSrc) : Nat :=
  if p.reduce then (if p.src = 3 then 8 else 4)
  else match p.src with
  | 3 => 4
  | 4 => 16
  | 5 => 16
  | _ => 64

/-- L_SRC (R238). -/
def PocketSrc.lSrc (p : PocketSrc) : Nat :=
  match p.src with
  | 3 => 22
  | 4 => 32
  | 5 => 0
  | _ => 10

/-- Codes of one block of a source: samples, or I and Q. -/
def PocketSrc.codes (p : PocketSrc) : Nat :=
  match p.src with
  | 3 => 2
  | 5 => 8
  | _ => 32

/-- SEL is within its range (R238, R240). -/
def PocketSrc.selOk (p : PocketSrc) : Bool :=
  match p.src with
  | 1 => p.sel < 4
  | 2 => p.sel < 4
  | 5 => p.sel < 16
  | _ => true

/-- The first block of the unit that holds a block: with REDUCE, a multiple of INTERVAL (R239). -/
def PocketSrc.unitOf (p : PocketSrc) (b : W32) : W32 := b - BitVec.ofNat 32 (b.toNat % p.blocks)

/-- The source produces data in a 64-bit block: otherwise RAW, CORRECTED and IQ units are 0 (R238). -/
def State.sourceOn (s : State) (k : Nat) (p : PocketSrc) (b : Nat) : Bool :=
  match p.src with
  | 3 => s.adcReadyAt (4 * k + p.sel / 8) b && (s.regAt (chAddr (32 * k + p.sel) 0) b).getLsbD 0
  | 5 => true
  | _ => s.adcReadyAt (4 * k + p.sel) b

/-- Code m of one block of a source (R238): the ADC's code, the corrected sample, I or Q, or the code sent to a flux port's DAC. -/
def State.sourceCode (s : State) (k : Nat) (p : PocketSrc) (u : W32) (m : Nat) : Int :=
  let b := (s.block64 u).toNat
  if s.sourceOn k p b then
    match p.src with
    | 1 => (adcCode (4 * k + p.sel) (32 * b + m)).toInt
    | 2 => (s.correctedSample (4 * k + p.sel) (32 * b + m)).toInt
    | 3 => let z := s.decimated (32 * k + p.sel) (64 * b)
           if m = 0 then z.1.toInt else z.2.toInt
    | 5 => (s.fluxSample (192 + 16 * k + p.sel) (8 * b + m)).1
    | _ => 0
  else 0

/-- The codes of one block. -/
def State.blockCodes (s : State) (k : Nat) (p : PocketSrc) (b : W32) : List Int :=
  (List.range p.codes).map (s.sourceCode k p b)

/-- The codes of a unit's blocks, one list for each block. -/
def State.unitCodes (s : State) (k : Nat) (p : PocketSrc) (u : W32) : List (List Int) :=
  (List.range p.blocks).map (fun i => s.blockCodes k p (u + BitVec.ofNat 32 i))

/-- The least of a list of codes. -/
def codeMin (l : List Int) : Int := (minInt l).getD 0
/-- The largest of a list of codes. -/
def codeMax (l : List Int) : Int := (maxInt l).getD 0

/-- A 16-bit code as two bytes, lower first. -/
def codeBytes (c : Int) : List Byte := [BitVec.ofInt 8 c, BitVec.ofInt 8 (c / 256)]

/-- Entry i of each list, flattened. -/
def columnOf (i : Nat) (l : List (List Int)) : List Int := l.filterMap (fun x => x[i]?)

/-- The bytes of the unit that begins at block u (R238, R239). -/
def State.unitData (s : State) (k : Nat) (p : PocketSrc) (u : W32) : List Byte :=
  let cs := s.unitCodes k p u
  if !p.reduce then cs.flatten.flatMap codeBytes
  else if p.src = 3 then
    [0, 1].flatMap (fun i => codeBytes (codeMin (columnOf i cs)) ++ codeBytes (codeMax (columnOf i cs)))
  else codeBytes (codeMin cs.flatten) ++ codeBytes (codeMax cs.flatten)

/-! ## Units in stored order (R241) -/

/-- Unit i since the arm block: its block and its bytes; none for an INTEGRATION window that has not ended. -/
def State.unitAt (s : State) (k i : Nat) : Option (W32 × List Byte) :=
  let p := s.pocketSrc k
  let x := s.pocket k
  if p.src = 4 then (x.entries[i]?).map (fun e => (e.headD 0, e.flatMap leBytes))
  else
    let u := p.unitOf x.armBlock + BitVec.ofNat 32 (i * p.blocks)
    some (u, s.unitData k p u)

/-- Units written by a block: those whose end plus L_SRC has passed (R238). -/
def State.unitsBy (s : State) (k : Nat) (b : W32) : Nat :=
  let p := s.pocketSrc k
  let x := s.pocket k
  if p.src = 4 then (x.entries.filter (fun e => bge b (e.headD 0 + 33))).length
  else (bdiff b (p.unitOf x.armBlock + BitVec.ofNat 32 p.lSrc)).toNat / p.blocks

/-- The index of the trigger unit of a trigger point (R242): the first unit that represents it or a later tick. -/
def State.unitIndex (s : State) (k : Nat) (b : W32) : Option Nat :=
  let p := s.pocketSrc k
  let x := s.pocket k
  if p.src = 4 then x.entries.findIdx? (fun e => bge (e.headD 0) b)
  else some ((bdiff b (p.unitOf x.armBlock)).toNat / p.blocks)

/-- The block of unit i. -/
def State.unitBlock (s : State) (k i : Nat) : Option W32 :=
  let p := s.pocketSrc k
  let x := s.pocket k
  if p.src = 4 then (x.entries[i]?).map (fun e => e.headD 0)
  else some (p.unitOf x.armBlock + BitVec.ofNat 32 (i * p.blocks))

/-- The block after the last of n units from unit i on is written (R238, R245). -/
def State.unitsDoneAt (s : State) (k i n : Nat) : Option W32 :=
  let p := s.pocketSrc k
  (s.unitBlock k (i + n - 1)).map (fun b => b + BitVec.ofNat 32 (p.blocks + p.lSrc))

/-! ## Triggers (R242-R244) -/

/-- POCKET_STATUS.STATE. -/
def State.pocketSt (s : State) (k : Nat) : Nat := s.fld (pocketAddr k 0x20) 2 0

/-- Set POCKET_STATUS.STATE. -/
def State.setPocketSt (s : State) (k n : Nat) : State := s.setFld (pocketAddr k 0x20) 2 0 n

/-- Decision block D of a trigger unit (R244). -/
def State.decideAt (s : State) (k i : Nat) : W32 :=
  (s.unitBlock k i).getD s.pin + BitVec.ofNat 32 ((s.pocketSrc k).blocks - 1) + 48

/-- Units of the post-trigger part (R245). -/
def State.postUnits (s : State) (k : Nat) : Nat := 64 * s.fld (pocketAddr k 0xC) 15 0 / (s.pocketSrc k).size

/-- Units written by the pin block; in POST none after the capture's completion, at the later of D and the block after the last
post-trigger unit is written (R245). -/
def State.unitsWritten (s : State) (k : Nat) : Nat :=
  let now := s.unitsBy k s.pin
  if s.pocketSt k = 2 then
    match s.unitIndex k (s.pocket k).trigUnit with
    | some t => min now (max (s.unitsBy k (s.decideAt k t)) (t + s.postUnits k))
    | none => now
  else now

/-- A cause counted by R243. -/
def State.missCause (s : State) (k n : Nat) : State :=
  if n = 0 then s
  else
    let x := s.pocket k
    ((s.setPocket k { x with missed := x.missed + n }).addSat (pocketAddr k 0x28) n).flag (pocketFlags k) 2

/-- A trigger cause arises with trigger point P (R242, R243). -/
def State.pocketCause (s : State) (k cause : Nat) (p : W64) : State :=
  let x := s.pocket k
  if !s.bit (pocketAddr k 0x14) cause || decide ((p - s.tickOf x.armBlock).toInt < 0) then s
  else match s.pocketSt k with
  | 1 => s.setPocket k { x with cands := x.cands ++ [{ cause, p }] }
  | 2 => s.missCause k 1
  | 3 => s.missCause k 1
  | _ => s

/-- The value of LEVEL's comparison at 16 bits (R242). -/
def sat16 (v : Int) : Int := max (-32768) (min 32767 v)

/-- The samples that LEVEL compares in a unit, with their ticks from the unit's first tick (R242). -/
def State.levelSamples (s : State) (k : Nat) (p : PocketSrc) (u : W32) : List (Nat × Int) :=
  let lv := s.reg (pocketAddr k 0x18)
  let comp := lv.getLsbD 25
  let cs := s.unitCodes k p u
  let col := if p.src = 3 then columnOf (if comp then 1 else 0) cs else cs.flatten
  if p.reduce then [(0, if lv.getLsbD 24 then codeMin col else codeMax col)]
  else if p.src = 3 then col.map (fun v => (0, v))
  else (List.range col.length).map (fun m => ((if p.src = 5 then 8 * m else 2 * m), col.getD m 0))

/-- Every compared value of the units of a pocket since the arm block, with its tick. -/
def State.levelTrace (s : State) (k : Nat) : List (W64 × Int) :=
  let p := s.pocketSrc k
  let x := s.pocket k
  if p.src = 4 then
    let i := if s.bit (pocketAddr k 0x18) 25 then 2 else 1
    x.entries.map (fun e => (s.tickOf (e.headD 0), sat16 (e.getD i 0).toInt))
  else
    let u0 := p.unitOf x.armBlock
    (List.range ((bdiff s.pin u0).toNat / p.blocks)).flatMap (fun i =>
      let u := u0 + BitVec.ofNat 32 (i * p.blocks)
      (s.levelSamples k p u).map (fun y => (s.tickOf u + BitVec.ofNat 64 y.1, y.2)))

/-- The points at which a trace crosses LEVEL in the direction of SLOPE, after lying beyond LEVEL ∓ HYST (R242). -/
def crossings (level hyst : Int) (falling : Bool) : Bool → List (W64 × Int) → List W64
  | _, [] => []
  | armed, (p, v) :: t =>
    let v' := if falling then -v else v
    let l' := if falling then -level else level
    if armed && decide (l' ≤ v') then p :: crossings level hyst falling false t
    else crossings level hyst falling (armed || decide (v' < l' - hyst)) t

/-- The LEVEL causes of a pocket up to the pin block that lie at or after the arm block (R242, R243). -/
def State.levelCauses (s : State) (k : Nat) : List W64 :=
  let lv := s.reg (pocketAddr k 0x18)
  if s.bit (pocketAddr k 0x14) 0 then
    (crossings (lv.setWidth 16 : BitVec 16).toInt (wfld lv 23 16) (lv.getLsbD 24) false (s.levelTrace k)).filter
      (fun p => decide (0 ≤ (p - s.tickOf (s.pocket k).armBlock).toInt))
  else []

/-- The causes that count, of a pocket that has not decided (R243). -/
def State.causesNow (s : State) (k : Nat) : List Cand :=
  (s.levelCauses k).map (fun p => ({ cause := 0, p } : Cand)) ++ (s.pocket k).cands

/-- Every candidate whose trigger unit exists, with its index. -/
def State.candidates (s : State) (k : Nat) : List (Nat × Cand) :=
  (s.causesNow k).filterMap (fun (c : Cand) => (s.unitIndex k ((c.p >>> 6).setWidth 32)).map (fun i => (i, c)))

/-! ## Captures and headers (R240, R245, R250) -/

/-- RING (R240). -/
def State.pocketRing (s : State) (k : Nat) : Nat :=
  64 * (s.fld (pocketAddr k 8) 15 0 + s.fld (pocketAddr k 0xC) 15 0) + 4096

/-- The base of pocket memory (R445). -/
def pocketBase (k : Nat) : Nat := tileBase (16 + k) + 0x800000

/-- The base of the segment in use. -/
def State.segBase (s : State) (k : Nat) : Nat :=
  pocketBase k + s.fld (pocketAddr k 0x20) 7 4 * (64 + s.pocketRing k)

/-- Write words from an address on. -/
def State.setWords (s : State) (a : Nat) : List W32 → State
  | [] => s
  | w :: ws => (s.setWord a w).setWords (a + 4) ws

/-- What a header or trailer says (R250). -/
structure Head where
  trailer : Bool
  valid : Bool
  overflow : Bool
  throttled : Bool
  causes : BitVec 5
  trigOff : Nat
  oldOff : Nat
  pre : Nat
  post : Nat
  tick : W64
  block : W32
deriving DecidableEq, Repr

/-- The sixteen words of a header or trailer (R250). -/
def State.headWords (s : State) (k : Nat) (h : Head) : List W32 :=
  let p := s.pocketSrc k
  [BitVec.ofNat 32 ((if h.trailer then 6 else 5) * 2 ^ 28 + p.src * 2 ^ 25 + p.sel * 2 ^ 20 + p.reduce.toNat * 2 ^ 19 +
     h.valid.toNat * 2 ^ 18 + h.overflow.toNat * 2 ^ 17 + h.throttled.toNat * 2 ^ 16 + h.causes.toNat * 2 ^ 11 +
     s.fld (pocketAddr k 0x20) 7 4 * 2 ^ 7),
   BitVec.ofNat 32 h.trigOff, BitVec.ofNat 32 h.oldOff, BitVec.ofNat 32 h.pre, BitVec.ofNat 32 h.post,
   h.tick.setWidth 32, (h.tick >>> 32).setWidth 32, h.block, BitVec.ofNat 32 p.interval,
   BitVec.ofNat 32 (s.pocket k).missed] ++ List.replicate 6 0

/-- The units written since the arm block enter the segment's ring (R241): those that a full ring still holds. -/
def State.writeRing (s : State) (k : Nat) : State :=
  let ring := s.pocketRing k
  let size := (s.pocketSrc k).size
  let n := s.unitsWritten k
  let first := n - ring / size
  foldS (List.range (n - first)) (fun i t =>
    match s.unitAt k (first + i) with
    | some u => t.setBytes (s.segBase k + 64 + ((first + i) * size) % ring) u.2
    | none => t) s

/-- A capture completes (R245): its data and header are written. trig is the index of the trigger unit, or of the unit
after the last where there was no trigger; post the bytes held from it on. -/
def State.completeCapture (s : State) (k trig post : Nat) (triggered throttled : Bool) : State :=
  let x := s.pocket k
  let ring := s.pocketRing k
  let size := (s.pocketSrc k).size
  let pre := min (64 * s.fld (pocketAddr k 8) 15 0) (trig * size)
  let s := s.writeRing k
  let h : Head :=
    { trailer := false, valid := true, overflow := false, throttled, causes := if triggered then x.causes else 0
      trigOff := (trig * size) % ring, oldOff := (trig * size - pre) % ring, pre, post
      tick := if triggered then x.trigP else 0, block := if triggered then x.trigUnit else 0 }
  let s := s.setWords (s.segBase k) (s.headWords k h)
  let s := (s.addSat (pocketAddr k 0x2C) 1).flag (pocketFlags k) 0
  s.setPocket k { s.pocket k with doneAt := s.pin }

/-! ## Streaming (R247, R248) -/

/-- The trailer of a stream (R250): the last good unit's block and DEVTIME, and the bytes streamed. -/
def State.streamEnd (s : State) (k st : Nat) (overflow throttled : Bool) : State :=
  let x := s.pocket k
  let h : Head :=
    { trailer := true, valid := true, overflow, throttled, causes := x.causes, trigOff := 0, oldOff := 0, pre := 0
      post := x.streamed, tick := s.tickOf x.lastUnit, block := x.lastUnit }
  let s := s.setPocket k { x with fifo := x.fifo ++ (s.headWords k h).flatMap leBytes, doneAt := s.pin }
  s.setPocketSt k st

/-- The stream's units written by the pin block enter the FIFO, until one would leave fewer than 64 bytes free: then
streaming stops (R248). fuel bounds the units taken. -/
def State.streamFill (s : State) (k : Nat) : Nat → State
  | 0 => s
  | fuel + 1 =>
    let x := s.pocket k
    let p := s.pocketSrc k
    let lines := s.fld (pocketAddr k 0xC) 15 0
    if s.pocketSt k ≠ 5 ∨ (lines ≠ 0xFFFF ∧ 64 * lines ≤ x.streamed) then s
    else
      match s.unitIndex k x.trigUnit with
      | none => s
      | some t =>
        let i := t + x.streamed / p.size
        if s.unitsWritten k ≤ i then s
        else match s.unitAt k i with
        | none => s
        | some u =>
          if 0x400000 < x.fifo.length + p.size + 64 then (s.streamEnd k 6 true false).flag (pocketFlags k) 3
          else (s.setPocket k { x with fifo := x.fifo ++ u.2, streamed := x.streamed + p.size, lastUnit := u.1 }).streamFill k fuel

/-- Bring the FIFO up to the pin block: after POST lines the stream ends (R247). -/
def State.streamUp (s : State) (k : Nat) : State :=
  let s := s.streamFill k (s.unitsWritten k + 1)
  let lines := s.fld (pocketAddr k 0xC) 15 0
  if s.pocketSt k = 5 ∧ lines ≠ 0xFFFF ∧ 64 * lines ≤ (s.pocket k).streamed then
    (s.streamEnd k 4 false false).flag (pocketFlags k) 1
  else s

/-- Streaming begins at a unit (R247): the header line enters the FIFO. -/
def State.streamBegin (s : State) (k : Nat) : State :=
  let x := s.pocket k
  let h : Head :=
    { trailer := false, valid := false, overflow := false, throttled := false, causes := x.causes, trigOff := 0
      oldOff := 0, pre := 0, post := 0, tick := x.trigP, block := x.trigUnit }
  let s := s.setPocket k { x with fifo := (s.headWords k h).flatMap leBytes, streamed := 0, lastUnit := x.trigUnit }
  s.setPocketSt k 5

/-- LEVEL causes that arose since the decision, or since the last count, are counted by R243. -/
def State.levelMiss (s : State) (k : Nat) : State :=
  let n := (s.levelCauses k).length
  let old := (s.pocket k).levels
  (s.setPocket k { s.pocket k with levels := max n old }).missCause k (n - old)

/-- A pocket is brought up to the pin block, as a reader of its memory, its registers or its stream window finds it: the ring or the
FIFO holds what is written (R241, R247), the causes missed are counted (R243). -/
def State.pocketSync (s : State) (k : Nat) : State :=
  match s.pocketSt k with
  | 1 => s.writeRing k
  | 2 => (s.writeRing k).levelMiss k
  | 3 => s.levelMiss k
  | 5 => s.streamUp k
  | _ => s

/-- A pocket stops (R249, DISARM of R252): a capture in POST, or under throttling in FILLING too, completes with what it
holds; a stream ends with its trailer. -/
def State.pocketStop (s : State) (k : Nat) (throttled : Bool) : State :=
  let size := (s.pocketSrc k).size
  let n := s.unitsWritten k
  let x := s.pocket k
  match s.pocketSt k with
  | 1 =>
    let s := if throttled then s.completeCapture k n 0 false true else s.writeRing k
    s.setPocketSt k 6
  | 2 =>
    let s := s.levelMiss k
    let t := (s.unitIndex k x.trigUnit).getD n
    let post := min ((n - t) * size) (64 * s.fld (pocketAddr k 0xC) 15 0)
    (s.completeCapture k t post true throttled).setPocketSt k 6
  | 3 => (s.levelMiss k).setPocketSt k 6
  | 5 => let s := s.streamUp k
         if s.pocketSt k = 5 then s.streamEnd k 6 false throttled else s
  | _ => s

/-- The pocket captures or streams. -/
def State.pocketBusy (s : State) (k : Nat) : Bool :=
  s.pocketSt k == 1 || s.pocketSt k == 2 || s.pocketSt k == 3 || s.pocketSt k == 5

/-- The pocket's yoke has reached throttle level 2 (R249). -/
def State.pocketThrottle (s : State) (k : Nat) : State :=
  if s.pocketBusy k then (s.pocketStop k true).flag (pocketFlags k) 4 else s

/-- An outcome is released on channel c (R242, cause 1), and its INTEGRATION entry stored where a pocket selects the
channel (R238). -/
def State.pocketOutcome (s : State) (c : Nat) (stamp : W32) (value : BitVec 2) (absent : Bool) (entry : List W32) : State :=
  let s := foldS (List.range 16) (fun k s =>
    let v := s.reg (pocketAddr k 0x1C)
    if wfld v 8 0 = c ∧ (v.getLsbD 11 ∨ (absent ∧ v.getLsbD 12) ∨ wfld v 10 9 = value.toNat) then
      s.pocketCause k 1 (s.tickOf stamp)
    else s) s
  let k := c / 32
  let p := s.pocketSrc k
  let st := s.pocketSt k
  if p.src = 4 ∧ p.sel = c % 32 ∧ (st = 1 ∨ st = 2 ∨ st = 3 ∨ st = 5) ∧ bge stamp (s.pocket k).armBlock then
    s.setPocket k { s.pocket k with entries := (s.pocket k).entries ++ [entry] }
  else s

/-- Engine e plays a MARK (R242, cause 2). -/
def State.pocketMark (s : State) (e : Nat) (at' : Tm) : State :=
  foldS (List.range 16) (fun k s =>
    if s.fld (pocketAddr k 0x1C) 23 13 = e then s.pocketCause k 2 (s.tickOf at'.b + at'.t.setWidth 64) else s) s

/-- A rising edge on a TRIG_IN pin (R242, cause 3). -/
def State.pocketPin (s : State) (pin : Nat) (tick : W64) : State :=
  foldS (List.range 16) (fun k s => if s.bit (pocketAddr k 0x1C) (24 + pin) then s.pocketCause k 3 tick else s) s

end Sys2Proof.Machine
end

