-- ==== Sys2Proof/Machine/MenderOps.lean ====
section
/-! DEFINITION. Mender (spec/07): rounds and their closing, the table check, decoding a window, and what a commit
applies, publishes and records. -/

namespace Sys2Proof.Machine

/-- MEND_CTRL. -/
def aMendCtrl : Nat := 0x10040000
/-- MEND_CFG. -/
def aMendCfg : Nat := 0x10040004
/-- MEND_ROUNDS. -/
def aMendRounds : Nat := 0x10040008
/-- MEND_ERR_ENTRY. -/
def aMendErr : Nat := 0x10040028
/-- MEND_OBS_STATE. -/
def aMendObs : Nat := 0x10040030

/-- Change Mender's internal state. -/
def State.modMend (s : State) (f : Mend → Mend) : State := { s with mend := f s.mend }

/-- SEQ_LEN (R213). -/
def State.seqLen (s : State) : Nat := s.fld aMendCfg 26 20
/-- CLUSTER_MAX (R213). -/
def State.clusterMax (s : State) : Nat := s.fld aMendCfg 19 10
/-- GROWTH_MAX (R213). -/
def State.growthMax (s : State) : Nat := s.fld aMendCfg 9 4
/-- W (R213). -/
def State.mendW (s : State) : Nat := s.fld aMendCfg 3 0
/-- MEND_ROUNDS. -/
def State.mendRounds (s : State) : Nat := s.fld aMendRounds 15 0

/-- OBS_DELAY and FRAME_DELAY in force (R201). -/
def State.mendDelays (s : State) : Nat × Nat :=
  if s.redundant then (if s.twin then (157, 219) else (133, 195)) else (if s.twin then (142, 204) else (118, 180))

/-- The layout at sequence position i. -/
def State.layoutAt (s : State) (i : Nat) : Nat := s.fld (0x10040200 + 4 * i) 2 0

/-- The layout of round n (R188). -/
def State.layoutOf (s : State) (n : Nat) : Nat := s.layoutAt (n % s.seqLen)

/-- Detector d is active in layout l (R188). -/
def State.detActive (s : State) (l d : Nat) : Bool := s.bit (mendDetAddr d) 31 && s.bit (detIndexAddr l d) 31

/-- The detectors that are enabled: the MEND_DET registers with EN = 1, in ascending number. -/
def State.detsOn (s : State) : List Nat :=
  s.regs.filterMap (fun p =>
    if 0x10041000 ≤ p.1 ∧ p.1 < 0x10042000 ∧ p.2.getLsbD 31 then some ((p.1 - 0x10041000) / 4) else none)

/-- The detectors active in layout l, in ascending number. -/
def State.activeDets (s : State) (l : Nat) : List Nat := s.detsOn.filter (fun d => s.bit (detIndexAddr l d) 31)

/-! ## Graph table entries (R191, R192) -/

/-- WEIGHT, KIND, CROSS, DET_A, DET_B, OBS_MASK, FRAME and OP of an entry. -/
structure GEntry where
  weight : Nat
  cross : Bool
  kind : Nat
  detB : Nat
  detA : Nat
  obs : BitVec 16
  op : Nat
  frame : Nat
deriving DecidableEq, Repr

/-- Graph table entry n. -/
def State.gentry (s : State) (n : Nat) : GEntry :=
  let a := s.word (graphAddr n 0)
  let c := s.word (graphAddr n 2)
  { weight := wfld a 27 24, cross := a.getLsbD 22, kind := wfld a 21 20, detB := wfld a 19 10, detA := wfld a 9 0
    obs := (s.word (graphAddr n 1)).setWidth 16, op := wfld c 13 12, frame := wfld c 11 0 }

/-- A reserved bit of entry n is set. -/
def State.gReserved (s : State) (n : Nat) : Bool :=
  (List.range 4).any (fun w => (s.word (graphAddr n w) &&& ~~~graphMask w) != 0)

/-- The entries of detector d in layout l: FIRST and COUNT. -/
def State.detRange (s : State) (l d : Nat) : Nat × Nat :=
  (s.fld (detIndexAddr l d) 16 0, s.fld (detIndexAddr l d) 30 24)

/-- The numbers of the entries of detector d in layout l. -/
def State.detEntries (s : State) (l d : Nat) : List Nat :=
  (List.range (s.detRange l d).2).map ((s.detRange l d).1 + ·)

/-- Two entries agree in WEIGHT, OBS_MASK, FRAME and OP (R193 code 3). -/
def GEntry.same (a b : GEntry) : Bool :=
  a.weight == b.weight && a.obs == b.obs && a.frame == b.frame && a.op == b.op

/-! ## The table check (R193) -/

/-- Detector b of layout l has an entry of a kind back to d that agrees with g. -/
def State.hasReverse (s : State) (l b d kind : Nat) (g : GEntry) : Bool :=
  (s.detEntries l b).any (fun n =>
    let r := s.gentry n
    r.detA == b && r.detB == d && r.kind == kind && !r.cross && r.same g)

/-- The code an entry fails with, tested in the order 6, 1, 2, 5, 3, 4 (R193); i is the sequence position. -/
def State.checkEntry (s : State) (i d n : Nat) (past : Bool) : Option Nat :=
  let len := s.seqLen
  let l := s.layoutAt i
  let next := s.layoutAt ((i + 1) % len)
  let prev := s.layoutAt ((i + len - 1) % len)
  let g := s.gentry n
  let other := if g.kind = 1 then next else if g.kind = 2 then prev else l
  if n ∈ s.mend.bad then some 6
  else if past ∨ g.detA ≠ d then some 1
  else if s.gReserved n ∨ (g.kind = 3 ∧ g.detB ≠ 0) ∨ (g.cross ∧ g.kind ≠ 0) then some 2
  else if !g.cross && g.kind != 3 && !s.detActive other g.detB then some 5
  else if !g.cross && g.kind == 0 && !s.hasReverse l g.detB d 0 g then some 3
  else if g.kind == 1 && !s.hasReverse next g.detB d 2 g then some 4
  else none

/-- The first failure within a detector: its DET_INDEX word first, then its entries (R193), as MEND_ERR_ENTRY holds it. -/
def State.checkDet (s : State) (i d : Nat) : Option W32 :=
  let l := s.layoutAt i
  let (first, count) := s.detRange l d
  if 131072 + 1024 * l + d ∈ s.mend.bad then
    some (BitVec.ofNat 32 (6 * 2 ^ 28 + 2 ^ 20 + l * 2 ^ 17 + d))
  else
    let past := 131072 < first + count
    (s.detEntries l d).findSome? (fun n =>
      (s.checkEntry i d n past).map (fun c => BitVec.ofNat 32 (c * 2 ^ 28 + n % 131072)))

/-- The first failing entry of the check, in the fixed order of R193. -/
def State.checkTables (s : State) : Option W32 :=
  (List.range s.seqLen).findSome? (fun i =>
    (s.activeDets (s.layoutAt i)).findSome? (fun d => s.checkDet i d))

/-! ## Rounds (R188-R190) -/

/-- The sequence positions at which detector d is active. -/
def State.detPositions (s : State) (d : Nat) : List Nat :=
  (List.range s.seqLen).filter (fun i => s.detActive (s.layoutAt i) d)

/-- The round of the k-th outcome of detector d, k from 0 (R188); none for a detector active in no layout. -/
def State.roundOf (s : State) (d k : Nat) : Option Nat :=
  let ps := s.detPositions d
  if ps.isEmpty then none else (ps[k % ps.length]?).map (fun p => k / ps.length * s.seqLen + p)

/-- Every detector active in round n has delivered its outcome. -/
def State.roundFull (s : State) (n : Nat) : Bool :=
  let ds := s.activeDets (s.layoutOf n)
  !ds.isEmpty && ds.all (fun d => s.mend.ins.any (fun i => i.round == n && i.det == d))

/-- The final close is in the queue or committed. -/
def State.finalMade (s : State) : Bool := s.mend.finalDone || s.mend.closes.any (·.final)

/-- The decoder is busy with an earlier window (R190): one that only awaits the partner's part of the exchange leaves it free
(R198). -/
def State.decoderBusy (s : State) : Bool :=
  match s.mend.closes with
  | [] => false
  | [_] => s.mend.mine.isNone
  | _ => true

/-- Close round `closed` with a stamp (R190): a close while the decoder is busy is decoded late. -/
def State.closeRound (s : State) (stamp : W32) (final : Bool) : State :=
  let n := s.mend.closed
  let late := s.decoderBusy
  s.modMend (fun m => { m with
    closed := n + 1, lastStamp := stamp
    closes := m.closes ++ [({ round := n, stamp, final := final || s.mendRounds == n + 1, late } : Close)] })

/-- The round's closing stamp: the latest among its outcomes. With no stamp among them the spec states none: a free
value. -/
def State.roundStamp (s : State) (n : Nat) : W32 := (tabFind s.mend.stamps n).getD (Config.freeWord s.free)

/-- Close up to k rounds, in order, as long as the next one is full (R190). -/
def State.closeFull (s : State) : Nat → State
  | 0 => s
  | k + 1 =>
    let n := s.mend.closed
    if s.roundFull n && !s.finalMade then
      let s := if (tabFind s.mend.stamps n).isNone then (s.closeRound (s.roundStamp n) false).draw
               else s.closeRound (s.roundStamp n) false
      s.closeFull k
    else s

/-- The newest round with an outcome that is not closed, as a count of rounds to close. -/
def State.openRounds (s : State) : Nat :=
  (s.mend.ins.map (fun i => i.round + 1)).foldl max s.mend.closed - s.mend.closed

/-- Close every round that is full, in order (R190). -/
def State.closeAll (s : State) : State := s.closeFull s.openRounds

/-- The detector's value of an outcome (R189). -/
def State.inputValue (s : State) (d : Nat) (st : DetSt) (value : BitVec 2) (absent : Bool) : Bool :=
  if absent then st.prev.getD (s.bit (mendDetAddr d) 29) else value != 0

/-- Record an input of round n (R189): the event against REF in the first active round, against the previous value
later. -/
def State.recordInput (s : State) (n d : Nat) (value : BitVec 2) (absent : Bool) (stamp : Option W32) : State :=
  let st := tabGet DetSt.reset s.mend.dets d
  let v := s.inputValue d st value absent
  let event := match st.prev with
    | some p => v != p
    | none => s.bit (mendDetAddr d) 30 && (v != s.bit (mendDetAddr d) 29)
  s.modMend (fun m => { m with
    ins := m.ins ++ [({ round := n, det := d, v, event, absent } : RoundIn)]
    dets := tabSet DetSt.reset m.dets d { taken := st.taken + 1, prev := some v }
    stamps := match stamp with
      | some b => tabIns n (match tabFind m.stamps n with | some a => bmax a b | none => b) m.stamps
      | none => m.stamps })

/-- Take every missing outcome of round n as ABSENT (R190). -/
def State.fillAbsent (s : State) (n : Nat) : State :=
  let ds := (s.activeDets (s.layoutOf n)).filter (fun d => !s.mend.ins.any (fun i => i.round == n && i.det == d))
  foldS ds (fun d s => ((s.addSat 0x10040020 1).flag mendFlags 2).recordInput n d 3 true none) s

/-- Close k rounds by force with closing stamp f, the last one final (R190). -/
def State.forceRounds (s : State) (f : W32) : Nat → State
  | 0 => s
  | k + 1 =>
    if s.finalMade then s
    else ((s.fillAbsent s.mend.closed).closeRound f (k == 0)).forceRounds f k

/-- The forced final close at pin block f (R190). -/
def State.forceClose (s : State) (f : W32) : State :=
  if s.finalMade then s
  else
    let s := s.modMend (fun m => { m with forced := true })
    let k := s.openRounds
    let k := if s.mend.closed = 0 ∧ k = 0 then 1 else k
    if k ≠ 0 then s.forceRounds f k
    else s.modMend (fun m => { m with
      closes := m.closes ++ [({ round := m.closed - 1, stamp := f, final := true, late := s.decoderBusy } : Close)] })

/-- Mender at the start of a shot (R186). -/
def State.mendShot (s : State) (start : W32) : State :=
  (s.modMend (fun m => { Mend.reset with
    set := m.set, shotStart := start, lastStamp := start, bad := m.bad, check := m.check
    detachAfter := m.detachAfter })).setReg aMendObs 0

/-- Mender detaches (R186): EN = 0 written while it was attached takes effect now (log entry 88). -/
def State.mendDetach (s : State) : State :=
  let s := if s.mend.detachAfter then s.setBit aMendCtrl 0 false else s
  s.modMend (fun m => { Mend.reset with bad := m.bad, check := m.check })

/-! ## Decoding a window (R195) -/

/-- A vertex: a detector of a round, or N. -/
abbrev Vertex := Option (Nat × Nat)

/-- A window edge: its round and entry, its ends, whether it ends at TOP. -/
structure WEdge where
  round : Nat
  entry : Nat
  g : GEntry
  a : Vertex
  b : Vertex
  top : Bool
deriving DecidableEq, Repr

/-- The number that mend.bad gives the DET_INDEX word of detector d in the layout of round r. -/
def State.detWord (s : State) (r d : Nat) : Nat := 131072 + 1024 * s.layoutOf r + d

/-- The entries of detector b's list for round r that lead back along the edge of an entry (R191, R193). -/
def State.reverseOf (s : State) (r : Nat) (g : GEntry) (kind : Nat) : List Nat :=
  (s.detEntries (s.layoutOf r) g.detB).filter (fun n =>
    let h := s.gentry n
    h.detA == g.detB && h.detB == g.detA && h.kind == kind && !h.cross)

/-- The protected words that give the edge of an entry of round r in a window whose newest round is m: the entry, the one that leads
back along it, and the DET_INDEX words of its ends (R191, R194; log entry 131). -/
def State.edgeWords (s : State) (m r n : Nat) : List Nat :=
  let g := s.gentry n
  [n, s.detWord r g.detA] ++
    (if g.cross then []
     else if g.kind = 0 then s.reverseOf r g 0 ++ [s.detWord r g.detB]
     else if g.kind = 1 ∧ r ≠ m then s.reverseOf (r + 1) g 2 ++ [s.detWord (r + 1) g.detB]
     else [])

/-- The edge that an entry of round r gives in a window whose newest round is m (R195): KIND 2 entries, and entries of
one round from the higher end, repeat another entry's edge. A two-bit error disables the edge (R194). -/
def State.windowEdge (s : State) (m r n : Nat) : Option WEdge :=
  let g := s.gentry n
  let a : Vertex := some (r, g.detA)
  if g.weight = 0 ∨ (s.edgeWords m r n).any (fun w => decide (w ∈ s.mend.bad ∨ w ∈ s.mend.off)) then none
  else if g.cross ∨ g.kind = 3 then some { round := r, entry := n, g, a, b := none, top := false }
  else if g.kind = 0 then
    if g.detA < g.detB then some { round := r, entry := n, g, a, b := some (r, g.detB), top := false } else none
  else if g.kind = 1 then
    if r = m then some { round := r, entry := n, g, a, b := none, top := true }
    else some { round := r, entry := n, g, a, b := some (r + 1, g.detB), top := false }
  else none

/-- Insert an entry number in rising order, once. -/
def insNat (n : Nat) : List Nat → List Nat
  | [] => [n]
  | x :: t => if n < x then n :: x :: t else if n = x then x :: t else x :: insNat n t

/-- The rounds of a window. -/
def windowRounds (r0 m : Nat) : List Nat := (List.range (m + 1 - r0)).map (r0 + ·)

/-- The entries of the detectors active in round r, in rising order. -/
def State.roundEntries (s : State) (r : Nat) : List Nat :=
  let l := s.layoutOf r
  (s.activeDets l).foldl (fun acc d => (s.detEntries l d).foldl (fun acc n => insNat n acc) acc) []

/-- The edges of a window, in the order of R195: by round, then entry number. -/
def State.windowEdges (s : State) (r0 m : Nat) : List WEdge :=
  (windowRounds r0 m).flatMap (fun r => (s.roundEntries r).filterMap (s.windowEdge m r))

/-- A two-bit error met in the entries of a window stays disabled for the rest of the shot, and is flagged (R194). -/
def State.meetErrors (s : State) (r0 m : Nat) : State :=
  let used := (windowRounds r0 m).flatMap (fun r => s.roundEntries r ++ (s.activeDets (s.layoutOf r)).map (s.detWord r))
  let met := s.mend.bad.filter (fun n => decide (n ∈ used) && !decide (n ∈ s.mend.off))
  if met.isEmpty then s
  else ((s.modMend (fun d => { d with off := d.off ++ met })).flag mendFlags 7).flag mendFlags 4

/-- The vertices of a window, in the order of R195. -/
def State.windowVerts (s : State) (r0 m : Nat) : List (Nat × Nat) :=
  (windowRounds r0 m).flatMap (fun r => (s.activeDets (s.layoutOf r)).map (fun d => (r, d)))

/-- A carry stands at a vertex: an odd number of toggles (R196). -/
def State.carryAt (s : State) (v : Nat × Nat) : Bool := (s.mend.carries.filter (· == v)).length % 2 == 1

/-- The detection event of a vertex. -/
def State.eventAt (s : State) (v : Nat × Nat) : Bool :=
  s.mend.ins.any (fun i => i.round == v.1 && i.det == v.2 && i.event)

/-- The defects of a window: events XOR carries, in vertex order. -/
def State.windowDefects (s : State) (r0 m : Nat) : List (Nat × Nat) :=
  (s.windowVerts r0 m).filter (fun v => s.eventAt v != s.carryAt v)

/-- The label of a vertex in a partition; an unlisted vertex is alone. -/
def labelOf (p : List (Vertex × Vertex)) (v : Vertex) : Vertex :=
  match p.find? (fun x => x.1 == v) with
  | some x => x.2
  | none => v

/-- Join the parts of two vertices. -/
def joinParts (p : List (Vertex × Vertex)) (a b : Vertex) : List (Vertex × Vertex) :=
  let la := labelOf p a
  let lb := labelOf p b
  if la = lb then p
  else
    let add (v : Vertex) (q : List (Vertex × Vertex)) := if q.any (fun x => x.1 == v) then q else q ++ [(v, v)]
    (add a (add b (add lb (add la p)))).map (fun x => if x.2 = lb then (x.1, la) else x)

/-- The partition that joins the ends of some edges. -/
def partition (es : List WEdge) : List (Vertex × Vertex) := es.foldl (fun p e => joinParts p e.a e.b) []

/-- The cluster with a label is odd and lacks N. -/
def oddLabel (p : List (Vertex × Vertex)) (defects : List (Nat × Nat)) (l : Vertex) : Bool :=
  l != labelOf p none && (defects.filter (fun v => labelOf p (some v) == l)).length % 2 == 1

/-- Some odd cluster lacks N. -/
def someOdd (p : List (Vertex × Vertex)) (defects : List (Nat × Nat)) : Bool :=
  defects.any (fun v => oddLabel p defects (labelOf p (some v)))

/-- One growth step (R195): every odd cluster without N supports the edges that leave it. -/
def growStep (p : List (Vertex × Vertex)) (defects : List (Nat × Nat)) (es : List (WEdge × Nat)) : List (WEdge × Nat) :=
  es.map (fun x =>
    let la := labelOf p x.1.a
    let lb := labelOf p x.1.b
    if la = lb then x
    else (x.1, x.2 + (oddLabel p defects la).toNat + (oddLabel p defects lb).toNat))

/-- The edges that have grown. -/
def grownEdges (es : List (WEdge × Nat)) : List WEdge := (es.filter (fun x => decide (x.1.g.weight ≤ x.2))).map (·.1)

/-- The growth loop (R195): the supports, the steps used, and whether GROWTH_MAX stopped it. -/
def growLoop (defects : List (Nat × Nat)) : Nat → Nat → List (WEdge × Nat) → List (WEdge × Nat) × Nat × Bool
  | 0, k, es => (es, k, someOdd (partition (grownEdges es)) defects)
  | f + 1, k, es =>
    let p := partition (grownEdges es)
    if someOdd p defects then growLoop defects f (k + 1) (growStep p defects es) else (es, k, false)

/-- The forest: grown edges in edge order that each join two trees. -/
def forestOf (es : List WEdge) : List WEdge :=
  (es.foldl (fun (acc : List WEdge × List (Vertex × Vertex)) e =>
    if labelOf acc.2 e.a = labelOf acc.2 e.b then acc else (acc.1 ++ [e], joinParts acc.2 e.a e.b)) ([], [])).1

/-- Vertex order with N apart. -/
def vertLt (a b : Nat × Nat) : Bool := a.1 < b.1 || (a.1 == b.1 && decide (a.2 < b.2))

/-- The ends of a list of edges. -/
def edgeEnds (es : List WEdge) : List Vertex := es.flatMap (fun e => [e.a, e.b])

/-- The root of the tree that holds a vertex: N, else its lowest vertex. -/
def treeRoot (forest : List WEdge) (v : Vertex) : Vertex :=
  let p := partition forest
  let l := labelOf p v
  if labelOf p none = l then none
  else
    let vs := ((edgeEnds forest).filter (fun x => labelOf p x == l)).filterMap id
    firstBy vertLt vs

/-- A forest edge is in the correction: its side away from the root holds an odd number of defects. -/
def inCorrection (forest : List WEdge) (defects : List (Nat × Nat)) (e : WEdge) : Bool :=
  let q := partition (forest.erase e)
  let root := treeRoot forest e.a
  let away := if labelOf q e.a = labelOf q root then labelOf q e.b else labelOf q e.a
  (defects.filter (fun v => labelOf q (some v) == away)).length % 2 == 1

/-- What decoding a window finds. -/
structure Decoded where
  correction : List WEdge
  defects : Nat
  clusters : Nat
  steps : Nat
  ovfClusters : Bool
  ovfGrowth : Bool
deriving DecidableEq, Repr

/-- Decode the window of rounds r0 to m (R195). -/
def State.decodeWindow (s : State) (r0 m : Nat) : Decoded :=
  let all := s.windowDefects r0 m
  let kept := all.take s.clusterMax
  let (es, steps, ovf) := growLoop kept s.growthMax 0 ((s.windowEdges r0 m).map (fun e => (e, 0)))
  let grown := grownEdges es
  let forest := forestOf grown
  let p := partition grown
  { correction := forest.filter (inCorrection forest kept)
    defects := all.length
    clusters := (kept.map (fun v => labelOf p (some v))).eraseDups.length
    steps, ovfClusters := s.clusterMax < all.length, ovfGrowth := ovf }

/-! ## Commits (R196-R210) -/

/-- The window of a close: its first round. -/
def State.windowFirst (s : State) (c : Close) : Nat := c.round + 1 - s.mendW

/-- The correction edges that a commit applies (R196, R197). -/
def appliedEdges (r0 : Nat) (final : Bool) (es : List WEdge) : List WEdge :=
  if final then es.filter (fun e => !e.top) else es.filter (fun e => e.round == r0)

/-- Toggle a frame's Pauli bits in a list of frames in rising order. -/
def addOp (frame op : Nat) : List (Nat × Nat) → List (Nat × Nat)
  | [] => [(frame, op)]
  | (f, o) :: t => if frame < f then (frame, op) :: (f, o) :: t
                   else if frame = f then (f, o ^^^ op) :: t else (f, o) :: addOp frame op t

/-- The frame updates of some entries: the XOR of OP for each FRAME, those that are not 0 (R196). -/
def frameOps (gs : List GEntry) : List (Nat × Nat) :=
  (gs.foldl (fun l g => if g.op = 0 then l else addOp g.frame g.op l) []).filter (fun x => x.2 != 0)

/-- The XOR of some entries' OBS_MASK (R196). -/
def obsXor (gs : List GEntry) : BitVec 16 := gs.foldl (fun x g => x ^^^ g.obs) 0

/-- The pair that names a cross edge, lead detector first (R208). -/
def State.crossPair (s : State) (e : WEdge) : Nat × Nat := if s.follow then (e.g.detB, e.g.detA) else (e.g.detA, e.g.detB)

/-- The cross edges among those a commit applies: of round r0, and at a final commit of every round of the window (R197, R208; log
entry 87). -/
def crossEdges (es : List WEdge) : List WEdge := es.filter (·.g.cross)

/-- The half's own entry for a cross edge of round r, by its pair (R208). -/
def State.crossEntry (s : State) (r : Nat) (pr : Nat × Nat) : Option GEntry :=
  let mine := if s.follow then pr.2 else pr.1
  let other := if s.follow then pr.1 else pr.2
  ((s.detEntries (s.layoutOf r) mine).map s.gentry).find? (fun g => g.cross && g.detA == mine && g.detB == other)

/-- The overflow causes of a decoded window as MEND_XCHG's OVF bits: [0] clusters, [1] growth, [2] frames. -/
def Decoded.ovf (d : Decoded) (frames : Bool) : Nat := d.ovfClusters.toNat + 2 * d.ovfGrowth.toNat + 4 * frames.toNat

/-- What a half sends the other at a commit (R208): its cross edges of round r0, its parities with its own edges of this
commit in, its overflow causes. -/
def State.xchgMsg (s : State) (c : Close) : XchgMsg :=
  let r0 := s.windowFirst c
  let d := s.decodeWindow r0 c.round
  let es := appliedEdges r0 c.final d.correction
  let own := (es.filter (fun e => !e.g.cross)).map (·.g)
  { round := r0, ovf := BitVec.ofNat 4 (d.ovf (decide (1024 < (frameOps own).length)))
    obs := (s.reg aMendObs).setWidth 16 ^^^ obsXor own
    edges := (crossEdges es).map (fun e => (e.round, s.crossPair e)) }

/-- Half words packed two to a word, the last one padded (R207). -/
def packHalves : List Nat → List W32
  | [] => []
  | [x] => [BitVec.ofNat 32 x]
  | x :: y :: t => BitVec.ofNat 32 (x + y * 2 ^ 16) :: packHalves t

/-- The raw event record of a window (R207). -/
def State.rawRecord (s : State) (r0 m : Nat) (stamp : W32) (shotNo : W32) : List W32 :=
  let vs := (s.windowVerts r0 m).flatMap (fun v =>
    let a := s.mend.ins.any (fun i => i.round == v.1 && i.det == v.2 && i.absent)
    let w (carry : Bool) : Nat := v.2 + (v.1 - r0) * 2 ^ 10 + carry.toNat * 2 ^ 14 + a.toNat * 2 ^ 15
    (if s.eventAt v then [w false] else []) ++ (if s.carryAt v then [w true] else []))
  [BitVec.ofNat 32 (4 * 2 ^ 28 + vs.length * 2 ^ 14 + s.follow.toNat), BitVec.ofNat 32 r0, shotNo, stamp] ++ packHalves vs

/-- The SHOT_NO of the set Mender is attached to. -/
def State.mendShotNo (s : State) : W32 :=
  match s.mend.set with
  | some id => ((s.findSet id).map (·.shotNo)).getD 0
  | none => 0

/-- The later of two blocks by R39, and whether it moved. -/
def State.effectOf (s : State) (b : W32) : W32 := bmax b s.effBlock

/-- Publish the observables of a commit (R201, R204): at C + OBS_DELAY, or when ready, where EMIT says so; only a lead
publishes in a twinset. -/
def State.queuePubs (s : State) (c : Close) (obs : BitVec 16) (absent : Bool) : State :=
  if s.twin && s.follow then s
  else
    let at' := bmax (c.stamp + BitVec.ofNat 32 s.mendDelays.1) s.pin
    let ps := (List.range 16).filterMap (fun k =>
      let r := s.reg (0x10040100 + 4 * k)
      let emit := wfld r 30 29
      if r.getLsbD 31 && (emit == 1 || (emit == 2 && c.final)) then
        some (at', wfld r 9 0, obs.getLsbD k, absent, c.stamp)
      else none)
    s.modMend (fun m => { m with pubs := m.pubs ++ ps })

/-- Commit the window of a close with what the partner sent, if anything (R196-R210); alone marks OVF_SEAM, and each half counts the
cross edges it chose (R210). -/
def State.commitWindow (s : State) (c : Close) (partner : Option XchgMsg) (alone : Bool) : State :=
  let r0 := s.windowFirst c
  let d := s.decodeWindow r0 c.round
  let es := appliedEdges r0 c.final d.correction
  let cross := crossEdges es
  let own := (es.filter (fun e => !e.g.cross)).map (·.g)
  let theirs : List (Nat × Nat × Nat) := match partner with
    | some x => (x.edges.filter (fun t => !(cross.any (fun e => e.round == t.1 && s.crossPair e == t.2)))).eraseDups
    | none => []
  let added := cross.map (·.g) ++ theirs.filterMap (fun t => s.crossEntry t.1 t.2)
  let ops := frameOps (own ++ added)
  let ovfFrames := decide (1024 < ops.length)
  let obsOwn := (s.reg aMendObs).setWidth 16 ^^^ obsXor own ^^^ (if s.follow && !alone then 0 else obsXor added)
  let ovfBits := (BitVec.ofNat 4 (d.ovf ovfFrames) ||| (match partner with | some x => x.ovf | none => 0)) |||
    (if alone then 8 else 0)
  let overflow := ovfBits != 0
  let mineOf (pr : Nat × Nat) : Nat := if s.follow then pr.2 else pr.1
  let room := s.mendRounds = 0 ∨ r0 + 2 < s.mendRounds
  let carries := if c.final then []
    else s.mend.carries ++ ((es.filter (fun e => e.g.kind == 1 && e.round == r0)).map (fun e => (r0 + 1, e.g.detB))) ++
      (if room then theirs.map (fun t => (r0 + 2, mineOf t.2)) else [])
  let seamCarry := !c.final && !theirs.isEmpty && decide room
  let due := c.stamp + BitVec.ofNat 32 s.mendDelays.2
  let effect := s.effectOf due
  let late := c.late || blt (c.stamp + BitVec.ofNat 32 s.mendDelays.1) s.pin || effect != due
  let absentSeen := s.mend.ins.any (fun i => decide (r0 ≤ i.round ∧ i.round ≤ c.round) && i.absent)
  let shotNo := s.mendShotNo
  let w0 := 3 * 2 ^ 28 + min 4095 (own.length + added.length) * 2 ^ 16 + d.steps * 2 ^ 10 + s.follow.toNat * 2 ^ 9 +
    c.final.toNat * 2 ^ 8 + late.toNat * 2 ^ 7 + absentSeen.toNat * 2 ^ 6 + seamCarry.toNat * 2 ^ 5 +
    (ovfBits.getLsbD 3).toNat * 16 + (ovfBits.getLsbD 2).toNat * 8 + (ovfBits.getLsbD 1).toNat * 4 +
    (ovfBits.getLsbD 0).toNat * 2 + overflow.toNat
  let raw := s.rawRecord r0 c.round c.stamp shotNo
  let frames := ops.take 1024
  let published := obsOwn ^^^ (match partner with | some x => x.obs | none => 0)
  -- effects
  let s := (s.meetErrors r0 c.round).setReg aMendObs (obsOwn.setWidth 32)
  let s := (s.addSat 0x10040018 1).setReg 0x1004002C (BitVec.ofNat 32 r0)
  let pk := s.reg 0x10040024
  let s := s.setReg 0x10040024
    (putFld (putFld pk 9 0 (max (wfld pk 9 0) (min 1023 d.defects))) 21 16 (max (wfld pk 21 16) d.steps))
  let s := if overflow then (s.addSat 0x1004001C 1).flag mendFlags 0 else s
  let s := if late then s.flag mendFlags 1 else s
  let s := if seamCarry then s.flag mendFlags 5 else s
  let s := if alone then s.flag mendFlags 6 else s
  let s := s.queuePubs c published (overflow && s.bit aMendCtrl 3)
  let s := foldS frames (fun x s => s.frameQueue
    { block := effect, frame := x.1, cls := clsMender
      op := .pauli (if x.2 % 2 = 1 then 3 else 0) (if 2 ≤ x.2 then 3 else 0) }) s
  let s := if s.bit aMendCtrl 1 then
      s.formRecord none 1 [BitVec.ofNat 32 w0, BitVec.ofNat 32 r0, shotNo, c.stamp, (s.reg aMendObs) &&& 0xFFFF,
        BitVec.ofNat 32 (min 1023 d.clusters * 2 ^ 16 + min 1023 d.defects), effect, 0]
    else s
  let s := if overflow && s.bit aMendCtrl 2 then s.formRecord none 1 raw else s
  s.modMend (fun m => { m with
    carries, closes := m.closes.drop 1, mine := none, exch := none, alone := m.alone || alone
    finalDone := m.finalDone || c.final, finalAt := if c.final then some effect else m.finalAt })

end Sys2Proof.Machine
end

