-- ==== Sys2Proof/Machine/BandOps.lean ====
section
/-! DEFINITION. Temperature bands and the trims they select (spec/15 R383-R386, spec/05 R148), and the throttle level of a
yoke (R388, R389). -/

namespace Sys2Proof.Machine

/-- YOKE_STATUS of yoke y. -/
def aYoke (y : Nat) : Nat := yokeAddr y 4

/-- The yoke an engine lies in. -/
def yokeOfEng (e : Nat) : Nat := yokeOfTile (tileOfEng e)

/-- The tiles of yoke y (R11). -/
def yokeTiles (y : Nat) : List Nat := (List.range 12).map (fun i => 16 * (i / 4) + 4 * y + i % 4)

/-! ## Factory trim tables (R386, R413, R432) -/

/-- The valid copies of an NV page (R415), the newer first. -/
def NvPage.validCopies (p : NvPage) : List NvCopy :=
  let l := if p.a.seq.toNat < p.b.seq.toNat then [p.b, p.a] else [p.a, p.b]
  l.filter (·.valid)

/-- Page n of the store. -/
def State.nvPage (s : State) (n : Nat) : NvPage := tabGet (NvPage.factory n) s.nv.pages n

/-- What a page reads as: its newest valid copy (R415). -/
def State.nvCopy (s : State) (n : Nat) : Option NvCopy := (s.nvPage n).validCopies.head?

/-- The table of band b has a valid copy of every page (R413, R432). -/
def State.trimTable (s : State) (b : Nat) : Bool := (List.range 8).all (fun i => (s.nvCopy (8 + 8 * b + i)).isSome)

/-- The factory entry of a trim register in band b: zero where the band's table is not valid (R432). -/
def State.trimEntry (s : State) (b a : Nat) : Int := if s.trimTable b then Config.trimEntry b a else 0

/-- The trim registers of output port p with their widths (R386). -/
def portTrims (p : Nat) : List (Nat × Nat) :=
  if isFlux p then (List.range 8).map (fun i => (portAddr p (0x100 + 4 * i), 18))
  else (List.range 3).map (fun i => (portAddr p (0x100 + 4 * i), 16))

/-- The slice factors of read-out input port l with their widths (R141, R164). -/
def sliceTrims (l : Nat) : List (Nat × Nat) :=
  (List.range 17).flatMap (fun k =>
    [(adcAddr l (0x40 + 0x10 * k), 16), (adcAddr l (0x44 + 0x10 * k), 18), (adcAddr l (0x48 + 0x10 * k), 16),
     (adcAddr l (0x4C + 0x10 * k), 16)])

/-- Every trim register of tile n. -/
def tileTrims (n : Nat) : List (Nat × Nat) :=
  ((List.range (portsInTile n)).map (portOfTile n)).flatMap portTrims ++
    (if tileType n = 1 then ((List.range 4).map (fun i => 4 * (n - 16) + i)).flatMap sliceTrims else [])

/-- A signed field of w bits holds a value. -/
def fitsInt (w : Nat) (v : Int) : Bool := decide (-(2 ^ (w - 1)) ≤ v) && decide (v < 2 ^ (w - 1))

/-- A working trim moves by a difference; a sum outside its field, for which the spec states no value, is free (log entry
9). -/
def State.trimMove (s : State) (a w : Nat) (d : Int) : State :=
  if d = 0 then s
  else
    let v := sfld (s.reg a) w + d
    let m : W32 := BitVec.ofNat 32 (2 ^ w - 1)
    let s := s.remember a
    if fitsInt w v then s.setReg a (BitVec.ofInt 32 v &&& m) else (s.setReg a (Config.freeWord s.free &&& m)).draw

/-- The trims of a tile change from one band's entries to another's (R386, R148). -/
def State.tileBand (s : State) (n old new : Nat) : State :=
  foldS (tileTrims n) (fun t s => s.trimMove t.1 t.2 (s.trimEntry new t.1 - s.trimEntry old t.1)) s

/-- The working trims of every tile are loaded from the table of band 3 (R386). -/
def State.loadTrims (s : State) : State :=
  foldS (List.range 48) (fun n s =>
    foldS (tileTrims n) (fun t s =>
      (s.remember t.1).setReg t.1 (BitVec.ofInt 32 (s.trimEntry 3 t.1) &&& BitVec.ofNat 32 (2 ^ t.2 - 1))) s) s

/-! ## Bands (R383-R385) -/

/-- A yoke's band in effect. -/
def State.yokeBand (s : State) (y : Nat) : Nat := s.fld (aYoke y) 1 0

/-- A yoke's band by its maximum now. -/
def State.bandSeen (s : State) (y : Nat) : Nat := s.fld (aYoke y) 3 2

/-- A yoke's band changes (R385): its trims move, and HEM_CFG.BAND follows the highest band. -/
def State.bandSet (s : State) (y new : Nat) : State :=
  let old := s.yokeBand y
  let s := foldS (yokeTiles y) (fun n s => s.tileBand n old new) s
  let s := (s.setFld (aYoke y) 1 0 new).flag (yokeFlags y) 1
  let top := BitVec.ofNat 2 (((List.range 4).map s.yokeBand).foldl max 0)
  if top = s.hem.band then s else { s with hem := { s.hem with band := top } }.flag fhFlags 3

/-- A yoke's band by its maximum is recognised (R385). -/
def State.bandNote (s : State) (y seen : Nat) : State :=
  let s := s.setFld (aYoke y) 3 2 seen
  let t := s.thermal.bandAt
  match tabFind t y with
  | some (_, true) => s
  | some (b, false) =>
    if seen = s.yokeBand y then { s with thermal := { s.thermal with bandAt := tabDel y t } }
    else { s with thermal := { s.thermal with bandAt := tabIns y (b, false) t } }
  | none =>
    if seen = s.yokeBand y then s
    else { s with thermal := { s.thermal with bandAt := tabIns y (s.effBlock, false) t } }

/-- A shot boundary of a START set fixes the changes that wait in its engines' yokes (R385). -/
def State.bandBoundary (s : State) (engs : List Nat) (b : W32) : State :=
  foldS (List.range 4) (fun y s =>
    match tabFind s.thermal.bandAt y with
    | some (_, false) =>
      if engs.any (fun e => yokeOfEng e == y) then
        { s with thermal := { s.thermal with bandAt := tabIns y (b, true) s.thermal.bandAt } }
      else s
    | _ => s) s

/-! ## Throttling (R388, R389) -/

/-- FH_STATUS. -/
def aFhStatus : Nat := 0x10050004

/-- The throttle level of yoke y (R388, R404). -/
def State.yokeLevel (s : State) (y : Nat) : Nat := s.fld (aYoke y) 6 4

/-- The pace register of yoke y in eighths. -/
def State.yokePaceReg (s : State) (y : Nat) : Nat := s.fld (aYoke y) 11 8

/-- Mender's scrub pauses while any yoke is at level 3 or above (R389). -/
def State.scrubPause (s : State) : State := s.setBit aFhStatus 3 ((List.range 4).any (fun y => decide (3 ≤ s.yokeLevel y)))

/-- A yoke's level and pace are set (R388): a rise sets LEVEL_UP, a rise from 0 THROTTLE; from level 2 its pockets stop
at the next block (R249, R389). -/
def State.setThrottle (s : State) (y level pace : Nat) : State :=
  let old := s.yokeLevel y
  let s := ((s.setFld (aYoke y) 6 4 level).setFld (aYoke y) 11 8 pace).scrubPause
  if old < level then
    let s := s.flag (yokeFlags y) 0
    let s := if old = 0 then s.flag fhFlags 4 else s
    let ks := (List.range 4).map (4 * y + ·)
    if old < 2 ∧ 2 ≤ level then
      foldS ks (fun k s => s.pocketThrottle k) (if ks.any s.pocketBusy then s.advanceTo (s.pin + 1) else s)
    else s
  else s

end Sys2Proof.Machine
end

