-- ==== Sys2Proof/Machine/RunOps.lean ====
section
/-! DEFINITION. Shared operations of running engines: fetch and jumps (R76), released readers (R175), the shot rendezvous
and SYNC instances with their crossing of the seams (R70, R71, R95-R97, R346, R349), the end of a START set. -/

namespace Sys2Proof.Machine

/-! ## Program flow -/

/-- The program word of engine e at word address n (R76, R77). -/
def State.progWord (s : State) (e n : Nat) : W64 :=
  let a := tileBase (tileOfEng e) + 0x100000 + 8 * n
  s.word (a + 4) ++ s.word a

/-- The instruction word at the engine's PC. -/
def State.fetch (s : State) (e : Nat) : W64 := s.progWord e (s.eng e).pc

/-- The engine goes on at word address n, or raises ENG_ILLEGAL where that passes 16,383 (R76). -/
def State.goto (s : State) (e n : Nat) : State :=
  if 16383 < n then s.engFault e 0 else s.modEng e (fun x => { x with pc := n, st := .running, cause := 0 })

/-- The engine goes on at the next instruction. -/
def State.advance (s : State) (e : Nat) : State := s.goto e ((s.eng e).pc + 1)

/-- The slots an instruction word reads (R86, R89, R93). -/
def slotsRead (w : W64) : List Nat :=
  match opcodeOf w with
  | 0x0B => match decPublish w with
    | some (_, .slot n, _) => [n]
    | some (_, .parity m, _) => (List.range 16).filter (fun i => m.testBit i)
    | _ => []
  | 0x0C => match decBranch w with
    | some b => if b.cond = 1 ∨ b.cond = 2 ∨ b.cond = 3 ∨ b.cond = 7 then [b.slot] else []
    | none => []
  | 0x14 => match decCounter w with
    | some c => if c.op = 4 then [c.slot] else []
    | none => []
  | _ => []

/-- An engine waiting for a slot is released once no slot it reads makes it wait (R91, R175, R178, R205). -/
def State.wakeReader (s : State) (e : Nat) : State :=
  let x := s.eng e
  if x.st = .waiting ∧ x.cause = 2 ∧ (slotsRead (s.fetch e)).all (fun n => s.readSlot e n != .wait) then
    s.setSt e .running
  else s

/-- Release every reader that need not wait. -/
def State.wakeReaders (s : State) : State := foldS (s.engines.map (·.1)) (fun e s => s.wakeReader e) s

/-! ## The seams in a run -/

/-- The seam on which this unit reports to the hub that completes: B for a unit that shadows, A for a follow, none for
the hub that completes (R346, R349). -/
def State.upSeam (s : State) : Option Bool :=
  if s.shadow then some true else if s.twin && s.follow then some false else none

/-- The seams from which an instance needs a report: A of a twinset's follow in the lead, B of the standby in an active unit. -/
def State.reportsNeeded (s : State) (g : StartSet) (twin : Bool) : List Bool :=
  (if twin && s.twin && !s.follow && !g.lost then [false] else []) ++ (if s.pairState == 3 && g.pair then [true] else [])

/-- The block of the largest report. -/
def maxBlock : List W32 → Option W32
  | [] => none
  | b :: bs => some (bs.foldl bmax b)

/-- The pace of yoke y in eighths: 0 below level 4 (R390). -/
def State.yokePace (s : State) (y : Nat) : Nat := if s.fld (yokeAddr y 4) 6 4 = 4 then s.fld (yokeAddr y 4) 11 8 else 0

/-- PACE_GAP of a set whose largest cursor is c (R390). -/
def State.paceGap (s : State) (g : StartSet) (c : W32) : Nat :=
  let p := (g.members.map (fun e => s.yokePace (yokeOfEng e))).foldl max 0
  (p * (bdiff c g.shotStart).toNat + 7) / 8

/-- The second term of B_SHOT and B_SYNC: P + 10 + LEAD_REQ + T, with the larger LEAD_REQ of the units (R70, R95, R346,
R349). -/
def State.secondTerm (s : State) (twin : Bool) (rs : List ReportMsg) : W32 :=
  let lead := (rs.map (·.leadReq)).foldl max s.leadReq
  s.pin + BitVec.ofNat 32 (10 + lead + (if twin && s.twin then 20 else 0) + (if s.pairState == 3 then 20 else 0))

/-- The later of an optional block and a block. -/
def bmaxOpt : Option W32 → W32 → W32
  | some a, b => bmax a b
  | none, b => b

/-- A COMPLETE to the partner units (R345, R346, R349). -/
def State.sendComplete (s : State) (twin sync : Bool) (group inst : Nat) (shotNo b : W32) (closed last : Bool) : State :=
  let f := [sync.toNat, group, inst, shotNo.toNat, b.toNat, closed.toNat, last.toNat]
  let s := if twin && s.twin && !s.follow then s.sendSeam false 0x04 f else s
  let s := if s.pairState == 3 && s.twin && s.follow then s.sendSeam true 0x04 f else s
  if s.pairState == 3 && !s.follow then s.sendSeam true 0x04 f else s

/-- A REPORT to the completing hub (R345). LEFT says of a rendezvous that the unit's engines leave the set at this boundary, by a yoke
fault (R31, R392), of a SYNC that no member of the group in the set remains in this unit (log entry 115). -/
def State.sendReport (s : State) (b sync : Bool) (group inst : Nat) (g : StartSet) (c : W32) (offset : Nat)
    (rs : List ReportMsg) (left : Bool) : State :=
  let pace := (rs.map (·.paceGap)).foldl max (s.paceGap g c)
  let lead := (rs.map (·.leadReq)).foldl max s.leadReq
  s.sendSeam b 0x03 [sync.toNat, group, inst, g.shotNo.toNat, c.toNat, offset, pace, lead, left.toNat]

/-! ## The shot rendezvous (R70, R71) -/

/-- Every engine of the set has reported or left. -/
def StartSet.enginesIn (g : StartSet) : Bool := g.members.all (fun e => g.reports.any (fun r => r.1 == e))

/-- Every local member of the rendezvous has reported: the engines, and Mender where attached (R186). -/
def StartSet.localIn (g : StartSet) : Bool := g.enginesIn && (!g.mender || g.menderDone)

/-- The set's partner reports of the shot in progress. -/
def StartSet.partnerIn (g : StartSet) : List ReportMsg := (g.partner.map (·.2)).filter (fun r => !r.sync && r.shotNo == g.shotNo)

/-- The unit behind a seam has reported to the set's rendezvous. -/
def StartSet.reportedOver (g : StartSet) (b : Bool) : Bool := g.partner.any (fun r => r.1 == b && !r.2.sync && r.2.shotNo == g.shotNo)

/-- C_MAX over the reports of both units; none when no engine reported. -/
def StartSet.cMax (g : StartSet) : Option W32 := maxBlock (g.reports.map (·.2) ++ g.partnerIn.map (·.cMax))

/-- All members of the rendezvous, in every unit, have reported. -/
def State.rendezvousReady (s : State) (g : StartSet) : Bool :=
  g.localIn && (s.reportsNeeded g g.twin).all g.reportedOver

/-- A yoke that holds an engine of the set has faulted (R392). -/
def State.yokeStopped (s : State) (g : StartSet) : Bool :=
  (g.members ++ g.halted).any (fun e => s.bit 0x10050004 (8 + yokeOfEng e))

/-- Report a rendezvous upward once it is complete here (R346, R349). -/
def State.reportSet (s : State) (id : Nat) : State :=
  match s.findSet id, s.upSeam with
  | some g, some b =>
    if s.rendezvousReady g && !g.sentUp then
      (s.sendReport b false 0 0 g (g.cMax.getD g.shotStart) 0 g.partnerIn (s.yokeStopped g)).modSet id (fun g => { g with sentUp := true })
    else s
  | _, _ => s

/-- B_SHOT of a rendezvous that completes now (R70, R390), and PACE_GAP. With no cursor reported only its second term
stands. -/
def State.bShot (s : State) (g : StartSet) : W32 × Nat :=
  let pace := match g.cMax with
    | some c => (g.partnerIn.map (·.paceGap)).foldl max (s.paceGap g c)
    | none => 0
  let second := s.secondTerm g.twin g.partnerIn
  (bmaxOpt (g.cMax.map (fun c => c + BitVec.ofNat 32 (g.gap + pace))) second, pace)

/-- The shot is the set's last: by count, STOP, the loss of the partner, or a yoke fault in either half of a twinset (R31, R70, R347,
R392). -/
def State.lastShot (s : State) (g : StartSet) : Bool :=
  g.stopping || g.lost || (g.shotCount != 0 && g.shotNo + 1 == g.shotCount) || s.yokeStopped g ||
    g.partner.any (fun r => !r.1 && !r.2.sync && r.2.left && r.2.shotNo == g.shotNo)

/-- Mender reports to its rendezvous, and detaches where the set ends (R186, R201). -/
def State.menderReport (s : State) : State :=
  match s.mend.set with
  | none => s
  | some id =>
    let s := s.modMend (fun m => { m with finalAt := none })
    match s.findSet id with
    | none => s.mendDetach
    | some g =>
      let s := s.modSet id (fun g => { g with menderDone := true })
      if s.lastShot g then (s.modSet id (fun g => { g with mender := false })).mendDetach else s

/-- MENDER_FORCED_CLOSE (R190): Mender closes its rounds once every other member has reported. -/
def State.serveMender (s : State) : State :=
  match s.mend.set with
  | none => s
  | some id =>
    match s.findSet id with
    | some g => if g.enginesIn && !g.menderDone && !s.finalMade then s.forceClose s.pin else s
    | none => s

/-- The final replies of STOP commands whose sets have all ended (R299). -/
def State.stopReplies (s : State) (id : Nat) (shotNo b : W32) : State :=
  let l := s.cmd.stops.map (fun x => (x.1, x.2.filter (· != id)))
  let done := (s.cmd.stops.filter (fun x => decide (id ∈ x.2))).filter (fun x => (x.2.filter (· != id)).isEmpty)
  let s := { s with cmd := { s.cmd with stops := l.filter (fun x => !x.2.isEmpty) } }
  foldS done (fun x s =>
    let s := match s.cmd.fm with
      | some y => if y.h = x.1 then s.setLong .fm none else s
      | none => s
    s.finalReply x.1 0x22 stOk [shotNo, b]) s

/-- A START set ends at a shot boundary (R70): its engines enter DONE, STOP commands are answered, Mender with nothing
left to commit detaches. -/
def State.finishSet (s : State) (g : StartSet) (b : W32) : State :=
  let s := (s.endSet g).stopReplies g.id g.shotNo b
  if s.mend.set = some g.id ∧ s.mend.finalAt.isNone ∧ s.mend.closes.isEmpty then s.mendDetach else s

/-- An engine enters the next shot (R70, R73). -/
def State.shotEngine (s : State) (e : Nat) (shotNo b : W32) : State :=
  let pc := s.fld (engAddr e 0) 13 0
  s.modEng e (fun x => { x.clearShot with
    st := .running, cause := 0, pc, cur := { b, t := 0 }, shotNo, shotStart := b })

/-- A FAST_FEEDBACK write that waits for a shot boundary takes effect at this one (R62). -/
def State.fastBoundary (s : State) (b : W32) : State :=
  match s.hem.fastPend with
  | some (v, none) => { s with hem := { s.hem with fastPend := some (v, some (s.block64 b)) } }
  | _ => s

/-- The set begins its next shot at block b (R70, R73, R186). -/
def State.nextShot (s : State) (g : StartSet) (b : W32) : State :=
  let s := s.modSet g.id (fun g => { g with
    reports := [], partner := [], shotNo := g.shotNo + 1, shotStart := b, menderDone := false, sentUp := false, leftUp := [] })
  let s := { s with syncs := s.syncs.filter (fun i => i.set != g.id) }
  let s := foldS g.members (fun e s => s.shotEngine e (g.shotNo + 1) b) s
  if s.mend.set = some g.id then
    if s.mend.detachAfter then
      (s.modSet g.id (fun g => { g with mender := false })).mendDetach
    else s.mendShot b
  else s

/-- The shot rendezvous of a set completes at block b (R70). -/
def State.completeShot (s : State) (g : StartSet) (b : W32) (last : Bool) : State :=
  let s := (s.fastBoundary b).bandBoundary (g.members ++ g.halted) b
  if last then s.finishSet g b else s.nextShot g b

/-! ## SYNC instances (R95-R97) -/

/-- Engine e is a member of SYNC group n (R106). -/
def State.syncMember (s : State) (n e : Nat) : Bool := s.bit (0x10035000 + 0xA0 * n + 4 * (e / 32)) (e % 32)

/-- SYNC_CFG[n].TWIN (R97). -/
def State.syncTwin (s : State) (n : Nat) : Bool := s.bit (0x10034000 + 4 * n) 0

/-- SYNC_CFG[n].TIMEOUT in µs (R96). -/
def State.syncTimeoutUs (s : State) (n : Nat) : Nat := s.fld (0x10034000 + 4 * n) 31 16

/-- The instance with these names. -/
def State.findSync (s : State) (set group inst : Nat) : Option SyncInst :=
  s.syncs.find? (fun i => i.set == set && i.group == group && i.inst == inst)

/-- Change the instance with these names. -/
def State.modSync (s : State) (set group inst : Nat) (f : SyncInst → SyncInst) : State :=
  { s with syncs := s.syncs.map (fun i => if i.set = set ∧ i.group = group ∧ i.inst = inst then f i else i) }

/-- Every awaited member of an instance has arrived: the members of the group in the set (R95). -/
def State.syncIn (s : State) (i : SyncInst) (g : StartSet) : Bool :=
  (g.members.filter (fun e => s.syncMember i.group e)).all (fun e => i.arrived.any (fun a => a.1 == e))

/-- The unit behind a seam awaits no member of a group in the set's shot any more (R71, R95). -/
def StartSet.leftOver (g : StartSet) (group : Nat) (b : Bool) : Bool :=
  g.partner.any (fun r => r.1 == b && r.2.sync && r.2.left && r.2.group.val == group && r.2.shotNo == g.shotNo)

/-- The instance is complete in every unit that takes part. -/
def State.syncReady (s : State) (i : SyncInst) (g : StartSet) : Bool :=
  !i.closed && s.syncIn i g && (s.reportsNeeded g (s.syncTwin i.group && g.twin)).all (fun b =>
    i.partner.any (fun r => r.1 == b) || g.leftOver i.group b)

/-- C_MAX of an instance. -/
def SyncInst.cMax (i : SyncInst) : Option W32 := maxBlock (i.arrived.map (·.2) ++ i.partner.map (·.2.cMax))

/-- The seam over which a SYNC group's instances are reported to the hub that completes them, if another's does (R97, R349). -/
def State.syncUp (s : State) (group : Nat) (g : StartSet) : Option Bool :=
  match s.upSeam with
  | some true => some true
  | some false => if s.syncTwin group && g.twin then some false else none
  | none => none

/-- A SYNC instance reports upward where another hub completes it (R97, R349). -/
def State.reportSync (s : State) (i : SyncInst) : State :=
  match s.findSet i.set with
  | none => s
  | some g =>
    match s.syncUp i.group g with
    | some b =>
      if s.syncReady i g && !i.sentUp && !i.arrived.isEmpty then
        (s.sendReport b true i.group i.inst g (i.cMax.getD g.shotStart) i.offset (i.partner.map (·.2)) false).modSync i.set i.group
          i.inst (fun i => { i with sentUp := true })
      else s
    | none => s

/-- Some engine is a member of a SYNC group (R106). -/
def State.syncUsed (s : State) (group : Nat) : Bool := (List.range 40).any (fun w => s.reg (0x10035000 + 0xA0 * group + 4 * w) != 0)

/-- Where no member of a group in the set remains here, the hub that completes its instances is told so, once a shot (R71, R95,
R97; log entry 115). -/
def State.reportLeft (s : State) (id group : Nat) : State :=
  match s.findSet id with
  | none => s
  | some g =>
    match s.syncUp group g with
    | some b =>
      if decide (group ∈ g.leftUp) || !(s.syncTwin group || s.syncUsed group) || g.members.any (s.syncMember group) ||
          !(s.reportsNeeded g (s.syncTwin group && g.twin)).all (g.leftOver group) then s
      else
        (s.sendReport b true group 0 g g.shotStart 0 [] true).modSet id (fun g => { g with leftUp := g.leftUp ++ [group] })
    | none => s

/-- The members of an instance continue from B_SYNC (R95). -/
def State.releaseSync (s : State) (i : SyncInst) (b : W32) : State :=
  let s := { s with syncs := s.syncs.filter (fun j => !(j.set == i.set && j.group == i.group && j.inst == i.inst)) }
  foldS i.arrived (fun a s =>
    let x := s.eng a.1
    if x.st = .waiting ∧ x.cause = 3 then
      (s.modEng a.1 (fun x => { x with cur := { b, t := 0 }, decL := none, decR := none })).advance a.1
    else s) s

/-- The instance closes by timeout (R96): its waiting members continue at SHOT_END. -/
def State.closeSync (s : State) (i : SyncInst) : State :=
  let s := s.modSync i.set i.group i.inst (fun i => { i with closed := true })
  foldS i.arrived (fun a s =>
    let x := s.eng a.1
    if x.st = .waiting ∧ x.cause = 3 then
      (s.modEng a.1 (fun x => { x with st := .running, cause := 0, goEnd := true })).flag (engFlags a.1) 4
    else s) s

/-- What follows any event of an engine: Mender's forced close, reports over the seams, readers released. -/
def State.serveRuns (s : State) : State :=
  let s := s.serveMender
  let s := foldS (s.sets.map (·.id)) (fun id s => s.reportSet id) s
  let s := foldS s.syncs (fun i s => s.reportSync i) s
  let s := foldS (if s.upSeam.isSome then s.sets.map (·.id) else []) (fun id s =>
    foldS (List.range 64) (fun n s => s.reportLeft id n) s) s
  s.wakeReaders

/-- The engine's report to a rendezvous or SYNC instance is withdrawn (R99): what this unit has reported upward it reports again
(log entry 116). -/
def State.withdrawReport (s : State) (e : Nat) : State :=
  let x := s.eng e
  match x.set with
  | none => s
  | some id =>
    let s := s.modSet id (fun g => { g with
      reports := g.reports.filter (fun r => r.1 != e), sentUp := g.sentUp && !g.reports.any (fun r => r.1 == e) })
    match s.syncs.find? (fun i => i.set == id && i.arrived.any (fun a => a.1 == e)) with
    | some i =>
      if x.st = .waiting ∧ x.cause = 3 then
        (s.modSync id i.group i.inst (fun i => { i with
          arrived := i.arrived.filter (fun a => a.1 != e), sentUp := false })).modEng e
          (fun x => { x with syncs := tabSet 0 x.syncs i.group (tabGet 0 x.syncs i.group - 1) })
      else s
    | none => s

end Sys2Proof.Machine
end

