-- ==== Sys2Proof/Machine/Engine.lean ====
section
/-! DEFINITION. The 22 engine instructions (spec/03 R77-R100): engine e executes the instruction at its PC where that is
the named one. -/

namespace Sys2Proof.Machine

/-! ## What every instruction shares -/

/-- An engine that can execute: RUNNING, or WAITING at an instruction that it may try again. A report to a rendezvous or
a SYNC instance is no such wait (R70, R95). -/
def Engine.canRun (x : Engine) : Bool := x.st == .running || (x.st == .waiting && x.cause != 3 && x.cause != 4)

/-- Engine e executes the instruction at its PC where its opcode is op (R77). Any opcode above 0x15 raises ENG_ILLEGAL.
An engine held at a pledge goes on only with its ACQUIRE (R179). -/
def State.runOp (s : State) (op : Nat) (e : Eng) (body : W64 → State → State) : Res :=
  let x := s.eng e
  let w := s.fetch e
  if x.goEnd || !x.canRun || (x.pledgeWait.isSome && op != 0x0A) then .next s
  else if 0x15 < opcodeOf w then .next (s.engFault e 0).serveRuns
  else if opcodeOf w ≠ op then .next s
  else .next (body w s).serveRuns

/-- Run a body on a decoded operand form; ENG_ILLEGAL where there is none (R77). -/
def State.withForm {α : Type} (s : State) (e : Nat) (f : Option α) (body : α → State → State) : State :=
  match f with
  | some x => body x s
  | none => s.engFault e 0

/-- FRAME_SLOT[sel] of engine e (R104). -/
def State.frameSlot (s : State) (e sel : Nat) : Nat :=
  s.fld (engAddr e (0x18 + 4 * (sel / 2))) (if sel % 2 = 0 then 11 else 27) (if sel % 2 = 0 then 0 else 16)

/-- Counter i of engine e. -/
def State.ctr (s : State) (e i : Nat) : W32 := s.reg (engAddr e (0x20 + 4 * i))

/-- Set counter i of engine e: a write to a copied register (R358). -/
def State.setCtr (s : State) (e i : Nat) (v : W32) : State :=
  (s.setReg (engAddr e (0x20 + 4 * i)) v).touch (engAddr e (0x20 + 4 * i))

/-- Granules of envelope memory in engine e's tile (R79). -/
def envGranules (e : Nat) : Nat := if tileType (tileOfEng e) = 1 then 65536 else 131072

/-- START minus a deciding stamp, saturated (R41). -/
def fbDelta (start stamp : W32) : Nat := min 4095 (bdiff start stamp).toNat

/-- REMOTE and FB_DELTA of a conditional descriptor: from the stamp that leaves the smaller margin over its floor (R75);
of equal margins the local one. -/
def State.fbChoice (s : State) (x : Engine) (start : W32) : Bool × Nat :=
  match x.decL, x.decR with
  | none, none => (false, 0)
  | some l, none => (false, fbDelta start l)
  | none, some r => (true, fbDelta start r)
  | some l, some r =>
    if bdiff start r - s.floorRemote < bdiff start l - s.floorLocal then (true, fbDelta start r)
    else (false, fbDelta start l)

/-- The descriptor an engine forms (R41, R75, R94). -/
def State.mkDesc (s : State) (e : Nat) (start : W32) (tick : BitVec 6) (body : Body) (armed : Bool := false) : Desc :=
  let x := s.eng e
  let fb := s.fbChoice x start
  { start, tick, body, cond := x.decL.isSome || x.decR.isSome, remote := fb.1, absent := x.refuse, armed, fbDelta := fb.2 }

/-- The engine offers a descriptor and goes on (R43); with an earlier offer unanswered it waits for the answer. then'
is what else the instruction does. -/
def State.offerDesc (s : State) (e : Nat) (d : Desc) (then' : State → State := id) : State :=
  if (s.eng e).offer.isSome then s.setSt e .waiting 1
  else (then' (s.modEng e (fun x => { x with offer := some { d, slot := false, stream := false } }))).advance e

/-- Move the engine's cursor by whole blocks. -/
def State.moveCursor (s : State) (e n : Nat) : State := s.modEng e (fun x => { x with cur := x.cur.plus (BitVec.ofNat 32 n) })

/-- A FRAME descriptor at the cursor block (R84). -/
def State.offerFrame (s : State) (e sel : Nat) (op : FrameOp) : State :=
  s.offerDesc e (s.mkDesc e (s.eng e).cur.b 0 (.frame (s.frameSlot e sel) op))

/-- Read slot n for a body, or wait for it (R91). -/
def State.withSlot (s : State) (e n : Nat) (keep : Bool) (body : Entry → State → State) : State :=
  match s.readSlot e n with
  | .wait => s.setSt e .waiting 2
  | .absent => body (absentEntry false none) (s.modEng e (fun x => x.decide (absentEntry false none)))
  | .entry en => body en (s.modEng e (fun x => x.takeSlot n en keep))

/-! ## Leaving and ending -/

/-- HALT: the engine leaves its START set and enters HALTED (R71). -/
def execHalt (e : Eng) (s : State) : Res :=
  s.runOp 0x00 e fun w s =>
    if bareOk w then (s.leaveSet e true).setSt e .halted else s.engFault e 0

/-- NOP does nothing. -/
def execNop (e : Eng) (s : State) : Res :=
  s.runOp 0x01 e fun w s => if bareOk w then s.advance e else s.engFault e 0

/-- SHOT_END's report: the cursor, as a block (R70, R94). -/
def State.reportShot (s : State) (e : Nat) : State :=
  let x := s.eng e
  match x.set with
  | none => s
  | some id =>
    let s := s.modSet id (fun g => { g with reports := g.reports.filter (fun r => r.1 != e) ++ [(e, x.cur.ceil)] })
    (s.modEng e (fun x => { x with st := .waiting, cause := 4, refuse := false })).noteGone e

/-- SHOT_END: the engine reports its cursor to the shot rendezvous and waits (R70); so does an engine that continues at
SHOT_END (R94, R96, R102). -/
def execShotEnd (e : Eng) (s : State) : Res :=
  let x := s.eng e
  if x.goEnd && x.canRun then .next (s.reportShot e).serveRuns
  else s.runOp 0x15 e fun w s => if bareOk w then s.reportShot e else s.engFault e 0

/-! ## Segments -/

/-- The live arm that an ARMED PLAY takes from the pending one (R98). -/
def State.takeArm (s : State) (e : Nat) (d : Desc) : State :=
  s.modEng e (fun x =>
    match d.armed, x.arm with
    | true, some a => { x with arm := none, live := x.live ++ [{ a with span := some (d.at, d.fin) }] }
    | _, _ => x)

/-- PLAY: a PLAY descriptor at the cursor, which advances by LENGTH (R78, R79). -/
def execPlay (e : Eng) (s : State) : Res :=
  s.runOp 0x02 e fun w s =>
    s.withForm e (decPlay w) fun p s =>
      let x := s.eng e
      if p.len < 2 ∨ envGranules e < p.env + p.len ∨ (p.armed ∧ x.arm.isNone) then s.engFault e 0
      else
        let d := s.mkDesc e x.cur.b x.cur.t (.play p.env p.len p.amp (s.frameSlot e p.sel)) p.armed
        s.offerDesc e d (fun s => (s.takeArm e d).moveCursor e p.len)

/-- The engine's stream window in bytes (R101). -/
def State.streamBytes (s : State) (e : Nat) : Nat := 4096 * s.fld (engAddr e 0x38) 8 4

/-- PLAY_STREAM: a PLAY_STREAM descriptor at the cursor, which advances by LENGTH (R78, R79). -/
def execPlayStream (e : Eng) (s : State) : Res :=
  s.runOp 0x03 e fun w s =>
    s.withForm e (decStream w) fun p s =>
      let x := s.eng e
      if p.len < 2 ∨ s.streamBytes e < 16 * p.len then s.engFault e 0
      else
        s.offerDesc e (s.mkDesc e x.cur.b x.cur.t (.stream p.len p.amp (s.frameSlot e p.sel))) (fun s =>
          s.moveCursor e p.len)

/-! ## The cursor -/

/-- WAIT adds its total to the cursor (R80-R82). -/
def execWait (e : Eng) (s : State) : Res :=
  s.runOp 0x04 e fun w s =>
    s.withForm e (decWait w) fun p s =>
      let add := p.blocks + (match p.ctr with | some c => s.ctr e c | none => 0)
      (s.modEng e (fun x =>
        let t := x.cur.t.toNat + p.ticks.toNat
        { x with cur := { b := x.cur.b + add + BitVec.ofNat 32 (t / 64), t := BitVec.ofNat 6 t } })).advance e

/-- WAIT_UNTIL moves the cursor forward to its target, or sets PAST (R83). -/
def execWaitUntil (e : Eng) (s : State) : Res :=
  s.runOp 0x05 e fun w s =>
    s.withForm e (decWaitUntil w) fun p s =>
      let x := s.eng e
      let target := p.1 + (if p.2 = 1 then x.shotStart else if p.2 = 2 then x.s0 else 0)
      if blt target x.cur.b ∨ (target = x.cur.b ∧ x.cur.t ≠ 0) then (s.flag (engFlags e) 2).advance e
      else (s.modEng e (fun x => { x with cur := { b := target, t := 0 } })).advance e

/-! ## Frame instructions (R84) -/

/-- SET_FREQ. -/
def execSetFreq (e : Eng) (s : State) : Res :=
  s.runOp 0x06 e fun w s => s.withForm e (decSetFreq w) fun p s => s.offerFrame e p.2.1 (.setFreq p.1 p.2.2)

/-- SHIFT_PHASE: PHASE plus a counter where USE_CTR = 1. -/
def execShiftPhase (e : Eng) (s : State) : Res :=
  s.runOp 0x07 e fun w s =>
    s.withForm e (decShift w) fun p s =>
      s.offerFrame e p.2.1 (.shift (p.1 + (match p.2.2 with | some c => s.ctr e c | none => 0)))

/-- SET_PHASE. -/
def execSetPhase (e : Eng) (s : State) : Res :=
  s.runOp 0x08 e fun w s => s.withForm e (decSetPhase w) fun p s => s.offerFrame e p.2 (.setPhase p.1)

/-- FRAME_PAULI. -/
def execFramePauli (e : Eng) (s : State) : Res :=
  s.runOp 0x09 e fun w s => s.withForm e (decPauli w) fun p s => s.offerFrame e p.1 (.pauli p.2.1 p.2.2)

/-! ## ACQUIRE (R85, R155, R176, R179) -/

/-- The bits of a channel mask for channels that hold fewer than five contexts (R155). -/
def State.freeMask (s : State) (e : Nat) (mask : BitVec 8) : BitVec 8 :=
  BitVec.ofNat 8 (((List.range 8).map (fun i =>
    if mask.getLsbD i && decide (s.ctxHeld (8 * ((e - 512) / 8) + i) < 5) then 2 ^ i else 0)).sum)

/-- Take a context on a channel, or leave its window to end ABSENT OVERRUN (R155). -/
def State.takeCtx (s : State) (e c : Nat) (d : Desc) (wset len : Nat) : State :=
  let ovr := decide (5 ≤ s.ctxHeld c)
  let ctx : Ctx := { start := d.start, tick := d.tick, len, wset, shotNo := (s.eng e).shotNo, eng := e, words := []
                     opened := false, dead := if ovr then some 3 else none, ovr := false, flip := none }
  let s := s.setCtxs c (s.ctxs c ++ [ctx])
  if ovr then s.flag (chFlags c) 0 else s

/-- Put pledges in seam A's pledge queue while it has room (R179); what did not fit is answered. -/
def State.pledgeAll (s : State) (stamp : W32) : List Nat → State × List Nat
  | [] => (s, [])
  | src :: t =>
    let s := s.drainQ false
    if 256 ≤ s.onet.qa.pledges.length then (s, src :: t)
    else
      State.pledgeAll (State.drainQ { s with onet := { s.onet with
        qa := { s.onet.qa with pledges := s.onet.qa.pledges ++ [(src, stamp)] } } } false) stamp t

/-- Send an ACQUIRE's pledges, then offer its descriptor where a channel remains; wait while a pledge finds no room. -/
def State.pledgeThenOffer (s : State) (e : Nat) (d : Desc) (srcs : List Nat) : State :=
  let (s, rest) := s.pledgeAll d.fin.b srcs
  if rest.isEmpty then
    let s := s.modEng e (fun x => { x with pledgeWait := none })
    match d.body with
    | .acquire mask _ _ => if mask = 0 then s.advance e else s.offerDesc e d
    | _ => s.advance e
  else (s.modEng e (fun x => { x with pledgeWait := some (d, rest) })).setSt e .waiting 1

/-- ACQUIRE: takes a context on each named channel, pledges the sources the partner has bound, and offers an ACQUIRE
descriptor at cursor block + OFFSET for the channels that had one free. -/
def execAcquire (e : Eng) (s : State) : Res :=
  s.runOp 0x0A e fun w s =>
    match (s.eng e).pledgeWait with
    | some (d, srcs) => s.pledgeThenOffer e d srcs
    | none =>
      if e.val < 512 ∨ 1024 ≤ e.val then s.engFault e 0
      else
        s.withForm e (decAcquire w) fun p s =>
          if (s.eng e).offer.isSome then s.setSt e .waiting 1
          else
            let x := s.eng e
            let start := x.cur.b + BitVec.ofNat 32 p.offset
            let chans := maskChans e p.mask
            let d := s.mkDesc e start x.cur.t (.acquire (s.freeMask e p.mask) p.wset p.len)
            let pledged := if s.twin && s.linkUp .seamA then chans.filter (fun c => decide (c ∈ s.onet.partnerBound)) else []
            (foldS chans (fun c s => s.takeCtx e c d p.wset p.len) s).pledgeThenOffer e d pledged

/-! ## Outcomes -/

/-- Read the head entry of each slot of a list, all of them there (R86). -/
def State.takeSlots (s : State) (e : Nat) : List Nat → State × List Entry
  | [] => (s, [])
  | n :: t =>
    let (en, s) := match s.readSlot e n with
      | .entry en => (en, s.modEng e (fun x => x.takeSlot n en false))
      | _ => (absentEntry false none, s.modEng e (fun x => x.decide (absentEntry false none)))
    let (s, l) := s.takeSlots e t
    (s, en :: l)

/-- The entry PUBLISH places on the network from the entries it read (R86). -/
def publishedOf (l : List Entry) (invert : Bool) : Entry :=
  let stamp := l.foldl (fun a en => match en.stamp with | some b => laterStamp a b | none => a) none
  if l.any (·.absent) then absentEntry false stamp
  else
    let b := (l.foldl (fun b en => b != (en.value != 0)) false) != invert
    { value := if b then 1 else 0, uncertain := false, absent := false, remote := false, stamp }

/-- Publish from the slots of a list once every one can be read. -/
def State.publishSlots (s : State) (e id : Nat) (ns : List Nat) (invert : Bool) : State :=
  if ns.any (fun n => s.readSlot e n == .wait) then s.setSt e .waiting 2
  else
    let (s, l) := s.takeSlots e ns
    (s.releaseOutcome (512 + id) (publishedOf l invert)).advance e

/-- PUBLISH: one bit under PUB_ID, by an engine that owns it (R86, R170). -/
def execPublish (e : Eng) (s : State) : Res :=
  s.runOp 0x0B e fun w s =>
    s.withForm e (decPublish w) fun p s =>
      let own := s.reg (pubOwnerAddr p.1)
      if !own.getLsbD 31 || wfld own 10 0 != e.val then s.engFault e 0
      else match p.2.1 with
        | .value v =>
          let en : Entry := { value := if v != p.2.2 then 1 else 0, uncertain := false, absent := false, remote := false
                              stamp := some (s.eng e).cur.b }
          (s.releaseOutcome (512 + p.1) en).advance e
        | .slot n => s.publishSlots e p.1 [n] p.2.2
        | .parity m => s.publishSlots e p.1 ((List.range 16).filter (fun i => m.testBit i)) p.2.2

/-- Continue at the target or the next instruction (R93). -/
def State.branchTo (s : State) (e : Nat) (b : BranchOp) (cond : Bool) : State :=
  if cond != b.neg then s.goto e b.target else s.advance e

/-- ABSENT_ACT (R94). -/
def State.absentAct (s : State) (e : Nat) (b : BranchOp) : State :=
  match b.absentAct with
  | 0 => s.advance e
  | 1 => s.goto e b.target
  | 2 => (s.modEng e (fun x => { x with refuse := true })).advance e
  | _ => s.modEng e (fun x => { x with stack := [], goEnd := true, st := .running, cause := 0 })

/-- The condition of COND 1 to 3 on an entry (R93). -/
def outcomeCond (b : BranchOp) (en : Entry) : Bool :=
  if b.cond = 1 then en.value != 0 else if b.cond = 2 then en.value.toNat == b.state else en.uncertain

/-- Consume the first unconsumed edge on a pin (R93). -/
def takeEdge (pin : Nat) (l : List (Nat × W64)) : Option (W64 × List (Nat × W64)) :=
  match l.find? (fun t => t.1 == pin) with
  | some t => some (t.2, l.erase t)
  | none => none

/-- The schedule block of a DEVTIME (R38). -/
def blockOf (t : W64) : W32 := (t >>> 6).setWidth 32

/-- The cursor after TRIG_WAIT: the later of the cursor and a block (R94). -/
def laterCursor (c : Tm) (b : W32) : Tm := if tmLt { b, t := 0 } c then c else { b, t := 0 }

/-- BRANCH: tests its condition, waiting where it must, and applies ABSENT_ACT (R92-R94). -/
def execBranch (e : Eng) (s : State) : Res :=
  s.runOp 0x0C e fun w s =>
    s.withForm e (decBranch w) fun b s =>
      match b.cond with
      | 0 => s.branchTo e b true
      | 4 =>
        match takeEdge b.trig (s.eng e).trigs with
        | some (_, rest) => (s.modEng e (fun x => { x with trigs := rest })).branchTo e b true
        | none => s.branchTo e b false
      | 5 =>
        match takeEdge b.trig (s.eng e).trigs with
        | some (t, rest) =>
          (s.modEng e (fun x => { x with
            trigs := rest, cur := laterCursor x.cur (blockOf t + BitVec.ofInt 32 b.imm) })).branchTo e b true
        | none => s.setSt e .waiting 5
      | 6 => s.branchTo e b (cmpHolds b.cmp (s.ctr e b.ctr).toInt b.imm)
      | 7 => s.withSlot e b.slot b.keep fun en s => s.branchTo e b en.absent
      | _ =>
        s.withSlot e b.slot b.keep fun en s =>
          if en.absent then s.absentAct e b else s.branchTo e b (outcomeCond b en)

/-! ## Counters and calls -/

/-- LOOP (R90). -/
def execLoop (e : Eng) (s : State) : Res :=
  s.runOp 0x0D e fun w s =>
    s.withForm e (decLoop w) fun p s =>
      let c := s.ctr e p.1
      if c = 0 then s.advance e
      else
        let s := s.setCtr e p.1 (c - 1)
        if c - 1 = 0 then s.advance e else s.goto e p.2

/-- CALL: a fifth one raises ENG_STACK (R90). -/
def execCall (e : Eng) (s : State) : Res :=
  s.runOp 0x0E e fun w s =>
    s.withForm e (decCall w) fun target s =>
      let x := s.eng e
      if 4 ≤ x.stack.length then s.engFault e 1
      else (s.modEng e (fun x => { x with stack := (x.pc + 1) :: x.stack })).goto e target

/-- RETURN: on an empty stack it raises ENG_STACK (R90). -/
def execRet (e : Eng) (s : State) : Res :=
  s.runOp 0x0F e fun w s =>
    if bareOk w then
      match (s.eng e).stack with
      | [] => s.engFault e 1
      | a :: rest => (s.modEng e (fun x => { x with stack := rest })).goto e a
    else s.engFault e 0

/-- MARK: a MARK descriptor at the cursor (R89). -/
def execMark (e : Eng) (s : State) : Res :=
  s.runOp 0x10 e fun w s =>
    s.withForm e (decMark w) fun p s =>
      let x := s.eng e
      s.offerDesc e (s.mkDesc e x.cur.b x.cur.t (.mark p.event p.pin p.width p.code))

/-- COUNTER (R89): OP 4 reads a slot, an ABSENT entry giving 3. -/
def execCounter (e : Eng) (s : State) : Res :=
  s.runOp 0x14 e fun w s =>
    s.withForm e (decCounter w) fun p s =>
      let c := s.ctr e p.ctr
      match p.op with
      | 0 => (s.setCtr e p.ctr p.imm).advance e
      | 1 => (s.setCtr e p.ctr (c + p.imm)).advance e
      | 2 => (s.setCtr e p.ctr (s.eng e).shotNo).advance e
      | 3 => (s.setCtr e p.ctr (c + s.ctr e p.src)).advance e
      | _ => s.withSlot e p.slot false fun en s =>
          (s.setCtr e p.ctr (if en.absent then 3 else en.value.setWidth 32)).advance e

/-! ## SYNC, COMMIT and ARM_JUMP -/

/-- The instance of a group that an engine joins at its k-th SYNC of the shot, made where it is not there (R95). first is its first
arrival, of an engine or of a partner's REPORT (R96). -/
def State.openSync (s : State) (set group inst : Nat) : State :=
  if (s.findSync set group inst).isSome then s
  else { s with syncs := s.syncs ++ [{ set, group, inst, arrived := [], offset := 0, first := s.pin, partner := []
                                       closed := false, sentUp := false }] }

/-- SYNC: the engine reports to its set's instance of the group and waits; an instance closed by timeout sends it to
SHOT_END (R95, R96). -/
def execSync (e : Eng) (s : State) : Res :=
  s.runOp 0x11 e fun w s =>
    s.withForm e (decSync w) fun p s =>
      let x := s.eng e
      match x.set with
      | none => s
      | some id =>
        if !s.syncMember p.1 e then s.engFault e 0
        else
          let k := tabGet 0 x.syncs p.1
          let s := (s.openSync id p.1 k).modEng e (fun x => { x with syncs := tabSet 0 x.syncs p.1 (k + 1), refuse := false })
          if (s.findSync id p.1 k).any (·.closed) then
            (s.modEng e (fun x => { x with st := .running, cause := 0, goEnd := true })).flag (engFlags e) 4
          else
            (s.modSync id p.1 k (fun i => { i with
              arrived := i.arrived ++ [(e.val, x.cur.ceil)], offset := p.2
              first := if i.arrived.isEmpty ∧ i.partner.isEmpty then s.pin else i.first })).setSt e .waiting 3

/-- COMMIT: a commit request for cursor + OFFSET, for the engine's port or every port of its tile (R88). -/
def execCommit (e : Eng) (s : State) : Res :=
  s.runOp 0x12 e fun w s =>
    s.withForm e (decCommit w) fun p s =>
      let blk := (s.eng e).cur.b + BitVec.ofNat 32 p.2
      let t := tileOfEng e
      let ports := if p.1 then (List.range (portsInTile t)).map (portOfTile t) else [portOfEng e]
      (foldS ports (fun q s => s.askCommit q blk (some e.val)) s).advance e

/-- ARM_JUMP arms the next ARMED PLAY, replacing an arm still pending (R98). -/
def execArmJump (e : Eng) (s : State) : Res :=
  s.runOp 0x13 e fun w s =>
    s.withForm e (decArm w) fun a s => (s.modEng e (fun x => { x with arm := some a })).advance e

end Sys2Proof.Machine
end

