-- ==== Sys2Proof/Machine/Hem.lean ====
section
/-! DEFINITION. The Hem's events (spec/02 R40-R67, spec/03 R91, R98, R99): judging offers, descriptors leaving their
queues, segments, MARKs, frame updates, slot entries, trigger edges, removal and re-enable. -/

namespace Sys2Proof.Machine

/-! ## The admission test (R45) -/

/-- What the tests of R45 before the wake find. -/
inductive Judged where
  | discard
  | refuse (code : Nat)
  | slot
  | stream
  | wake
deriving DecidableEq, Repr

/-- The descriptor starts before the end of its engine's last accepted segment (R45 ORDER), on 64-bit blocks (R39). -/
def State.outOfOrder (s : State) (e : Nat) (d : Desc) : Bool :=
  d.isSeg && (((s.eng e).work.filter (fun w => w.d.isSeg)).getLast?).any (fun w =>
    decide (64 * (s.block64 d.start).toNat + d.tick.toNat < 64 * w.end64.toNat + w.fin.t.toNat))

/-- The tests that come once, before the first admission block (R45). -/
def State.judgeOnce (s : State) (e : Nat) (d : Desc) : Option Judged :=
  if s.portDisabled (portOfEng e) then some .discard
  else if d.absent then some (.refuse 5)
  else if s.outOfOrder e d then some (.refuse 7)
  else if d.cond && decide (d.fbDelta < if d.remote then s.floorRemote else s.floorLocal) then some (.refuse 2)
  else none

/-- Stream bytes held and not reserved (R101, R102). -/
def Stream.free (x : Stream) : Nat := x.data.length

/-- The tests of R45 at one admission block, up to the wake. -/
def State.judge (s : State) (e : Nat) (o : Offer) : Judged :=
  let d := o.d
  match if o.slot || o.stream then none else s.judgeOnce e d with
  | some j => j
  | none =>
    if bdiff d.start s.admitBlock < 8 then
      .refuse (if o.stream then 4 else if o.slot then 6 else if d.cond then 2 else 1)
    else if 32 ≤ s.queueLevel e then .slot
    else if d.kind = 1 ∧ (s.eng e).stream.free < d.streamBytes then .stream
    else .wake

/-- Place every request before the governor, in its order (R395). fuel bounds the requests. -/
def State.govPlaceAll (s : State) : Nat → State
  | 0 => s
  | fuel + 1 =>
    match firstBy reqBefore s.hem.requests with
    | none => s
    | some r => (State.govPlace { s with hem := { s.hem with requests := s.hem.requests.erase r } } r).govPlaceAll fuel

/-- The wake that an engine's outstanding offer needs in this admission block: one for each port, at the earliest START
(R395). -/
def State.wakeReqs (s : State) : List GovReq :=
  let all := s.engines.filterMap (fun p =>
    match p.2.offer with
    | some o =>
      if s.judge p.1 o = .wake ∧ (s.wakeKnown (portOfEng p.1)).isNone then
        some ({ kind := .port (portOfEng p.1) false, arrival := s.admitBlock, use := some o.d.start, eng := p.1 } : GovReq)
      else none
    | none => none)
  all.filter (fun r => all.all (fun q => q.kind != r.kind || q == r || reqBefore r q))

/-- Reserve the wakes of this admission block, after the requests that reached the governor before (R54, R395). -/
def State.reserveWakes (s : State) : State :=
  let s := s.govPlaceAll s.hem.requests.length
  let rs := s.wakeReqs
  let s := { s with hem := { s.hem with requests := s.hem.requests ++ rs } }
  s.govPlaceAll rs.length

/-- An under-run policy acts (R102). Under ZERO_CONTINUE a second under-run adds its shortfall to what is still owed (DESIGN
CHOICE, log entry 111). -/
def State.underrun (s : State) (e : Nat) (d : Desc) : State :=
  let x := s.eng e
  let zero := s.bit (engAddr e 4) 0
  let st := { x.stream with data := [], underran := true }
  let s := s.flag (engFlags e) 3
  if zero then
    s.modEng e (fun x => { x with stream := { st with owed := st.owed + (Desc.len d.body - x.stream.free / 16) } })
  else
    let s := if x.st = .waiting ∧ x.cause = 3 then s.withdrawReport e else s
    s.modEng e (fun x =>
      let y := { x with stack := [], stream := { st with untilMark := true } }
      if x.inShot && !(x.st == .waiting && x.cause == 4) then { y with st := .running, cause := 0, goEnd := true } else y)

/-- A refusal (R50-R53): flag, latest refusal, counts; the windows end ABSENT, the engine continues. -/
def State.refuse (s : State) (e : Nat) (d : Desc) (code : Nat) : State :=
  let lead := max (-32767) (min 32767 (bdiff d.start s.admitBlock))
  let info : W32 := BitVec.ofNat 32 (d.kind * 2 ^ 20 + (BitVec.ofInt 16 lead).toNat * 16 + code)
  let s := s.noteRefusal.modEng e (fun x => { x with offer := none })
  let s := (s.setReg (hemAddr e 0x10) d.start).setReg (hemAddr e 0x14) info
  let s := ((s.addSat (hemAddr e 0x1C) 1).addSat 0x1001001C 1).flag (hemFlags e) (code - 1)
  let s := (s.dropOffer e d 0).release e 1
  if code = 4 then s.underrun e d else s

/-- A descriptor discarded because its port is disabled (R45, R46). -/
def State.discardOffer (s : State) (e : Nat) (d : Desc) : State :=
  let s := s.modEng e (fun x => { x with offer := none })
  ((s.countDiscard e).dropOffer e d 1).release e 1

/-- Acceptance (R45, R49, R55). -/
def State.accept (s : State) (e : Nat) (d : Desc) : State :=
  let lead := (bdiff d.start s.admitBlock).toNat
  let p := portOfEng e
  let s := s.addSat (hemAddr e 0x18) 1
  let s := if lead < (s.reg (hemAddr e 0xC)).toNat then s.setReg (hemAddr e 0xC) (BitVec.ofNat 32 lead) else s
  let s := if lead < s.fld (hemAddr e 0) 31 16 then s.flag (hemFlags e) 7 else s
  let idle := match tabFind s.hem.dozeFrom p with
    | some b => bmax b d.fin.ceil
    | none => d.fin.ceil
  let s := { s with hem := { s.hem with dozeFrom := tabIns p idle s.hem.dozeFrom } }
  let s := s.modEng e (fun x => { x with
    offer := none
    work := x.work ++ [{ d, stage := .queued, b64 := s.block64 d.start, cut := none, samples := x.stream.data.take d.streamBytes }]
    stream := { x.stream with data := x.stream.data.drop d.streamBytes } })
  s.release e 1

/-- The Hem judges engine e's offer at the present admission block (R45). -/
def State.admitOffer (s : State) (e : Nat) : State :=
  match (s.eng e).offer with
  | none => s
  | some o =>
    match s.judge e o with
    | .discard => s.discardOffer e o.d
    | .refuse c => s.refuse e o.d c
    | .slot => s.modEng e (fun x => { x with offer := some { o with slot := true } })
    | .stream => s.modEng e (fun x => { x with offer := some { o with stream := true } })
    | .wake =>
      let s := s.reserveWakes
      let w := (s.wakeKnown (portOfEng e)).getD s.pin
      if blt o.d.start w then s.refuse e o.d 3 else s.accept e o.d

/-- HEM_ADMIT. -/
def execHemAdmit (e : Eng) (s : State) : Res := .next (s.admitOffer e).serveRuns

/-! ## Work reaches the pins -/

/-- The first of an engine's work that passes a test, by START. -/
def State.firstWork (s : State) (e : Nat) (p : Work → Bool) : Option Work :=
  firstBy (fun a b : Work => !blt b.d.start a.d.start) ((s.eng e).work.filter p)

/-- Change one piece of work. -/
def State.modWork (s : State) (e : Nat) (w w' : Work) : State :=
  s.modEng e (fun x => { x with work := x.work.map (fun y => if y = w then w' else y) })

/-- The weight set entry n of channel c (R154, R168). -/
def State.wset (s : State) (c n : Nat) : List W32 := (List.range 8).map (fun i => s.reg (wsetAddr c n (4 * i)))

/-- Whether a context is that of a descriptor. -/
def Ctx.isOf (c : Ctx) (e : Nat) (d : Desc) : Bool :=
  c.eng == e && c.start == d.start && c.tick == d.tick && c.len == Desc.len d.body && c.dead.isNone

/-- A window takes its weight set entry as its ACQUIRE leaves the queue (R154). -/
def State.latchWeights (s : State) (e : Nat) (d : Desc) : State :=
  match d.body with
  | .acquire mask _ _ =>
    foldS (maskChans e mask) (fun c s =>
      s.setCtxs c ((s.ctxs c).map (fun x =>
        if Ctx.isOf x e d && x.words.isEmpty then { x with words := s.wset c x.wset } else x))) s
  | _ => s

/-- DESCRIPTOR_DEQUEUE: at ADMIT_BLOCK = START the descriptor leaves its queue (R40, R43). -/
def execDescriptorDequeue (e : Eng) (s : State) : Res :=
  match s.firstWork e (fun w => w.stage == .queued) with
  | none => .next s
  | some w =>
    let s := s.advanceTo (w.d.start - 12)
    .next ((s.modWork e w { w with stage := .pipe }).latchWeights e w.d).serveRuns

/-- SEGMENT_START: the segment plays from its start block on (R49); the samples that its port has saturated up to it are counted
(R122). -/
def execSegmentStart (e : Eng) (s : State) : Res :=
  match s.firstWork e (fun w => w.d.isSeg && w.stage != .playing) with
  | none => .next s
  | some w =>
    let s := s.advanceTo w.d.start
    let s := s.latchWeights e w.d
    .next ((s.modWork e w { w with stage := .playing }).clipUp (portOfEng e))

/-- MARK_OUT_PULSE: at its block a MARK drives its pin for WIDTH blocks, or sets ENG_FLAGS.MARK with CODE (R89). A
standby-muted unit drives no pin (R350). -/
def execMarkOutPulse (e : Eng) (s : State) : Res :=
  match s.firstWork e (fun w => w.d.kind == 3) with
  | none => .next s
  | some w =>
    let s := s.advanceTo w.d.start
    let s := s.modEng e (fun x => { x with work := x.work.erase w })
    let s := s.pocketMark e w.d.at
    match w.d.body with
    | .mark true _ _ code => .next (s.flagD (engFlags e) 7 code)
    | .mark false pin width _ =>
      if s.muted then .next s
      else
        let fin := w.d.start + BitVec.ofNat 32 width
        let old := tabGet 0 s.pins.markOut pin
        let upto := if blt s.pin old then bmax old fin else fin
        let s := { s with pins := { s.pins with markOut := tabSet 0 s.pins.markOut pin upto } }
        .next (s.send (.pulse pin width w.d.start))
    | _ => .next s

/-- FRAME_UPDATE: the updates of the next boundary at which one waits, in the order of R117. -/
def execFrameUpdate (s : State) : Res :=
  match s.frameNext with
  | none => .next s
  | some b => .next (((s.advanceTo b).framesAt b).serveRuns)

/-! ## Slot entries and trigger edges -/

/-- A live arm fires at block V (R99): the segment is cut at X, or plays in full and the later ones from X′ on are
dropped; the engine goes on at TARGET with its cursor there. A descriptor that the engine produced before the armed PLAY and
that starts at or after the cut is dropped too, and where no segment of the engine spans X, X′ is X (DESIGN CHOICE, log entry
112). -/
def State.fireArm (s : State) (e : Nat) (a : Arm) (v : W32) (floor : Nat) : State :=
  match a.span with
  | none => s
  | some (st, fin) =>
    let b := bmax (v + BitVec.ofNat 32 (max a.fEvent floor)) s.effBlock
    let x : Tm := { b, t := st.t }
    let isArmed := fun w : Work => w.d.armed && w.d.at == st && w.d.isSeg
    let early := tmLt x fin
    let s := s.modEng e (fun g => { g with live := g.live.filter (· != a) })
    let s := if early then s.cutAt e isArmed x else s
    let x' : Tm :=
      if early then x
      else match ((s.eng e).work.filter (fun w => !s.workDone w && w.d.isSeg && tmLt w.d.at x && tmLt x w.fin)).map Work.fin with
        | y :: _ => y
        | [] => x
    let s := s.dropWhere e (fun w => !isArmed w && !tmLt w.d.at x')
    let s := match (s.eng e).offer with
      | some o => if tmLt o.d.at x' then s
                  else ((s.countDiscard e).dropOffer e o.d 1).modEng e (fun g => { g with offer := none })
      | none => s
    let s := (s.dropPledgeWait e).withdrawReport e
    s.modEng e (fun g => { g with
      st := .running, cause := 0, goEnd := false, pc := a.target, cur := x' })

/-- A live arm of the engine for an event stamped at block V (R98). -/
def Engine.liveAt (x : Engine) (v : W32) (p : Arm → Bool) : Option Arm :=
  x.live.find? (fun a => p a && a.span.any (fun y => !blt v y.1.b && tmLt { b := v, t := 0 } y.2))

/-- An entry arrives at a slot (R73, R91, R98, R174). One for an engine that is not in a shot is discarded (DESIGN CHOICE, log
entry 113). A firing reads no slot: a REFUSE marking stands (R94). -/
def State.slotArrive (s : State) (e slot : Nat) (en : Entry) : State :=
  let x := s.eng e
  if !x.inShot || en.stamp.any (fun b => blt b x.shotStart) then s
  else
    let arm := match en.stamp with
      | some v => if en.absent then none else x.liveAt v (fun a => !a.trig && a.slot == slot && a.value == en.value)
      | none => none
    match arm, en.stamp with
    | some a, some v =>
      let s := s.fireArm e a v (if en.remote then s.floorRemote else s.floorLocal)
      s.modEng e (fun g => { Engine.decide g en with refuse := g.refuse })
    | _, _ =>
      if 4 ≤ (x.slot slot).length then s.flag (engFlags e) 6
      else s.modEng e (fun g => g.setSlot slot (g.slot slot ++ [en]))

/-- SLOT_ENTRY_ARRIVAL: the next entry on its way to the slot arrives; a waiting reader is released. -/
def execSlotEntryArrival (e : Eng) (slot : Fin 16) (s : State) : Res :=
  match s.onet.deliv.find? (fun d => d.eng == e.val && d.slot == slot.val) with
  | none => .next s
  | some d =>
    let s := { s with onet := { s.onet with deliv := s.onet.deliv.erase d } }
    .next (s.slotArrive e slot d.entry).serveRuns

/-- A trigger edge reaches the engines (R34, R73, R98): it fires a live arm, or is latched; an engine that is not in a shot
does not see it (log entry 113). -/
def State.trigEdge (s : State) (pin : Nat) (stamp : W64) : State :=
  let v : W32 := (stamp >>> 6).setWidth 32
  let s := foldS (s.engines.map (·.1)) (fun e s =>
    let x := s.eng e
    if !x.inShot || blt v x.shotStart then s
    else match x.liveAt v (fun a => a.trig && a.pin == pin) with
    | some a => s.fireArm e a v 24
    | none =>
      let s := s.modEng e (fun g => { g with trigs := g.trigs ++ [(pin, stamp)] })
      if x.st = .waiting ∧ x.cause = 5 then s.setSt e .running else s) s
  s.serveRuns

/-- TRIG_IN_EDGE: a rising edge at a tick of the pin block (R34). An active unit passes it to its standby, which takes
it in place of its own pins (R348); a pocket takes its own unit's. -/
def execTrigInEdge (pin : Fin 8) (tick : BitVec 6) (s : State) : Res :=
  if !s.fieldAlive || !s.clk.run then .next s
  else
    let stamp : W64 := s.clk.devtime + tick.setWidth 64
    let s := s.pocketPin pin stamp
    if s.shadow then .next s
    else
      let s := if s.pairState == 3 then s.sendSeam true 0x06 [pin.val, stamp.toNat] else s
      .next (s.trigEdge pin stamp)

/-! ## Removal and re-enable (R57-R59, R71, R72) -/

/-- A piece of work that has not started at point E. -/
def Work.unstarted (w : Work) (at' : Tm) : Bool := !tmLt w.d.at at'

/-- A removal's effect on an engine's windows (R156): a window integrating at E ends there. -/
def State.closeWindows (s : State) (e : Nat) : State :=
  if e < 512 ∨ 1024 ≤ e then s
  else
    foldS ((List.range 8).map (fun i => 8 * ((e - 512) / 8) + i)) (fun c s =>
      s.setCtxs c ((s.ctxs c).map (fun x =>
        if x.eng = e ∧ x.dead.isNone ∧ (blt s.pin x.stamp ∨ x.openIn s.pin) then { x with dead := some 1 } else x))) s

/-- An engine is disabled at block E (R58, R71). -/
def State.disableEngine (s : State) (e : Nat) (cut : Bool) (b : W32) : State :=
  let here : Tm := { b, t := 0 }
  let s := if cut then (s.dropWhere e (fun w => w.unstarted here)).withdraw e else s
  let s := (s.leaveSet e false).setSt e .disabled
  let s := s.modEng e (fun x => { x with arm := none, goEnd := false, set := none, draining := !cut })
  s.serveRuns

/-- A port is disabled at block E (R58): muted or clamped, its engines' work stopped, dropped or discarded. -/
def State.disablePort (s : State) (p : Nat) (b : W32) : State :=
  let here : Tm := { b, t := 0 }
  let s := foldS (engsOfPort p) (fun e s =>
    let s := s.cutAt e (fun w => w.d.isSeg && tmLt w.d.at here) here
    let s := s.dropWhere e (fun w => w.unstarted here)
    match (s.eng e).offer with
    | some o => s.discardOffer e o.d
    | none => s) s
  ((s.setBit (portAddr p 4) 0 false).clampNow p).serveRuns

/-- An ABORT of the engine is remembered: a flux port's code is 0 from it on (R58, R124). -/
def State.noteAbort (s : State) (e : Nat) : State :=
  if e < 1024 then s
  else { s with synth := { s.synth with aborts := tabIns e ((tabGet [] s.synth.aborts e) ++ [s.pin64]) s.synth.aborts } }

/-- The named engines' work is removed by ABORT at block E (R58, R156). -/
def State.abortEngine (s : State) (e : Nat) (b : W32) : State :=
  let here : Tm := { b, t := 0 }
  let s := s.cutAt e (fun w => w.d.isSeg && tmLt w.d.at here) here
  let s := s.dropWhere e (fun w => w.unstarted here)
  (((s.withdraw e).closeWindows e).modEng e (fun x => { x with arm := none, live := [] })).noteAbort e

/-- ABORT acts at block E (R58, R70, R190): the named engines' work is removed, their sets end, Mender closes its
rounds. -/
def State.abortSets (s : State) (sets engs : List Nat) (b : W32) : State :=
  let s := foldS engs (fun e s => s.abortEngine e b) s
  let s := foldS engs (fun e s => s.modEng e (fun x =>
    if x.active then { x with st := .done, cause := 0, set := none, goEnd := false } else x)) s
  let s := foldS sets (fun id s =>
    let s := if s.mend.set = some id ∧ !s.finalMade then s.forceClose b else s
    match s.findSet id with
    | some g =>
      let s := (s.endSet g).stopReplies id g.shotNo b
      if s.mend.set = some id ∧ s.mend.finalAt.isNone ∧ s.mend.closes.isEmpty then s.mendDetach else s
    | none => s) s
  s.serveRuns

/-- The removal that acts first. -/
def State.nextRemoval (s : State) : Option Removal :=
  firstBy (fun a b : Removal => !blt b.block a.block) s.hem.removals

/-- REMOVAL_EFFECT: the next removal acts at its block E. -/
def execRemovalEffect (s : State) : Res :=
  match s.nextRemoval with
  | none => .next s
  | some r =>
    let s := s.advanceTo r.block
    let s := { s with hem := { s.hem with removals := s.hem.removals.erase r } }
    .next (match r with
      | .engine e cut b => s.disableEngine e cut b
      | .port p b => s.disablePort p b
      | .abort sets engs b => s.abortSets sets engs b)

/-- A write to HEM_ENG_CTRL (R65, R57, R72): clearing ENABLE asks for removal, setting it re-enables a DISABLED engine,
LEAD_CLR clears LEAD_MIN_SEEN. -/
def State.writeHemCtrl (s : State) (e : Nat) (v : W32) : State :=
  let a := hemAddr e 0
  let on := s.bit a 0
  let s := s.setReg a ((v &&& 0xFFFF0004) ||| (s.reg a &&& 1))
  let s := if v.getLsbD 3 then s.setReg (hemAddr e 0xC) 0xFFFFFFFF else s
  if on && !v.getLsbD 0 then (s.setBit a 0 false).askRemoval (.engine e (v.getLsbD 2) s.effBlock)
  else if !on && v.getLsbD 0 && (s.eng e).st == .disabled then
    let s := s.setBit a 0 true
    { s with hem := { s.hem with reenables := s.hem.reenables ++ [(e, s.effBlock)] } }
  else s

/-- ENGINE_DISABLE. -/
def execEngineDisable (e : Eng) (v : W32) (s : State) : Res := .next ((s.writeHemCtrl e v).touch (hemAddr e 0))

/-- ENGINE_REENABLE. -/
def execEngineReenable (e : Eng) (v : W32) (s : State) : Res := .next ((s.writeHemCtrl e v).touch (hemAddr e 0))

/-- LEAD_CLR. -/
def execLeadClr (e : Eng) (v : W32) (s : State) : Res := .next ((s.writeHemCtrl e v).touch (hemAddr e 0))

/-- ENGINE_REENABLE_EFFECT: the engine enters IDLE (R72). -/
def execEngineReenableEffect (e : Eng) (s : State) : Res :=
  match s.hem.reenables.find? (fun r => r.1 == e.val) with
  | none => .next s
  | some r =>
    let s := s.advanceTo r.2
    let s := { s with hem := { s.hem with reenables := s.hem.reenables.erase r } }
    .next (if (s.eng e).st = .disabled then s.setSt e .idle else s)

end Sys2Proof.Machine
end

