-- ==== Sys2Proof/Machine/Ports.lean ====
section
/-! DEFINITION. Output ports and the power-step governor (spec/04 R127-R135, R478, spec/15 R395, R396). -/

namespace Sys2Proof.Machine

/-! ## Enabling and disabling (R130, R478) -/

/-- A write to PORT_CTRL (R135, R478): only a change of ENABLE acts. -/
def State.writePortCtrl (s : State) (p : Nat) (v : W32) : State :=
  let a := portAddr p 0
  let was := s.bit a 0
  let s := s.setReg a (v &&& 3)
  if !was && v.getLsbD 0 then { s with hem := { s.hem with enables := s.hem.enables ++ [(p, s.effBlock)] } }
  else if was && !v.getLsbD 0 then s.askRemoval (.port p s.effBlock)
  else s

/-- PORT_ENABLE. -/
def execPortEnable (p : OPort) (v : W32) (s : State) : Res := .next ((s.writePortCtrl p v).touch (portAddr p 0))

/-- PORT_DISABLE. -/
def execPortDisable (p : OPort) (v : W32) (s : State) : Res := .next ((s.writePortCtrl p v).touch (portAddr p 0))

/-- A port's wake of any kind is on its way: requested, or its ready block fixed. -/
def State.waking (s : State) (p : Nat) : Bool :=
  (tabFind s.hem.ready p).isSome ||
    s.hem.requests.any (fun r => match r.kind with | .port q _ => q == p | _ => false)

/-- A port is awake: AWAKE shows it, at once or once its clamps have ended (R131). -/
def State.wakeUp (s : State) (p : Nat) : State :=
  if s.rangeClamped p then
    { s with hem := { s.hem with clamps := s.hem.clamps.map (fun c => if c.port = p then { c with wasAwake := true } else c) } }
  else s.setBit (portAddr p 4) 2 true

/-- PORT_ENABLE_EFFECT: the port is Enabled; one that was unpowered asks for its wake, one that was Disabled is awake
(R478). -/
def execPortEnableEffect (p : OPort) (s : State) : Res :=
  match s.hem.enables.find? (fun r => r.1 == p.val) with
  | none => .next s
  | some r =>
    let s := s.advanceTo r.2
    let s := { s with hem := { s.hem with enables := s.hem.enables.erase r } }
    let ever := s.bit (portAddr p 4) 1
    let s := (s.setBit (portAddr p 4) 0 true).setBit (portAddr p 4) 1 true
    let s :=
      if !ever then s.govAsk (.port p true) (some r.2) (port0Eng p)
      else if s.waking p then s
      else s.wakeUp p
    .next (s.clampNow p)

/-! ## Commits (R127) -/

/-- PORT_COMMIT. -/
def execPortCommit (p : OPort) (block : W32) (s : State) : Res := .next (s.askCommit p block none)

/-- The output ports of tile n. -/
def tilePorts (n : Nat) : List Nat := (List.range (portsInTile n)).map (portOfTile n)

/-- A commit of every port of a tile for a block (R127). -/
def State.askTileCommit (s : State) (t : Nat) (block : W32) : State :=
  foldS (tilePorts t) (fun p s => s.askCommit p block none) s

/-- TILE_COMMIT. -/
def execTileCommit (t : Tile) (block : W32) (s : State) : Res := .next (s.askTileCommit t block)

/-- COMMIT_APPLY: every commit of the next commit block is applied, as one act (R127). -/
def execCommitApply (s : State) : Res :=
  match firstBy (fun a b : Commit => !blt b.block a.block) s.hem.commits with
  | none => .next s
  | some c =>
    let s := s.advanceTo c.block
    .next (foldS (s.hem.commits.filter (fun x => x.block == c.block)) (fun x s => s.applyCommit x) s)

/-! ## Flux ports (R131) -/

/-- 1.6 µs in blocks (R131). -/
def clampBlocks : W32 := 640

/-- A write to FLUX_CFG (R131): none where it is refused BUSY. Samples see SINE from the fourth block on. -/
def State.writeFluxCfg (s : State) (f : Nat) (v : W32) : Option State :=
  let p := 192 + f
  let e := 1024 + f
  let st := (s.eng e).st
  if st == .running || st == .waiting || st == .halted || s.holdsWork e then none
  else
    let a := portAddr p 0x1C
    let old := s.reg a
    let s := (s.logPast (s.pin64 + 4) .reg a old).setReg a (v &&& 7)
    if (old ^^^ v) &&& 3 = 0 then some s
    else
      let c : Clamp := { port := p, start := s.effBlock, release := s.effBlock + clampBlocks, started := false, wasAwake := false }
      some { s with hem := { s.hem with clamps := s.hem.clamps ++ [c] } }

/-- FLUX_CFG_WRITE. -/
def execFluxCfgWrite (f : Fin 256) (v : W32) (s : State) : Res :=
  match s.writeFluxCfg f v with
  | some t => .next (t.touch (portAddr (192 + f) 0x1C))
  | none => .next s

/-- A clamp of a port begins: the port is not awake until its release (R131). -/
def State.clampBegin (s : State) (c : Clamp) : State :=
  let c' := { c with started := true, wasAwake := !s.asleep c.port }
  let s := { s with hem := { s.hem with clamps := s.hem.clamps.erase c ++ [c'] } }
  (s.setBit (portAddr c.port 4) 2 false).clampNow c.port

/-- A clamp is over (R131): a port that is awake apart from it is awake once no clamp of it is left. -/
def State.clampOver (s : State) (c : Clamp) : State := (if c.wasAwake then s.wakeUp c.port else s).clampNow c.port

/-- A clamp ends. -/
def State.clampEnd (s : State) (c : Clamp) : State :=
  State.clampOver { s with hem := { s.hem with clamps := s.hem.clamps.erase c } } c

/-- RANGE_CLAMP_START: the port is clamped, in the mode and range written (R131, R135). -/
def execRangeClampStart (f : Fin 256) (s : State) : Res :=
  let p := 192 + f.val
  match s.hem.clamps.find? (fun c => c.port == p && !c.started) with
  | none => .next s
  | some c =>
    let s := s.advanceTo c.start
    let cfg := s.reg (portAddr p 0x1C)
    let s := (s.setBit (portAddr p 4) 6 (cfg.getLsbD 1)).setBit (portAddr p 4) 7 (cfg.getLsbD 0)
    .next (s.clampBegin c)

/-- RANGE_CLAMP_RELEASE: the first boundary at least 1.6 µs after the start (R131). A calibration's clamp ends with the
calibration (R387). -/
def execRangeClampRelease (f : Fin 256) (s : State) : Res :=
  match s.hem.clamps.find? (fun c => c.port == 192 + f.val && c.started && decide (c.release - c.start = clampBlocks)) with
  | none => .next s
  | some c => .next ((s.advanceTo c.release).clampEnd c)

/-! ## The governor (R395) -/

/-- GOVERNOR_REQUEST: the governor takes its first request and places the grant. -/
def execGovernorRequest (s : State) : Res := .next (s.govPlaceAll 1)

/-- Blocks until an input port is READY, and until a tile is powered, after the grant (R395, R434). -/
def powerBlocks : W32 := 8000

/-- Blocks a tile calibrates: 40 ms on a read-out tile, 8 ms on a flux tile (R143, R387). -/
def calBlocks (t : Nat) : W32 := if tileType t = 2 then 3200000 else 16000000

/-- A tile's calibration starts (R142, R387). -/
def State.calStart (s : State) (t : Nat) (g : W32) : State :=
  let s := { s with hem := { s.hem with calRun := tabIns t (g + calBlocks t) s.hem.calRun } }
  if tileType t = 2 then
    foldS (tilePorts t) (fun p s =>
      s.clampBegin { port := p, start := g, release := g + calBlocks t, started := false, wasAwake := false }) s
  else foldS (List.range 4) (fun i s => s.setBit (adcAddr (4 * (t - 16) + i) 4) 8 true) s

/-- A grant is carried out (R395). -/
def State.runGrant (s : State) (g : Grant) : State :=
  let s := { s with hem := { s.hem with grants := s.hem.grants.map (fun x => if x = g then { g with done := true } else x) } }
  match g.kind with
  | .tile t true => s.calStart t g.g
  | .tile t false => { s with hem := { s.hem with tileWait := tabIns t (g.g + powerBlocks) s.hem.tileWait } }
  | .inport l => { s with hem := { s.hem with inWait := tabIns l (g.g + powerBlocks) s.hem.inWait } }
  | .port _ _ => s.addSat 0x1005001C 1

/-- Grants whose block has not been carried out. -/
def State.openGrants (s : State) : List Grant := s.hem.grants.filter (fun g => !g.done)

/-- Carry out every grant whose block has arrived. -/
def State.runGrants (s : State) : State := foldS (s.openGrants.filter (fun g => bge s.pin g.g)) (fun g s => s.runGrant g) s

/-- GOVERNOR_GRANT: the next grant block arrives and its step is carried out. -/
def execGovernorGrant (s : State) : Res :=
  match firstBy (fun a b : Grant => !blt b.g a.g) s.openGrants with
  | none => .next s
  | some g => .next ((s.advanceTo g.g).runGrants)

/-- PORT_WAKE_READY: at g + 800 the port is awake (R395). -/
def execPortWakeReady (p : OPort) (s : State) : Res :=
  match tabFind s.hem.ready p with
  | none => .next s
  | some r =>
    let s := (s.advanceTo r).runGrants
    let idle := match tabFind s.hem.dozeFrom p with | some b => bmax b r | none => r
    let s := { s with hem := { s.hem with ready := tabDel p s.hem.ready, dozeFrom := tabIns p idle s.hem.dozeFrom } }
    .next (s.wakeUp p)

/-- The yoke of an output port. -/
def yokeOfPort (p : Nat) : Nat := yokeOfTile (tileOfPort p)

/-- Whether a port may doze: by DOZE_ALLOW, or by throttle level 1 with no engine of the port in a shot (R389, R396); a
flux port only in voltage mode with GAP_CODE 0. -/
def State.mayDoze (s : State) (p : Nat) : Bool :=
  s.bit (portAddr p 4) 0 && s.awake p && !s.waking p &&
  (s.bit (portAddr p 0) 1 || (decide (1 ≤ s.yokeLevel (yokeOfPort p)) && (engsOfPort p).all (fun e => !(s.eng e).inShot))) &&
  (!isFlux p || (!s.bit (portAddr p 4) 7 && wfld (s.workReg (portAddr p 0x20)) 15 0 == 0)) &&
  !s.hem.clamps.any (fun c => c.port == p) && (engsOfPort p).all (fun e => !s.holdsWork e)

/-- DOZE_IDLE in blocks (R396). -/
def State.dozeIdle (s : State) : Nat := 4000 * s.fld 0x10050000 15 8

/-- A flux port's correction output has been 0 throughout DOZE_IDLE (R396). -/
def State.fluxQuiet (s : State) (p : Nat) : Bool :=
  !isFlux p || (List.range (8 * s.dozeIdle)).all (fun i => (s.fluxSample p (8 * s.pin64.toNat - 1 - i)).1 == 0)

/-- PORT_DOZE: an enabled port idle for DOZE_IDLE dozes (R396). -/
def execPortDoze (p : OPort) (s : State) : Res :=
  if s.mayDoze p then
    let s := match tabFind s.hem.dozeFrom p with
      | some b => s.advanceTo (b + BitVec.ofNat 32 s.dozeIdle)
      | none => s
    .next (if s.fluxQuiet p then s.setBit (portAddr p 4) 2 false else s)
  else .next s

end Sys2Proof.Machine
end

