-- ==== Sys2Proof/Machine/Stream.lean ====
section
/-! DEFINITION. Stream windows, requests and refills (spec/03 R101, R102; spec/08 R226-R231). -/

namespace Sys2Proof.Machine

/-- A stream window's base and size in 4 KiB units. -/
def State.streamWin (s : State) (e : Nat) : Nat × Nat := (s.fld (engAddr e 0x38) 3 0, s.fld (engAddr e 0x38) 8 4)

/-- The engines of engine e's tile. -/
def tileMates (e : Nat) : List Nat := (List.range (engsInTile (tileOfEng e))).map (engOfTile (tileOfEng e))

/-- Two ranges of units overlap. -/
def overlaps (a b : Nat × Nat) : Bool := decide (a.1 < b.1 + b.2) && decide (b.1 < a.1 + a.2)

/-- The status a STREAM_CFG write is refused with (R101). -/
def State.streamRefusal (s : State) (e : Nat) (v : W32) : Option Byte :=
  let st := (s.eng e).st
  let w := (wfld v 3 0, wfld v 8 4)
  let burst := wfld v 20 17
  if st != .idle && st != .done && st != .fault then some 0x20
  else if 16 < w.2 ∨ (w.2 ≠ 0 ∧ 16 < w.1 + w.2) ∨
      (w.2 ≠ 0 ∧ (tileMates e).any (fun o => o != e && (s.streamWin o).2 != 0 && overlaps w (s.streamWin o))) then some 0x13
  else if w.2 ≠ 0 ∧ (burst = 0 ∨ 8 < burst ∨ 4 * w.2 < burst) then some 0x11
  else none

/-- The engine's request waits: at the DMA, or on the field side for the Lining (R27, R229). -/
def State.reqWaiting (s : State) (e : Nat) : Bool :=
  s.dma.table.any (fun r => r.eng == e) || s.dma.liningHeld.any (fun r => r.eng == e)

/-- A refill burst of engine e. -/
def LinMsg.isFor (e : Nat) : LinMsg → Bool
  | .refill g _ _ _ _ => g == e
  | .beacon _ => false

/-- A burst on its way to engine e is discarded on arrival (R226). -/
def LinMsg.cancel (e : Nat) : LinMsg → LinMsg
  | .refill g d m b c => .refill g d m b (c || g == e)
  | .beacon b => .beacon b

/-- Every burst on its way is discarded on arrival: the field side's reset ended the requests. -/
def LinMsg.cancelAll : LinMsg → LinMsg
  | .refill g d m b _ => .refill g d m b true
  | .beacon b => .beacon b

/-- The running paced channel that serves engine e (R228, R229). -/
def State.pacedFor (s : State) (e : Nat) : Option Nat :=
  (List.range 32).find? (fun n =>
    let cfg := s.reg (dmaAddr n 4)
    let st := s.fld (dmaAddr n 8) 2 0
    cfg.getLsbD 0 && wfld cfg 16 6 == e && (st == 1 || st == 2 || st == 3 || st == 4))

/-- Engine e's request is cancelled (R226, R27): the channel that serves it has no request pending; a burst in the midst of being
sent, or on its way, is discarded on arrival. -/
def State.cancelRequest (s : State) (e : Nat) : State :=
  let s := { s with dma := { s.dma with
    table := s.dma.table.filter (fun r => r.eng != e), liningHeld := s.dma.liningHeld.filter (fun r => r.eng != e) } }
  let s := { s with lining := { s.lining with store := s.lining.store.map (LinMsg.cancel e) } }
  match s.pacedFor e with
  | some n =>
    match (s.dmaCh n).burst with
    | some b => s.setDma n { s.dmaCh n with burst := some { b with cancelled := true } }
    | none => if s.fld (dmaAddr n 8) 2 0 = 1 then s.setFld (dmaAddr n 8) 2 0 2 else s
  | none => s

/-- A write to STREAM_CFG (R101, R226): the window is emptied, an outstanding request cancelled, a burst in transit
discarded on arrival. -/
def State.writeStreamCfg (s : State) (e : Nat) (v : W32) : Option Byte × State :=
  match s.streamRefusal e v with
  | some st => (some st, s)
  | none =>
    let s := (s.setReg (engAddr e 0x38) (v &&& 0x1FFFFF)).cancelRequest e
    (none, s.modEng e (fun x => { x with
      stream := { x.stream with data := [], req := false }, work := x.work.map (fun w => { w with samples := [] }) }))

/-- STREAM_CFG_WRITE. -/
def execStreamCfgWrite (e : Eng) (v : W32) (s : State) : Res :=
  match s.writeStreamCfg e v with
  | (none, t) => .next (t.touch (engAddr e 0x38))
  | (some _, t) => .next t

/-- A request reaches the channel that serves its engine (R228, R231). -/
def State.requestAt (s : State) (n : Nat) (r : StreamReq) : State :=
  let s := if s.fld (dmaAddr n 8) 2 0 = 2 then s.setFld (dmaAddr n 8) 2 0 1 else s
  let s := s.setBit (dmaAddr n 8) 17 r.discarding
  if r.underrun then (s.addSat (dmaAddr n 0x24) 1).flag (dmaFlags n) 8 else s

/-- A request reaches the DMA's table (R229), and the channel that serves its engine sees it. -/
def State.requestReach (s : State) (r : StreamReq) : State :=
  match s.pacedFor r.eng with
  | some n => State.requestAt { s with dma := { s.dma with table := s.dma.table ++ [{ r with underrun := false }] } } n r
  | none => { s with dma := { s.dma with table := s.dma.table ++ [r] } }

/-- Whether an engine asks for a burst (R101, R226). -/
def State.wantsBurst (s : State) (e : Nat) : Bool :=
  let x := s.eng e
  (s.streamWin e).2 != 0 && x.st != .fault && x.st != .disabled && !x.stream.req &&
    decide (x.stream.free < 256 * s.fld (engAddr e 0x38) 16 9)

/-- STREAM_REQUEST: an engine whose level lies below its mark sends one request (R101, R227), stamped with the pin block (R34);
with the Lining down the field side holds it (R27). -/
def State.streamAsk (s : State) (e : Nat) : State :=
  if s.wantsBurst e then
    let x := s.eng e
    let r : StreamReq := { eng := e, block := s.pin, bytes := 1024 * s.fld (engAddr e 0x38) 20 17, underrun := x.stream.underran
                           discarding := x.stream.untilMark || decide (0 < x.stream.owed) }
    let s := s.modEng e (fun x => { x with stream := { x.stream with req := true, underran := false } })
    if s.fieldUp then s.requestReach r
    else { s with dma := { s.dma with liningHeld := s.dma.liningHeld ++ [r] } }
  else s

/-- STREAM_REQUEST. -/
def execStreamRequest (e : Eng) (s : State) : Res := .next (s.streamAsk e)

/-- What an engine takes of a burst (R102, R230): the data enters the window behind what it holds; what the under-run policy still
has to discard does not. -/
def Stream.take (x : Stream) (bytes : List Byte) (mark : Bool) : Stream :=
  if x.untilMark && !mark then x
  else
    let lost := min (16 * x.owed) bytes.length
    { x with untilMark := false, owed := x.owed - lost / 16, data := x.data ++ bytes.drop lost }

/-- A burst reaches its engine (R226, R228, R230): it enters the window and completes the request; one whose request was cancelled
is discarded. -/
def State.takeRefill (s : State) (e : Nat) (data : List Byte) (mark cancelled : Bool) : State :=
  if cancelled || !(s.eng e).stream.req then s
  else s.modEng e (fun x => { x with stream := { x.stream.take data mark with req := false } })

end Sys2Proof.Machine
end

