-- ==== Sys2Proof/Machine/Readout.lean ====
section
/-! DEFINITION. Read-out (spec/05): windows and outcomes, input ports, slice calibration and rotation; flux DC
calibration (spec/15 R387). -/

namespace Sys2Proof.Machine

/-! ## Input ports (R157) -/

/-- The channels of input port l. -/
def portChans (l : Nat) : List Nat := (List.range 8).map (8 * l + ·)

/-- A window that is open now. -/
def State.ctxOpen (s : State) (x : Ctx) : Bool := x.openIn s.pin

/-- A window is open on a channel of input port l (R165, R146). -/
def State.integrating (s : State) (l : Nat) : Bool := (portChans l).any (fun c => (s.ctxs c).any s.ctxOpen)

/-- The windows of an input port that are open in block b end ABSENT UNAVAILABLE (R156). -/
def State.portUnavailable (s : State) (l : Nat) (b : W32) : State :=
  foldS (portChans l) (fun c s =>
    s.setCtxs c ((s.ctxs c).map (fun x => if x.openIn b then { x with dead := some 2 } else x))) s

/-- Clearings of ENABLE whose block has come make their ports not READY from it on (R157). -/
def State.adcSettle (s : State) : State :=
  let due := s.hem.adcOff.filter (fun r => bge s.pin r.2)
  if due.isEmpty then s
  else
    let s := { s with hem := { s.hem with adcOff := s.hem.adcOff.filter (fun r => !bge s.pin r.2) } }
    foldS due (fun r s =>
      let a := adcAddr r.1 4
      ((s.logPast (s.block64 r.2) .reg a (s.reg a)).setBit a 6 false).portUnavailable r.1 r.2) s

/-- ROT_EN is written to 1, or a calibration has passed: a dwell of port l begins (R145). -/
def State.dwellBegin (s : State) (l : Nat) : State := { s with hem := { s.hem with rotAt := tabIns l s.pin64 s.hem.rotAt } }

/-- A write to ADC_CTRL (R157, R165). -/
def State.writeAdcCtrl (s : State) (l : Nat) (v : W32) : State :=
  let was := s.bit (adcAddr l 0) 0
  let rot := s.bit (adcAddr l 0) 1
  let s := s.setReg (adcAddr l 0) (v &&& 7)
  let s := if !rot && v.getLsbD 1 then s.dwellBegin l else s
  if !was && v.getLsbD 0 then s.govAsk (.inport l) none (512 + 8 * l)
  else if was && !v.getLsbD 0 then
    { s with hem := { s.hem with
        adcOff := s.hem.adcOff ++ [(l, s.effBlock)]
        inWait := tabDel l s.hem.inWait
        requests := s.hem.requests.filter (fun r => r.kind != .inport l) } }
  else s

/-- ADC_ENABLE. -/
def execAdcEnable (l : Feed) (v : W32) (s : State) : Res := .next (s.writeAdcCtrl l v)

/-- ADC_PORT_READY: 20 µs after its grant (R157, R395). -/
def execAdcPortReady (l : Feed) (s : State) : Res :=
  match tabFind s.hem.inWait l with
  | none => .next s
  | some b =>
    let s := (s.advanceTo b).adcSettle
    let s := { s with hem := { s.hem with inWait := tabDel l s.hem.inWait } }
    .next (if s.bit (adcAddr l 0) 0 then (s.remember (adcAddr l 4)).setBit (adcAddr l 4) 6 true else s)

/-- The first ADC sample of a window (R152): the first at or after its opening tick. -/
def State.firstSample (s : State) (x : Ctx) : Nat := (64 * (s.block64 x.start).toNat + x.tick.toNat + 1) / 2

/-- ADC_OVER_RANGE: sample m of the pin block is counted once, and marked in every window that includes it (R139). -/
def execAdcOverRange (l : Feed) (m : Fin 32) (s : State) : Res :=
  let n := 32 * s.pin64.toNat + m.val
  let s := (s.addSat (adcAddr l 0xC) 1).flag (adcFlags l) 0
  .next (foldS (portChans l) (fun c s =>
    s.setCtxs c ((s.ctxs c).map (fun x =>
      if x.opened ∧ x.dead.isNone ∧ s.firstSample x ≤ n ∧ n < s.firstSample x + 32 * x.len then { x with ovr := true }
      else x))) s)

/-! ## Windows (R151-R160) -/

/-- An accepted ACQUIRE out of its queue stands behind the context. -/
def State.ctxAccepted (s : State) (x : Ctx) : Bool :=
  (s.eng x.eng).work.any (fun w => w.stage != .queued && w.d.kind == 2 && w.d.start == x.start && w.d.tick == x.tick)

/-- Change the first context of a channel that equals x. -/
def State.modCtx (s : State) (c : Nat) (x y : Ctx) : State :=
  s.setCtxs c (match (s.ctxs c).findIdx? (· == x) with
    | some i => (s.ctxs c).set i y
    | none => s.ctxs c)

/-- WINDOW_OPEN: the next window of the channel opens, or finds its port or channel unavailable (R152, R156). -/
def execWindowOpen (c : Chan) (s : State) : Res :=
  match firstBy (fun a b : Ctx => !blt b.start a.start)
      ((s.ctxs c).filter (fun x => !x.opened && x.dead.isNone && s.ctxAccepted x)) with
  | none => .next s
  | some x =>
    let s := (s.advanceTo x.start).adcSettle
    let words := if x.words.isEmpty then s.wset c x.wset else x.words
    let ok := s.adcReady (portOfChan c) && s.bit (chAddr c 0) 0
    .next (s.modCtx c x { x with opened := true, words, dead := if ok then none else some 2 })

/-- Saturate to ±(2^31 − 1) (R152). -/
def sat32 (v : Int) : Int := max (-2147483647) (min 2147483647 v)

/-- A weight word as the window reads it for the sample that ends at a tick (R154): as it stood 54 ns ± 2.5 ns before, a write in
that span being seen or not. -/
def State.weightWord (s : State) (a tick : Nat) : W32 :=
  let old := (tick - 1447) / 64 + 1
  let new := (tick - 1319) / 64 + 1
  s.wordAt a (if Config.weightNew a (tick / 64) then new else old)

/-- Weight k of a weight set entry (R152, R153), read for a sample that ends at a tick: 0 at or beyond LEN. -/
def State.weight (s : State) (c : Nat) (words : List W32) (k tick : Nat) : W32 :=
  let w0 := words.headD 0
  if wfld w0 27 16 ≤ k then 0
  else s.weightWord (tileBase (16 + c / 32) + 0x200000 + 4 * ((wfld w0 15 0 + k) % 65536)) tick

/-- The opening tick of a window (R152). -/
def State.openTick (s : State) (x : Ctx) : Nat := 64 * (s.block64 x.start).toNat + x.tick.toNat

/-- S_acc of a window: the complex products of weights and samples, in 48 bits per component (R152). -/
def State.accumulate (s : State) (c : Nat) (x : Ctx) (samples : List (BitVec 16 × BitVec 16)) : Int × Int :=
  let terms := (List.range x.len).map (fun k =>
    let w := s.weight c x.words k (s.openTick x + 64 * (k + 1))
    let wi := (w.setWidth 16 : BitVec 16).toInt
    let wq := ((w >>> 16).setWidth 16 : BitVec 16).toInt
    let z := samples.getD k (0, 0)
    (wi * z.1.toInt - wq * z.2.toInt, wi * z.2.toInt + wq * z.1.toInt))
  let re := (terms.map (·.1)).sum
  let im := (terms.map (·.2)).sum
  ((BitVec.ofInt 48 re).toInt, (BitVec.ofInt 48 im).toInt)

/-- The decimated samples of a window (R152): those given for its input signal, or those that its port's ADC samples come to. -/
def State.windowSamples (s : State) (c : Nat) (x : Ctx) (given : Option (List (BitVec 16 × BitVec 16))) :
    List (BitVec 16 × BitVec 16) :=
  match given with
  | some z => z
  | none => (List.range x.len).map (fun k => s.decimated c (s.openTick x + 64 * k))

/-- A boundary's signed distance (R158). -/
def distance (ab c : W32) (i q : Int) : Int :=
  let a := (ab.setWidth 16 : BitVec 16).toInt
  let b := ((ab >>> 16).setWidth 16 : BitVec 16).toInt
  (a * i + b * q) / 32768 - c.toInt

/-- What discrimination finds (R158): RAW_VALUE, UNCERTAIN, d0 and d1. -/
structure Discrim where
  raw : BitVec 2
  uncertain : Bool
  d0 : Int
  d1 : Int
deriving DecidableEq, Repr

/-- The discriminator of a weight set entry (R158, R168). -/
def discriminate (words : List W32) (i q : Int) : Discrim :=
  let w := fun n => words.getD n 0
  let b1 := (w 1).getLsbD 0
  let d0 := distance (w 2) (w 3) i q
  let d1 := if b1 then distance (w 5) (w 6) i q else 0
  let raw : BitVec 2 := if d0 < 0 then 0 else if b1 && decide (0 ≤ d1) then 2 else 1
  let g0 : Int := (w 4).toNat
  let uncertain := decide ((d0.natAbs : Int) < g0) || (b1 && decide (-g0 ≤ d0) && decide (d1.natAbs < (w 7).toNat))
  { raw, uncertain, d0, d1 }

/-- The local qubit whose valid QUBIT_MAP entry has DEMOD = c (R107, R161). -/
def State.qubitOfChan (s : State) (c : Nat) : Option Nat :=
  (List.range 512).find? (fun q => let v := s.word (qmapAddr q); v.getLsbD 31 && wfld v 17 9 == c)

/-- A window's outcome (R156, R158, R159), with what its record carries. -/
structure WinOut where
  value : BitVec 2
  raw : BitVec 2
  uncertain : Bool
  absent : Option Nat
  flipped : Bool
  sat : Bool
  short : Bool
  i : Int
  q : Int
  d0 : Int
  d1 : Int
deriving DecidableEq, Repr

/-- PAULI_EN with a Pauli frame that inverts at the stamp block (R159). -/
def State.ctxFlips (s : State) (c : Nat) (x : Ctx) : Bool := s.bit (chAddr c 0) 3 && x.flip.getD (s.chFlip c)

/-- The outcome of a context (R152, R156, R158, R159). An ABSENT one carries no UNCERTAIN, INT_SAT, WEIGHT_SHORT, D0 or D1 (DESIGN
CHOICE, log entry 123). -/
def State.windowOut (s : State) (c : Nat) (x : Ctx) (samples : List (BitVec 16 × BitVec 16)) : WinOut :=
  match x.dead with
  | some cause =>
    { value := 3, raw := 3, uncertain := false, absent := some cause, flipped := false, sat := false, short := false
      i := 0, q := 0, d0 := 0, d1 := 0 }
  | none =>
    let acc := s.accumulate c x samples
    let sh := 2 ^ wfld (x.words.getD 1 0) 5 1
    let i := sat32 (acc.1 / sh)
    let q := sat32 (acc.2 / sh)
    let d := discriminate x.words i q
    let flip := s.ctxFlips c x && d.raw != 2
    { value := if flip then d.raw ^^^ 1 else d.raw, raw := d.raw, uncertain := d.uncertain, absent := none
      flipped := flip, sat := i != acc.1 / sh || q != acc.2 / sh, short := decide (wfld (x.words.headD 0) 27 16 < x.len)
      i, q, d0 := d.d0, d1 := d.d1 }

/-- A value saturated to 32 bits (R161). -/
def sat32w (v : Int) : W32 := BitVec.ofInt 32 (max (-2147483648) (min 2147483647 v))

/-- Word 0 of an outcome record (R161). -/
def State.outWord0 (s : State) (rtype c : Nat) (o : WinOut) : W32 :=
  let qb := s.qubitOfChan c
  BitVec.ofNat 32 (rtype * 2 ^ 28 + (if qb.isNone then 2 ^ 27 else 0) + qb.getD 0 * 2 ^ 18 + c * 2 ^ 9 +
    o.value.toNat * 2 ^ 7 + o.raw.toNat * 2 ^ 5 + o.uncertain.toNat * 16 + o.absent.isSome.toNat * 8 +
    o.flipped.toNat * 4 + o.sat.toNat * 2 + s.follow.toNat)

/-- An outcome record (R161): none, short or long by RECORD_MODE. -/
def State.outRecord (s : State) (c : Nat) (x : Ctx) (o : WinOut) : List W32 :=
  let mode := s.fld (chAddr c 0) 2 1
  let w3 : W32 := BitVec.ofNat 32 (x.len * 2 ^ 8 + x.wset * 16 + o.absent.getD 0 * 4 + o.short.toNat * 2 + x.ovr.toNat)
  if mode = 0 then []
  else
    [s.outWord0 mode c o, x.stamp, x.shotNo, w3] ++
      (if mode = 2 then [sat32w o.i, sat32w o.q, sat32w o.d0, sat32w o.d1] else [])

/-- Frame updates whose boundary is no later than block b take effect (R159: the stamp block's own included). fuel
bounds the boundaries. -/
def State.framesUpTo (s : State) (b : W32) : Nat → State
  | 0 => s
  | fuel + 1 =>
    match s.frameNext with
    | some n => if bge b n then (s.framesAt n).framesUpTo b fuel else s
    | none => s

/-- The channel's registers and flags after an outcome (R166, R167): the unit's own on a standby too (DESIGN CHOICE, log entry 124). -/
def State.noteOutcome (s : State) (c : Nat) (x : Ctx) (o : WinOut) : State :=
  let s := (s.setReg (chAddr c 0x1C) (s.outWord0 1 c o)).setReg (chAddr c 0x20) x.stamp
  let s := s.addSat (chAddr c 0x10) 1
  let s := if o.uncertain then s.addSat (chAddr c 0x18) 1 else s
  if o.absent.isSome then (s.addSat (chAddr c 0x14) 1).flag (chFlags c) 3
  else
    let s := (((s.setReg (chAddr c 0x24) (sat32w o.i)).setReg (chAddr c 0x28) (sat32w o.q)).setReg (chAddr c 0x2C)
      (sat32w o.d0)).setReg (chAddr c 0x30) (sat32w o.d1)
    let s := if o.short then s.flag (chFlags c) 1 else s
    if o.sat then s.flag (chFlags c) 2 else s

/-- A channel releases the outcome of a context (R156, R160, R169). -/
def State.releaseWindow (s : State) (c : Nat) (x : Ctx) (given : Option (List (BitVec 16 × BitVec 16))) : State :=
  let s := ((s.advanceTo x.stamp).adcSettle).framesUpTo x.stamp (s.frameAll.length + 1)
  match (s.ctxs c).find? (fun y => y.stamp == x.stamp && y.eng == x.eng && y.start == x.start && y.tick == x.tick) with
  | none => s
  | some x =>
    let o := s.windowOut c x (s.windowSamples c x given)
    let words := s.outRecord c x o
    let flips := s.ctxFlips c x
    let b1 := (x.words.getD 1 0).getLsbD 0
    let s := s.setCtxs c ((s.ctxs c).erase x)
    let s := s.noteOutcome c x o
    let s := s.pocketOutcome c x.stamp o.value o.absent.isSome [x.stamp, sat32w o.i, sat32w o.q, s.outWord0 1 c o]
    let en : Entry :=
      { value := o.value, uncertain := o.uncertain, absent := o.absent.isSome, remote := false, stamp := some x.stamp }
    ((s.releaseOutcome c en words flips b1).formReady).serveRuns

/-- OUTCOME_RELEASE: the channel's window with the earliest stamp releases its outcome; it must have ended. A sender that describes
the input signal by the decimated samples that it gives (R149) names them; else the signal at the ADC pin decides. -/
def execOutcomeRelease (c : Chan) (given : Option (List (BitVec 16 × BitVec 16))) (s : State) : Res :=
  match firstBy (fun a b : Ctx => !blt b.stamp a.stamp) ((s.ctxs c).filter (fun x => x.opened || x.dead.isSome)) with
  | none => .next s
  | some x => .next (s.releaseWindow c x given)

/-! ## Slices (R140-R147) -/

/-- The four factors of a slice fit lie in their fields (R144, R164). -/
def SliceFit.inRange (f : SliceFit) : Bool :=
  decide (-32768 ≤ f.offset ∧ f.offset ≤ 32767) && decide (-131072 ≤ f.gain ∧ f.gain ≤ 131071) &&
    decide (-32768 ≤ f.skew ∧ f.skew ≤ 32767) && decide (-32768 ≤ f.bw ∧ f.bw ≤ 32767)

/-- The registers and values of a slice's factors (R164). -/
def sliceRegs (l k : Nat) (f : SliceFit) : List (Nat × W32) :=
  [(adcAddr l (0x40 + 16 * k), (BitVec.ofInt 16 f.offset).setWidth 32), (adcAddr l (0x44 + 16 * k), (BitVec.ofInt 18 f.gain).setWidth 32),
   (adcAddr l (0x48 + 16 * k), (BitVec.ofInt 16 f.skew).setWidth 32), (adcAddr l (0x4C + 16 * k), (BitVec.ofInt 16 f.bw).setWidth 32)]

/-- Slices of SLICE_FAILED. -/
def State.failedSlices (s : State) (l : Nat) : List Nat := (List.range 17).filter (fun k => s.bit (adcAddr l 0x18) k)

/-- What the failed slices of a port come to (R144): one becomes the spare, two or more put the port in FAULT. -/
def State.judgeSlices (s : State) (l : Nat) : State :=
  let a := adcAddr l 4
  match s.failedSlices l with
  | [] => s
  | [k] => ((((s.remember a).setFld a 4 0 k).setBit a 10 true).setBit a 9 false)
  | _ => ((((s.remember a).setBit a 11 true).flag (adcFlags l) 4).flag (adcFlags l) 3).portUnavailable l s.pin

/-- A slice fails in service (R144, R147): its replacement is in force from the next block boundary. -/
def State.sliceFail (s : State) (l k : Nat) : State :=
  let s := (s.advanceTo (s.pin + 1)).adcSettle
  ((s.setBit (adcAddr l 0x18) k true).flag (adcFlags l) 2).judgeSlices l

/-- The port's fits of a foreground calibration (R143, R144). -/
def State.calPort (s : State) (l : Nat) (fits : List SliceFit) : State :=
  let bad := fun f : SliceFit => !(SliceFit.inRange f && f.residualOk)
  let set := fun (a : Nat) (v : W32) (s : State) => s.setJournal .fm a v
  let s := foldS fits (fun f s => if bad f then s else foldS (sliceRegs l f.slice f) (fun r s => set r.1 r.2 s) s) s
  let failed := ((fits.filter bad).map (fun f => f.slice.val)).dedup
  let mask : W32 := BitVec.ofNat 32 ((failed.map (2 ^ ·)).sum)
  let st := s.reg (adcAddr l 4)
  let s := if failed.isEmpty then s else s.flag (adcFlags l) 2
  if failed.length ≤ 1 then
    let s := set (adcAddr l 0x18) mask s
    let st := putFld (putFld (putFld st 11 11 0) 10 10 0) 7 7 1
    ((set (adcAddr l 4) st s).judgeSlices l).dwellBegin l
  else
    (set (adcAddr l 0x18) (s.reg (adcAddr l 0x18) ||| mask) s).judgeSlices l

/-- A tile of a running long command is done; the last one ends it (R143, R387): OK, or INTERNAL where one failed. -/
def State.tileDone (s : State) (t : Nat) (failed : Bool) : State :=
  match s.cmd.fm with
  | none => s
  | some l =>
    let l' := { l with tiles := l.tiles.filter (· != t), failed := l.failed || failed }
    let s := s.setLong .fm (some l')
    if l'.tiles.isEmpty then s.endLong .fm (if l'.failed then 0x7F else 0x00) else s

/-- READOUT_CAL_TILE_DONE: 40 ms after its start the tile's factors are written (R143). -/
def execReadoutCalTileDone (k : Fin 16) (fits : List SliceFit) (s : State) : Res :=
  match tabFind s.hem.calRun (16 + k.val) with
  | none => .next s
  | some b =>
    let s := (s.advanceTo b).adcSettle
    let s := { s with hem := { s.hem with calRun := tabDel (16 + k.val) s.hem.calRun } }
    let s := foldS (List.finRange 4) (fun p s =>
      let l := 4 * k.val + p.val
      let s := s.calPort l (fits.filter (fun f => f.port == p))
      (s.setJournal .fm (adcAddr l 0x1C) s.pin).setBit (adcAddr l 4) 8 false) s
    let failed := (List.range 4).any (fun p => s.bit (adcAddr (4 * k.val + p) 4) 11)
    .next (s.tileDone (16 + k.val) failed)

/-- The port rotates: ROT_EN, CAL_DONE, a spare, and no calibration or fault (R145). -/
def State.rotates (s : State) (l : Nat) : Bool :=
  s.bit (adcAddr l 0) 1 && s.adcReady l && s.bit (adcAddr l 4) 7 && !s.bit (adcAddr l 4) 10 && !s.bit (adcAddr l 4) 8

/-- The step of R140: the spare moves by one in DIRECTION, which reverses at 0 and 16; the next dwell begins. -/
def State.rotate (s : State) (l : Nat) : State :=
  let a := adcAddr l 4
  let sp := s.fld a 4 0
  let up := decide (sp = 0) || (s.bit a 5 && decide (sp < 16))
  let n := if up then sp + 1 else sp - 1
  let s := (s.remember a).setFld a 4 0 n
  let s := s.setBit a 5 (if n = 0 then true else if 16 ≤ n then false else up)
  let s := s.setBit a 9 false
  (s.setReg (adcAddr l 0x14) (s.reg (adcAddr l 0x14) + 1)).dwellBegin l

/-- Blocks of a dwell of port l (R145): DWELL × 100 µs. -/
def State.dwellBlocks (s : State) (l : Nat) : Nat := 40000 * s.fld (adcAddr l 0x10) 15 0

/-- The 64-bit block n blocks after port l's dwell, or its wait for a quiet boundary, began. -/
def State.rotBlock (s : State) (l n : Nat) : W64 := (tabFind s.hem.rotAt l).getD s.pin64 + BitVec.ofNat 64 n

/-- ROTATION_STEP: at the end of a dwell the spare, adapted, takes over one position (R145, R146), waits for a quiet
boundary, or fails after three dwells without converging (R147). A swap that waits goes on waiting when ROT_EN is cleared, and
ROT_WAITING stays (DESIGN CHOICE, log entry 125). -/
def execRotationStep (l : Feed) (converged : Bool) (fit : SliceFit) (s : State) : Res :=
  let waits := s.bit (adcAddr l 4) 9
  let s := s.adcSettle
  if !s.rotates l then .next s
  else
    let s := (if waits then s else s.advance64 (s.rotBlock l (s.dwellBlocks l))).adcSettle
    let sp := s.fld (adcAddr l 4) 4 0
    let setBad := fun n (s : State) => { s with hem := { s.hem with rotBad := tabSet 0 s.hem.rotBad l n } }
    if !(converged && SliceFit.inRange fit) && !waits then
      let n := tabGet 0 s.hem.rotBad l + 1
      .next (if 3 ≤ n then (setBad 0 s).sliceFail l sp else (setBad n s).dwellBegin l)
    else
      let s := setBad 0 s
      let s := if waits then s else foldS (sliceRegs l sp fit) (fun r s => (s.remember r.1).setReg r.1 r.2) s
      .next (if s.bit (adcAddr l 0) 2 && s.integrating l then
          (if waits then s else (s.setBit (adcAddr l 4) 9 true).dwellBegin l)
        else s.rotate l)

/-- ROT_STALLED: a swap has waited 1 s (R146). -/
def execRotStalled (l : Feed) (s : State) : Res :=
  .next (if s.bit (adcAddr l 4) 9 then (s.advance64 (s.rotBlock l 400000000)).flag (adcFlags l) 1 else s)

/-- IN_SERVICE_SLICE_FAILURE: a slice in service fails and the spare takes its place (R147). -/
def execInServiceSliceFailure (l : Feed) (slice : Fin 17) (s : State) : Res :=
  if s.fld (adcAddr l 4) 4 0 = slice.val ∨ s.bit (adcAddr l 0x18) slice.val then .next s
  else .next (s.sliceFail l slice)

/-! ## Flux DC calibration (R387) -/

/-- A flux fit lies in its fields (R386). -/
def FluxFit.inRange (f : FluxFit) : Bool :=
  decide (-131072 ≤ f.offset ∧ f.offset ≤ 131071) && decide (-131072 ≤ f.gain ∧ f.gain ≤ 131071)

/-- One flux port's fits: written, or, with one outside its field, left as they were (R387). -/
def State.calFlux (s : State) (p : Nat) (fits : List FluxFit) : State :=
  if fits.all FluxFit.inRange then
    foldS fits (fun f s =>
      (s.setJournal .fm (portAddr p (0x100 + 8 * f.r.val)) ((BitVec.ofInt 18 f.offset).setWidth 32)).setJournal .fm
        (portAddr p (0x104 + 8 * f.r.val)) ((BitVec.ofInt 18 f.gain).setWidth 32)) s
  else s.flag fhFlags 7

/-- A clamp that a calibration of tile t began (R387). -/
def Clamp.isCal (t : Nat) (c : Clamp) : Bool := tileOfPort c.port == t && c.started && c.release - c.start != clampBlocks

/-- The clamps of a running flux calibration end (R387, R131). -/
def State.endCalClamps (s : State) (t : Nat) : State :=
  let ended := s.hem.clamps.filter (Clamp.isCal t)
  foldS ended (fun c s => s.clampOver c) { s with hem := { s.hem with clamps := s.hem.clamps.filter (fun c => !Clamp.isCal t c) } }

/-- FLUX_CAL_TILE_DONE: 8 ms after its start the tile writes its factors and leaves the clamp (R387). -/
def execFluxCalTileDone (m : Fin 16) (fits : List FluxFit) (s : State) : Res :=
  match tabFind s.hem.calRun (32 + m.val) with
  | none => .next s
  | some b =>
    let s := s.advanceTo b
    let s := { s with hem := { s.hem with calRun := tabDel (32 + m.val) s.hem.calRun } }
    let s := foldS (List.finRange 16) (fun i s =>
      s.calFlux (192 + 16 * m.val + i.val) (fits.filter (fun f => f.port == i))) s
    .next ((s.endCalClamps (32 + m.val)).tileDone (32 + m.val) (!fits.all FluxFit.inRange))

end Sys2Proof.Machine
end

