-- ==== Sys2Proof/Machine/Onet.lean ====
section
/-! DEFINITION. The outcome network's clocked events and the runs' rendezvous (spec/06 R176-R180, spec/03 R70, R95, R96),
with the seam messages that carry them (R345, R346, R349). -/

namespace Sys2Proof.Machine

/-! ## Rendezvous (R70, R95, R96) -/

/-- This unit's hub completes the set's rendezvous (R346, R349). -/
def State.completesSet (s : State) (g : StartSet) : Bool :=
  match s.upSeam with
  | some true => !g.pair && !g.twin
  | some false => !g.twin
  | none => true

/-- This unit's hub completes an instance of the group in the set (R97, R349). -/
def State.completesSync (s : State) (g : StartSet) (group : Nat) : Bool :=
  match s.upSeam with
  | some true => !g.pair && !g.twin
  | some false => !(s.syncTwin group && g.twin)
  | none => true

/-- PACE_GAP_LAST of each yoke that holds an engine of the set (R390, R404). -/
def State.notePace (s : State) (g : StartSet) (pace : Nat) : State :=
  foldS ((g.members.map yokeOfEng).dedup) (fun y s => s.setReg (yokeAddr y 0x10) (BitVec.ofNat 32 (pace % 2 ^ 24))) s

/-- SHOT_RENDEZVOUS_COMPLETE: every member has reported or left; B_SHOT is formed and the next shot begins, or the set
ends (R70). -/
def execShotRendezvousComplete (set : Nat) (s : State) : Res :=
  match s.findSet set with
  | none => .next s
  | some g =>
    if s.rendezvousReady g && s.completesSet g then
      let (b, pace) := s.bShot g
      let last := s.lastShot g
      let s := s.notePace g pace
      let s := s.sendComplete g.twin false 0 0 g.shotNo b false last
      .next (s.completeShot g b last).serveRuns
    else .next s

/-- B_SYNC of an instance that completes now (R95). -/
def State.bSync (s : State) (i : SyncInst) (g : StartSet) : W32 :=
  bmaxOpt (i.cMax.map (fun c => c + BitVec.ofNat 32 i.offset)) (s.secondTerm (s.syncTwin i.group && g.twin) (i.partner.map (·.2)))

/-- SYNC_COMPLETE (R95). -/
def execSyncComplete (set : Nat) (group : Fin 64) (inst : Nat) (s : State) : Res :=
  match s.findSet set, s.findSync set group inst with
  | some g, some i =>
    if s.syncReady i g && s.completesSync g group then
      let b := s.bSync i g
      let s := s.sendComplete (s.syncTwin group && g.twin) true group inst g.shotNo b false false
      .next (s.releaseSync i b).serveRuns
    else .next s
  | _, _ => .next s

/-- SYNC_TIMEOUT: an instance incomplete TIMEOUT µs after its first arrival closes (R96). -/
def execSyncTimeout (set : Nat) (group : Fin 64) (inst : Nat) (s : State) : Res :=
  match s.findSet set, s.findSync set group inst with
  | some g, some i =>
    let t := s.syncTimeoutUs group
    if t ≠ 0 ∧ !i.closed ∧ (!i.arrived.isEmpty ∨ !i.partner.isEmpty) ∧ !s.syncReady i g ∧ s.completesSync g group then
      let s := s.advanceTo (i.first + BitVec.ofNat 32 (400 * t))
      let s := s.sendComplete (s.syncTwin group && g.twin) true group inst g.shotNo 0 true false
      .next (s.closeSync i).serveRuns
    else .next s
  | _, _ => .next s

/-- The set that a seam message means: the first twin or pair set in the shot it names. REPORT and COMPLETE name no set
(R345). -/
def State.seamSet (s : State) (shotNo : W32) : Option StartSet :=
  s.sets.find? (fun g => (g.twin || g.pair) && g.shotNo == shotNo)

/-- A unit's REPORT takes the place of an earlier one of the same kind over its seam (R99, R345). -/
def replaceReport (b : Bool) (m : ReportMsg) (l : List (Bool × ReportMsg)) : List (Bool × ReportMsg) :=
  l.filter (fun r => !(r.1 == b && r.2.sync == m.sync && r.2.group == m.group && r.2.left == m.left)) ++ [(b, m)]

/-- REPORT: a follow, over seam A, or a standby, over seam B, reports to a rendezvous or an instance, or that it awaits no member of
a group any more (R345, R346, R349). -/
def execReport (b : Bool) (m : ReportMsg) (s : State) : Res :=
  match s.seamSet m.shotNo with
  | none => .next s
  | some g =>
    if m.sync && !m.left then
      let s := s.openSync g.id m.group m.inst
      .next (s.modSync g.id m.group m.inst (fun i => { i with
        partner := replaceReport b m i.partner, offset := m.offset.toNat })).serveRuns
    else .next (s.modSet g.id (fun g => { g with partner := replaceReport b m g.partner })).serveRuns

/-- COMPLETE: the completing hub's answer releases this unit's engines, and its standby's (R346, R349). -/
def execComplete (m : CompleteMsg) (s : State) : Res :=
  match s.seamSet m.shotNo with
  | none => .next s
  | some g =>
    let s := if s.pairState == 3 && s.twin && s.follow then
        s.sendSeam true 0x04 [m.sync.toNat, m.group.val, m.inst, m.shotNo.toNat, m.b.toNat, m.closed.toNat, m.last.toNat]
      else s
    if m.sync then
      let s := if m.closed then s.openSync g.id m.group m.inst else s
      match s.findSync g.id m.group m.inst with
      | some i => .next (if m.closed then s.closeSync i else s.releaseSync i m.b).serveRuns
      | none => .next s
    else .next (s.completeShot g m.b (m.last || (s.shadow && s.yokeStopped g))).serveRuns

/-- TRIG: the active's edge, in place of the standby's own pins (R349). -/
def execTrig (pin : Fin 8) (stamp : W64) (s : State) : Res := if s.shadow then .next (s.trigEdge pin stamp) else .next s

/-! ## Remote outcomes (R176-R179) -/

/-- EXTRA of a slot (R173). -/
def State.slotExtra (s : State) (es : Nat × Nat) : Nat := wfld (s.reg (bindAddr es.1 es.2)) 23 16

/-- The remote deadline of a slot for a stamp (R177). -/
def State.slotDeadline (s : State) (stamp : W32) (es : Nat × Nat) : W32 :=
  stamp + BitVec.ofNat 32 (s.deadlineD + s.slotExtra es)

/-- Put an entry on its way to some slots. -/
def State.deliverTo (s : State) (slots : List (Nat × Nat)) (en : Entry) : State :=
  { s with onet := { s.onet with
      deliv := s.onet.deliv ++ slots.map (fun es => { eng := es.1, slot := es.2, entry := en : Delivery }) } }

/-- An active unit mirrors what it delivered from seam A to its standby (R179's mirror, R180). -/
def State.mirrorRemote (s : State) (source : Nat) (en : Entry) : State :=
  if s.pairState == 3 then s.sendEntry true source en true else s

/-- Count a remote outcome delivered ABSENT to a slot (R177). -/
def State.countRemoteAbsent (s : State) : State := (s.addSat 0x10030008 1).flag onetFlags 0

/-- A pledge's slots whose deadline has come receive ABSENT with its stamp (R177). -/
def State.pledgeDue (s : State) (p : Pledge) : State :=
  let due := (s.boundSlots p.source true).filter (fun es => !(es ∈ p.absentTo) && bge s.pin (s.slotDeadline p.stamp es))
  if due.isEmpty then s
  else
    let en := absentEntry true (some p.stamp)
    let s := (s.deliverTo due en).mirrorRemote p.source en
    let s := if p.absentTo.isEmpty then s.countRemoteAbsent else s
    { s with onet := { s.onet with
        pledges := s.onet.pledges.map (fun x => if x = p then { p with absentTo := p.absentTo ++ due } else x) } }

/-- Every pledge's due slots. -/
def State.pledgesDue (s : State) : State := foldS s.onet.pledges (fun p s => s.pledgeDue p) s

/-- PLEDGE: held at the remote stage (R176), even where its outcome has passed already (DESIGN CHOICE, log entry 129); a unit that
shadows an active one takes it as telling that the mirrored remote entry is due. -/
def execPledge (source : BitVec 11) (stamp : W32) (s : State) : Res :=
  if !s.twin then .next s
  else if s.shadow then
    .next { s with onet := { s.onet with due := s.onet.due ++ [{ source := source.toNat, stamp, viaA := true, words := [], flips := false, b1 := false }] } }
  else
    .next { s with onet := { s.onet with
      pledges := s.onet.pledges ++ [{ source := source.toNat, stamp, absentTo := [] }] } }

/-- The next deadline of a pledge's slots. -/
def State.nextDeadline (s : State) : Option W32 :=
  firstBy (fun a b : W32 => !blt b a) (s.onet.pledges.flatMap (fun p =>
    ((s.boundSlots p.source true).filter (fun es => !(es ∈ p.absentTo))).map (s.slotDeadline p.stamp)))

/-- REMOTE_DEADLINE: at the next deadline, the pledged outcome that has not passed is replaced by ABSENT (R177). -/
def execRemoteDeadline (s : State) : Res :=
  match s.nextDeadline with
  | none => .next s
  | some b => .next ((s.advanceTo b).pledgesDue.serveRuns)

/-- An outcome reaches the remote stage (R177). -/
def State.remoteOutcome (s : State) (o : SeamOutcome) : State :=
  let s := s.pledgesDue
  let src := o.source.toNat
  let slots := s.boundSlots src true
  let en : Entry :=
    { value := o.value, uncertain := o.uncertain, absent := o.absent, remote := true, stamp := some o.stamp }
  match s.onet.pledges.find? (fun p => p.source == src && p.stamp == o.stamp) with
  | some p =>
    let s := { s with onet := { s.onet with pledges := s.onet.pledges.erase p } }
    let ok := slots.filter (fun es => !(es ∈ p.absentTo))
    let s := if p.absentTo.isEmpty then s else (s.addSat 0x1003000C 1).flag onetFlags 1
    if ok.isEmpty then s else (s.deliverTo ok en).mirrorRemote src en
  | none =>
    let late := slots.filter (fun es => bge s.pin (s.slotDeadline o.stamp es))
    let ok := slots.filter (fun es => !bge s.pin (s.slotDeadline o.stamp es))
    let s := if ok.isEmpty then s else (s.deliverTo ok en).mirrorRemote src en
    if late.isEmpty then s
    else
      let ab := absentEntry true (some o.stamp)
      ((s.deliverTo late ab).mirrorRemote src ab).countRemoteAbsent

/-! ## The mirror (R180) -/

/-- The deadline of a due mirrored entry (R177, R180). -/
def State.dueBlock (s : State) (d : Due) : W32 :=
  d.stamp + BitVec.ofNat 32 (if d.viaA then s.deadlineMR else s.deadlineM)

/-- A mirrored outcome is delivered in place of the unit's own, with its record (R163, R180). -/
def State.deliverMirror (s : State) (d : Due) (en : Entry) : State :=
  if d.viaA then
    s.deliverTo ((s.boundSlots d.source true).filter (fun es => !en.absent || bge s.pin (s.slotDeadline d.stamp es)))
      { en with remote := true }
  else
    (s.standbyRecord d.words d.flips d.b1 (some { value := en.value, uncertain := en.uncertain, absent := en.absent })).deliver d.source en

/-- A due entry's deadline has come: ABSENT with its stamp (R180). -/
def State.mirrorAbsent (s : State) (d : Due) : State :=
  let gone := if d.viaA then s.onet.mirrorGone ++ [(d.source, d.stamp)] else s.onet.mirrorGone
  let s := { s with onet := { s.onet with due := s.onet.due.erase d, mirrorGone := gone } }
  let s := (s.addSat 0x10030010 1).flag onetFlags 2
  s.deliverMirror d (absentEntry d.viaA (some d.stamp))

/-- A mirrored remote entry that no pledge announced arrives after its deadline: ABSENT with its stamp (R177, R180). -/
def State.lateMirror (s : State) (d : Due) : State :=
  ((s.addSat 0x10030010 1).flag onetFlags 2).deliverMirror d (absentEntry true (some d.stamp))

/-- A mirrored outcome arrives (R180): before the deadline it takes the due place, or waits for the unit's own release;
after it, ABSENT has taken its place. -/
def State.mirrorOutcome (s : State) (o : SeamOutcome) : State :=
  let src := o.source.toNat
  let d : Due := { source := src, stamp := o.stamp, viaA := o.viaA, words := [], flips := false, b1 := false }
  let en : Entry :=
    { value := o.value, uncertain := o.uncertain, absent := o.absent, remote := o.viaA, stamp := some o.stamp }
  match s.onet.due.find? (fun x => x.source == src && x.stamp == o.stamp && x.viaA == o.viaA) with
  | some x =>
    if bge s.pin (s.dueBlock x) then s.mirrorAbsent x
    else ({ s with onet := { s.onet with due := s.onet.due.erase x } } : State).deliverMirror x en
  | none =>
    if (src, o.stamp) ∈ s.onet.mirrorGone ∧ o.viaA then
      { s with onet := { s.onet with mirrorGone := s.onet.mirrorGone.erase (src, o.stamp) } }
    else if o.viaA then
      if bge s.pin (s.dueBlock d) then s.lateMirror d else s.deliverMirror d en
    else if bge s.pin (s.dueBlock d) then s
    else { s with onet := { s.onet with mirrored := s.onet.mirrored ++ [o] } }

/-- OUTCOME: over seam A at the remote stage, over seam B at the standby's mirror (R177, R180). -/
def execOutcome (b : Bool) (o : SeamOutcome) (s : State) : Res :=
  if b then (if s.shadow then .next ((s.mirrorOutcome o).formReady).serveRuns else .next s)
  else if s.twin && !s.shadow then .next (s.remoteOutcome o).serveRuns
  else .next s

/-- MIRROR_DEADLINE: the next due mirrored entry becomes ABSENT (R180). -/
def execMirrorDeadline (s : State) : Res :=
  match firstBy (fun a b : Due => !blt (s.dueBlock b) (s.dueBlock a)) s.onet.due with
  | none => .next s
  | some d => .next (((s.advanceTo (s.dueBlock d)).mirrorAbsent d).formReady).serveRuns

end Sys2Proof.Machine
end

