-- ==== Sys2Proof/Machine/Mender.lean ====
section
/-! DEFINITION. Mender's events (spec/07 R186-R211): enabling and the table check, inputs, commits, the exchange across a
twinset, observables, frame updates, the scrub. -/

namespace Sys2Proof.Machine

/-- What a write to MEND_CTRL comes to: done, refused, or waiting for the check (R193). -/
inductive MendWrite where
  | done | busy | checking
deriving DecidableEq, Repr

/-- A write to MEND_CTRL (R186, R193, R213). Setting EN starts the check; clearing it while attached waits for the next
shot boundary. -/
def State.writeMendCtrl (s : State) (v : W32) (who : Option Deferred) : MendWrite × State :=
  let on := s.bit aMendCtrl 0
  if s.mend.check.isSome then (.busy, s)
  else if v.getLsbD 0 && !on then (.checking, s.modMend (fun m => { m with check := some (v &&& 0xF, who) }))
  else if on && !v.getLsbD 0 && s.mend.set.isSome then
    (.done, ((s.setReg aMendCtrl ((v &&& 0xE) ||| 1)).modMend (fun m => { m with detachAfter := true })).touch aMendCtrl)
  else (.done, ((s.setReg aMendCtrl (v &&& 0xF)).modMend (fun m => { m with detachAfter := false })).touch aMendCtrl)

/-- MENDER_ENABLE. -/
def execMenderEnable (v : W32) (s : State) : Res := .next (s.writeMendCtrl v none).2

/-- The check ends (R193): EN is set, or the write is refused and the first failing entry recorded. The status of the
write is answered with it. -/
def State.endCheck (s : State) : Byte × State :=
  match s.mend.check with
  | none => (0x00, s)
  | some (v, _) =>
    let s' := s.modMend (fun m => { m with check := none })
    match s.checkTables with
    | none => (0x00, ((s'.setReg aMendCtrl v).modMend (fun m => { m with detachAfter := false })).touch aMendCtrl)
    | some err => (0x11, (s'.setReg aMendErr err).flag mendFlags 4)

/-- MENDER_CHECK_DONE: a command that waits for the check has its reply. -/
def execMenderCheckDone (s : State) : Res :=
  match s.mend.check with
  | none => .next s
  | some (_, who) =>
    let (st, s) := s.endCheck
    .next (match who with
      | some d => s.finalReply d.h d.op st (if st = 0x00 then d.okParams else d.badParams)
      | none => s)

/-! ## Inputs (R188-R190) -/

/-- An outcome reaches a detector (R188, R189). -/
def State.menderTake (s : State) (i : MendIn) (d : Nat) : State :=
  if s.mend.set.isNone || i.stamp.any (fun b => blt b s.mend.shotStart) then s
  else
    let st := tabGet DetSt.reset s.mend.dets d
    match s.roundOf d st.taken with
    | none => s.flag mendFlags 3
    | some n =>
      if s.finalMade || (s.mendRounds != 0 && decide (s.mendRounds ≤ n)) then s.flag mendFlags 3
      else
        let s := if i.absent then (s.addSat 0x10040020 1).flag mendFlags 2 else s
        (s.recordInput n d i.value i.absent i.stamp).closeAll

/-- MENDER_INPUT: the next outcome on its way to Mender arrives. -/
def execMenderInput (s : State) : Res :=
  match s.onet.mendIn with
  | [] => .next s
  | i :: t =>
    let s := { s with onet := { s.onet with mendIn := t } }
    .next (match s.detOf i.source with
      | some d => (s.menderTake i d).serveRuns
      | none => s)

/-- EMPTY_ROUND_CLOSE: a round with no active detector closes at C + 80 (R190). -/
def execEmptyRoundClose (s : State) : Res :=
  let n := s.mend.closed
  if s.mend.set.isNone || s.finalMade || !(s.activeDets (s.layoutOf n)).isEmpty then .next s
  else
    let c := s.mend.lastStamp + 80
    .next (((s.advanceTo c).closeRound c false).closeAll).serveRuns

/-! ## Commits (R195-R210) -/

/-- Whether a close commits a round (R195). -/
def State.commits (s : State) (c : Close) : Bool := c.final || decide (s.mendW ≤ c.round + 1)

/-- Send this half's part of the exchange (R208): a flit holds up to seven edges of one round; MORE is set in all but the last
(R345). -/
def State.sendXchg (s : State) (x : XchgMsg) : State :=
  let rounds := ([x.round] ++ x.edges.map (·.1)).eraseDups
  let flits := rounds.flatMap (fun r =>
    let es := (x.edges.filter (fun t => t.1 == r)).map (·.2)
    (List.range (max 1 ((es.length + 6) / 7))).map (fun i => (r, (es.drop (7 * i)).take 7)))
  foldS flits.zipIdx (fun f s =>
    s.sendSeam false 0x05 ([f.1.1, x.ovf.toNat, x.obs.toNat, (decide (f.2 + 1 < flits.length)).toNat, f.1.2.length] ++
      f.1.2.flatMap (fun p => [p.1, p.2]))) s

/-- MENDER_COMMIT: the oldest close is decoded and committed; in a twinset its exchange comes first. -/
def execMenderCommit (s : State) : Res :=
  match s.mend.closes with
  | [] => .next s
  | c :: rest =>
    if !s.commits c then .next (s.modMend (fun m => { m with closes := rest }))
    else if !s.twin then .next (s.commitWindow c none false).serveRuns
    else if s.mend.alone || !s.linkUp .seamA then .next (s.commitWindow c none true).serveRuns
    else if s.mend.mine.isSome then .next s
    else
      let x := s.xchgMsg c
      let s := (s.sendXchg x).modMend (fun m => { m with mine := some x })
      match s.mend.exch with
      | some y => .next (s.commitWindow c (some y) false).serveRuns
      | none => .next s

/-- MEND_XCHG: the partner's part arrives; the commit that waits for it is made (R208). -/
def execMendXchg (m : XchgMsg) (s : State) : Res :=
  if !s.twin || s.mend.set.isNone || s.mend.alone then .next s
  else match s.mend.mine, s.mend.closes with
    | some _, c :: _ => .next (s.commitWindow c (some m) false).serveRuns
    | _, _ => .next (s.modMend (fun d => { d with exch := some m }))

/-- SEAM_LOST_EXCHANGE: the half commits alone (R210). -/
def execSeamLostExchange (s : State) : Res :=
  match s.mend.mine, s.mend.closes with
  | some _, c :: _ => .next (s.commitWindow c none true).serveRuns
  | _, _ => .next s

/-- OBSERVABLE_PUBLISH: the observables of the next publishing block enter the network (R201, R204). -/
def execObservablePublish (s : State) : Res :=
  match firstBy (fun a b : W32 => !blt b a) (s.mend.pubs.map (·.1)) with
  | none => .next s
  | some b =>
    let s := s.advanceTo b
    let now := s.mend.pubs.filter (fun p => p.1 == b)
    let s := s.modMend (fun m => { m with pubs := m.pubs.filter (fun p => p.1 != b) })
    .next (foldS now (fun p s =>
      let (_, id, bit, absent, stamp) := p
      let en : Entry := if absent then absentEntry false (some stamp)
        else { value := if bit then 1 else 0, uncertain := false, absent := false, remote := false, stamp := some stamp }
      s.releaseOutcome (512 + id) en) s).serveRuns

/-- The next boundary at which a Mender update or Mender's report is due. -/
def State.mendNext (s : State) : Option W32 :=
  firstBy (fun a b : W32 => !blt b a)
    ((s.hem.frameQ.filter (fun u => u.cls == clsMender)).map (·.block) ++ s.mend.finalAt.toList)

/-- MENDER_FRAME_UPDATE: committed updates take effect at C + FRAME_DELAY; at the final commit's, Mender reports to the
rendezvous (R186, R201). -/
def execMenderFrameUpdate (s : State) : Res :=
  match s.mendNext with
  | none => .next s
  | some b =>
    let s := (s.advanceTo b).framesAt b
    .next (if s.mend.finalAt = some b then s.menderReport else s).serveRuns

/-- MENDER_SCRUB: the words with two-bit errors that the scrub finds (R194); paused at throttle level 3. -/
def execMenderScrub (bad : List Nat) (s : State) : Res :=
  if !s.bit aMendCtrl 0 || s.bit 0x10050004 3 || bad.isEmpty then .next s
  else
    let s := s.modMend (fun m => { m with bad := (m.bad ++ bad).dedup, off := (m.off ++ bad).dedup })
    .next ((s.flag mendFlags 7).flag mendFlags 4)

end Sys2Proof.Machine
end

