-- ==== Sys2Proof/Machine/Pocket.lean ====
section
/-! DEFINITION. Pocket capture's commands (spec/09 R240-R249): arming, triggers, completion, streaming. -/

namespace Sys2Proof.Machine

/-- A throttle level of 2 or higher refuses ARM (R249). -/
def State.pocketThrottled (s : State) (k : Nat) : Bool := decide (2 ≤ s.yokeLevel (yokeOfTile (16 + k)))

/-- The state is IDLE, DONE or STOPPED (R251). -/
def State.pocketQuiet (s : State) (k : Nat) : Bool := s.pocketSt k == 0 || s.pocketSt k == 4 || s.pocketSt k == 6

/-- ARM's refusals (R240, R249, R252); stream is the value STREAM has with this write. -/
def State.armRefusal (s : State) (k : Nat) (stream : Bool) : Option Byte :=
  let p := s.pocketSrc k
  let segs := s.fld (pocketAddr k 0x10) 4 0
  if !s.pocketQuiet k || s.pocketThrottled k then some 0x20
  else if (!stream && decide (4194304 < segs * (64 + s.pocketRing k))) || s.fld (pocketAddr k 0xC) 15 0 == 0 ||
      !p.selOk || p.src == 0 || (p.src == 4 && p.reduce) || (!stream && s.fld (pocketAddr k 0x14) 4 0 == 0) then some 0x11
  else none

/-- The pocket enters FILLING in a segment with an arm block (R241). -/
def State.pocketFill (s : State) (k seg : Nat) (arm : W32) : State :=
  let s := s.setPocket k { Pocket.reset with armBlock := arm }
  (s.setFld (pocketAddr k 0x20) 7 4 seg).setPocketSt k 1

/-- ARM (R241): FILLING in segment 0; with STREAM = 1 and no cause enabled, streaming from the arm block (R247). -/
def State.pocketArm (s : State) (k : Nat) : State :=
  let s := s.pocketFill k 0 s.effBlock
  if s.bit (pocketAddr k 0) 5 && s.fld (pocketAddr k 0x14) 4 0 == 0 then
    (s.setPocket k { s.pocket k with trigUnit := (s.pocketSrc k).unitOf s.effBlock }).streamBegin k
  else s

/-- A write to POCKET_CTRL (R252). ARM, FORCE and DISARM act in this order. -/
def State.writePocketCtrl (s : State) (k : Nat) (v : W32) : Byte × State :=
  match if v.getLsbD 0 then s.armRefusal k (v.getLsbD 5) else none with
  | some st => (st, s)
  | none =>
    let s := s.setReg (pocketAddr k 0) (v &&& 0x30)
    let s := if v.getLsbD 0 then s.pocketArm k else s
    let s := if v.getLsbD 2 then s.pocketCause k 4 (s.tickOf s.effBlock) else s
    (0x00, if v.getLsbD 1 then (s.advanceTo (s.pin + 1)).pocketStop k false else s)

/-- ARM. -/
def execArm (k : Fin 16) (v : W32) (s : State) : Res := .next (s.writePocketCtrl k v).2

/-- DISARM. -/
def execDisarm (k : Fin 16) (v : W32) (s : State) : Res := .next (s.writePocketCtrl k v).2

/-- FORCE. -/
def execForce (k : Fin 16) (v : W32) (s : State) : Res := .next (s.writePocketCtrl k v).2

/-- The candidate with the earliest trigger unit (R244). -/
def State.firstCand (s : State) (k : Nat) : Option (Nat × Cand) :=
  firstBy (fun a b : Nat × Cand => decide (a.1 ≤ b.1)) (s.candidates k)

/-- The earliest P of a list of trigger points. -/
def firstTick (l : List W64) : W64 := (firstBy (fun a b : W64 => decide (0 ≤ (b - a).toInt)) l).getD 0

/-- TRIG_CAUSE of the candidates of one trigger unit (R244). -/
def causeBits (l : List Cand) : BitVec 5 := l.foldl (fun m c => m ||| (1#5 <<< c.cause)) 0

/-- The pocket takes its trigger unit (R244): every other cause is counted, its trigger unit being later, and POST, or streaming,
begins. -/
def State.pocketDecide (s : State) (k : Nat) : State :=
  match s.firstCand k with
  | none => s
  | some (i, _) =>
    let mine := ((s.candidates k).filter (fun c => c.1 == i)).map (·.2)
    let later := (s.causesNow k).length - mine.length
    let s := s.setPocket k { s.pocket k with
      cands := [], causes := causeBits mine, trigP := firstTick (mine.map (·.p))
      trigUnit := (s.unitBlock k i).getD 0, levels := (s.levelCauses k).length }
    let s := s.missCause k later
    if s.bit (pocketAddr k 0) 5 then s.streamBegin k else s.setPocketSt k 2

/-- TRIGGER_DECISION: at D = B + 48, B the last block of the earliest candidate's trigger unit (R244). -/
def execTriggerDecision (k : Fin 16) (s : State) : Res :=
  if s.pocketSt k = 1 then
    match s.firstCand k with
    | none => .next s
    | some (i, _) => .next ((s.advanceTo (s.decideAt k i)).pocketDecide k)
  else .next s

/-- CAPTURE_COMPLETE: the last post-trigger unit is written, and the pocket enters REARM (R245, R246); a stream of POST
lines ends (R247). -/
def execCaptureComplete (k : Fin 16) (s : State) : Res :=
  let x := s.pocket k
  let lines := s.fld (pocketAddr k 0xC) 15 0
  match (s.unitIndex k x.trigUnit).bind (fun t => (s.unitsDoneAt k t (s.postUnits k)).map (fun b => (t, b))) with
  | none => .next s
  | some (t, b) =>
    if s.pocketSt k = 2 then
      .next ((((s.advanceTo b).levelMiss k).completeCapture k t (64 * lines) true false).setPocketSt k 3)
    else if s.pocketSt k = 5 ∧ lines ≠ 0xFFFF then .next ((s.advanceTo b).streamUp k)
    else .next s

/-- REARM_END: 8 blocks after completion the pocket fills its next segment, or is done (R246). -/
def execRearmEnd (k : Fin 16) (s : State) : Res :=
  if s.pocketSt k = 3 then
    let s := (s.advanceTo ((s.pocket k).doneAt + 8)).levelMiss k
    let seg := s.fld (pocketAddr k 0x20) 7 4 + 1
    if s.bit (pocketAddr k 0) 4 && decide (seg < s.fld (pocketAddr k 0x10) 4 0) then .next (s.pocketFill k seg s.pin)
    else .next ((s.setPocketSt k 4).flag (pocketFlags k) 1)
  else .next s

/-- A 32-byte read of the stream window (R247): none where it waits for data. -/
def State.windowRead (s : State) (k : Nat) : Option (List Byte × State) :=
  let s := s.streamUp k
  let x := s.pocket k
  if s.pocketSt k = 5 ∧ x.fifo.length < 32 then none
  else
    some (x.fifo.take 32 ++ List.replicate (32 - x.fifo.length) 0, s.setPocket k { x with fifo := x.fifo.drop 32 })

/-- Bytes in groups of four, as little-endian words; fuel bounds the words. -/
def toWords : Nat → List Byte → List W32
  | 0, _ => []
  | n + 1, bs => if bs.isEmpty then [] else leWord (bs.take 4) :: toWords n (bs.drop 4)

/-- POCKET_OVERFLOW: the first unit that would leave fewer than 64 bytes free comes to be written, and streaming stops
(R248). -/
def execPocketOverflow (k : Fin 16) (s : State) : Res :=
  let s := s.streamUp k
  let x := s.pocket k
  let p := s.pocketSrc k
  if s.pocketSt k = 5 then
    match s.unitIndex k x.trigUnit with
    | none => .next s
    | some t =>
      let room := (0x400000 - 64 - x.fifo.length) / p.size
      match s.unitsDoneAt k (t + x.streamed / p.size + room) 1 with
      | none => .next s
      | some b => .next ((s.advanceTo b).streamUp k)
  else .next s

end Sys2Proof.Machine
end

