-- ==== Sys2Proof/Machine/MemOps.lean ====
section
/-! DEFINITION. Access to the memories of the address map (R442, R443, R445): what a memory refuses (R76, R107, R193,
R251, R422, R434), its words (R295), and the frame registers' word pairs (R477). -/

namespace Sys2Proof.Machine

/-! ## Boot status and tests -/

/-- FIELD_BOOT_STATUS. -/
def aFieldBoot : Nat := 0x10000100
/-- HOST_BOOT_STATUS. -/
def aHostBoot : Nat := 0x00010100

/-- MEM_CLEARED (R434, R440). -/
def State.memCleared (s : State) : Bool := s.bit aFieldBoot 2

/-- PLL_LOCKED (R433, R440). -/
def State.pllLocked (s : State) : Bool := s.bit aFieldBoot 1

/-- The TEST and YOKES of a SELF_TEST that a controller runs (R294, R421). -/
def State.runningTest (s : State) (c : Ctl) : Option (Nat × Nat) :=
  match s.long c with
  | some l => if l.op = 0x31 then some (wfld l.arg 15 0, wfld l.arg 19 16) else none
  | none => none

/-- An out-of-service test runs in a controller (R421, R422). -/
def State.outTest (s : State) : Bool :=
  [Ctl.ci, Ctl.fm].any (fun c => match s.runningTest c with | some t => decide (0x10 ≤ t.1) | none => false)

/-- MEM_BIST runs on a yoke (R421). -/
def State.bistOn (s : State) (y : Nat) : Bool :=
  match s.runningTest .fm with
  | some t => t.1 == 0x10 && t.2.testBit y
  | none => false

/-- HOST_MEM runs (R421). -/
def State.hostMemTest (s : State) : Bool :=
  match s.runningTest .ci with
  | some t => t.1 == 0x20
  | none => false

/-! ## What a memory refuses -/

/-- A write that the memory at an address refuses BUSY at this moment. -/
def State.memBusy (s : State) (a : Nat) : Bool :=
  if a < 0x10000000 then s.hostMemTest
  else if a < 0x11000000 then s.anyActive
  else if a < 0x12000000 then false
  else if a < 0x20000000 then s.bit aMendCtrl 0
  else
    let n := (a - 0x20000000) / 0x1000000
    let off := a % 0x1000000
    s.bistOn (yokeOfTile n) ||
      (if off < 0x120000 then s.tileActive n
       else if 0x800000 ≤ off then !s.pocketQuiet (n - 16)
       else false)

/-- The status with which an access to a memory is refused, apart from QUBIT_MAP's contents: field memories before
MEM_CLEARED, writes as the memory says. -/
def State.memRefusal (s : State) (a : Nat) (write : Bool) : Option Byte :=
  if isFieldAddr a && !s.memCleared then some stBusy
  else if write && s.memBusy a then some stBusy
  else none

/-- QUBIT_MAP (R107, R443). -/
def inQmap (a : Nat) : Bool := 0x10008000 ≤ a && a < 0x10008800

/-- The frame registers (R112). -/
def inFrames (a : Nat) : Bool := 0x11000000 ≤ a && a < 0x11020000

/-- No number of a list repeats; the bits of a Nat remember those seen. -/
def noRepeat (seen : Nat) : List Nat → Bool
  | [] => true
  | x :: xs => !seen.testBit x && noRepeat (seen ||| 2 ^ x) xs

/-- No two valid QUBIT_MAP entries have the same DRIVE or the same DEMOD (R107). -/
def State.qmapOk (s : State) : Bool :=
  let vs := ((List.range 512).map (fun q => s.word (qmapAddr q))).filter (fun v => v.getLsbD 31)
  noRepeat 0 (vs.map (fun v => wfld v 8 0)) && noRepeat 0 (vs.map (fun v => wfld v 17 9))

/-! ## Frame words (R112, R477) -/

/-- The frame register and word of an address. -/
def frameOf (a : Nat) : Nat × Nat := ((a - 0x11000000) / 0x20, a % 0x20)

/-- A pair's low word is written: held (R477). -/
def State.frameLoWrite (s : State) (n : Nat) (anchor : Bool) (v : W32) : State :=
  let x := s.faux n
  s.setFaux n (if anchor then { x with ancHold := some v } else { x with freqHold := some v })

/-- A pair's high word is written: the pair is applied as one update (R117, R477). -/
def State.frameHiWrite (s : State) (n : Nat) (anchor : Bool) (v : W32) : State :=
  let x := s.faux n
  let s := s.setFaux n (if anchor then { x with ancHold := none } else { x with freqHold := none })
  match if anchor then x.ancHold else x.freqHold with
  | some lo => s.frameHost n (.pair anchor lo v)
  | none => s.frameHost n (if anchor then .word 0x14 v else .word 0x4 (v &&& 0xFFFF))

/-- A pair's low word is read: the latch takes the high word in force (R477). -/
def State.frameLoRead (s : State) (n : Nat) (anchor : Bool) : W32 × State :=
  let x := s.faux n
  if anchor then (s.reg (frameAddr n 0x10), s.setFaux n { x with ancLatch := s.reg (frameAddr n 0x14) })
  else (s.reg (frameAddr n 0), s.setFaux n { x with freqLatch := s.reg (frameAddr n 4) })

/-- A write of a frame word (R112, R117, R477): FRAME_LAST and the reserved word keep nothing of it. -/
def State.frameWrite (s : State) (n off : Nat) (v : W32) : State :=
  match off with
  | 0x00 => s.frameLoWrite n false v
  | 0x04 => s.frameHiWrite n false v
  | 0x08 => s.frameHost n (.word 8 v)
  | 0x0C => s.frameHost n (.word 0xC (v &&& 0x103))
  | 0x10 => s.frameLoWrite n true v
  | 0x14 => s.frameHiWrite n true v
  | _ => s

/-- A read of a frame word (R112, R477). -/
def State.frameRead (s : State) (n off : Nat) : W32 × State :=
  match off with
  | 0x00 => s.frameLoRead n false
  | 0x04 => ((s.faux n).freqLatch, s)
  | 0x10 => s.frameLoRead n true
  | 0x14 => ((s.faux n).ancLatch, s)
  | 0x1C => (0, s)
  | _ => (s.reg (frameAddr n off), s)

/-! ## Words of memory -/

/-- The pocket whose memory holds an address (R445). -/
def pocketAt (a : Nat) : Option Nat :=
  if 0x30000000 ≤ a ∧ a < 0x40000000 ∧ 0x800000 ≤ a % 0x1000000 ∧ a % 0x1000000 < 0xC00000 then some ((a - 0x30000000) / 0x1000000)
  else none

/-- A word of a memory is read (R295). -/
def State.memRead (s : State) (a : Nat) : W32 × State :=
  if inFrames a then s.frameRead (frameOf a).1 (frameOf a).2
  else
    let s := match pocketAt a with | some k => s.pocketSync k | none => s
    (s.word a, s)

/-- Envelope memory (R109), or weight memory (R153). -/
def inEnv (a : Nat) : Bool :=
  0x20000000 ≤ a && a < 0x50000000 &&
    ((0x400000 ≤ a % 0x1000000 && a % 0x1000000 < 0x600000) ||
     (0x30000000 ≤ a && a < 0x40000000 && 0x200000 ≤ a % 0x1000000 && a % 0x1000000 < 0x240000))

/-- A word of envelope or weight memory is remembered as it was before the pin block, for what is being fetched or integrated
(R110, R154). -/
def State.envLog (s : State) (a : Nat) : State := if inEnv a then s.logPast s.pin64 .mem a (s.word a) else s

/-- A word of a memory is written (R9, R295), which the memory has not refused. -/
def State.memWrite (s : State) (a : Nat) (v : W32) : State :=
  if inFrames a then s.frameWrite (frameOf a).1 (frameOf a).2 v else ((((s.envLog a).setWord a (v &&& memMask a)).heal a).touch a)

/-- Consecutive words are read, in ascending order. -/
def State.memReads (s : State) (a : Nat) : Nat → List W32 × State
  | 0 => ([], s)
  | n + 1 =>
    let (v, s) := s.memRead a
    let (vs, s) := s.memReads (a + 4) n
    (v :: vs, s)

/-- Consecutive words are written, in ascending order. -/
def State.memWrites (s : State) (a : Nat) : List W32 → State
  | [] => s
  | v :: vs => (s.memWrite a v).memWrites (a + 4) vs

/-- A write of words to one memory as one act: refused with a status, or done. -/
def State.memStore (s : State) (a : Nat) (vs : List W32) : Byte × State :=
  match s.memRefusal a true with
  | some st => (st, s)
  | none =>
    let t := s.memWrites a vs
    if inQmap a && !t.qmapOk then (stBadParam, s) else (stOk, t)

/-- A range of bytes lies in one memory (R215, R295). -/
def inOneMem (a n : Nat) : Bool :=
  match regionOf a with
  | some r => r.isMem && decide (a + n ≤ r.base + r.size)
  | none => false

end Sys2Proof.Machine
end

