-- ==== Sys2Proof/Machine/Dma.lean ====
section
/-! DEFINITION. Bulk transfer (spec/08 R214-R231): descriptors, channels, host-link reads and writes. -/

namespace Sys2Proof.Machine

/-! ## Descriptors (R216) -/

/-- A DMA descriptor's eight words, as a channel fetches them (R217). -/
def State.descWords (s : State) (i : Nat) : List W32 := (List.range 8).map (fun w => s.word (descAddr i w))

/-- Word w of a descriptor. -/
def dw (d : List W32) (w : Nat) : W32 := d.getD w 0
/-- SRC_SPACE. -/
def dSrc (d : List W32) : Nat := wfld (dw d 0) 19 18
/-- DST_SPACE. -/
def dDst (d : List W32) : Nat := wfld (dw d 0) 17 16
/-- LEN. -/
def dLen (d : List W32) : Nat := (dw d 5).toNat
/-- BARRIER. -/
def dBarrier (d : List W32) : Bool := (dw d 0).getLsbD 29
/-- The source address. -/
def dSrcAddr (d : List W32) : W64 := dw d 2 ++ dw d 1
/-- The destination address. -/
def dDstAddr (d : List W32) : W64 := dw d 4 ++ dw d 3

/-- The permitted pairs of spaces, and the tests of order 1 of R218 with R214, R216 and R228. -/
def dmaForm (d : List W32) (paced : Bool) (eng : Nat) : Bool :=
  let w0 := dw d 0
  let pair := if paced then dSrc d == 0 && dDst d == 2
    else (dSrc d == 0 && dDst d == 1) || (dSrc d == 1 && dDst d == 0) || (dSrc d == 1 && dDst d == 1)
  wfld w0 24 20 == 0 && wfld w0 15 13 == 0 && wfld (dw d 6) 22 0 == 0 && pair && dLen d != 0 &&
    (dSrc d != 1 || dw d 2 == 0) && (dDst d != 1 || dw d 4 == 0) &&
    (dDst d != 2 || (dw d 4 == 0 && (dw d 3).toNat == eng))

/-- A DEVICE range by R215; a source may be a pocket stream window (R247). -/
def dmaRange (a n : Nat) (src : Bool) : Bool :=
  inOneMem a n || (src && inWindow a && decide (a % 0x1000000 + n ≤ 0x1000000))

/-- The test of R218 that a descriptor fails first. -/
def dmaTest (d : List W32) (paced : Bool) (eng : Nat) : Option Byte :=
  if !dmaForm d paced eng then some stBadParam
  else if (dw d 1).toNat % 32 ≠ 0 ∨ (dDst d ≠ 2 ∧ (dw d 3).toNat % 32 ≠ 0) ∨ dLen d % 32 ≠ 0 then some stMisaligned
  else if (dSrc d = 1 ∧ !dmaRange (dw d 1).toNat (dLen d) true) ∨ (dDst d = 1 ∧ !dmaRange (dw d 3).toNat (dLen d) false)
    then some stRange
  else none

/-! ## Channel registers -/

/-- DMA_STATUS.STATE. -/
def State.dmaSt (s : State) (n : Nat) : Nat := s.fld (dmaAddr n 8) 2 0
/-- Set DMA_STATUS.STATE. -/
def State.setDmaSt (s : State) (n st : Nat) : State := s.setFld (dmaAddr n 8) 2 0 st
/-- DMA_CFG.PACED. -/
def State.dmaPaced (s : State) (n : Nat) : Bool := s.bit (dmaAddr n 4) 0
/-- DMA_CFG.ENGINE. -/
def State.dmaEng (s : State) (n : Nat) : Nat := s.fld (dmaAddr n 4) 16 6
/-- The current descriptor's index. -/
def State.dmaCur (s : State) (n : Nat) : Nat := s.fld (dmaAddr n 0x14) 12 0
/-- DMA_DONE. -/
def State.dmaDone (s : State) (n : Nat) : Nat := (s.reg (dmaAddr n 0x18)).toNat

/-- A completion flag (R222): set, or, where it is set already, OVERRUN. -/
def State.dmaReport (s : State) (n bit : Nat) : State :=
  if s.bit (dmaAddr n 0xC) bit then (s.addSat (dmaAddr n 0x28) 1).flag (dmaFlags n) 9 else s.flag (dmaFlags n) bit

/-- STAGED follows what staging holds (R236). -/
def State.dmaStaged (s : State) (n : Nat) : State :=
  if s.dmaPaced n then s.setFld (dmaAddr n 8) 16 3 ((s.dmaCh n).ready.length / 2) else s

/-- The channel gives up its transactions: the link and tag of each that has no answer stay taken until it comes (R265). -/
def State.dropTrans (s : State) (n : Nat) : State :=
  let rs := s.dma.reads.filter (fun r => r.ch == n && r.data.isNone)
  let lost := rs.map (fun r => (r.link, r.tag)) ++ (s.dmaCh n).writes.map (fun w => (w.link, w.tag))
  ({ s with dma := { s.dma with reads := s.dma.reads.filter (fun r => r.ch != n), stray := s.dma.stray ++ lost } } : State).setDma n
    { s.dmaCh n with writes := [] }

/-- A burst leaves for the field side (R227): one type 3 message. -/
def State.sendBurst (s : State) (n : Nat) (b : Burst) : State :=
  let bar := if dBarrier (s.dmaCh n).desc && !(s.dmaCh n).desc.isEmpty then some n else none
  let s := s.setDma n { s.dmaCh n with burst := none }
  let s := { s with lining := { s.lining with store := s.lining.store ++ [LinMsg.refill b.eng b.data b.mark bar b.cancelled] } }
  s.send (.lining 3 ([BitVec.ofNat 32 b.eng, BitVec.ofNat 32 b.data.length, if b.mark then 1 else 0] ++
    toWords (b.data.length / 4) b.data))

/-- No burst on its way completes bytes of channel n any more. -/
def LinMsg.forget (n : Nat) : LinMsg → LinMsg
  | .refill e d m b c => .refill e d m (if b = some n then none else b) c
  | .beacon b => .beacon b

/-- Channel n begins or ends a run with nothing staged; a burst in the midst of being sent leaves with what it has. -/
def State.dmaEmpty (s : State) (n : Nat) : State :=
  let s := match (s.dmaCh n).burst with
    | some b => s.sendBurst n b
    | none => s
  let s := s.dropTrans n
  let s := { s with lining := { s.lining with store := s.lining.store.map (LinMsg.forget n) } }
  s.setDma n { s.dmaCh n with ready := [], ahead := [], asked := 0, moved := 0 }

/-- A descriptor ends refused or stopped with a status (R215, R218, R219): it is written back, the channel enters
ERROR. -/
def State.dmaFail (s : State) (n : Nat) (st : Byte) : State :=
  let i := s.dmaCur n
  let s := s.setWord (descAddr i 6) (BitVec.ofNat 32 (st.toNat * 2 ^ 24 + 2 ^ 23))
  let s := s.setWord (descAddr i 7) (s.reg (dmaAddr n 0x18))
  let s := s.setReg (dmaAddr n 0x30) (BitVec.ofNat 32 (st.toNat * 2 ^ 24 + i))
  let s := s.dmaEmpty n
  let s := (s.setDma n { s.dmaCh n with desc := [], stopReq := false }).dmaStaged n
  let s := (s.setFld (dmaAddr n 8) 31 24 st.toNat).setDmaSt n 6
  let s := s.setBit (dmaAddr n 0x14) 31 false
  s.flag (dmaFlags n) (if st = stMisaligned then 4 else 5)

/-! ## Host-link transactions (R225, R265) -/

/-- The lowest tag that no outstanding transaction of a link holds (R265). -/
def State.freeTag (s : State) (k : Nat) : Option Nat :=
  let used := (s.dma.reads.filter (fun r => r.link == k)).map (·.tag) ++
    s.dma.chans.flatMap (fun c => (c.2.writes.filter (fun w => w.link == k)).map (·.tag)) ++
    (s.dma.stray.filter (fun x => x.1 == k)).map (·.2)
  (List.range 256).find? (fun t => !(t ∈ used))

/-- The active links of a channel's mask, from the one after that which carried its last transaction on (R225). -/
def State.dmaLinks (s : State) (n : Nat) : List Nat :=
  let r := (s.dmaCh n).stripe
  ((List.finRange 4).map (fun i => (r + 1 + i.val) % 4)).filter (fun k =>
    s.bit (dmaAddr n 4) (2 + k) && (List.finRange 4).any (fun j => j.val == k && s.linkUp (.hl j)))

/-- The host link that carries a channel's next transaction, in its stripe (R225). -/
def State.dmaLink (s : State) (n : Nat) : Option Nat := (s.dmaLinks n).head?

/-- The next link of the stripe that has a tag free, and the tag. -/
def State.dmaTagged (s : State) (n : Nat) : Option (Nat × Nat) :=
  (s.dmaLinks n).findSome? (fun k => (s.freeTag k).map (fun t => (k, t)))

/-- Issue one MEM_READ; none without a link that has a tag free. -/
def State.issueRead (s : State) (n : Nat) (addr : W64) (len : Nat) : Option State :=
  (s.dmaTagged n).map (fun (k, t) =>
    (({ s with dma := { s.dma with reads := s.dma.reads ++ [{ link := k, tag := t, ch := n, addr, len, data := none }] } } :
      State).setDma n { s.dmaCh n with stripe := k }).send (.memRead k t addr len))

/-- Bytes a channel has asked for and not yet moved. -/
def State.dmaAhead (s : State) (n : Nat) : Nat := (s.dmaCh n).asked - (s.dmaCh n).moved

/-- The descriptor, and the offset in it, of byte p of a chain. -/
def chainAt (p : Nat) : List (List W32) → Option (List W32 × Nat)
  | [] => none
  | d :: ds => if p < dLen d then some (d, p) else chainAt (p - dLen d) ds

/-- The descriptors a channel has read: the current one and those ahead of it. -/
def Dma.chain (x : Dma) : List (List W32) := x.desc :: x.ahead.map (·.2)

/-- The descriptor that follows a paced channel's chain is read ahead (R217, R228): a valid one that passes its tests and is not in
the chain already. -/
def State.chainNext (s : State) (n : Nat) : Option (Nat × List W32) :=
  let x := s.dmaCh n
  let last := (x.chain.getLast?).getD []
  let i := wfld (dw last 0) 12 0
  let d := s.descWords i
  if (dw last 0).getLsbD 30 || !(dw d 0).getLsbD 31 || (dmaTest d true (s.dmaEng n)).isSome || i == s.dmaCur n ||
      x.ahead.any (fun a => a.1 == i) then none
  else some (i, d)

/-- A paced channel whose chain has been asked for whole reads the next descriptor ahead. -/
def State.lookAhead (s : State) (n : Nat) : State :=
  let x := s.dmaCh n
  if s.dmaPaced n && !x.desc.isEmpty && !x.stopReq && (chainAt x.asked x.chain).isNone then
    match s.chainNext n with
    | some a => s.setDma n { x with ahead := x.ahead ++ [a] }
    | none => s
  else s

/-- The next read of 1 KiB that a channel wants of its source (R225): at most 16 KiB ahead on a paced channel (R228), one read
otherwise. -/
def State.readWanted (s : State) (n : Nat) : Option (W64 × Nat) :=
  let x := s.dmaCh n
  let st := s.dmaSt n
  if x.desc.isEmpty || dSrc x.desc != 0 || (x.stopReq && x.burst.isNone) || !(st == 1 || st == 2 || st == 4) then none
  else match chainAt x.asked x.chain with
  | none => none
  | some (d, off) =>
    let len := min 1024 (dLen d - off)
    if (if s.dmaPaced n then 16384 else 1024) < s.dmaAhead n + len then none
    else some (dSrcAddr d + BitVec.ofNat 64 off, len)

/-- The order in which the DMA serves its channels (R225): the paced ones, then the others, each round-robin after the channel
served last. -/
def State.dmaOrder (s : State) : List Nat :=
  let l := (List.range 32).map (fun i => (s.dma.turn + 1 + i) % 32)
  l.filter s.dmaPaced ++ l.filter (fun n => !s.dmaPaced n)

/-- The link number of a transaction whose link went DOWN and which waits for another (R266). -/
def noLink : Nat := 4

/-- A write with ACK_REQ is issued again on another link of its channel, or waits for one (R266). -/
def State.rewrite (s : State) (n : Nat) (w : MemWrite) : State :=
  let put := fun (s : State) (w' : MemWrite) =>
    s.setDma n { s.dmaCh n with writes := (s.dmaCh n).writes.map (fun q => if q = w then w' else q) }
  match s.dmaTagged n with
  | none => put s { w with link := noLink }
  | some (k, t) => (put s { w with link := k, tag := t }).send (.memWrite n k t true w.addr w.data)

/-- A read is issued again with a new tag on another link of its channel, or waits for one (R266). -/
def State.reread (s : State) (r : MemRead) : State :=
  let put := fun (s : State) (r' : MemRead) =>
    ({ s with dma := { s.dma with reads := s.dma.reads.map (fun q => if q = r then r' else q) } } : State)
  match s.dmaTagged r.ch with
  | none => put s { r with link := noLink }
  | some (k, t) => (put s { r with link := k, tag := t }).send (.memRead k t r.addr r.len)

/-- Put a write behind those sent before it. -/
def insWrite (x : Nat × MemWrite) : List (Nat × MemWrite) → List (Nat × MemWrite)
  | [] => [x]
  | y :: t => if x.2.nth < y.2.nth then x :: y :: t else y :: insWrite x t

/-- The writes of every channel that satisfy a test, with their channels, in the order in which they were first sent (R266). -/
def State.writesWhere (s : State) (f : Nat → MemWrite → Bool) : List (Nat × MemWrite) :=
  (s.dma.chans.flatMap (fun c => (c.2.writes.filter (f c.1)).map (fun w => (c.1, w)))).foldl (fun l x => insWrite x l) []

/-- What a lost link left waiting is issued again, in its original order, while tags are free. -/
def State.serveLost (s : State) : State :=
  let s := foldS (s.writesWhere (fun _ w => w.link == noLink)) (fun x s => s.rewrite x.1 x.2) s
  foldS (s.dma.reads.filter (fun r => r.link == noLink && r.data.isNone)) (fun r s => s.reread r) s

/-- One read is issued for the first channel in that order that wants one and has a link with a tag free. -/
def State.serveRead (s : State) : Option State :=
  let s := foldS (List.range 32) (fun n s => s.lookAhead n) s.serveLost
  s.dmaOrder.findSome? (fun n =>
    (s.readWanted n).bind (fun (a, len) => (s.issueRead n a len).map (fun t =>
      ({ t with dma := { t.dma with turn := n } } : State).setDma n { t.dmaCh n with asked := (t.dmaCh n).asked + len })))

/-- Every read that may be issued is (R225, R228). fuel bounds them. -/
def State.dmaServe (s : State) : Nat → State
  | 0 => s
  | fuel + 1 =>
    match s.serveRead with
    | some t => t.dmaServe fuel
    | none => foldS (List.range 32) (fun n s => s.lookAhead n) s.serveLost

/-- The most reads that can be issued at once. -/
def readFuel : Nat := 1024

/-! ## Fetching and ending descriptors (R217, R218, R221, R223) -/

/-- The requests of a channel's engine that wait are seen by it (R229, R231). -/
def State.takeRequests (s : State) (n : Nat) : State :=
  let e := s.dmaEng n
  let mine := s.dma.table.filter (fun r => r.eng == e)
  let s := foldS mine (fun r s => s.requestAt n r) s
  { s with dma := { s.dma with
    table := s.dma.table.map (fun r => if r.eng = e then { r with underrun := false } else r) } }

/-- Some request of the channel's engine waits. -/
def State.dmaAsked (s : State) (n : Nat) : Bool := s.dma.table.any (fun r => r.eng == s.dmaEng n)

/-- RUNNING, or on a paced channel without a request or a burst WAIT_REQ (R236). -/
def State.dmaGo (s : State) (n : Nat) : State :=
  if s.dmaPaced n then (s.takeRequests n).setDmaSt n (if s.dmaAsked n || (s.dmaCh n).burst.isSome then 1 else 2) else s.setDmaSt n 1

/-- A source that shares a memory with its destination is taken as it stands before the descriptor begins (R224). -/
def State.dmaSnapshot (s : State) (d : List W32) : List Byte × State :=
  let a := (dw d 1).toNat
  let b := (dw d 3).toNat
  if dSrc d = 1 ∧ dDst d = 1 ∧ a < b + dLen d ∧ b < a + dLen d then
    let (ws, s) := s.memReads a (dLen d / 4)
    (ws.flatMap leBytes, s)
  else ([], s)

/-- The channel begins a descriptor (R218): what was read ahead of it counts as its own. -/
def State.dmaBegin (s : State) (n : Nat) (d : List W32) : State :=
  let (bs, s) := s.dmaSnapshot d
  let s := s.setDma n { s.dmaCh n with desc := d, half := false, marked := false, moved := 0, ready := (s.dmaCh n).ready ++ bs }
  ((s.dmaGo n).dmaServe readFuel).dmaStaged n

/-- The channel fetches descriptor i (R217, R218): the one read ahead, where there is one (R228). -/
def State.dmaFetch (s : State) (n i : Nat) : State :=
  let s := (s.setReg (dmaAddr n 0x14) (BitVec.ofNat 32 (2 ^ 31 + i))).setReg (dmaAddr n 0x18) 0
  match (s.dmaCh n).ahead with
  | a :: rest => (s.setDma n { s.dmaCh n with ahead := rest }).dmaBegin n a.2
  | [] =>
    let d := s.descWords i
    let s := s.setDma n { s.dmaCh n with desc := [], ready := [], asked := 0, moved := 0 }
    if !(dw d 0).getLsbD 31 then (s.setDmaSt n 3).flag (dmaFlags n) 6
    else match dmaTest d (s.dmaPaced n) (s.dmaEng n) with
      | some st => s.dmaFail n st
      | none => s.dmaBegin n d

/-- The chain goes on after the current descriptor, or ends with it (R216, R220). -/
def State.dmaNext (s : State) (n : Nat) : State :=
  let x := s.dmaCh n
  let d := x.desc
  if (dw d 0).getLsbD 30 then
    let s := s.dmaEmpty n
    let s := s.setDma n { s.dmaCh n with desc := [], stopReq := false }
    ((s.setBit (dmaAddr n 0x14) 31 false).setDmaSt n 0).dmaStaged n
  else (s.setDma n { x with asked := x.asked - dLen d }).dmaFetch n (wfld (dw d 0) 12 0)

/-- The current descriptor is complete (R216, R221): written back; the chain goes on, ends, or stops. -/
def State.dmaEnd (s : State) (n : Nat) : State :=
  let x := s.dmaCh n
  let d := x.desc
  let i := s.dmaCur n
  let s := (s.setWord (descAddr i 6) 0x00800000).setWord (descAddr i 7) (dw d 5)
  let s := if (dw d 0).getLsbD 25 then s.setWord (descAddr i 0) (s.word (descAddr i 0) &&& 0x7FFFFFFF) else s
  let s := s.setFld (dmaAddr n 8) 31 24 0
  let s := if (dw d 0).getLsbD 27 && !x.compat then s.dmaReport n 2 else s
  if s.dmaSt n = 5 then s
  else if x.stopReq && !(dw d 0).getLsbD 30 then (s.setDma n { x with stopReq := false }).setDmaSt n 5
  else s.dmaNext n

/-- Bytes of the current descriptor become complete (R221, R223): reported, and in the end-of-count model counted. -/
def State.dmaComplete (s : State) (n k : Nat) : State :=
  let x := s.dmaCh n
  let done := s.dmaDone n + k
  let s := (s.setReg (dmaAddr n 0x18) (BitVec.ofNat 32 done)).addSat (dmaAddr n 0x20) k
  if x.compat then
    let c := s.reg (dmaAddr n 0x1C) - BitVec.ofNat 32 k
    let s := s.setReg (dmaAddr n 0x1C) c
    if c = 0 then (s.dmaReport n 3).setDmaSt n 5 else s
  else if (dw x.desc 0).getLsbD 28 && !x.half && decide (dLen x.desc / 64 * 32 ≤ done) then
    (s.setDma n { x with half := true }).dmaReport n 1
  else s

/-- Bytes the channel may move before its end of count (R221): those moved and not yet complete count too. -/
def State.dmaBudget (s : State) (n units : Nat) : Nat :=
  let x := s.dmaCh n
  let left := dLen x.desc - x.moved
  let c := (s.reg (dmaAddr n 0x1C)).toNat
  min (min (32 * units) left) (if x.compat && c != 0 then c - (x.moved - s.dmaDone n) else left)

/-! ## Moving bytes -/

/-- The next bytes of a channel's source (R214, R224, R247), at most k: those that host memory or a pocket's window has delivered, or
those a DEVICE source holds. -/
def State.dmaTake (s : State) (n k : Nat) : List Byte × State :=
  let x := s.dmaCh n
  let d := x.desc
  let a := (dw d 1).toNat + x.moved
  if dSrc d = 0 ∨ !x.ready.isEmpty ∨ inWindow a then (x.ready.take k, s.setDma n { x with ready := x.ready.drop k })
  else
    let (ws, s) := s.memReads a (k / 4)
    (ws.flatMap leBytes, s)

/-- Bytes as words, four at a time. -/
def wordsOf (bs : List Byte) : List W32 := toWords (bs.length / 4) bs

/-- Bytes are handed to the channel's destination (R214): the status of a refusal, or OK; none where a write that wants an
acknowledgement finds no tag free and waits (R223, R265). -/
def State.dmaPut (s : State) (n : Nat) (bs : List Byte) : Option (Byte × State) :=
  let x := s.dmaCh n
  let d := x.desc
  if dDst d = 1 then some (s.memStore ((dw d 3).toNat + x.moved) (wordsOf bs))
  else
    let a := dDstAddr d + BitVec.ofNat 64 x.moved
    match s.dmaLink n with
    | none => some (stInternal, s)
    | some k =>
      if dBarrier d then
        (s.dmaTagged n).map (fun (k, t) =>
          let w : MemWrite := { nth := s.sent.length, link := k, tag := t, addr := a, data := bs }
          (stOk, (s.setDma n { x with writes := x.writes ++ [w], stripe := k }).send (.memWrite n k t true a bs)))
      else some (stOk, (s.setDma n { x with stripe := k }).send (.memWrite n k 0 false a bs))

/-- A field address on either side needs the Lining (R214, R219). -/
def State.dmaPath (s : State) (n : Nat) : Option Byte :=
  let d := (s.dmaCh n).desc
  let field := (dSrc d = 1 ∧ 0x10000000 ≤ (dw d 1).toNat) ∨ (dDst d = 1 ∧ 0x10000000 ≤ (dw d 3).toNat) ∨ dDst d = 2
  if field ∧ !s.hostUp then some stInternal
  else if (dSrc d = 0 ∨ dDst d = 0) ∧ (s.dmaLink n).isNone then some stInternal
  else if dSrc d = 1 ∧ !inWindow (dw d 1).toNat then s.memRefusal (dw d 1).toNat false
  else none

/-- One 32-byte unit moves. none where the source has none to give, or the destination cannot take it yet. -/
def State.dmaUnit (s : State) (n : Nat) : Option (Byte × State) :=
  let x := s.dmaCh n
  match s.dmaTake n 32 with
  | ([], _) => none
  | (bs, t) =>
    (t.dmaPut n bs).map (fun (st, t) =>
      if st = stOk then
        let t := t.setDma n { t.dmaCh n with moved := x.moved + 32 }
        (stOk, if dBarrier x.desc && dDst x.desc == 0 then t else t.dmaComplete n 32)
      else (st, s))

/-- Units move one after another until the budget, the source or a refusal ends them. -/
def State.dmaMove (s : State) (n : Nat) : Nat → State
  | 0 => s
  | k + 1 =>
    match s.dmaUnit n with
    | none => s
    | some (st, t) => if st = stOk then t.dmaMove n k else t.dmaFail n st

/-- A paced channel begins the burst that its engine's request asks for (R228): what the descriptor still has at most, with the
shot-start mark on the first of a SHOT_START descriptor. With less staged, STAGING_EMPTY is set. -/
def State.burstBegin (s : State) (n : Nat) : State :=
  let x := s.dmaCh n
  match x.burst, s.dma.table.find? (fun r => r.eng == s.dmaEng n) with
  | none, some r =>
    let k := s.dmaBudget n (r.bytes / 32)
    let mark := (dw x.desc 0).getLsbD 26 && !x.marked
    let s := s.setDma n { x with burst := some { eng := r.eng, left := k, data := [], mark, cancelled := false }, marked := true }
    let s := { s with dma := { s.dma with table := s.dma.table.erase r } }
    if x.ready.length < k then s.flag (dmaFlags n) 7 else s
  | _, _ => s

/-- A paced channel sends its burst as far as its data has arrived (R228). Under BARRIER the bytes complete when the engine's window
has them (R223). -/
def State.dmaBurst (s : State) (n : Nat) : State :=
  let s := s.burstBegin n
  let x := s.dmaCh n
  match x.burst with
  | none => s
  | some b =>
    let k := min b.left x.ready.length
    let b' := { b with left := b.left - k, data := b.data ++ x.ready.take k }
    let s := s.setDma n { x with ready := x.ready.drop k, moved := x.moved + k, burst := some b' }
    let s := if dBarrier x.desc then s else s.dmaComplete n k
    (if b'.left = 0 then s.sendBurst n b' else s).dmaStaged n

/-- A descriptor ends stopped within it (R219, R236): DONE_BYTES is written; the status of a stop that no failure caused is OK
(log entry 114). -/
def State.dmaHalt (s : State) (n : Nat) : State :=
  (s.setWord (descAddr (s.dmaCur n) 7) (s.reg (dmaAddr n 0x18))).setFld (dmaAddr n 8) 31 24 0

/-- A paced channel's state between movements: RUNNING with a request pending or a burst begun, else WAIT_REQ (R236). -/
def State.dmaWait (s : State) (n : Nat) : State :=
  if s.dmaPaced n then s.setDmaSt n (if s.dmaAsked n || (s.dmaCh n).burst.isSome then 1 else 2) else s

/-- What follows a movement: the end of the descriptor, the stop that was asked for, a barrier's wait, further reads. -/
def State.dmaSettle (s : State) (n : Nat) : State :=
  let x := s.dmaCh n
  let st := s.dmaSt n
  if st = 6 ∨ x.desc.isEmpty then s
  else if dLen x.desc ≤ s.dmaDone n then s.dmaEnd n
  else if st = 5 then s.dmaHalt n
  else if x.stopReq && x.burst.isNone && decide (x.moved ≤ s.dmaDone n) then
    ((s.dmaHalt n).setDma n { x with stopReq := false }).setDmaSt n 5
  else if dLen x.desc ≤ x.moved then s.setDmaSt n 4
  else ((s.dmaWait n).dmaServe readFuel).dmaStaged n

/-! ## Commands -/

/-- The engine of a paced channel is named by another paced channel that runs or is STOPPED (R229). -/
def State.pacedClash (s : State) (n e : Nat) : Bool :=
  (List.range 32).any (fun m => m != n && s.dmaPaced m && s.dmaEng m == e && decide (1 ≤ s.dmaSt m ∧ s.dmaSt m ≤ 5))

/-- A write to DMA_CTRL (R218, R220, R229, R422). -/
def State.writeDmaCtrl (s : State) (n : Nat) (v : W32) : Byte × State :=
  let st := s.dmaSt n
  let a := dmaAddr n 0
  if v.getLsbD 0 then
    if s.outTest then (stBusy, s)
    else if s.dmaPaced n && s.pacedClash n (s.dmaEng n) then (stBadParam, s)
    else
      let s := s.setReg a 1
      let x := s.dmaCh n
      if st = 0 ∨ st = 6 then
        let s := s.setDma n { Dma.reset with compat := s.bit (dmaAddr n 4) 1, stripe := x.stripe }
        (stOk, s.dmaFetch n (s.fld (dmaAddr n 0x10) 12 0))
      else if st = 5 then
        let s := s.setDma n { x with compat := s.bit (dmaAddr n 4) 1 }
        if x.desc.isEmpty then (stOk, s.dmaFetch n (s.dmaCur n))
        else if dLen x.desc ≤ s.dmaDone n then (stOk, s.dmaNext n)
        else (stOk, ((s.dmaGo n).dmaServe readFuel).dmaStaged n)
      else (stOk, s.setDma n { x with stopReq := false })
  else
    let s := s.setReg a 0
    if st = 1 ∨ st = 4 then (stOk, s.setDma n { s.dmaCh n with stopReq := true })
    else if st = 2 then (stOk, (s.dmaHalt n).setDmaSt n 5)
    else if st = 3 then (stOk, s.setDmaSt n 5)
    else (stOk, s)

/-- DMA_RUN. -/
def execDmaRun (n : Fin 32) (v : W32) (s : State) : Res := .next (s.writeDmaCtrl n v).2

/-- A write to DMA_KICK (R217). -/
def State.writeDmaKick (s : State) (n : Nat) (v : W32) : State :=
  if v.getLsbD 0 ∧ s.dmaSt n = 3 then s.dmaFetch n (s.dmaCur n) else s

/-- DMA_KICK. -/
def execDmaKick (n : Fin 32) (v : W32) (s : State) : Res := .next (s.writeDmaKick n v)

/-- DMA_BYTES_COMPLETE: units of the current descriptor move and become complete (R223), on a paced channel one burst
(R228); at the end the next descriptor is fetched. -/
def execDmaBytesComplete (n : Fin 32) (units : Nat) (s : State) : Res :=
  let st := s.dmaSt n
  if st ≠ 1 ∧ st ≠ 4 then .next s
  else match s.dmaPath n with
  | some e => .next (s.dmaFail n e)
  | none =>
    let s := if st = 4 then s
      else if s.dmaPaced n then s.dmaBurst n
      else s.dmaMove n (s.dmaBudget n units / 32)
    .next (s.dmaSettle n)

/-- Answers that have come in for a channel enter its staging in the order the reads were issued. -/
def State.dmaDeliver (s : State) (n : Nat) : Nat → State
  | 0 => s
  | fuel + 1 =>
    match s.dma.reads.find? (fun r => r.ch == n) with
    | some r =>
      match r.data with
      | some bs =>
        let s := { s with dma := { s.dma with reads := s.dma.reads.erase r } }
        (s.setDma n { s.dmaCh n with ready := (s.dmaCh n).ready ++ bs }).dmaDeliver n fuel
      | none => s
    | none => s

/-- A link's tag that a channel has given up is free again (R265). -/
def State.freeStray (s : State) (k tag : Nat) : State :=
  ({ s with dma := { s.dma with stray := s.dma.stray.erase (k, tag) } } : State).dmaServe readFuel

/-- READ_DATA: the answer to a MEM_READ is delivered; an ERROR ends the descriptor RANGE (R265). -/
def execReadData (k : Fin 4) (tag : Byte) (status : BitVec 3) (data : List Byte) (s : State) : Res :=
  match s.dma.reads.find? (fun r => r.link == k.val && r.tag == tag.toNat && r.data.isNone) with
  | none => .next (s.freeStray k tag.toNat)
  | some r =>
    if status = 0 then
      let s := { s with dma := { s.dma with
        reads := s.dma.reads.map (fun q => if q = r then { r with data := some (data.take r.len) } else q) } }
      .next (((s.dmaDeliver r.ch (s.dma.reads.length + 1)).dmaServe readFuel).dmaStaged r.ch)
    else .next ((s.dmaFail r.ch stRange).freeStray k tag.toNat)

/-- WRITE_ACK: the write's bytes are complete under BARRIER (R223, R265). -/
def execWriteAck (k : Fin 4) (tag : Byte) (status : BitVec 3) (s : State) : Res :=
  match s.dma.chans.find? (fun c => c.2.writes.any (fun w => w.link == k.val && w.tag == tag.toNat)) with
  | none => .next (s.freeStray k tag.toNat)
  | some c =>
    match c.2.writes.find? (fun w => w.link == k.val && w.tag == tag.toNat) with
    | none => .next s
    | some w =>
      if status ≠ 0 then .next ((s.dmaFail c.1 stRange).freeStray k tag.toNat)
      else
        let s := s.setDma c.1 { c.2 with writes := c.2.writes.erase w }
        .next ((s.dmaComplete c.1 w.data.length).dmaSettle c.1)

/-- MEM_READ_TIMEOUT: a read unanswered for 1 ms ends its descriptor INTERNAL (R265). -/
def execMemReadTimeout (k : Fin 4) (tag : Byte) (s : State) : Res :=
  match s.dma.reads.find? (fun r => r.link == k.val && r.tag == tag.toNat && r.data.isNone) with
  | none => .next (s.freeStray k tag.toNat)
  | some r => .next ((s.dmaFail r.ch stInternal).freeStray k tag.toNat)

/-- The DMA's writes with ACK_REQ and its reads on a host link that went DOWN lose it (R266): the writes that its flit layer had
had acknowledged whole, so the older ones, are issued again first. sent are the transactions that it had not. -/
def State.dmaLinkDown (s : State) (k : Nat) (sent : List Out) : State :=
  let s := { s with dma := { s.dma with
    stray := s.dma.stray.filter (fun x => x.1 != k)
    reads := s.dma.reads.map (fun r => if r.link = k ∧ r.data.isNone then { r with link := noLink } else r) } }
  foldS (s.writesWhere (fun n w => w.link == k && !(Out.memWrite n k w.tag true w.addr w.data ∈ sent))) (fun x s => s.rewrite x.1 x.2) s

/-- A channel with host traffic and without a link of its mask stops INTERNAL (R219, R225). -/
def State.dmaLost (s : State) : State :=
  foldS (List.range 32) (fun n s =>
    let d := (s.dmaCh n).desc
    if !d.isEmpty ∧ (dSrc d = 0 ∨ dDst d = 0) ∧ (s.dmaLinks n).isEmpty ∧ (s.dmaSt n = 1 ∨ s.dmaSt n = 2 ∨ s.dmaSt n = 4) then
      s.dmaFail n stInternal
    else s) s

/-- The Lining has gone down: channels in the midst of a field descriptor end INTERNAL (R219). -/
def State.dmaLiningDown (s : State) : State :=
  foldS (List.range 32) (fun n s =>
    if (s.dmaSt n = 1 ∨ s.dmaSt n = 4) ∧ (s.dmaPath n).isSome then s.dmaFail n stInternal else s) s

/-! ## Refills -/

/-- The oldest burst of engine e on its way. -/
def State.nextRefill (s : State) (e : Nat) : Option LinMsg := s.lining.store.find? (LinMsg.isFor e)

/-- STREAM_REFILL: the next burst for the engine reaches it across the Lining (R227, R230); what waits for it under BARRIER is
complete (R223). -/
def execStreamRefill (e : Eng) (s : State) : Res :=
  if !s.hostUp || !s.fieldUp then .next s
  else match s.nextRefill e with
  | some (.refill g data mark bar cancelled) =>
    let s := { s with lining := { s.lining with store := s.lining.store.erase (.refill g data mark bar cancelled) } }
    let s := s.takeRefill e data mark cancelled
    match bar with
    | some n => .next ((s.dmaComplete n data.length).dmaSettle n)
    | none => .next s
  | _ => .next s

end Sys2Proof.Machine
end

