-- ==== Sys2Proof/Machine/LinkOps.lean ====
section
/-! DEFINITION. Shared operations of the serial ports (spec/10): states, training, and what leaving UP does to a port's
traffic (R266, R273, R274). -/

namespace Sys2Proof.Machine

/-- LINK_STATUS.STATE (R279). -/
def State.linkSt (s : State) (p : LPort) : Nat := s.fld (linkAddr p 4) 2 0
/-- Set LINK_STATUS.STATE. -/
def State.setLinkSt (s : State) (p : LPort) (st : Nat) : State := s.setFld (linkAddr p 4) 2 0 st
/-- LINK_CTRL.EN (R279). -/
def State.linkEn (s : State) (p : LPort) : Bool := s.bit (linkAddr p 0) 0
/-- A seam port. -/
def isSeam : LPort → Bool
  | .hl _ => false
  | _ => true
/-- The seam port that a flag names: B where true. -/
def seamPort (b : Bool) : LPort := if b then .seamB else .seamA

/-- A control flit is sent (R260): with the next SEQ to be assigned and the latest SEQ received; its direction is ACTIVE (log entry
135). -/
def State.sendControl (s : State) (p : LPort) (ftype : Nat) (fields : List (Nat × Nat)) : State :=
  let x := s.link p
  let s := s.send (.control p (mkFlit false (controlPayload ftype fields) x.nextSeq (x.expSeq - 1) 3))
  if s.linkUp p then s.wakeTx p else s

/-- The PORT_KIND of a port's own TRAIN flits (R271, R278). -/
def ownKind : LPort → Nat
  | .hl _ => 1
  | .seamA => 2
  | .seamB => 3

/-- The link number of a port's own TRAIN flits (R271); a seam's is 0 (log entry 136). -/
def ownNumber : LPort → Nat
  | .hl k => k.val
  | _ => 0

/-- The buffers that the unit advertises (R262). -/
def ownCredits (p : LPort) : Nat × Nat × Nat := if isSeam p then (512, 1024, 0) else (512, 0, 1024)

/-- A TRAIN flit is sent (R271); in each lane's block it carries the lane's number. -/
def State.sendTrain (s : State) (p : LPort) (pass : Bool) : State :=
  s.send (.train p (ownKind p) (ownNumber p) Config.serial (ownCredits p) pass (s.bit (linkAddr p 0) 8))

/-- The training phase in progress (R270): a near-end loopback trains without leaving LOOPBACK (R277). -/
def State.trainPhase (s : State) (p : LPort) : Nat := if s.linkSt p = 6 then (s.link p).phase else s.linkSt p

/-- A port's LANE_CFG registers. -/
def State.laneCfgs (s : State) (p : LPort) : List W32 := (List.range 9).map (fun n => s.reg (linkAddr p (0x100 + 0x10 * n)))

/-- A phase begins (R270): PHASE_ALIGN samples LANE_CFG (R278), FLIT_ALIGN sends TRAIN flits. -/
def State.enterPhase (s : State) (p : LPort) (n : Nat) : State :=
  let x := s.link p
  let x : Link := if n = 2 then { x with laneCfg := s.laneCfgs p } else x
  let s := if s.linkSt p = 6 then s.setLink p { x with phase := n } else (s.setLink p x).setLinkSt p n
  if n = 4 then s.sendTrain p false else s

/-- Training starts: the first phase, with the flit layer begun anew (R270, R273). -/
def State.trainStart (s : State) (p : LPort) : State :=
  ((s.setLink p Link.reset).setReg (linkAddr p 4) 1).setReg (linkAddr p 0xC) 0

/-- Traffic that was not wholly acknowledged on a host link that went DOWN is sent again on another (R266): posted
writes, records and notices; replies are discarded. Reads are issued again once all of it has been sent. -/
def State.resendOn (s : State) (k : Nat) (o : Out) : State :=
  match o with
  | .memWrite ch _ t true _ _ =>
    match (s.dmaCh ch).writes.find? (fun w => w.link == k && w.tag == t) with
    | some w => s.rewrite ch w
    | none => s
  | .memWrite ch _ _ false a bs =>
    match s.dmaLink ch with
    | some k => s.send (.memWrite ch k 0 false a bs)
    | none => s
  | .records _ _ => s.sendResult o
  | .notice _ _ => s.sendResult o
  | _ => s

/-- A host link has gone DOWN: its transactions move to the other links (R266). -/
def State.hostLinkLost (s : State) (k : Nat) (x : Link) : State :=
  let l := x.begun.map (·.1) ++ x.wait.map (·.out)
  ((foldS l (fun o s => s.resendOn k o) (s.dmaLinkDown k l)).dmaLost).dmaServe readFuel

/-- A port leaves UP, or gives up training, for a state (R274): its replay buffer is emptied; a departure from UP is
counted and flagged. -/
def State.linkLeave (s : State) (p : LPort) (st : Nat) (more : List Nat) : State :=
  let was := s.linkUp p
  let x := s.link p
  let s := (s.setLink p Link.reset).setReg (linkAddr p 4) (BitVec.ofNat 32 st)
  if was then
    let s := (s.addSat (linkAddr p 0x20) 1).flags (linkFlags p) (0 :: more)
    match p with
    | .hl k => s.hostLinkLost k x
    | _ => s
  else s.flags (linkFlags p) more

end Sys2Proof.Machine
end

