-- ==== Sys2Proof/Machine/PairOps.lean ====
section
/-! DEFINITION. Shared operations of the pairing logic (spec/13): pair states (R340, R341), joining (R342-R344), INTERLOCK
(R351), giving up and taking control (R352-R357), what the loss of a seam does (R178, R347, R355, R359). -/

namespace Sys2Proof.Machine

/-- PAIR_CTRL. -/
def aPairCtrl : Nat := 0x10020000
/-- PAIR_CFG. -/
def aPairCfg : Nat := 0x1002000C
/-- HANDOVER_BLOCK. -/
def aHandBlock : Nat := 0x10020010

/-- Change the pairing logic's internal state. -/
def State.modPair (s : State) (f : Pair → Pair) : State := { s with pair := f s.pair }

/-- Set PAIR_STATUS.STATE. -/
def State.setPairSt (s : State) (st : Nat) : State := s.setFld aPairStatus 2 0 st

/-- TWIN_ROLE (R361). -/
def State.twinRole (s : State) : Nat := s.fld aPairStatus 4 3

/-- The outputs leave or enter the standby-muted state (R351). -/
def State.setLive (s : State) (live : Bool) : State := s.modPair (fun p => { p with unmuted := live })

/-- This unit drives INTERLOCK low (R351, R361). -/
def State.drives (s : State) : Bool := s.bit aPairStatus 7

/-- Begin or stop driving INTERLOCK low: a line this unit drives reads low. -/
def State.drive (s : State) (on : Bool) : State :=
  let s := s.setBit aPairStatus 7 on
  if on then { s with pins := { s.pins with interlock := false } }.modPair (fun p => { p with highs := 0, highAt := none })
  else s

/-- The role that a unit shows its partner after control has moved (R342, R353): the active or the standby role of its
place. -/
def roleNow (role : Nat) (act : Bool) : Nat := if role < 2 then role else role / 2 * 2 + (if act then 0 else 1)

/-- The unit enters SUSPECT or PAIR_FAULT with a cause (R341, R361): it is muted. -/
def State.pairFall (s : State) (st cause : Nat) : State :=
  let s := ((s.setPairSt st).setFld aPairStatus 31 28 cause).setLive false
  let s := s.modPair (fun p => { p with role := roleNow p.role false })
  if st = 6 then s.flag pairFlags 2 else s

/-- The unit enters TWIN_LEAD, TWIN_FOLLOW, ACTIVE, STANDBY or SYNCING. -/
def State.pairRise (s : State) (st : Nat) : State :=
  let s := (s.setPairSt st).modPair (fun p => { p with role := roleNow p.role (decide (st = 3)), copied := false })
  if st = 4 then s.modPair (fun p => { p with
    healthLost := false, released := none, hbLost := none, claimAt := none, lowFrom := none })
  else if st = 3 then s.modPair (fun p => { p with claimAt := none, copying := false, dirty := [], todo := [] })
  else s

/-- A valid field sensor reads 112 °C or more (R352, R354). -/
def State.hot112 (s : State) : Bool :=
  (List.range 64).any (fun k => decide (k ∈ s.thermal.scanned) && !s.bit (0x10050100 + 4 * k) 16 &&
    decide (1792 ≤ sfld (s.reg (0x10050100 + 4 * k)) 16))

/-- Health holds (R354). -/
def State.healthy (s : State) : Bool := !s.pair.healthLost && !s.hot112

/-- Health is lost (R354): a standby enters SUSPECT with cause 3. -/
def State.loseHealth (s : State) : State :=
  let s := s.modPair (fun p => { p with healthLost := true })
  if s.pairState = 4 then s.pairFall 6 3 else s

/-! ## Roles (R342) -/

/-- The seam ports of a role. -/
def roleSeams (role : Nat) : List LPort :=
  if role < 2 then [.seamA] else if role < 4 then [.seamB] else [.seamA, .seamB]

/-- A role of a twinset. -/
def roleTwin (role : Nat) : Bool := role < 2 || 4 ≤ role

/-- TWIN_ROLE of a role. -/
def roleSide (role : Nat) : Nat :=
  if role = 0 ∨ role = 4 ∨ role = 5 then 1 else if role = 1 ∨ role = 6 ∨ role = 7 then 2 else 0

/-- A role that joins as active. -/
def roleActive (role : Nat) : Bool := role == 2 || role == 4 || role == 6

/-- The role that complements a role over a seam (R342, R343). -/
def roleMate (p : LPort) (role : Nat) : Option Nat :=
  match p, role with
  | .seamA, 0 => some 1
  | .seamA, 1 => some 0
  | .seamA, 4 => some 6
  | .seamA, 6 => some 4
  | .seamA, 5 => some 7
  | .seamA, 7 => some 5
  | .seamB, 2 => some 3
  | .seamB, 3 => some 2
  | .seamB, 4 => some 5
  | .seamB, 5 => some 4
  | .seamB, 6 => some 7
  | .seamB, 7 => some 6
  | _, _ => none

/-! ## Joining (R343, R344) -/

/-- A HELLO over a seam (R345). -/
def State.sendHello (s : State) (p : LPort) : State :=
  s.sendSeam (p == .seamB) 0x0D [s.pair.role, Config.serial.toNat, s.pins.pairPresent.toNat, s.pairState]

/-- The final reply of a pairing command that waits: the FM's long command with this opcode (R343, R356, R358). -/
def State.pairReply (s : State) (op : Byte) (status : Byte) (ps : List W32 := []) : State :=
  match s.cmd.fm with
  | some l => if l.op = op then s.endLong .fm status ps else s
  | none => s

/-- A join begins (R343): each seam port of the role is enabled and trains; one that is UP sends its HELLO. -/
def State.joinStart (s : State) (role : Nat) : State :=
  let s := s.modPair (fun p => { p with role := role, joining := true, waitSeams := roleSeams role, helloOk := [] })
  let s := s.setFld aPairCtrl 3 1 role
  foldS (roleSeams role) (fun p s =>
    let s := s.setBit (linkAddr p 0) 0 true
    if s.linkUp p then s.sendHello p else s.trainStart p) s

/-- A join fails (R343): the seam ports return to DOWN, PAIR_LOST and JOIN_CAUSE are set. -/
def State.joinFail (s : State) (status : Byte) (cause : Nat) : State :=
  let seams := s.pair.waitSeams
  let s := s.modPair (fun p => { p with joining := false, waitSeams := [], helloOk := [] })
  let s := foldS seams (fun p s => (s.setBit (linkAddr p 0) 0 false).linkLeave p 0 []) s
  ((s.setFld aPairStatus 27 24 cause).flag pairFlags 0).pairReply 0x60 status

/-- CONFIG, with the floors and deadlines that follow from it (R61, R344). -/
def State.setConfig (s : State) (c : BitVec 2) : State := { s with hem := { s.hem with config := c } }

/-- Every step of a join has passed (R343, R344). joint: the partner's HELLO over seam B shows it joining too. -/
def State.joinDone (s : State) (joint : Bool) : State :=
  let role := s.pair.role
  let s := s.modPair (fun p => { p with joining := false, waitSeams := [], helloOk := [], lost := false })
  let s := (s.setFld aPairStatus 27 24 0).setFld aPairStatus 4 3 (roleSide role)
  let s := s.setConfig (BitVec.ofNat 2 ((roleTwin role).toNat + 2 * (decide (2 ≤ role)).toNat))
  let s :=
    if role = 0 then s.pairRise 1
    else if role = 1 then s.pairRise 2
    else if roleActive role then ((s.drive true).setLive true).pairRise 3
    else if joint then s.pairRise 4
    else (s.pairRise 5).sendSeam true 0x25 [0, 0]
  s.pairReply 0x60 0x00 [BitVec.ofNat 32 s.pairState]

/-- A seam port reached UP: a join, and an active unit that trained seam B again, send HELLO (R343, R344). -/
def State.seamUp (s : State) (p : LPort) : State :=
  if (s.pair.joining && p ∈ s.pair.waitSeams) || (s.pairState == 3 && p == .seamB) then s.sendHello p else s

/-! ## Control of the pins (R351-R357) -/

/-- The handover in progress is cancelled (R353, R356). -/
def State.handCancel (s : State) : State :=
  match s.pair.hand with
  | none => s
  | some h =>
    let s := s.modPair (fun p => { p with hand := none })
    if h.giving || s.pairState == 3 then
      let s := s.flag pairFlags 6
      if h.host then s.pairReply 0x62 0x7F else s
    else s

/-- An immediate release (R351, R352): from block b muted, INTERLOCK no longer driven, RELEASE sent. -/
def State.releaseNow (s : State) (b : W32) (cause fall : Nat) : State :=
  let s := (s.sendSeam true 0x08 [cause, b.toNat]).advanceTo b
  (((((s.setLive false).drive false).handCancel).pairFall 6 fall)).flag pairFlags 4

/-- The earliest H of a handover (R353, R357). -/
def State.handEarliest (s : State) : W32 := s.pin + (if s.twin then 72 else 40)

/-- A HANDOVER goes out over some seams, to be acknowledged over others (R353, R357). -/
def State.handVia (s : State) (h : W32) (cause : Nat) (host giving : Bool) (seams acks : List LPort) : State :=
  let seq := s.pair.seq + 1
  let s := s.modPair (fun p => { p with seq := seq, lastCause := cause, hand := some { h, cause, acks, seq, giving, host } })
  foldS seams (fun p s => s.sendSeam (p == .seamB) 0x09 [seq.toNat, h.toNat, cause]) s

/-- The active, in a redundant twinset the active lead, chooses H and sends HANDOVER (R353, R357): its standby and, in a
twinset, both units of the follow's pair acknowledge. -/
def State.handStart (s : State) (h : W32) (cause : Nat) (host : Bool) : State :=
  if s.twin then s.handVia h cause host true [.seamB, .seamA] [.seamB, .seamB, .seamA]
  else s.handVia h cause host true [.seamB] [.seamB]

/-- The claim's conditions (R354): two high samples, a RELEASE or a lost heartbeat within 40 blocks of the first,
STANDBY, health. -/
def State.mayClaim (s : State) : Bool :=
  let near := fun (b : Option W32) => match b, s.pair.highAt with
    | some b, some h => decide ((bdiff b h).natAbs ≤ 40)
    | _, _ => false
  decide (2 ≤ s.pair.highs) && (near s.pair.released || near s.pair.hbLost) && s.pairState == 4 && s.healthy &&
    s.pair.claimAt.isNone

/-- The standby claims control where it may (R354). -/
def State.claimTry (s : State) : State :=
  if s.mayClaim then
    let s := (s.drive true).modPair (fun p => { p with claimAt := some s.pin })
    if s.twin then s.sendSeam false 0x0C [s.pin.toNat] else s
  else s

/-! ## Loss of a seam -/

/-- The partner's members leave every set that spans the twinset (R347). -/
def State.twinLeaves (s : State) : State :=
  { s with sets := s.sets.map (fun g => if g.twin then { g with lost := true } else g) }

/-- Seam A is lost (R178, R210, R347). -/
def State.seamALost (s : State) : State :=
  if s.twin then
    let s := s.twinLeaves.modPair (fun p => { p with lost := true })
    let s := if s.mend.set.isSome then s.modMend (fun m => { m with alone := true }) else s
    let s := if s.pairState == 1 || s.pairState == 2 then s.flags pairFlags [1, 0] else s
    s.serveRuns
  else s

/-- Seam B is lost (R349, R355, R356, R359). -/
def State.seamBLost (s : State) : State :=
  let s := (s.setBit aPairStatus 8 false).handCancel
  let st := s.pairState
  let s : State := { s with sets := s.sets.map (fun (g : StartSet) => { g with pair := false }) }
  let s := s.modPair (fun p => { p with copying := false, hbLost := some (p.hbLost.getD s.pin) })
  if st = 3 then (s.flag pairFlags 0).serveRuns
  else if st = 4 then (s.modPair (fun p => { p with lowFrom := some s.pin })).claimTry
  else if st = 5 then if s.pair.copied then s else (s.pairFall 6 8).pairReply 0x63 0x7F
  else s

/-- A seam port went DOWN, or failed training (R273, R343, R347, R355). -/
def State.seamLost (s : State) (p : LPort) (wasUp : Bool) : State :=
  let s := if s.pair.joining && p ∈ s.pair.waitSeams then s.joinFail 0x7F 1 else s
  if wasUp then (if p == .seamB then s.seamBLost else s.seamALost) else s

/-- A port goes DOWN from UP (R274): a host link trains again at once, a seam port reports to the pairing logic. -/
def State.linkDown (s : State) (p : LPort) (more : List Nat) : State :=
  if s.linkUp p then
    let s := s.linkLeave p 0 more
    if isSeam p then s.seamLost p true else if s.linkEn p then s.trainStart p else s
  else s

/-- A training ends without success (R272): DOWN, TRAIN_FAIL, LINK_TRAIN with the most retries that a phase used; a near-end loopback
stays LOOPBACK (R277). -/
def State.trainFail (s : State) (p : LPort) (cause phase retries lanes : Nat) (more : List Nat) : State :=
  let most := max retries (s.fld (linkAddr p 0xC) 24 23)
  let s := if s.linkSt p = 6 then (s.setLink p { s.link p with phase := 0 }).flags (linkFlags p) (1 :: more)
    else s.linkLeave p 0 (1 :: more)
  let s := s.setReg (linkAddr p 0xC) (BitVec.ofNat 32 (cause * 2 ^ 28 + phase * 2 ^ 25 + most * 2 ^ 23 + lanes))
  if isSeam p && s.linkSt p != 6 then s.seamLost p false else s

end Sys2Proof.Machine
end

