-- ==== Sys2Proof/Machine/Links.lean ====
section
/-! DEFINITION. The serial ports' commands (spec/10 R257-R280): flits and replay, credit, training, loss, sleep, loopback. -/

namespace Sys2Proof.Machine

/-! ## Replay and credit (R260-R262) -/

/-- Flits of the replay buffer that an ACK covers: up to and with its SEQ (R260). -/
def ackedCount (r : List Sent) (ack : BitVec 7) : Nat :=
  match r.findIdx? (fun x => x.seq == ack) with
  | some i => i + 1
  | none => 0

/-- Flits acknowledged are taken from the transactions begun, oldest first. -/
def ackBegun : Nat → List (Out × Nat) → List (Out × Nat)
  | _, [] => []
  | k, (o, n) :: t => if n ≤ k then ackBegun (k - n) t else (o, n - k) :: t

/-- An ACK is taken (R260): what it covers leaves the replay buffer, and what waited goes out. -/
def Link.acked (x : Link) (ack : BitVec 7) : Link :=
  let k := ackedCount x.replay ack
  if k = 0 then x
  else Link.pump { x with replay := x.replay.drop k, begun := ackBegun k x.begun }

/-- A NAK (R261, R274): the flits from its SEQ on are sent again, in order and with the latest ACK; at the eighth NAK of a flit that no
ACK has covered the port goes DOWN. -/
def State.takeNak (s : State) (p : LPort) (seq : BitVec 7) : State :=
  if !s.linkUp p then s
  else
    let s := s.addSat (linkAddr p 0x1C) 1
    let x := s.link p
    let kept := x.replay.takeWhile (fun r => r.seq != seq)
    let again := (x.replay.dropWhile (fun r => r.seq != seq)).map (fun r =>
      ({ r with flit := Flit.withAck r.flit (x.expSeq - 1), again := r.again + 1 } : Sent))
    if again.isEmpty then s
    else if again.any (fun r => decide (8 ≤ r.again)) then s.linkDown p [2]
    else foldS again (fun r s => s.send (.retransmit p r.seq r.flit)) ((s.setLink p { x with replay := kept ++ again }).wakeTx p)

/-- NAK. -/
def execNak (p : LPort) (seq : BitVec 7) (s : State) : Res := .next (s.takeNak p seq)

/-- What a CREDIT flit's count of freed flits adds, modulo 4,096 (R262). -/
def credDelta (new old : Nat) : Nat := (new + 4096 - old) % 4096

/-- A CREDIT control flit (R262). -/
def State.takeCredit (s : State) (p : LPort) (c : Nat × Nat × Nat) : State :=
  if !s.linkUp p then s
  else
    let x := s.link p
    let o := x.credSeen
    s.setLink p (Link.pump { x with
      credSeen := c
      credits := (x.credits.1 + credDelta c.1 o.1, x.credits.2.1 + credDelta c.2.1 o.2.1,
        x.credits.2.2 + credDelta c.2.2 o.2.2) })

/-- CREDIT. -/
def execCredit (p : LPort) (c0 c1 c2 : BitVec 12) (s : State) : Res :=
  .next (s.takeCredit p (c0.toNat, c1.toNat, c2.toNat))

/-- A SLEEP flit (R275): the receive direction goes QUIET; on a seam port it is a protocol error. -/
def State.takeSleep (s : State) (p : LPort) : State :=
  if !s.linkUp p then s
  else if isSeam p then s.flag (linkFlags p) 6
  else s.setFld (linkAddr p 4) 8 7 1

/-- SLEEP. -/
def execSleep (p : LPort) (s : State) : Res := .next (s.takeSleep p)

/-- A NAK that names the expected SEQ is sent (R261). -/
def State.sendNak (s : State) (p : LPort) : State := s.sendControl p 1 [(1, 0), (7, (s.link p).expSeq.toNat)]

/-- A sequenced flit is out of order or bad (R261): discarded, with a NAK the first time. -/
def State.discardFlit (s : State) (p : LPort) : State :=
  if (s.link p).nakWait then s
  else (s.setLink p { s.link p with nakWait := true }).sendNak p

/-- The MTYPEs of R345. -/
def mtypes : List Nat := [1, 2, 3, 4, 5, 6, 7, 8, 9, 10, 11, 12, 13, 14, 0x20, 0x21, 0x22, 0x23, 0x24, 0x25]

/-- A header flit that this port and direction do not have (R263, R345). -/
def badHeader (p : LPort) (f : Flit) : Bool :=
  if isSeam p then
    f.data || !((Flit.ftype f == 8 && fbits f 251 246 < 0x20) || (Flit.ftype f == 9 && 0x20 ≤ fbits f 251 246)) ||
      !(fbits f 251 246 ∈ mtypes)
  else !f.data && !(Flit.ftype f == 10 || Flit.ftype f == 11 || Flit.ftype f == 12)

/-- A control flit that passes its check (R263). -/
def State.takeControl (s : State) (p : LPort) (f : Flit) : State :=
  match Flit.ftype f with
  | 0 => s
  | 1 => s.takeNak p (BitVec.ofNat 7 (fbits f 250 244))
  | 2 => s.takeCredit p (fbits f 251 240, fbits f 239 228, fbits f 227 216)
  | 3 => s.takeSleep p
  | 4 => s
  | _ => s.flag (linkFlags p) 6

/-- The sequenced flits received that no flit sent has acknowledged (R276). -/
def Link.acksOwed (x : Link) : Nat := (x.expSeq - x.ackTold).toNat
/-- A count of flits freed has changed since the last CREDIT flit (R262). -/
def Link.creditOwed (x : Link) : Bool := x.freed != x.credTold

/-- What follows a sequenced flit accepted: an ACTIVE direction acknowledges it with its next flit; a sleeping one wakes when it owes an
acknowledgement for 32 (R276). -/
def State.ackSoon (s : State) (p : LPort) : State :=
  if s.fld (linkAddr p 4) 6 5 = 0 then s.setLink p { s.link p with ackTold := (s.link p).expSeq }
  else if 32 ≤ (s.link p).acksOwed then s.sendControl p 0 []
  else s

/-- FLIT_RECEIVE: a flit's check, its ACK, its order (R257-R263). What an accepted transaction does is the effect of that
transaction's own command. -/
def execFlitReceive (p : LPort) (f : Flit) (s : State) : Res :=
  if !s.linkUp p then .next s
  else if !Flit.good f then
    let s := s.addSat (linkAddr p 0x18) 1
    .next (if Flit.vc f = 3 then s else s.discardFlit p)
  else
    let s := (s.setFld (linkAddr p 4) 8 7 0).setLink p (Link.acked (s.link p) (Flit.ack f))
    if Flit.vc f = 3 then .next (s.takeControl p f)
    else
      let x := s.link p
      if Flit.seq f ≠ x.expSeq then .next (s.discardFlit p)
      else
        let s := (s.setLink p { x with
          expSeq := x.expSeq + 1, nakWait := false, freed := credMod x.freed (Flit.vc f) (fun n => (n + 1) % 4096) }).ackSoon p
        .next (if badHeader p f then s.flag (linkFlags p) 6 else s)

/-- NAK_REPEAT: a receiver that waits repeats its NAK (R261). -/
def execNakRepeat (p : LPort) (s : State) : Res :=
  .next (if s.linkUp p && (s.link p).nakWait then s.sendNak p else s)

/-- A CREDIT flit is sent (R262). -/
def State.sendCredit (s : State) (p : LPort) : State :=
  let c := (s.link p).freed
  let s := s.sendControl p 2 [(12, c.1), (12, c.2.1), (12, c.2.2)]
  s.setLink p { s.link p with credTold := c }

/-- CREDIT_SEND: the counts of flits freed since training (R262). A sleeping direction sends nothing unless it owes a change, for which
it wakes (R276). -/
def execCreditSend (p : LPort) (s : State) : Res :=
  .next (if s.linkUp p && (s.fld (linkAddr p 4) 6 5 == 0 || (s.link p).creditOwed) then s.sendCredit p else s)

/-! ## Training (R270-R273) -/

/-- RETRIES of LINK_TRAIN keeps the largest number a phase used. -/
def State.noteRetries (s : State) (p : LPort) : State :=
  let n := (s.link p).tries
  if s.fld (linkAddr p 0xC) 24 23 < n then s.setFld (linkAddr p 0xC) 24 23 n else s

/-- The PORT_KIND a port accepts (R271). -/
def kindOk (p : LPort) (k : Nat) : Bool :=
  match p with
  | .hl _ => k == 0
  | .seamA => k == 2
  | .seamB => k == 3

/-- A TRAIN flit that the port accepts, in FLIT_ALIGN (R270): the row of those with PASS goes on, and its own TRAIN flits carry PASS. -/
def State.acceptTrain (s : State) (p : LPort) (m : TrainMsg) : State :=
  let n := if m.lanesInOrder && m.pass then (s.link p).accepted + 1 else 0
  (s.setLink p { s.link p with accepted := n }).sendTrain p m.lanesInOrder

/-- The round trip to a seam's partner is measured (R269). -/
def State.noteDelay (s : State) (p : LPort) (trip : Nat) : State :=
  let d := trip / 2
  let s := s.setReg (linkAddr p 0x30) (BitVec.ofNat 32 (min 0xFFFF d))
  if 350 < d then s.flag (linkFlags p) 5 else s

/-- A TRAIN flit of the port's own comes back: the partner loops back as it was asked to (R277). -/
def State.ownTrain (s : State) (p : LPort) (m : TrainMsg) : Bool :=
  s.bit (linkAddr p 0) 8 && m.kind.val == ownKind p && m.serial == Config.serial

/-- TRAIN: identity, lane order and credits are checked, the partner recorded, a seam's partner echoed (R269, R271, R277). A near-end
loopback checks neither identity nor credits. -/
def execTrain (p : LPort) (m : TrainMsg) (s : State) : Res :=
  if s.trainPhase p ≠ 4 then .next s
  else if s.linkSt p = 6 then .next (s.acceptTrain p m)
  else if s.ownTrain p m then .next (s.setLink p { s.link p with farLoop := true })
  else if m.loopReq && s.bit (linkAddr p 0) 7 then .next (s.linkLeave p 6 [])
  else if !kindOk p m.kind.val then .next (s.trainFail p 6 4 (s.link p).tries 0 [4])
  else if !isSeam p && (decide (m.credits.1 < 295) || m.credits.2.1 == 0) then
    .next (s.trainFail p 7 4 (s.link p).tries 0 [])
  else
    let s := (s.setReg (linkAddr p 0x24) (m.serial.setWidth 32)).setReg (linkAddr p 0x28) ((m.serial >>> 32).setWidth 32)
    let s := s.setReg (linkAddr p 0x2C) (BitVec.ofNat 32 (m.link.val * 4 + m.kind.val))
    let s := s.setBit (linkAddr p 4) 9 true
    let s := s.setLink p { s.link p with credits := m.credits }
    let s := if isSeam p then (s.send (.trainEcho p m)).noteDelay p m.roundTrip else s
    .next (s.acceptTrain p m)

/-- The data lanes of a port, and the clock lane (R278). -/
def portLanes (p : LPort) : List Nat := if isSeam p then List.range 9 else [0, 1, 2, 3, 8]

/-- LANE_STATUS as a training leaves it (R280), from a free value: CTLE_USED is CTLE where LANE_CFG fixes it (R254), and a data lane's
EYE is at least 0.3 UI (R270). -/
def laneMeasured (cfg : W32) (dataLane : Bool) (v : W32) : W32 :=
  let v := v &&& 0xFFFFFF
  let v := if cfg.getLsbD 13 then putFld v 15 12 (wfld cfg 12 9) else v
  if dataLane then putFld v 11 6 (20 + wfld v 11 6 % 44) else v

/-- The lanes' trained state is measured (R280). -/
def State.measureLanes (s : State) (p : LPort) : State :=
  foldS (portLanes p) (fun n s =>
    (s.setReg (linkAddr p (0x104 + 0x10 * n))
      (laneMeasured ((s.link p).laneCfg.getD n 0) (decide (n < 8)) (Config.freeWord s.free))).draw) s

/-- The port is UP (R270, R273): what waited for a link goes out, the pairing logic is told. -/
def State.linkRise (s : State) (p : LPort) : State :=
  let s := (s.setLinkSt p 5).flag (linkFlags p) 7
  if isSeam p then s.seamUp p else s.flushHostBuf.lostNotice

/-- TRAINING_PHASE_PASS (R270): the next phase, or UP; a near-end loopback is trained then (R277). -/
def execTrainingPhasePass (p : LPort) (s : State) : Res :=
  let st := s.trainPhase p
  if st = 0 ∨ 4 < st then .next s
  else
    let s := (s.noteRetries p).setLink p { s.link p with tries := 0 }
    if st = 4 then
      .next (if (s.link p).accepted < 16 then s
        else if s.linkSt p = 6 then s.setLink p { s.link p with phase := 5 }
        else s.linkRise p)
    else
      let s := if st = 2 then s.measureLanes p else s
      .next (s.enterPhase p (st + 1))

/-- What a phase that is not passed records (R270): FLIT_ALIGN has three causes of its own, BLOCK_LOCK, LANE_ORDER and NO_TRAIN, beside
those that end a training at once. -/
def phaseCause (st : Nat) (c : Fin 3) : Nat := if st < 4 then st else [4, 5, 8].getD c.val 8

/-- TRAINING_PHASE_TIMEOUT (R272): the phase begins again on both sides, whichever side's time ran out, or on its fourth attempt the
training fails. -/
def execTrainingPhaseTimeout (p : LPort) (cause : Fin 3) (lanes : BitVec 9) (s : State) : Res :=
  let st := s.trainPhase p
  if st = 0 ∨ 4 < st then .next s
  else
    let x := s.link p
    if x.tries < 3 then
      .next (((s.setLink p { x with tries := x.tries + 1, accepted := 0 }).noteRetries p).enterPhase p st)
    else .next (s.trainFail p (phaseCause st cause) st 3 lanes.toNat [])

/-- HOST_LINK_RETRAIN_TIMER: an enabled host link that is DOWN trains again (R273). -/
def execHostLinkRetrainTimer (k : Fin 4) (s : State) : Res :=
  .next (if s.linkSt (.hl k) = 0 ∧ s.linkEn (.hl k) ∧ s.hostAlive then s.trainStart (.hl k) else s)

/-! ## Loss (R274) -/

/-- CLOCK_LANE_LOST: the port goes DOWN; a receiver in QUIET takes the stopped clock as DORMANT (R275). -/
def execClockLaneLost (p : LPort) (s : State) : Res :=
  if s.linkUp p ∧ s.fld (linkAddr p 4) 8 7 ≠ 0 then .next (s.setFld (linkAddr p 4) 8 7 2)
  else .next (s.linkDown p [])

/-- SILENCE: the port goes DOWN; a receiver in QUIET applies no silence rule (R275). -/
def execSilence (p : LPort) (s : State) : Res :=
  if s.fld (linkAddr p 4) 8 7 ≠ 0 then .next s else .next (s.linkDown p [])

/-- LANE_DRIFT. -/
def execLaneDrift (p : LPort) (s : State) : Res := .next (s.linkDown p [3])

/-- PRBS31 runs on the data lanes (R277): in a near-end loopback once trained, or in mode 0 once the partner loops back. -/
def State.prbsOn (s : State) (p : LPort) : Bool :=
  let v := s.reg (linkAddr p 0)
  v.getLsbD 4 && v.getLsbD 5 &&
    ((s.linkSt p == 6 && (wfld v 3 1 == 1 || wfld v 3 1 == 2) && (s.link p).phase == 5) ||
     (wfld v 3 1 == 0 && v.getLsbD 8 && (s.link p).farLoop))

/-- The bit errors since they were last counted are counted (R277, R278): how many there are is free. -/
def State.prbsCount (s : State) (p : LPort) : State :=
  if s.prbsOn p then
    foldS ((portLanes p).filter (· < 8)) (fun n s =>
      (s.addSat (linkAddr p (0x108 + 0x10 * n)) (Config.freeWord s.free).toNat).draw) s
  else s

/-- A port leaves UP, or another state, for LOOPBACK, DOWN or training by a write of LINK_CTRL (R274, R277). -/
def State.linkTurn (s : State) (p : LPort) (st : Nat) : State :=
  if s.linkUp p then
    (let s := s.linkLeave p st []
     if isSeam p then s.seamLost p true else s)
  else s.linkLeave p st []

/-- A write to LINK_CTRL (R273, R274, R277, R279). EN is read-only on seams. A near-end loopback trains against itself. -/
def State.writeLinkCtrl (s : State) (p : LPort) (v : W32) : Byte × State :=
  let a := linkAddr p 0
  let old := s.reg a
  let loop := wfld v 3 1
  if 3 < loop then (stBadParam, s)
  else if isSeam p && s.pairState != 0 && (v.getLsbD 6 || loop != wfld old 3 1 || v.getLsbD 8 != old.getLsbD 8) then
    (stBusy, s)
  else
    let en := if isSeam p then old.getLsbD 0 else v.getLsbD 0
    let s := (s.prbsCount p).setReg a (putFld (v &&& 0x1BE) 0 0 en.toNat)
    let s := if v.getLsbD 8 then s else s.setLink p { s.link p with farLoop := false }
    if loop ≠ 0 ∧ (loop ≠ wfld old 3 1 ∨ s.linkSt p ≠ 6) then
      let s := (s.linkTurn p 6).setLinkSt p 6
      (stOk, if loop < 3 then (s.setReg (linkAddr p 0xC) 0).enterPhase p 1 else s)
    else if loop ≠ 0 then (stOk, s)
    else if s.linkSt p = 6 then
      let s := s.linkLeave p 0 []
      (stOk, if !isSeam p && en then s.trainStart p else s)
    else if v.getLsbD 6 then
      let s := if s.linkUp p then s.linkTurn p 0 else s
      (stOk, if en then s.trainStart p else s)
    else if !en && s.linkSt p != 0 && !isSeam p then
      (stOk, if s.linkUp p then s.linkDown p [] else s.linkLeave p 0 [])
    else (stOk, s)

/-- RETRAIN. -/
def execRetrain (p : LPort) (v : W32) (s : State) : Res := .next (s.writeLinkCtrl p v).2

/-- LOOPBACK. -/
def execLoopback (p : LPort) (v : W32) (s : State) : Res := .next (s.writeLinkCtrl p v).2

/-! ## Sleep (R275, R276) -/

/-- QUIET_ENTRY: an idle transmit direction sends SLEEP four times. -/
def execQuietEntry (k : Fin 4) (s : State) : Res :=
  let p := LPort.hl k
  let x := s.link p
  if s.linkUp p && s.fld (linkAddr p 4) 6 5 == 0 && s.bit (linkAddr p 0x10) 28 && x.replay.isEmpty && x.queue.isEmpty &&
      x.wait.isEmpty && x.acksOwed == 0 && !x.creditOwed then
    .next ((foldS (List.range 4) (fun _ s => s.sendControl p 3 []) s).setFld (linkAddr p 4) 6 5 1)
  else .next s

/-- DORMANT_ENTRY: the clock lane of a QUIET direction stops. -/
def execDormantEntry (k : Fin 4) (s : State) : Res :=
  let p := LPort.hl k
  .next (if s.linkUp p && s.fld (linkAddr p 4) 6 5 == 1 && s.bit (linkAddr p 0x10) 29 then s.setFld (linkAddr p 4) 6 5 2 else s)

/-- LINK_WAKE: a sleeping direction is ACTIVE again (R275, R276). The unit's own wakes for an acknowledgement or a CREDIT change that it
owes, and sends it; what it has to send has woken it already. -/
def execLinkWake (k : Fin 4) (tx : Bool) (s : State) : Res :=
  let p := LPort.hl k
  .next (if !s.linkUp p then s
    else if !tx then s.setFld (linkAddr p 4) 8 7 0
    else if s.fld (linkAddr p 4) 6 5 = 0 then s
    else if (s.link p).creditOwed then s.sendCredit p
    else if (s.link p).acksOwed ≠ 0 then s.sendControl p 0 []
    else s)

end Sys2Proof.Machine
end

