-- ==== Sys2Proof/Machine/Time.lean ====
section
/-! DEFINITION. Network time (spec/12 R315-R339): DEV_IMAGE and its probes, mappings and beacons, the servo and the
transparent clock, TIME_SET and TIME_STEP, alignment of DEVTIME. -/

namespace Sys2Proof.Machine

/-- TIME_CTRL. -/
def aTimeCtrl : Nat := 0x00050000
/-- TIME_STATUS. -/
def aTimeStatus : Nat := 0x00050004
/-- ALIGN_STATUS. -/
def aAlign : Nat := 0x10010104

/-- Change the time unit's state. -/
def State.modTime (s : State) (f : TimeUnit → TimeUnit) : State := { s with time := f s.time }

/-- TIME_STATUS.SERVO (R325, R338). -/
def State.servo (s : State) : Nat := s.fld aTimeStatus 2 0

/-- Set TIME_STATUS.SERVO. -/
def State.setServo (s : State) (v : Nat) : State := s.setFld aTimeStatus 2 0 v

/-- IMAGE_LOCKED (R315). -/
def State.imageLocked (s : State) : Bool := s.bit aTimeStatus 3

/-! ## Mappings (R317-R319) -/

/-- The product of R317 for a count of ticks and a rate, in 2^-16 ns, truncated. -/
def rateTime (d : Int) (rate : Int) : Int := (5 * d * (2 ^ 40 + rate)) / 2 ^ 31

/-- An offset as its 80-bit field holds it. -/
def offset80 (v : Int) : Nat := (v % 2 ^ 80).toNat

/-- The first block at least 1,600 blocks after now, judged on DEV_IMAGE (R318), as a 64-bit block. -/
def State.validBlock (s : State) : Nat := (s.clk.image.toNat + 63) / 64 + 1600

/-- The newest mapping decided: the one that waits for its block, else the one in force. -/
def State.newestMap (s : State) : Mapping := s.time.hostNext.getD s.time.hostMap

/-- A beacon with the newest mapping (R319): sent while the Lining is up; BEACON_SEC keeps its seconds. -/
def State.sendBeacon (s : State) : State :=
  if !s.hostUp then s
  else
    let m := s.newestMap
    let here := s.clk.image.toNat / 64
    let vb : Int := (here : Int) + (m.validFrom - BitVec.ofNat 32 here).toInt
    let sec := ((m.offset : Int) + rateTime (64 * vb) m.rate.toInt) / 65536 / 1000000000
    let q := s.time.bseq + 1
    let flags : Byte := BitVec.ofNat 8 ((s.servo == 2).toNat + 2 * m.stepped.toNat + 4 * (s.servo == 3).toNat
      + 8 * s.imageLocked.toNat)
    let s := s.modTime (fun t => { t with bseq := q })
    let sec48 := (sec % 2 ^ 48).toNat
    let s := (s.setReg 0x00050044 (BitVec.ofNat 32 sec48)).setReg 0x00050048 (BitVec.ofNat 32 (sec48 / 2 ^ 32))
    let b : BeaconMsg := { bseq := q, flags, validFrom := m.validFrom, netOffset := m.offset, netRate := m.rate
                           seconds := sec48, utc := BitVec.ofNat 16 (s.fld 0x0005004C 15 0) }
    State.send { s with lining := { s.lining with store := s.lining.store ++ [.beacon b] } } (.beacon b)

/-- A change of the mapping is decided (R318): its offset is given by the block it holds from; a beacon carries it. -/
def State.decideMap (s : State) (vb : Nat) (offset rate : Int) (stepped : Bool) : State :=
  let m : Mapping := { offset := offset80 offset, rate := BitVec.ofInt 32 rate, validFrom := BitVec.ofNat 32 vb
                       bseq := s.time.bseq, stepped }
  (s.modTime (fun t => { t with hostNext := some m })).sendBeacon

/-- The offset that keeps N continuous at a block when the rate becomes another (R318), in 2^-16 ns. -/
def State.contOffset (s : State) (vb : Nat) (rate : Int) : Int :=
  let m := s.newestMap
  (m.offset : Int) + rateTime (64 * vb) m.rate.toInt - rateTime (64 * vb) rate

/-- A rate within its limit of ±2^29 (R317). -/
def clampRate (r : Int) : Int := max (-(2 ^ 29)) (min (2 ^ 29) r)

/-- The servo sets NET_RATE to a frequency part and a slew part (R326). -/
def State.setRate (s : State) (freq slew : Int) : State :=
  let rate := clampRate (freq + slew)
  let s := (s.modTime (fun t => { t with freq, slew })).setBit aTimeStatus 4 (slew != 0)
  if rate = s.newestMap.rate.toInt then s
  else
    let vb := s.validBlock
    s.decideMap vb (s.contOffset vb rate) rate s.newestMap.stepped

/-! ## DEV_IMAGE (R315, R316) -/

/-- IMAGE_LOCKED is lost (R315). -/
def State.loseImage (s : State) : State :=
  let s := s.modTime (fun t => { t with accepted := 0 })
  if s.imageLocked then (s.setBit aTimeStatus 3 false).flag timeFlags 3 else s

/-- DEV_IMAGE is corrected (R315, R316): a correction above 10 ns moves NET_OFFSET so that host time is continuous. -/
def State.correctImage (s : State) (c : Int) : State :=
  let s : State := { s with clk := { s.clk with image := s.clk.image + BitVec.ofInt 64 c } }
  if c.natAbs ≤ 256 then s
  else
    let fix := fun (m : Mapping) => { m with offset := offset80 ((m.offset : Int) - rateTime c m.rate.toInt) }
    let s := (s.modTime (fun t => { t with hostMap := fix t.hostMap, hostNext := t.hostNext.map fix })).flag timeFlags 4
    match s.time.hostNext with
    | some m => s.decideMap s.validBlock m.offset m.rate.toInt m.stepped
    | none => s.decideMap s.validBlock s.time.hostMap.offset s.time.hostMap.rate.toInt s.time.hostMap.stepped

/-- DEVTIME_LO is read (R60): DEVTIME_HI is latched. -/
def State.devLatch (s : State) : State := { s with clk := { s.clk with devHi := (s.clk.devtime >>> 32).setWidth 32 } }

/-- TIME_PROBE (R315): sent and reply are the instants on DEV_IMAGE; a round trip above 40 ns discards the probe. -/
def execTimeProbe (sent reply : W64) (s : State) : Res :=
  if !s.hostAlive || !s.hostUp || !s.fieldUp || !s.fieldAlive then .next s
  else
    let s := s.devLatch
    let trip := (reply - sent).toNat
    if 1024 < trip then .next (s.modTime (fun t => { t with accepted := 0 }))
    else
      let mid := sent + BitVec.ofNat 64 (trip / 2)
      let s := s.correctImage (s.clk.devtime - mid).toInt
      let s := s.modTime (fun t => { t with accepted := min 8 (t.accepted + 1) })
      .next (if s.time.accepted = 8 then s.setBit aTimeStatus 3 true else s)

/-- IMAGE_LOST (R315). -/
def execImageLost (s : State) : Res := if s.hostAlive then .next s.loseImage else .next s

/-! ## Beacons (R319, R320) -/

/-- BEACON_SEND: every BEACON_PERIOD. -/
def execBeaconSend (s : State) : Res := if s.hostAlive then .next s.sendBeacon else .next s

/-- The field side's mapping in force (R320). -/
def State.fieldMapIs (s : State) (m : Mapping) : State :=
  ((s.modTime (fun t => { t with fieldMap := m, fieldNext := none })).setReg 0x1001010C (m.bseq.setWidth 32)).setReg
    0x10010110 m.validFrom

/-- A beacon reaches the field side (R320). -/
def State.takeBeacon (s : State) (b : BeaconMsg) : State :=
  if (b.bseq - s.time.fieldMap.bseq).toInt ≤ 0 then s
  else
    let m : Mapping := { offset := b.netOffset % 2 ^ 80, rate := b.netRate, validFrom := b.validFrom, bseq := b.bseq
                         stepped := b.flags.getLsbD 1 }
    if bge s.pin b.validFrom then
      ((s.advanceTo (s.pin + 1)).addSat 0x10010114 1).fieldMapIs m
    else s.modTime (fun t => { t with fieldNext := some m })

/-- The oldest beacon on its way. -/
def nextBeacon : List LinMsg → Option BeaconMsg
  | [] => none
  | .beacon b :: _ => some b
  | _ :: t => nextBeacon t

/-- TIME_BEACON (R320): the next beacon on its way reaches the field side (R18, R27). -/
def execTimeBeacon (s : State) : Res :=
  if !s.fieldAlive || !s.fieldUp || !s.hostUp then .next s
  else match nextBeacon s.lining.store with
  | none => .next s
  | some b => .next (State.takeBeacon { s with lining := { s.lining with store := s.lining.store.erase (.beacon b) } } b)

/-- Bring DEV_IMAGE up to a block that lies ahead, with DEVTIME beside it. -/
def State.imageTo (s : State) (b : W32) : State :=
  let d := bdiff b ((s.clk.image >>> 6).setWidth 32)
  if 0 < d then
    let n := BitVec.ofInt 64 (d * 64)
    { s with clk := { s.clk with image := s.clk.image + n, devtime := if s.clk.run then s.clk.devtime + n else s.clk.devtime } }
  else s

/-- The host side takes its new mapping at VALID_FROM; a step is recorded (R318, R328). -/
def State.hostMapIs (s : State) (m : Mapping) : State :=
  let s := (s.imageTo m.validFrom).modTime (fun t => { t with hostMap := m, hostNext := none })
  match s.time.stepNext with
  | none => s
  | some d =>
    let v : W64 := BitVec.ofInt 64 d
    let s := ((s.setReg 0x00050058 (v.setWidth 32)).setReg 0x0005005C ((v >>> 32).setWidth 32)).setReg 0x00050060 m.validFrom
    (s.modTime (fun t => { t with stepNext := none })).flag timeFlags 1

/-- MAPPING_VALID_FROM (R318, R320): the block of the mapping that waits on a side arrives. -/
def execMappingValidFrom (d : Side) (s : State) : Res :=
  match d with
  | .host => match s.time.hostNext with
    | some m => .next (s.hostMapIs m)
    | none => .next s
  | .field => match s.time.fieldNext with
    | some m => .next ((s.advanceTo m.validFrom).fieldMapIs m)
    | none => .next s

/-! ## TIME_SET and TIME_STEP (R328-R330) -/

/-- The slew part is cleared, the frequency part stands, the servo acquires again (R328). -/
def State.servoAgain (s : State) (freq : Int) : State :=
  let s := (s.modTime (fun t => { t with freq, slew := 0, measured := 0 })).setBit aTimeStatus 4 false
  if s.servo = 0 then s else s.setServo 1

/-- OFFSET_MEAS (R326). -/
def State.offsetMeas (s : State) : Int := (s.reg 0x0005003C ++ s.reg 0x00050038 : W64).toInt

/-- A step is decided (R328, R330): added to one that waits, from the later block of the two. -/
def State.timeStep (s : State) (d : Int) : State :=
  let now := s.validBlock
  let vb := match s.time.hostNext, s.time.stepNext with
    | some m, some _ => now + (m.validFrom - BitVec.ofNat 32 now).toInt.toNat
    | _, _ => now
  let rate := clampRate s.time.freq
  let off := s.contOffset vb rate + d * 65536
  let s := (s.servoAgain s.time.freq).modTime (fun t => { t with stepNext := some (t.stepNext.getD 0 + d) })
  s.decideMap vb off rate true

/-- TIME_STEP. -/
def execTimeStep (h : Hdr) (w0 w1 : W32) (s : State) : Res :=
  .next (s.runCmd h 0x71 false (fun s =>
    let v : W64 := w0 ++ w1
    if v = 0x8000000000000000 then
      if s.servo = 0 then s.finish h 0x71 stBusy else (s.finish h 0x71 stOk).timeStep (-s.offsetMeas)
    else (s.finish h 0x71 stOk).timeStep v.toInt))

/-- A new time is decided (R329): recorded as a step from the mapping it replaces. -/
def State.timeSet (s : State) (sec nsec : Nat) (rate : Int) : State :=
  let vb := s.validBlock
  let off := ((sec * 1000000000 + nsec : Nat) : Int) * 65536 - rateTime (64 * vb) rate
  let old := (s.time.hostMap.offset : Int) + rateTime (64 * vb) s.time.hostMap.rate.toInt
  let d := (off + rateTime (64 * vb) rate - old) / 65536
  let s := (s.servoAgain rate).modTime (fun t => { t with stepNext := some d })
  s.decideMap vb off rate true

/-- TIME_SET. -/
def execTimeSet (h : Hdr) (w0 w1 w2 w3 : W32) (s : State) : Res :=
  .next (s.runCmd h 0x70 false (fun s =>
    if w0.toNat ≥ 65536 ∨ 1000000000 ≤ w2.toNat ∨ w3.toInt < -(2 ^ 29) ∨ 2 ^ 29 < w3.toInt then s.finish h 0x70 stBadParam
    else if s.servo = 2 then s.finish h 0x70 stBusy
    else (s.finish h 0x70 stOk).timeSet (w0.toNat * 2 ^ 32 + w1.toNat) w2.toNat w3.toInt))

/-! ## IEEE 1588 (R322-R327) -/

/-- PTP_RX counts an accepted frame. -/
def State.ptpRx (s : State) : State := s.addSat 0x00050064 1
/-- PTP_IGNORED counts a frame forwarded unused or dropped. -/
def State.ptpIgnored (s : State) : State := s.addSat 0x00050068 1

/-- A PTP message is forwarded out of the other port with a correctionField, where that port has its link. -/
def State.ptpForward (s : State) (up : Bool) (kind : Nat) (corr : Int) : State :=
  if s.mgmtLink (!up) then s.send (.ptp (!up) kind corr) else s

/-- A register of a port of the time unit, 0 MGMT_UP (R337). -/
def State.ptpReg (s : State) (up : Bool) (a : Nat) : W32 := s.reg (a + 0x10 * (!up).toNat)
/-- PTP_ING_CORR of a port in 2^-16 ns (R323). -/
def State.ingCorr (s : State) (up : Bool) : Int := (s.ptpReg up 0x00050084).toNat
/-- PTP_EGR_CORR of a port in 2^-16 ns (R323). -/
def State.egrCorr (s : State) (up : Bool) : Int := (s.ptpReg up 0x00050088).toNat
/-- PTP_ASYM of a port in 2^-16 ns (R323). -/
def State.asym (s : State) (up : Bool) : Int := (s.ptpReg up 0x00050080).toInt

/-- The ordinary clock takes what a port receives: the port is OC_PORT and the servo is enabled (R322, R325). -/
def State.ocPort (s : State) (up : Bool) : Bool := (s.bit aTimeCtrl 1 != up) && s.bit aTimeCtrl 0

/-- The ordinary clock's domain (R322). -/
def State.ocDomain (s : State) (d : Byte) : Bool := s.fld aTimeCtrl 31 24 == d.toNat

/-- The residence of a message that enters port up in 2^-16 ns: egress stamp less ingress stamp, each with its port's correction
added (R323), scaled in LOCKED and HOLDOVER (R324). -/
def State.residence (s : State) (up : Bool) (m : PtpMsg) : Int :=
  let r : Int := (m.egress - m.ingress).toInt * 2560 + s.egrCorr (!up) - s.ingCorr up
  if s.servo = 2 ∨ s.servo = 3 then r * (2 ^ 40 + s.time.hostMap.rate.toInt) / 2 ^ 40 else r

/-- The transparent clock keeps a message's residence for its Follow_Up or Delay_Resp: at most 64 for a port (R324). -/
def State.tcKeep (s : State) (up delay : Bool) (m : PtpMsg) : State :=
  let r := s.residence up m
  let s := s.maxReg (if up then 0x0005008C else 0x0005009C) (r / 65536).toNat
  if 64 ≤ (s.time.tc.filter (fun e => e.up == up)).length then s
  else s.modTime (fun t => { t with tc := t.tc ++ [{ up, ident := m.ident, seq := m.seq, delay, residence := r }] })

/-- The transparent clock's entry for a Follow_Up or Delay_Resp (R324). -/
def State.tcFind (s : State) (up delay : Bool) (m : PtpMsg) : Option TcEntry :=
  s.time.tc.find? (fun e => e.up == up && e.delay == delay && e.ident == m.ident && e.seq == m.seq)

/-- A master is chosen (R325). -/
def State.takeMaster (s : State) (m : AnnounceMsg) : State :=
  let s := s.modTime (fun t => { t with master := some m })
  ((s.setReg 0x00050050 (m.gmId.setWidth 32)).setReg 0x00050054 ((m.gmId >>> 32).setWidth 32)).setReg 0x0005004C
    (m.utc.setWidth 32)

/-- ANNOUNCE (R325): the dataset comparison chooses the master; another grandmaster sets GM_CHANGED and starts the servo
again. -/
def execAnnounce (up : Bool) (m : AnnounceMsg) (s : State) : Res :=
  if !s.hostAlive then .next s
  else
    let s := s.ptpForward up 11 0
    if !s.ocPort up then .next s
    else if !s.ocDomain m.domain then .next s.ptpIgnored
    else
      let s := s.ptpRx
      match s.time.master with
      | none => .next (((s.takeMaster m).modTime (fun t => { t with measured := 0 })).setServo 1)
      | some old =>
        if m.gmId = old.gmId then .next (s.takeMaster m)
        else if m.rank < old.rank then
          .next ((((s.takeMaster m).modTime (fun t => { t with measured := 0 })).setServo 1).flag timeFlags 5)
        else .next s

/-- PTP_SYNC (R322, R324, R325): the ordinary clock keeps its ingress stamp, and delayAsymmetry joins its corrections (R323). -/
def execPtpSync (up : Bool) (m : PtpMsg) (s : State) : Res :=
  if !s.hostAlive then .next s
  else
    let s := s.ptpForward up 0 m.correction
    if m.oneStep then .next s.ptpIgnored
    else
      let s := s.tcKeep up false m
      if !s.ocPort up then .next s
      else if !s.ocDomain m.domain then .next s.ptpIgnored
      else
        let s := s.ptpRx.modTime (fun t => { t with
          sample := some { ident := m.ident, seq := m.seq, t2 := netTime t.hostMap m.ingress + s.ingCorr up,
                           corr := m.correction + s.asym up, t1 := none } })
        .next (if s.servo = 3 then (s.modTime (fun t => { t with measured := 0 })).setServo 1 else s)

/-- A Follow_Up gives the Sync that the ordinary clock keeps its origin timestamp and its own corrections (R326). -/
def State.followSample (s : State) (m : PtpMsg) : State :=
  match s.time.sample with
  | some x =>
    if x.ident = m.ident ∧ x.seq = m.seq then
      s.modTime (fun t => { t with sample := some { x with t1 := some m.origin, corr := x.corr + m.correction } })
    else s
  | none => s

/-- FOLLOW_UP (R324): forwarded with its Sync's residence added, or uncorrected and counted; the ordinary clock takes its part. -/
def execFollowUp (up : Bool) (m : PtpMsg) (s : State) : Res :=
  if !s.hostAlive then .next s
  else
    let s := match s.tcFind up false m with
      | some e => (s.modTime (fun t => { t with tc := t.tc.erase e })).ptpForward up 8 (m.correction + e.residence)
      | none => (s.ptpForward up 8 m.correction).ptpIgnored
    .next (if s.ocPort up && s.ocDomain m.domain then s.ptpRx.followSample m else s)

/-- DELAY_REQ (R324). -/
def execDelayReq (up : Bool) (m : PtpMsg) (s : State) : Res :=
  if !s.hostAlive then .next s else .next ((s.ptpForward up 1 m.correction).tcKeep up true m)

/-- The slew part that removes an offset (R326): its sign is against the offset and its magnitude within 100 ppm; which
magnitude is free (log entry 10). -/
def State.slewFor (s : State) (theta : Int) : Int × State :=
  if theta = 0 then (0, s)
  else
    let m : Int := (((Config.freeWord s.free).toNat % 109951163 : Nat) : Int)
    (if 0 < theta then -m else m, s.draw)

/-- The mean path delay and the offset, unit time less master time, in 2^-16 ns, that a Delay_Resp completes (R326): the standard's
end-to-end arithmetic over the kept Sync and its Follow_Up, the own Delay_Req's egress stamp and the Delay_Resp's receive timestamp
and correctionField, which carries the asymmetry that the Delay_Req left with. -/
def State.measure (s : State) (up : Bool) (m : PtpMsg) : Option (Int × Int) :=
  match s.time.sample with
  | some x => match x.t1 with
    | some t1 =>
      let t3 := netTime s.time.hostMap m.egress + s.egrCorr up
      let path := (x.t2 - t3 + (m.origin - t1) - x.corr - m.correction) / 2
      some (path, x.t2 - t1 - path - x.corr)
    | none => none
  | none => none

/-- The servo takes a mean path delay and an offset in 2^-16 ns and a frequency estimate (R326, R327). -/
def State.servoTake (s : State) (path theta freq : Int) : State :=
  let v : W64 := BitVec.ofInt 64 (theta / 65536)
  let s := (s.setReg 0x00050038 (v.setWidth 32)).setReg 0x0005003C ((v >>> 32).setWidth 32)
  let s := s.setReg 0x00050040 (BitVec.ofInt 32 (path / 4096))
  let s := s.modTime (fun t => { t with measured := min 8 (t.measured + 1), freq })
  let s := if s.servo = 1 ∧ s.time.measured = 8 then s.setServo 2 else s
  if s.servo = 2 then
    if theta.natAbs ≤ 65536000 then
      let (w, s) := s.slewFor theta
      s.setRate freq w
    else (s.setRate freq 0).flag timeFlags 0
  else if 65536000 < theta.natAbs then s.flag timeFlags 0
  else s

/-- A Delay_Resp that the ordinary clock takes: its own, on OC_PORT, in its domain, from a chosen master, in a servo state that
measures. -/
def State.ocResp (s : State) (up : Bool) (m : PtpMsg) : Bool :=
  m.ident == Config.ptpIdentity && s.ocPort up && s.ocDomain m.domain && s.time.master.isSome && (s.servo == 1 || s.servo == 2)

/-- DELAY_RESP (R324, R326): forwarded with its Delay_Req's residence; the ordinary clock's own completes an offset
measurement. freq is the servo's frequency estimate. -/
def execDelayResp (up : Bool) (m : PtpMsg) (freq : Int) (s : State) : Res :=
  if !s.hostAlive then .next s
  else match s.tcFind (!up) true m with
    | some e => .next ((s.modTime (fun t => { t with tc := t.tc.erase e })).ptpForward up 9 (m.correction + e.residence))
    | none =>
      let s := s.ptpForward up 9 m.correction
      .next (if s.ocResp up m then
        match s.measure up m with
        | some (path, theta) => s.ptpRx.servoTake path theta freq
        | none => s.ptpIgnored
      else s.ptpIgnored)

/-- HOLDOVER (R325). -/
def execHoldover (s : State) : Res :=
  if s.hostAlive && (s.servo == 1 || s.servo == 2) then
    .next (((s.setServo 3).setRate s.time.freq 0).flag timeFlags 2)
  else .next s

/-- TC_UNMATCHED_TIMEOUT (R324): the message is dropped from the table. -/
def execTcUnmatchedTimeout (up : Bool) (ident : Nat) (seq : BitVec 16) (s : State) : Res :=
  .next (s.modTime (fun t => { t with tc := t.tc.filter (fun e => !(e.up == up && e.ident == ident && e.seq == seq)) }))

/-! ## Reads that latch (R60, R337) -/

/-- DEVTIME_LO_READ. -/
def execDevtimeLoRead (s : State) : Res := .next s.devLatch

/-- NET_NOW_LO is read (R337): the rest of N and DEV_IMAGE are latched. -/
def State.netNow (s : State) : W32 × State :=
  let n := netTime s.time.hostMap s.clk.image
  let ns := n / 65536
  (BitVec.ofInt 32 ns, s.modTime (fun t => { t with latch :=
    [BitVec.ofInt 32 (ns / 2 ^ 32), BitVec.ofInt 32 (n % 65536), s.clk.image.setWidth 32, (s.clk.image >>> 32).setWidth 32] }))

/-- NET_NOW_LO_READ. -/
def execNetNowLoRead (s : State) : Res := .next s.netNow.2

/-! ## Alignment of DEVTIME (R332-R336) -/

/-- The seam port of a seam role. -/
def alignPort (role : Nat) : LPort := if role = 2 then .seamA else .seamB

/-- A valid reference is present (R433, R440). -/
def State.refPresent (s : State) : Bool := s.bit aFieldBoot 0

/-- Any engine holds accepted work (R37). -/
def State.anyWork (s : State) : Bool := s.engines.any (fun p => s.holdsWork p.1)

/-- The status TIME_ALIGN is refused with (R332, R37, R433). -/
def State.alignRefusal (s : State) (w0 : W32) : Option Byte :=
  let role := wfld w0 1 0
  if 4 ≤ w0.toNat then some stBadParam
  else if !s.refPresent || s.anyWork then some stBusy
  else if role ≠ 0 ∧ s.bit aAlign 0 then some stBusy
  else if 2 ≤ role ∧ !s.linkUp (alignPort role) then some stBusy
  else none

/-- TIME_ALIGN (R332). -/
def State.timeAlign (s : State) (h : Hdr) (w0 : W32) : State :=
  s.runCmd h 0x72 true (fun s =>
    match s.alignRefusal w0 with
    | some st => s.finish h 0x72 st
    | none =>
      let role := wfld w0 1 0
      s.startLong .fm h 0x72 w0 [] (fun s =>
        let s := s.modTime (fun t => { t with align := some (role, s.pin) })
        ((s.setFld aAlign 2 1 role).setBit aAlign 3 true).setFld aAlign 7 4 0))

/-- TIME_ALIGN_SOURCE. -/
def execTimeAlignSource (h : Hdr) (w0 : W32) (s : State) : Res := .next (s.timeAlign h w0)
/-- TIME_ALIGN_FOLLOW_SYNC. -/
def execTimeAlignFollowSync (h : Hdr) (w0 : W32) (s : State) : Res := .next (s.timeAlign h w0)
/-- TIME_ALIGN_FOLLOW_SEAM. -/
def execTimeAlignFollowSeam (h : Hdr) (w0 : W32) (s : State) : Res := .next (s.timeAlign h w0)

/-- The alignment that PAIR_RESYNC asks for ends (R358): the copy begins, or the unit enters SUSPECT with cause 8. -/
def State.resyncAligned (s : State) (ok : Bool) : State :=
  match s.cmd.fm with
  | some l =>
    if l.op ≠ 0x63 then s
    else if ok then s.sendSeam true 0x25 [0, 0]
    else (s.pairFall 6 8).endLong .fm stInternal
  | none => s

/-- An alignment ends with a status and a CAUSE (R336). -/
def State.alignEnd (s : State) (status : Byte) (cause : Nat) : State :=
  let s := s.modTime (fun t => { t with align := none })
  (((s.setBit aAlign 3 false).setFld aAlign 7 4 cause).pairReply 0x72 status).resyncAligned (status == stOk)

/-- The first block M ≡ 0 mod 1,024 that lies at or after a block (R333). -/
def nextWord (b : Nat) : Nat := (b + 1023) / 1024 * 1024

/-- The check bits of an alignment word: the generator and rules of R259 over bits 1-58 (R333). -/
def wordCheck (bs : List Bool) : BitVec 16 := bs.foldl crc16Bit 0xFFFF

/-- Bits of a number, most significant first. -/
def msbBits (w n : Nat) : List Bool := (List.range w).map (fun i => n.testBit (w - 1 - i))

/-- The alignment word of block M (R333). -/
def alignWord (m : Nat) : List Bool :=
  let bs := msbBits 58 m
  true :: bs ++ msbBits 16 (wordCheck bs).toNat ++ List.replicate 5 false

/-- The block of the source's first word (R333). -/
def State.firstWord (s : State) (accept : W32) : Nat := nextWord ((s.block64 accept).toNat + 4000)

/-- ALIGNMENT_WORD_SEND (R333): the next word leaves on SYNC_OUT. -/
def execAlignmentWordSend (s : State) : Res :=
  match s.time.align with
  | some (0, accept) =>
    let m := max (s.firstWord accept) (nextWord ((s.clk.devtime >>> 6).toNat + 1))
    if m < s.firstWord accept + 80000000 then
      .next ((s.advanceTo (BitVec.ofNat 32 m)).send (.syncOut (alignWord m)))
    else .next s
  | _ => .next s

/-- ALIGNMENT_SOURCE_END (R333): 200 ms after the first word the command ends OK. -/
def execAlignmentSourceEnd (s : State) : Res :=
  match s.time.align with
  | some (0, accept) =>
    .next ((s.advanceTo (BitVec.ofNat 32 (s.firstWord accept + 80000000))).alignEnd stOk 0)
  | _ => .next s

/-- A table with every value changed. -/
def tabMap {α : Type} (f : α → α) (t : Tab α) : Tab α := t.map (fun p => (p.1, f p.2))

/-- A removal whose block the Hem chose moves with the count; an ABORT's E is the host's (R299). -/
def Removal.shift (d : W32) : Removal → Removal
  | .engine e cut b => .engine e cut (b + d)
  | .port p b => .port p (b + d)
  | .abort sets engs b => .abort sets engs b

/-- The Hem's moments, which lie a fixed time from now, on a count that is d blocks further on. -/
def Hem.shift (h : Hem) (d : W64) : Hem :=
  let b (x : W32) : W32 := x + d.setWidth 32
  { h with
    fastPend := h.fastPend.map (fun p => (p.1, p.2.map (· + d)))
    removals := h.removals.map (Removal.shift (d.setWidth 32))
    reenables := h.reenables.map (fun p => (p.1, b p.2))
    enables := h.enables.map (fun p => (p.1, b p.2))
    clamps := h.clamps.map (fun c => { c with start := b c.start, release := b c.release })
    adcOff := h.adcOff.map (fun p => (p.1, b p.2))
    requests := h.requests.map (fun r => { r with arrival := b r.arrival })
    grants := h.grants.map (fun g => { g with g := b g.g })
    ready := tabMap b h.ready
    dozeFrom := tabMap b h.dozeFrom
    shadowLog := h.shadowLog.map (fun w => { w with block := b w.block })
    frameQ := h.frameQ.map (fun u => if u.cls = clsHost then { u with block := b u.block } else u)
    tileWait := tabMap b h.tileWait
    inWait := tabMap b h.inWait
    calRun := tabMap b h.calRun
    rotAt := tabMap (· + d) h.rotAt
    refs := h.refs.map b }

/-- What the output ports remember, on a count that is d blocks further on. -/
def Synth.shift (y : Synth) (d : W64) : Synth :=
  { past := y.past.map (fun p => { p with block := p.block + d })
    states := tabMap (fun l => l.map (fun x => (x.1 + d, x.2))) y.states
    aborts := tabMap (fun l => l.map (· + d)) y.aborts
    counted := tabMap (· + d) y.counted }

/-- A pocket's moments on a count that is d blocks further on. -/
def Pocket.shift (x : Pocket) (d : W64) : Pocket :=
  let b (y : W32) : W32 := y + d.setWidth 32
  { x with
    armBlock := b x.armBlock, doneAt := b x.doneAt, trigP := x.trigP + (d <<< 6)
    cands := x.cands.map (fun c => { c with p := c.p + (d <<< 6) }) }

/-- The pairing logic's moments on a count that is d blocks further on. -/
def Pair.shift (x : Pair) (d : W64) : Pair :=
  let b (y : W32) : W32 := y + d.setWidth 32
  { x with
    highAt := x.highAt.map b, lowFrom := x.lowFrom.map b, released := x.released.map b
    hbLost := x.hbLost.map b, claimAt := x.claimAt.map b, digested := x.digested + d }

/-- A seam's traffic on a count that is d blocks further on. -/
def SeamQ.shift (q : SeamQ) (d : W32) : SeamQ :=
  { q with blk := q.blk + d, outs := q.outs.map (fun o => (o.1 + d, o.2)) }

/-- Ended work, on a count that is d blocks further on. -/
def Work.shift (w : Work) (d : W64) : Work :=
  { w with
    b64 := w.b64 + d, d := { w.d with start := w.d.start + d.setWidth 32 }
    cut := w.cut.map (fun c => c.plus (d.setWidth 32)) }

/-- The count moves on by d blocks while time does not (R334): what has happened, and what lies a fixed time ahead, moves with it;
blocks that the host or a program named stay as named (log entry 133). -/
def State.shiftBlocks (s : State) (d : W64) : State :=
  let e : W32 := d.setWidth 32
  { s with
    hem := s.hem.shift d
    synth := s.synth.shift d
    engines := s.engines.map (fun p => (p.1, { p.2 with work := p.2.work.map (fun w => w.shift d) }))
    onet := { s.onet with qa := s.onet.qa.shift e, qb := s.onet.qb.shift e, rate := (s.onet.rate.1 + e, s.onet.rate.2) }
    pockets := tabMap (fun x => x.shift d) s.pockets
    lining := { s.lining with classC := { s.lining.classC with since := s.lining.classC.since.map (· + e) } }
    thermal := { s.thermal with bandAt := tabMap (fun x => if x.2 then x else (x.1 + e, x.2)) s.thermal.bandAt }
    pair := s.pair.shift d }

/-- DEVTIME is loaded (R334-R336): the Hem's next block boundary is the first one of the new count. Never while an engine holds
accepted work (R37; log entry 134). -/
def State.loadDevtime (s : State) (d : Int) : State :=
  if s.anyWork then s else
  let v : W64 := s.clk.devtime + BitVec.ofInt 64 d
  let v : W64 := (v + 63) &&& ~~~63#64
  let s := s.shiftBlocks ((v >>> 6) - s.pin64)
  (State.setBit { s with clk := { s.clk with devtime := v } } aAlign 0 true).alignEnd stOk 0

/-- Bit i of an alignment word, 0 the start bit: bits 79 downward of the operand. -/
def wordBits (bits : BitVec 80) (lo n : Nat) : List Bool := (List.range n).map (fun i => bits.getLsbD (79 - (lo + i)))

/-- A number from its bits, most significant first. -/
def ofBits (bs : List Bool) : Nat := bs.foldl (fun n b => 2 * n + b.toNat) 0

/-- ALIGNMENT_WORD_RECEIVE (R334): the first word whose check passes loads DEVTIME at the boundary after it ends. edge is
the module's own DEVTIME at the sampled edge of the start bit. -/
def execAlignmentWordReceive (bits : BitVec 80) (edge : W64) (s : State) : Res :=
  match s.time.align with
  | some (1, _) =>
    let bs := wordBits bits 1 58
    if bits.getLsbD 79 && wordCheck bs == BitVec.ofNat 16 (ofBits (wordBits bits 59 16)) then
      let s := s.advanceTo (blockOf (edge + 80 * 64 + 63))
      .next (s.loadDevtime ((ofBits bs : Int) * 64 + (s.fld 0x10010100 15 0 : Int) - (edge.toNat : Int)))
    else .next s
  | _ => .next s

/-- The offset of the probe with the least round trip (R335). -/
def bestProbe : List (Nat × Int) → Option Int
  | [] => none
  | p :: ps => some (ps.foldl (fun m q => if q.1 < m.1 then q else m) p).2

/-- SEAM_TIME_PROBE (R335): in a seam follow role DEVTIME is loaded by the offset, partner less own; else ALIGN_SKEW
records it. -/
def execSeamTimeProbe (probes : List (Nat × Int)) (s : State) : Res :=
  match bestProbe probes, s.time.align with
  | none, _ => .next s
  | some d, some (role, _) =>
    if 2 ≤ role && s.linkUp (alignPort role) then .next ((s.advanceTo (s.pin + 1)).loadDevtime d) else .next s
  | some d, none => .next (s.setReg 0x10010108 (BitVec.ofInt 32 d))

/-- ALIGN_TIMEOUT (R336): no valid word or probe within 100 ms. -/
def execAlignTimeout (checkFailed : Bool) (s : State) : Res :=
  match s.time.align with
  | none => .next s
  | some (role, accept) =>
    if role = 0 then .next s
    else
      let cause := if 2 ≤ role ∧ !s.linkUp (alignPort role) then 3 else if checkFailed then 2 else 1
      .next ((s.advanceTo (accept + 40000000)).alignEnd stInternal cause)

end Sys2Proof.Machine
end

