-- ==== Sys2Proof/Machine/Lining.lean ====
section
/-! DEFINITION. The Lining (spec/01 R18-R28): its frames and lanes, its loss and return, the records and notices that
cross it. A message crosses it as one act (log entry 11). -/

namespace Sys2Proof.Machine

/-- LINING_STATUS as a side sees it (R24). -/
def aLin (d : Side) : Nat := if d = .host then aLining else aFmLining

/-- The other side. -/
def Side.other : Side → Side
  | .host => .field
  | .field => .host

/-- The direction towards a side. -/
def State.linDir (s : State) (d : Side) : LiningDir := if d = .host then s.lining.host else s.lining.field

/-- Set the direction towards a side. -/
def State.setLinDir (s : State) (d : Side) (x : LiningDir) : State :=
  { s with lining := if d = .host then { s.lining with host := x } else { s.lining with field := x } }

/-- A side's own running count of ticks: DEV_IMAGE on the host side, DEVTIME on the field side. -/
def State.sideTime (s : State) (d : Side) : W64 := if d = .host then s.clk.image else s.clk.devtime

/-- A side is out of reset and powered. -/
def State.sideAlive (s : State) (d : Side) : Bool := if d = .host then s.hostAlive else s.fieldAlive

/-- 1 ms in ticks. -/
def msTicks : Nat := 25600000

/-- Source 1322 is raised on the host side with a cause (R307). -/
def State.liningRaise (s : State) (cause : Nat) : State := s.raise 1322 0 cause 0 0

/-- LINING_HEARTBEAT (R26): a direction idle for 1 µs carries a heartbeat frame. -/
def execLiningHeartbeat (d : Side) (s : State) : Res :=
  if s.sideAlive d && s.bit (aLin d) 0 then .next (s.send (.liningBeat d)) else .next s

/-- LINING_TRAINING_ATTEMPT (R26): a side that is down tries to train. -/
def execLiningTrainingAttempt (d : Side) (s : State) : Res :=
  if s.sideAlive d && !s.bit (aLin d) 0 then .next (s.send (.liningTrain d)) else .next s

/-! ## Loss (R26, R27) -/

/-- Commands to field targets that have not ended are answered INTERNAL (R27). -/
def State.failField (s : State) : State :=
  let s := match s.cmd.fm with
    | some l =>
      if l.answered then s
      else
        if l.op = 0x22 then s.setLong .fm none
        else
          let s := s.finalReply l.h l.op.toNat stInternal
          { s with cmd := { s.cmd with fm := some { l with answered := true } } }
    | none => s
  let s := foldS s.cmd.stops (fun x s => s.finalReply x.1 0x22 stInternal) s
  let s : State := { s with cmd := { s.cmd with stops := [] } }
  match s.mend.check with
  | some (v, some d) => (s.modMend (fun m => { m with check := some (v, none) })).finalReply d.h d.op stInternal
  | _ => s

/-- A side declares the Lining down (R26): its status clears; the host side raises LINING_DOWN and answers what it can no
longer reach. -/
def State.liningDown (s : State) (d : Side) : State :=
  if !s.bit (aLin d) 0 then s
  else
    let s := (s.setReg (aLin d) (s.reg (aLin d) &&& 2)).setLinDir d LiningDir.reset
    match d with
    | .field => s
    | .host =>
      let s := (s.addSat 0x00010208 1).liningRaise 0
      (s.failField.dmaLiningDown).loseImage

/-- LINING_DOWN. -/
def execLiningDown (d : Side) (s : State) : Res := if s.sideAlive d then .next (s.liningDown d) else .next s

/-! ## Frames and lanes (R23, R26) -/

/-- LANES_HOST and LANES_FIELD as a side whose Lining is up shows them (R24, R26): n lanes in service towards side rx. -/
def State.showLanes (s : State) (rx d : Side) (n : Nat) : State :=
  if s.bit (aLin d) 0 then (if rx = d then s.setFld (aLin d) 15 9 n else s.setFld (aLin d) 8 2 n).setBit (aLin d) 1 true else s

/-- A lane towards a side is retired (R23): DEGRADED on both sides and LINING_DEGRADED. With fewer than 8 lanes left both sides
declare the Lining down (R26). -/
def State.retireLane (s : State) (rx : Side) (lane : Nat) : State :=
  let x := s.linDir rx
  let s := s.setLinDir rx { x with retry := tabDel lane x.retry, fails := tabDel lane x.fails, out := x.out ++ [lane] }
  let n := 64 - (s.linDir rx).out.length
  let s := ((s.showLanes rx .host n).showLanes rx .field n).liningRaise 2
  if n < 8 then (s.liningDown .host).liningDown .field else s

/-- A frame fails its check (R23): it is retried up to three times; a fourth failure of it, or a lane's seventeenth in 1 ms,
retires the lane. -/
def State.frameFail (s : State) (rx : Side) (lane : Nat) : State :=
  let x := s.linDir rx
  let now := s.sideTime rx
  let recent := ((tabFind x.fails lane).getD []).filter (fun t => decide ((now - t).toNat < msTicks)) ++ [now]
  let tries := tabGet 0 x.retry lane + 1
  let s := s.setLinDir rx { x with retry := tabSet 0 x.retry lane tries, fails := tabIns lane recent x.fails }
  if 3 < tries then s.retireLane rx lane
  else
    let s := s.addSat 0x00010204 1
    if 16 < recent.length then s.retireLane rx lane else s

/-- LINING_FRAME_RECEIVE (R23, R25): a frame reaches a side over a lane in service. -/
def execLiningFrameReceive (rx : Side) (ok : Bool) (lane : Fin 64) (s : State) : Res :=
  if !s.bit (aLin rx) 0 || decide (lane.val ∈ (s.linDir rx).out) then .next s
  else if ok then .next ((s.setLinDir rx { s.linDir rx with retry := tabDel lane.val (s.linDir rx).retry }).setBit (aLin rx) 16 true)
  else .next (s.frameFail rx lane)

/-! ## Records and notices (R27, R305, R308) -/

/-- Bytes of a record. -/
def Rec.bytes (r : Rec) : Nat := 4 * r.words.length

/-- Both sides see the Lining up. -/
def State.liningUp (s : State) : Bool := s.hostUp && s.fieldUp

/-- Bytes held in the field results buffer (R24, R27). -/
def State.heldBytes (s : State) : Nat := (s.onet.held.map Rec.bytes).sum

/-- RESULTS_HELD follows the field results buffer. -/
def State.noteHeld (s : State) : State := s.setReg aResultsHeld (BitVec.ofNat 32 s.heldBytes)

/-- The host side takes a record (R266). -/
def State.takesRec (s : State) (r : Rec) : Bool := s.liningUp && !s.hostBufFull (16 * r.parts + r.bytes)

/-- A record goes into the 512 KiB field results buffer, or is discarded at a full one (R27). -/
def State.holdRec (s : State) (r : Rec) : State :=
  if 0x80000 < s.heldBytes + r.bytes then s.loseRecord
  else State.noteHeld { s with onet := { s.onet with held := s.onet.held ++ [r] } }

/-- A notice waits and may cross (R19, R305): no message of class B or C goes before it. -/
def State.noticeWaits (s : State) : Bool := !s.evt.way.isEmpty && s.liningUp && !s.hostBufFull 16

/-- A record waits and may cross (R19). -/
def State.recordWaits (s : State) : Bool :=
  match s.onet.held ++ s.onet.recs with
  | r :: _ => s.takesRec r
  | [] => false

/-- Class C work has waited 1 µs (R19): until it is done it has at least half of the direction's bandwidth. -/
def State.grantC (s : State) : Bool := s.lining.classC.since.any (fun b => decide (400 ≤ bdiff s.pin b))

/-- Class B waits for class C's share (R19). -/
def State.yieldsToC (s : State) : Bool := s.grantC && decide (s.lining.classC.sentC < s.lining.classC.sentB)

/-- Change class C's account. -/
def State.modC (s : State) (f : ClassC → ClassC) : State :=
  { s with lining := { s.lining with classC := f s.lining.classC } }

/-- A record crosses (R19, R266), in as many batches as it needs (R310): it counts against class C's share. -/
def State.crossRec (s : State) (r : Rec) : State :=
  let s := if s.grantC then s.modC (fun c => { c with sentB := c.sentB + r.bytes }) else s
  foldS (List.range r.parts) (fun i s => s.sendResult (.records r i)) s

/-- The held records leave, oldest first, while the host side takes them. n bounds them. -/
def State.drainHeld (s : State) : Nat → State
  | 0 => s
  | n + 1 =>
    match s.onet.held with
    | r :: rs =>
      if s.takesRec r then
        State.drainHeld (State.crossRec (State.noteHeld { s with onet := { s.onet with held := rs } }) r) n
      else s
    | [] => s

/-- The field side takes a record from its queue (R162): four units of 16 bytes a block, so one that finds the block's units taken
goes in a later block. -/
def State.takeUnits (s : State) (r : Rec) : State :=
  let total := (if s.onet.rate.1 = s.pin then s.onet.rate.2 else 0) + (r.bytes + 15) / 16
  let ahead := (total - 1) / 4
  let s := s.advanceTo (s.pin + BitVec.ofNat 32 ahead)
  { s with onet := { s.onet with rate := (s.pin, total - 4 * ahead) } }

/-- OUTCOME_AND_RESULT_RECORD: the next record crosses to the host side, behind any notice that waits and behind class C's share
(R19), or, with the Lining down or the host side taking none, is held or discarded on the field side. -/
def execOutcomeAndResultRecord (s : State) : Res :=
  if s.noticeWaits || (s.recordWaits && s.yieldsToC) then .next s
  else
    let s := s.drainHeld s.onet.held.length
    match s.onet.recs with
    | [] => .next s
    | r :: rs =>
      let s := State.takeUnits { s with onet := { s.onet with recs := rs } } r
      .next (if s.onet.held.isEmpty && s.takesRec r then s.crossRec r else s.holdRec r)

/-! ## Pocket data (R19, R247) -/

/-- The channel that reads pocket k's stream window: a running one whose descriptor has bytes of it left to ask for (R247). -/
def State.windowReader (s : State) (k : Nat) : Option Nat :=
  (List.range 32).find? (fun n =>
    let x := s.dmaCh n
    let a := (dw x.desc 1).toNat
    (s.dmaSt n == 1) && !x.stopReq && dSrc x.desc == 1 && inWindow a && (a - 0x30000000) / 0x1000000 == k &&
      decide (x.asked < dLen x.desc))

/-- Pocket k's data may cross now (R19): no notice waits, and either no record does or class C has its share. -/
def State.dataCrosses (s : State) : Bool := !s.noticeWaits && (!s.recordWaits || s.grantC)

/-- Class C begins to wait, or has waited. -/
def State.waitC (s : State) : State :=
  if s.lining.classC.since.isSome then s else s.modC (fun _ => { since := some s.pin, sentC := 0, sentB := 0 })

/-- POCKET_DATA: a channel that reads the pocket's stream window takes the next 32 bytes of the FIFO, which cross the Lining as a
type 8 message (R19, R247). -/
def execPocketData (k : Fin 16) (s : State) : Res :=
  match s.windowReader k with
  | none => .next s
  | some n =>
    if !s.hostUp || !s.fieldUp then .next s
    else match s.windowRead k with
    | none => .next ((s.streamUp k).modC (fun _ => { since := none, sentC := 0, sentB := 0 }))
    | some (bs, t) =>
      if !s.dataCrosses then .next s.waitC
      else
        let t := if s.recordWaits then t.modC (fun c => { c with sentC := c.sentC + 32 })
          else t.modC (fun _ => { since := none, sentC := 0, sentB := 0 })
        .next ((t.setDma n { t.dmaCh n with ready := (t.dmaCh n).ready ++ bs, asked := (t.dmaCh n).asked + 32 }).send
          (.lining 8 (toWords 8 bs)))

/-! ## Notices (R305, R308) -/

/-- Once notices flow again, one notice with LOST = 1 follows for every source marked in the lost map (R308). -/
def State.flushLost (s : State) : State :=
  let ns := s.evt.lostMap.map (fun src =>
    ({ source := src, reg := 0, bit := 0, index := 0, detail := BitVec.ofNat 16 (tabGet 0 s.evt.lostCount src)
       block := s.pin, ns := netStamp s.time.fieldMap (s.tickOf s.pin), lost := true } : Notice))
  { s with evt := { s.evt with
      way := s.evt.way ++ ns, lostMap := []
      lostCount := s.evt.lostMap.foldl (fun t src => tabDel src t) s.evt.lostCount } }

/-- The next notice crosses to the host side while it takes one (R305, R308). -/
def State.notice (s : State) : State :=
  match s.evt.way with
  | n :: ns =>
    if s.liningUp && !s.hostBufFull 16 then
      (State.hostRaise { s with evt := { s.evt with way := ns } } n).flushLost
    else s
  | [] => s

/-- EVENT_NOTICE. -/
def execEventNotice (s : State) : Res := .next s.notice

/-! ## Return (R26, R27) -/

/-- n notices cross. -/
def State.notices (s : State) : Nat → State
  | 0 => s
  | n + 1 => s.notice.notices n

/-- After a host reset the field side cancels every outstanding stream request and asks afresh (R27). -/
def State.askAgain (s : State) : State :=
  let es := s.engines.map (·.1)
  let s := foldS es (fun e s => (s.cancelRequest e).modEng e (fun x => { x with stream := { x.stream with req := false } })) s
  foldS es (fun e s => s.streamAsk e) s

/-- LINING_UP: training succeeds on a Lining that both sides saw down; what the host side's replay store holds is delivered first,
by the commands that deliver it (R27), then the held records, then the held notices, then the
held stream requests are sent, and a beacon (R27, R319). -/
def execLiningUp (s : State) : Res :=
  if !s.hostAlive || !s.fieldAlive || s.hostUp || s.fieldUp then .next s
  else
    let up : W32 := BitVec.ofNat 32 (1 + 64 * 4 + 64 * 512 + 0x10000)
    let s := ((s.setReg aLining up).setReg aFmLining up).setLinDir .host LiningDir.reset
    let s := (s.setLinDir .field LiningDir.reset).liningRaise 1
    let s := (s.drainHeld s.onet.held.length).flushLost
    let s := s.notices s.evt.way.length
    let s :=
      if s.lining.hostReset then State.askAgain { s with lining := { s.lining with hostReset := false } }
      else
        let held := s.dma.liningHeld
        foldS held (fun r s => s.requestReach r) { s with dma := { s.dma with liningHeld := [] } }
    .next s.sendBeacon

end Sys2Proof.Machine
end

