-- ==== Sys2Proof/Machine/NvOps.lean ====
section
/-! DEFINITION. Shared operations of the non-volatile store (spec/16 R412-R417): pages, the queue of page programs, what a
page reads as. -/

namespace Sys2Proof.Machine

/-- NV_STATUS. -/
def aNvStatus : Nat := 0x00070000
/-- NV_CYCLES_MAX. -/
def aNvMax : Nat := 0x00070010

/-- The unit's own pages (R413): pinned address, STEPS, housekeeping factors of the host and of the field side, wear
histories. Which page holds which is a DESIGN CHOICE (log entry 12). -/
def pgAddr : Nat := 128
/-- The page of STEPS. -/
def pgSteps : Nat := 129
/-- The page of a side's housekeeping factors. -/
def pgHk (d : Side) : Nat := if d = .host then 130 else 131
/-- The page of the wear histories. -/
def pgWear : Nat := 132

/-- A page in the unit region (R413). -/
def isUnitPage (p : Nat) : Bool := decide (128 ≤ p) && decide (p < 256)

/-- NV_STATUS follows the queue: the page in program (R423). -/
def State.nvShow (s : State) : State :=
  match s.nv.jobs.head? with
  | some j => (s.setBit aNvStatus 0 true).setFld aNvStatus 13 1 j.page
  | none => (s.setBit aNvStatus 0 false).setFld aNvStatus 13 1 0

/-- A page program joins the queue, in arrival order (R414). -/
def State.nvPush (s : State) (j : NvJob) : State := State.nvShow { s with nv := { s.nv with jobs := s.nv.jobs ++ [j] } }

/-- The unit saves values of its own (R413). -/
def State.nvSave (s : State) (page : Nat) (vals : List W32) : State :=
  if s.hostAlive then s.nvPush { page, data := [], vals, h := none, op := 0 } else s

/-- The values that a unit page holds; none without a valid copy (R415, R432). -/
def State.nvVals (s : State) (page : Nat) : Option (List W32) := (s.nvCopy page).map (·.vals)

/-- Set page n. -/
def State.setNvPage (s : State) (n : Nat) (p : NvPage) : State :=
  { s with nv := { s.nv with pages := tabSet (NvPage.factory n) s.nv.pages n p } }

/-- The program writes copy B: copy A holds the newest valid data (R414). With neither copy valid it writes A. -/
def NvPage.writesB (p : NvPage) : Bool :=
  p.a.valid && (!p.b.valid || decide (p.b.seq.toNat < p.a.seq.toNat))

/-- A copy's cycle count is noted (R417, R423). -/
def State.nvCycles (s : State) (page : Nat) (b : Bool) (n : Nat) : State :=
  let s := if (s.reg aNvMax).toNat < n then
      (s.setReg aNvMax (BitVec.ofNat 32 n)).setReg 0x00070014 (BitVec.ofNat 32 (page + 8192 * b.toNat))
    else s
  if 90000 < n then s.flag nvFlags 3 else s

/-- Spare slots left (R412, R423). -/
def State.spares (s : State) : Nat := s.fld aNvStatus 22 16

/-- A program of a page ends after its verification failed a number of times (R414): once more on the same copy, then a
spare slot. True where the page holds the new contents. -/
def State.nvWrite (s : State) (j : NvJob) (fails : Nat) : Bool × State :=
  let p := s.nvPage j.page
  let b := p.writesB
  let old := if b then p.b else p.a
  let other := if b then p.a else p.b
  let fresh := fun (n : Nat) => ({ data := j.data, vals := j.vals, seq := other.seq + 1, valid := true, cycles := n } : NvCopy)
  let put := fun (s : State) (c : NvCopy) => s.setNvPage j.page (if b then { p with b := c } else { p with a := c })
  let s := s.addSat 0x0007000C (min 2 (fails + 1))
  if fails < 2 then
    let n := old.cycles + fails + 1
    (true, (put s (fresh n)).nvCycles j.page b n)
  else
    let s := s.nvCycles j.page b (old.cycles + 2)
    let bad : NvCopy := { old with valid := false, cycles := old.cycles + 2 }
    if s.spares = 0 then (false, (put s bad).flag nvFlags 0)
    else
      let s := s.setFld aNvStatus 22 16 (s.spares - 1)
      let s := if s.spares ≤ 8 then s.flag nvFlags 4 else s
      (true, (put (s.addSat 0x0007000C 1) (fresh 1)).nvCycles j.page true 1)

/-- A program in progress stops at once (R416): its copy fails the check, the journal keeps the page, the queue is lost. -/
def State.nvStop (s : State) : State :=
  match s.nv.jobs.head? with
  | none => s
  | some j =>
    let p := s.nvPage j.page
    let q : NvPage := if p.writesB then { p with b := { p.b with valid := false } } else { p with a := { p.a with valid := false } }
    let s := s.setNvPage j.page q
    State.nvShow { s with nv := { s.nv with jobs := [], cut := some j.page } }

/-- A byte of a copy: in a unit page, whose layout the spec does not give, a function of the values it holds; in a factory page what
the factory wrote (R413). -/
def NvCopy.byte (c : NvCopy) (page off : Nat) : Byte :=
  if isUnitPage page then Config.unitByte page c.vals off
  else if page < 128 then Config.factoryByte page off
  else c.data.getD off 0

end Sys2Proof.Machine
end

