-- ==== Sys2Proof/Machine/Thermal.lean ====
section
/-! DEFINITION. Temperature, throttling, shutdown, yoke faults and the core voltage (spec/15 R381-R398, spec/06 R479). -/

namespace Sys2Proof.Machine

/-! ## Sensors (R381-R384) -/

/-- The table key of a sensor: field sensor s, host sensor 64 + s, as DETAIL of R421 numbers them. -/
def sensorKey : Sensor → Nat
  | .field s => s.val
  | .host s => 64 + s.val

/-- TEMP[s] or HOST_TEMP[s]. -/
def aTemp (k : Nat) : Nat := if k < 64 then 0x10050100 + 4 * k else 0x00080100 + 4 * (k - 64)

/-- HH_STATUS. -/
def aHhStatus : Nat := 0x00080000

/-- A sensor's reading in 1/16 °C. -/
def State.temp (s : State) (k : Nat) : Int := sfld (s.reg (aTemp k)) 16

/-- A sensor has failed (R382). -/
def State.sensorFailed (s : State) (k : Nat) : Bool := s.bit (aTemp k) 16

/-- The sensors of a list that have been converted, or have failed, since reset. -/
def State.scanned (s : State) (l : List Nat) : List Nat := l.filter (fun k => decide (k ∈ s.thermal.scanned))

/-- The largest reading of a list of sensors, with the lowest sensor that shows it; none before any conversion. -/
def State.hottest (s : State) (l : List Nat) : Option (Int × Nat) :=
  match (s.scanned l).map (fun k => (s.temp k, k)) with
  | [] => none
  | x :: xs => some (xs.foldl (fun m y => if m.1 < y.1 then y else m) x)

/-- The sensors of yoke y, of the field side, of the host side. -/
def yokeSensors (y : Nat) : List Nat := (List.range 16).map (16 * y + ·)
/-- The field sensors. -/
def fieldSensors : List Nat := List.range 64
/-- The host sensors. -/
def hostSensors : List Nat := (List.range 8).map (64 + ·)

/-- A reading as a 16-bit field. -/
def tempField (v : Int) : Nat := (BitVec.ofInt 16 v).toNat

/-- The maxima follow the readings (R381). -/
def State.noteMaxima (s : State) : State :=
  let s := foldS (List.range 4) (fun y s =>
    match s.hottest (yokeSensors y) with
    | some (v, _) => s.setFld (yokeAddr y 0xC) 15 0 (tempField v)
    | none => s) s
  let s := match s.hottest fieldSensors with
    | some (v, k) => (s.setFld 0x1005000C 15 0 (tempField v)).setFld 0x1005000C 21 16 k
    | none => s
  match s.hottest hostSensors with
  | some (v, _) => s.setFld aHhStatus 15 0 (tempField v)
  | none => s

/-- The yoke maximum in 1/16 °C. -/
def State.yokeMax (s : State) (y : Nat) : Int := sfld (s.reg (yokeAddr y 0xC)) 16

/-- The highest band whose rising threshold a maximum exceeds (R383). -/
def bandUp (t : Int) : Nat := if 1440 < t then 3 else if 1200 < t then 2 else if 960 < t then 1 else 0

/-- The highest band that a falling maximum has not left (R383). -/
def bandDown (t : Int) : Nat := if t ≤ 912 then 0 else if t ≤ 1152 then 1 else if t ≤ 1392 then 2 else 3

/-- The band chosen from a maximum, from the band chosen before it (R383). -/
def bandNext (old : Nat) (t : Int) : Nat := if old < bandUp t then bandUp t else min old (bandDown t)

/-- FIELD_READY is set once every condition of R435 holds; FIELD_BOOT_TIME, for which the model keeps no clock, is free
(log entry 13). -/
def State.fieldReady (s : State) : State :=
  if (s.fld aFieldBoot 5 1 == 31) && !s.bit aFieldBoot 6 then
    ((s.setBit aFieldBoot 6 true).setReg 0x1000010C (Config.freeWord s.free)).draw
  else s

/-- FIRST_SCAN (R434): the first scan is complete. -/
def State.firstScan (s : State) : Bool := s.bit aFieldBoot 4

/-- The bands follow the maxima (R383, R434): the first scan sets them by the rising thresholds alone. -/
def State.noteBands (s : State) : State :=
  if s.firstScan then foldS (List.range 4) (fun y s => s.bandNote y (bandNext (s.bandSeen y) (s.yokeMax y))) s
  else if fieldSensors.all (fun k => decide (k ∈ s.thermal.scanned)) then
    (foldS (List.range 4) (fun y s => s.bandNote y (bandUp (s.yokeMax y))) (s.setBit aFieldBoot 4 true)).fieldReady
  else s

/-- A sensor counts as converted. -/
def State.markScanned (s : State) (k : Nat) : State :=
  { s with thermal := { s.thermal with scanned :=
      if k ∈ s.thermal.scanned then s.thermal.scanned else s.thermal.scanned ++ [k] } }

/-- A sensor fails (R382): it reads 101 °C from then on; a field sensor raises its yoke to level 4 at once. -/
def State.sensorFail (s : State) (k : Nat) : State :=
  if s.sensorFailed k then s
  else
    let s := (s.setReg (aTemp k) 0x10650).markScanned k
    if k < 64 then
      let s := s.setBit (if k < 32 then 0x10050010 else 0x10050014) (k % 32) true
      let s := (s.noteMaxima.noteBands).flag fhFlags 1
      s.setThrottle (k / 16) 4 (max 1 (s.yokePaceReg (k / 16)))
    else ((s.setBit aHhStatus (16 + (k - 64)) true).noteMaxima).flag hhFlags 0

/-- The side of a sensor works: host sensors also while the host side is shut down, since its exit waits for them (R394). -/
def State.sensorAlive (s : State) (k : Nat) : Bool :=
  if k < 64 then s.fieldAlive else s.pins.hostOn && s.pins.hostPower

/-- A sensor is converted (R381, R382, R391, R393): reading in 1/16 °C. -/
def State.sensorRead (s : State) (k : Nat) (v : Int) : State :=
  if s.sensorFailed k then s
  else if v < -640 ∨ 2400 < v then s.sensorFail k
  else
    let s := ((s.setReg (aTemp k) (BitVec.ofNat 32 (tempField v))).markScanned k).noteMaxima
    if k < 64 then
      let s := s.noteBands
      if 1792 ≤ v then (s.flag fhFlags 2).loseHealth else s
    else if 1792 ≤ v then s.flag hhFlags 1 else s

/-- The hub, which holds the field side's reset after a shutdown until every valid sensor reads at most 100 °C (R391), sees a
reading. -/
def State.holdRead (s : State) (k : Nat) (v : Int) : State :=
  let l := s.pins.fieldHot.filter (· ≠ k)
  { s with pins := { s.pins with fieldHot := if 1600 < v ∧ v ≤ 2400 then l ++ [k] else l } }

/-- SENSOR_CONVERSION. -/
def execSensorConversion (x : Sensor) (reading : Int) (s : State) : Res :=
  let k := sensorKey x
  if s.sensorAlive k then .next (s.sensorRead k reading)
  else if k < 64 && s.pins.fieldPower && !s.pins.fieldHot.isEmpty then .next (s.holdRead k reading)
  else .next s

/-- SENSOR_REFERENCE_CHECK (R382): a difference above 5 °C fails the sensor; diff in 1/16 °C. -/
def execSensorReferenceCheck (x : Sensor) (diff : Int) (s : State) : Res :=
  if s.sensorAlive (sensorKey x) && decide (80 < diff.natAbs) then .next (s.sensorFail (sensorKey x)) else .next s

/-- SENSOR_TIMEOUT (R382): 1 ms without a conversion fails the sensor. -/
def execSensorTimeout (x : Sensor) (s : State) : Res :=
  if s.sensorAlive (sensorKey x) then .next (s.sensorFail (sensorKey x)) else .next s

/-! ## Throttling and bands (R385, R388) -/

/-- The level and pace after a step (R388): the yoke's maximum in 1/16 °C, THROTTLE_MIN, the level and pace before it. -/
def throttleNext (t : Int) (tmin level pace : Nat) : Nat × Nat :=
  let (l, p) :=
    if 1600 ≤ t then
      if level < 4 then (level + 1, if level = 3 then 1 else pace)
      else (level, if pace < 8 then pace + 1 else pace)
    else if t ≤ 1552 then
      if level = 4 ∧ 1 < pace then (level, pace - 1) else if 0 < level then (level - 1, 0) else (level, pace)
    else (level, pace)
  let l := max l tmin
  (l, if l = 4 then max 1 p else p)

/-- THROTTLE_STEP. The first comes after the first sensor scan. -/
def execThrottleStep (y : Fin 4) (s : State) : Res :=
  if s.fieldAlive && s.firstScan then
    let (l, p) := throttleNext (s.yokeMax y) (s.fld (yokeAddr y 0) 2 0) (s.yokeLevel y) (s.yokePaceReg y)
    .next (s.setThrottle y l p)
  else .next s

/-- BAND_CHANGE (R385): the change takes effect at the shot boundary that fixed it, or, with no engine of the yoke in a
shot, at its block. -/
def execBandChange (y : Fin 4) (s : State) : Res :=
  match tabFind s.thermal.bandAt y with
  | none => .next s
  | some (b, fixed) =>
    if !s.clk.run || (!fixed && s.engines.any (fun p => p.2.inShot && yokeOfEng p.1 == y.val)) then .next s
    else
      let s := s.advanceTo b
      let s : State := { s with thermal := { s.thermal with bandAt := tabDel y.val s.thermal.bandAt } }
      .next (if s.bandSeen y = s.yokeBand y then s else s.bandSet y (s.bandSeen y))

/-! ## Shutdown (R391, R394, R479) -/

/-- FH_STATUS.SHUTDOWN. -/
def State.fieldShut (s : State) : Bool := s.bit aFhStatus 0

/-- Sensors of a list that have failed. -/
def State.failedOf (s : State) (l : List Nat) : Nat := (l.filter s.sensorFailed).length

/-- A valid sensor of a list reads at least a temperature. -/
def State.validAbove (s : State) (l : List Nat) (t : Int) : Bool :=
  l.any (fun k => decide (k ∈ s.thermal.scanned) && !s.sensorFailed k && decide (t ≤ s.temp k))

/-- The condition of a SHUT_CAUSE holds (R391): a rail's condition is the command's own. -/
def State.shutCond (s : State) (cause : Nat) : Bool :=
  match cause with
  | 1 => s.validAbove fieldSensors 1840
  | 2 => (List.range 4).any (fun y => decide (2 ≤ s.failedOf (yokeSensors y)))
  | 3 => true
  | _ => false

/-- Every engine's work is removed and counted, and the engines of START sets enter DONE (R391). -/
def State.stopEngines (s : State) : State :=
  let es := s.engines.map (·.1)
  let s := foldS es (fun e s => ((s.dropWhere e (fun _ => true)).withdraw e).modEng e (fun x =>
    { x with arm := none, live := [], draining := false })) s
  foldS s.sets (fun g s => s.endSet g) s

/-- The power of converters and tiles goes: nothing of it is under way any more (R391). -/
def State.powerOff (s : State) : State :=
  let s := foldS (List.range 448) (fun p s =>
    let s := (s.setBit (portAddr p 4) 4 true).setBit (portAddr p 4) 2 false
    s.clampNow p) { s with hem := { s.hem with requests := [], grants := [], ready := [], clamps := [], enables := []
                                               tileWait := [], inWait := [], calRun := [] } }
  foldS (List.range 64) (fun l s => (((s.remember (adcAddr l 4)).setBit (adcAddr l 4) 6 false).setBit (adcAddr l 4) 8 false)) s

/-- The field side shuts down at the next block boundary (R391, R479, R369). -/
def State.shutField (s : State) (cause : Nat) : State :=
  let s := s.advanceTo (s.pin + 1)
  let s := (s.stopEngines.powerOff).mendDetach
  let s : State := State.formReady { s with chans := [], fm := { s.fm with abort := s.fm.abort || s.cmd.fm.isSome } }
  let s := ((s.setBit aFhStatus 0 true).setFld aFhStatus 6 4 cause).flag fhFlags 0
  let s := if cause = 3 then s.flag fhFlags 6 else s
  let s := if s.pairState = 3 then s.releaseNow s.pin (if cause = 3 then 7 else 6) 4 else s
  if cause = 3 then s.loseHealth else s

/-- FIELD_SHUTDOWN. -/
def execFieldShutdown (cause : Fin 8) (s : State) : Res :=
  if s.fieldAlive && !s.fieldShut && s.shutCond cause then .next (s.shutField cause) else .next s

/-- YOKE_FAULT (R392): the yoke's ports are disabled at the first block boundary at least 4 blocks later; a unit that has reported its
engines to a rendezvous reports them again, as leaving (R31). -/
def execYokeFault (y : Fin 4) (rail : Bool) (s : State) : Res :=
  if !s.fieldAlive || s.bit aFhStatus (8 + y.val) then .next s
  else
    let b := s.effBlock
    let s := if rail && s.pairState == 3 then s.releaseNow (s.pin + 1) 7 4 else s
    let s := s.advanceTo b
    let s := foldS ((yokeTiles y).flatMap tilePorts) (fun p s => (s.setBit (portAddr p 0) 0 false).disablePort p b) s
    let s := ((s.setBit aFhStatus (8 + y.val) true).flag fhFlags 5).flag (yokeFlags y) 2
    let s := if rail then (s.flag fhFlags 6).loseHealth else s
    let s : State := { s with sets := s.sets.map (fun g => if s.yokeStopped g then { g with sentUp := false } else g) }
    .next s.serveRuns

/-- The host die stops its links, ports and switch and releases EVENT_N (R394). -/
def State.hostStop (s : State) : State :=
  let s := (s.setBit aHhStatus 24 false).flag hhFlags 2
  let s := foldS (List.finRange 4) (fun k s => s.linkLeave (.hl k) 0 []) s
  let s := s.setFld aMgmtStatus 1 0 0
  { s with pins := { s.pins with hostShut := true } }

/-- The host side shuts down (R394): a valid sensor at 125 °C cuts power at once, otherwise an NV page program in
progress completes first. -/
def State.shutHost (s : State) : State :=
  if s.validAbove hostSensors 2000 then s.nvStop.hostStop
  else if s.nv.jobs.isEmpty then s.hostStop
  else s.setBit aHhStatus 24 true

/-- HOST_SHUTDOWN. -/
def execHostShutdown (s : State) : Res :=
  if s.hostAlive && (s.validAbove hostSensors 1840 || decide (2 ≤ s.failedOf hostSensors)) then .next s.shutHost else .next s

/-! ## Adaptive core voltage (R397, R398) -/

/-- AV_CTRL. -/
def aAvCtrl : Nat := 0x10050020
/-- AV_STATUS. -/
def aAvStatus : Nat := 0x10050024

/-- STEPS. -/
def State.avSteps (s : State) : Nat := s.fld aAvStatus 4 0

/-- EXP of AV_CTRL. -/
def State.avExp (s : State) : Int := sfld (s.reg aAvCtrl >>> 10) 5

/-- The voltage commanded, in tenths of a millivolt: NOMINAL + 2.5 × STEPS mV. -/
def State.avTenths (s : State) : Nat := 10 * s.fld aAvCtrl 25 16 + 25 * s.avSteps

/-- The LINEAR16 mantissa of the voltage commanded (R398): exact where it divides; else one of the two nearest below and above, and
beyond 16 bits any: free. -/
def State.voutMantissa (s : State) : BitVec 16 × State :=
  let n : Int := s.avTenths * 2 ^ (-s.avExp).toNat
  let m : Int := 10000 * 2 ^ s.avExp.toNat
  let w := Config.freeWord s.free
  let q := n / m + (if n % m = 0 then 0 else (w.toNat % 2 : Nat))
  if 65535 < q then (w.setWidth 16, s.draw) else (BitVec.ofInt 16 q, if n % m = 0 then s else s.draw)

/-- VOUT_COMMAND is sent to the regulator at ADDR (R398). -/
def State.voutCommand (s : State) : State :=
  let (v, s) := s.voutMantissa
  s.send (.pmbus (s.fld aAvCtrl 9 3) 0x21 v (s.bit aAvCtrl 1) (s.bit aAvCtrl 2))

/-- A READ_VOUT mantissa differs from the command by more than 10 mV (R398). -/
def State.voutOff (s : State) (v : BitVec 16) : Bool :=
  let e := s.avExp
  let up : Int := 2 ^ e.toNat
  let dn : Int := 2 ^ (-e).toNat
  decide (100 * dn < (((v.toNat : Int) * 10000 * up - (s.avTenths : Int) * dn).natAbs : Int))

/-- CANARY_TARGET and CANARY_MIN (R408). -/
def State.marginShort (s : State) : Bool := decide (sfld (s.reg 0x10053004) 16 < sfld (s.reg 0x10053000) 16)

/-- STEPS rises by one while the margin is short (R397); at 20 steps AT_LIMIT and AV_LIMIT are set. -/
def State.avRaise (s : State) : State :=
  if !s.marginShort then s
  else if s.avSteps < 20 then
    let n := s.avSteps + 1
    ((s.setFld aAvStatus 4 0 n).nvSave pgSteps [BitVec.ofNat 32 n]).voutCommand
  else (s.setBit aAvStatus 5 true).flag fhFlags 8

/-- What READ_VOUT and STATUS_WORD showed (R398). -/
def State.avRead (s : State) (v st : BitVec 16) : State :=
  let off := s.voutOff v
  let s := s.setReg 0x10050028 (st ++ v)
  let s := if off && s.thermal.avOff then s.flag fhFlags 10 else s
  let s : State := { s with thermal := { s.thermal with avOff := off } }
  if st = 0 then s else s.flag fhFlags 11

/-- AV_ADJUST: once a second with AV_CTRL.EN = 1 (R397); a bus error holds the loop (R398), and so does an FM restart. -/
def execAvAdjust (readVout status : BitVec 16) (busOk : Bool) (s : State) : Res :=
  if !s.fieldAlive || !s.bit aAvCtrl 0 || decide (3 ≤ s.ctlMode .fm) then .next s
  else if !busOk then .next (s.flag fhFlags 9)
  else .next ((s.avRead readVout status).avRaise)

end Sys2Proof.Machine
end

