-- ==== Sys2Proof/Machine/Health.lean ====
section
/-! DEFINITION. Housekeeping ADCs (spec/15 R399-R401, R405), canaries and the wear estimate (spec/16 R407-R411), relocking
of test access (R420). -/

namespace Sys2Proof.Machine

/-! ## Housekeeping (R399-R401) -/

/-- A side's housekeeping ADC. -/
def State.hk (s : State) (d : Side) : HkAdc := if d = .host then s.hkHost else s.hkField

/-- Set a side's housekeeping ADC. -/
def State.setHk (s : State) (d : Side) (x : HkAdc) : State :=
  if d = .host then { s with hkHost := x } else { s with hkField := x }

/-- HK_STATUS. -/
def aHkStatus (d : Side) : Nat := hkAddr d 4

/-- The channels that HK_MASK selects, ascending (R399). -/
def State.hkMask (s : State) (d : Side) : List Nat :=
  (List.range 128).filter (fun c => s.bit (hkAddr d (0x20 + 4 * (c / 32))) (c % 32))

/-- A 16-bit saturation of a rational n / m: exact where it divides, else free between its neighbours (log entry 14). -/
def State.ratio16 (s : State) (n m : Int) : Int × State :=
  if n % m = 0 then (sat16 (n / m), s)
  else (sat16 (n / m + ((Config.freeWord s.free).toNat % 2 : Nat)), s.draw)

/-- A conversion's result under the factors in HK_CAL (R399). -/
def State.hkResult (s : State) (d : Side) (raw : Int) : Int × State :=
  let off := sfld (s.reg (hkAddr d 0x10)) 16
  let gain := sfld (s.reg (hkAddr d 0x14)) 18
  s.ratio16 ((16 * raw - off) * (2 ^ 20 + gain)) (2 ^ 24)

/-- The conversion slot now takes a channel. -/
def State.hkChannel (s : State) (d : Side) (c : Nat) : State := (s.setFld (aHkStatus d) 10 4 c).setBit (aHkStatus d) 0 true

/-- The ADC powers down: no conversion in progress. -/
def State.hkDown (s : State) (d : Side) : State :=
  (s.setHk d { s.hk d with left := [], scanning := false }).setBit (aHkStatus d) 0 false

/-- A scan begins with the mask as it stands (R399); an empty one leaves the ADC powered down. -/
def State.hkScan (s : State) (d : Side) : State :=
  match s.hkMask d with
  | [] => s.hkDown d
  | c :: cs => (s.setHk d { s.hk d with left := c :: cs, scanning := true }).hkChannel d c

/-- The next conversion slot (R399-R401): the injected request, then a calibration asked for, then the scan. -/
def State.hkNext (s : State) (d : Side) : State :=
  let x := s.hk d
  match x.inj with
  | some c => (s.setHk d { x with injNow := true }).hkChannel d c
  | none =>
    if x.cal then
      ((s.setHk d { x with left := [], scanning := false }).setBit (aHkStatus d) 1 true).setBit (aHkStatus d) 0 true
    else if !s.bit (hkAddr d 0) 0 || (s.hkMask d).isEmpty then s.hkDown d
    else match x.left with
      | c :: _ => s.hkChannel d c
      | [] => if x.scanning && s.fld (hkAddr d 0) 31 16 == 0 then s.hkScan d else s.hkDown d

/-- The injected conversion completes (R400). -/
def State.hkInjDone (s : State) (d : Side) (c : Nat) (raw : Int) : State :=
  let (v, s) := s.hkResult d raw
  let s := s.setReg (hkAddr d 0xC) (BitVec.ofNat 32 (tempField v + c * 0x10000 + 0x80000000))
  (s.setHk d { s.hk d with inj := none, injNow := false }).setBit (aHkStatus d) 2 false

/-- A channel of the scan completes (R399, R405): SCAN_COUNT counts a scan at its end. -/
def State.hkScanDone (s : State) (d : Side) (c : Nat) (rest : List Nat) (raw : Int) : State :=
  let n := s.fld (aHkStatus d) 31 16
  let (v, s) := s.hkResult d raw
  let s := s.setReg (hkAddr d (0x100 + 4 * c)) (BitVec.ofNat 32 (tempField v + 0x10000 + (n % 256) * 0x1000000))
  let s := s.setHk d { s.hk d with left := rest }
  if rest.isEmpty then s.setFld (aHkStatus d) 31 16 ((n + 1) % 65536) else s

/-- HK_CONVERSION: the conversion in progress completes with a raw code. -/
def execHkConversion (d : Side) (raw : Int) (s : State) : Res :=
  if !s.sideAlive d || s.bit (aHkStatus d) 1 || !s.bit (aHkStatus d) 0 then .next s
  else
    let x := s.hk d
    match x.injNow, x.inj, x.left with
    | true, some c, _ => .next ((s.hkInjDone d c raw).hkNext d)
    | _, _, c :: rest => .next ((s.hkScanDone d c rest raw).hkNext d)
    | _, _, [] => .next (s.hkNext d)

/-- HK_INTERVAL_END: the powered-down ADC has started up for its next scan, the first after a reset among them (R399); an
interval that ends during an injected conversion starts the scan after it (R400). -/
def execHkIntervalEnd (d : Side) (s : State) : Res :=
  if !s.sideAlive d || !s.bit (hkAddr d 0) 0 || s.bit (aHkStatus d) 1 then .next s
  else if !s.bit (aHkStatus d) 0 then .next (s.hkScan d)
  else if (s.hk d).injNow && (s.hk d).left.isEmpty then
    .next (s.setHk d { s.hk d with left := s.hkMask d, scanning := true })
  else .next s

/-- A write of HK_INJECT (R400): BUSY while a request is pending. -/
def State.writeHkInject (s : State) (d : Side) (v : W32) : Byte × State :=
  if !v.getLsbD 31 then (stOk, s)
  else
    let x := s.hk d
    if x.inj.isSome then (stBusy, s)
    else
      let c := wfld v 6 0
      let s := ((s.setHk d { x with inj := some c }).setBit (aHkStatus d) 2 true).setBit (hkAddr d 0xC) 31 false
      (stOk, if s.bit (aHkStatus d) 0 then s else (s.setHk d { x with inj := some c, injNow := true }).hkChannel d c)

/-- HK_INJECT. -/
def execHkInject (d : Side) (v : W32) (s : State) : Res :=
  if s.sideAlive d then .next (s.writeHkInject d v).2 else .next s

/-- A write of HK_CTRL: SCAN_EN written 1 on a powered-down ADC begins a scan (R399). -/
def State.writeHkCtrl (s : State) (d : Side) (v : W32) : State :=
  let was := s.bit (hkAddr d 0) 0
  let s := s.setReg (hkAddr d 0) (v &&& 0xFFFF0001)
  if !was && v.getLsbD 0 && !s.bit (aHkStatus d) 0 then s.hkScan d else s

/-- A self-calibration is asked for (R401): at once on a powered-down ADC, else after the conversion in progress and the
injected one that waits. -/
def State.hkCalStart (s : State) (d : Side) : State :=
  let s := s.setHk d { s.hk d with cal := true }
  if s.bit (aHkStatus d) 0 then s else s.hkNext d

/-- The controller that calibrates a side's housekeeping ADC (R368). -/
def hkCtl (d : Side) : Ctl := if d = .host then .ci else .fm

/-- A self-calibration ends (R401): factors outside their fields leave the previous ones; the scan resumes from the lowest
enabled channel, an injected request first. -/
def State.hkCalEnd (s : State) (d : Side) (off gain : Int) : State :=
  let ok := fitsInt 16 off && fitsInt 18 gain
  let o : W32 := (BitVec.ofInt 16 off).setWidth 32
  let g : W32 := (BitVec.ofInt 18 gain).setWidth 32
  let s := if ok then
      (((s.setReg (hkAddr d 0x10) o).setReg (hkAddr d 0x14) g).setBit (aHkStatus d) 3 true).nvSave (pgHk d) [o, g]
    else s
  let s := (s.setHk d { s.hk d with cal := false, left := s.hkMask d, scanning := true }).setBit (aHkStatus d) 1 false
  (s.hkNext d).endLong (hkCtl d) (if ok then stOk else stInternal)

/-- HK_CAL_DONE. -/
def execHkCalDone (d : Side) (offset gain : Int) (s : State) : Res :=
  if s.sideAlive d && s.bit (aHkStatus d) 1 then .next (s.hkCalEnd d offset gain) else .next s

/-! ## Canaries (R407, R408) -/

/-- CANARY_MARGIN[n]. -/
def aCanary (n : Nat) : Nat := 0x10053100 + 4 * n

/-- A canary's measurement is recorded with the nine before it. -/
def State.canaryNote (s : State) (n : Nat) (m : Int) : State :=
  let l := (((tabFind s.thermal.canary n).getD []) ++ [m])
  let l := l.drop (l.length - 10)
  let s : State := { s with thermal := { s.thermal with canary := tabIns n l s.thermal.canary } }
  let s := s.setReg (aCanary n) (BitVec.ofNat 32 (tempField m))
  if m < 0 then s.flag canaryFlags 0 else s

/-- CANARY_MIN follows: the least margin of any canary over its latest ten measurements (R408). -/
def State.canaryMin (s : State) : State :=
  match s.thermal.canary.filterMap (fun p => (minInt p.2).map (fun m => (m, p.1))) with
  | [] => s
  | x :: xs =>
    let m := xs.foldl (fun m y => if y.1 < m.1 then y else m) x
    s.setReg 0x10053004 (BitVec.ofNat 32 (tempField m.1 + m.2 * 0x10000))

/-- CANARY_MEASUREMENT: every 100 ms, in every field state but shutdown. -/
def execCanaryMeasurement (margins : List (Fin 96 × Int)) (s : State) : Res :=
  if s.fieldAlive && s.clk.run && !s.fieldShut then
    .next (foldS margins (fun m s => s.canaryNote m.1 m.2) s).canaryMin
  else .next s

/-! ## Wear (R409-R411) -/

/-- WEAR_STATUS. -/
def aWear : Nat := 0x00080200

/-- WEAR_MECH_DAYS[k]. -/
def aMech (k : Nat) : Nat := 0x00080208 + 4 * k

/-- A mechanism's days, saturated at 65,535. -/
def wearDays (n : Nat) : W32 := BitVec.ofNat 32 (min n 65535)

/-- LIFE_DAYS and MECH follow the four mechanisms (R409). -/
def State.wearLife (s : State) : State :=
  let l := (List.range 4).map (fun k => ((s.reg (aMech k)).toNat, k))
  let m := l.foldl (fun m y => if y.1 < m.1 then y else m) (65535, 0)
  (s.setFld aWear 15 0 m.1).setFld aWear 17 16 m.2

/-- WEAR_2Y and WEAR_6M, each at most once per host reset (R411). -/
def State.wearWarn (s : State) : State :=
  let n := s.fld aWear 15 0
  let s := if n ≤ 730 ∧ !s.wear.said2y then State.flag { s with wear := { s.wear with said2y := true } } wearFlags 0 else s
  if n ≤ 183 ∧ !s.wear.said6m then State.flag { s with wear := { s.wear with said6m := true } } wearFlags 1 else s

/-- WEAR_ESTIMATE: the bounds of the four mechanisms in days (R409); with the Lining down the field's keep their last
values and STALE is set (R410). -/
def execWearEstimate (canary trim em nv : Nat) (early : Bool) (s : State) : Res :=
  if !s.hostAlive then .next s
  else
    let s := if s.hostUp then
        (((s.setReg (aMech 0) (wearDays canary)).setReg (aMech 1) (wearDays trim)).setReg (aMech 2) (wearDays em)).setBit
          aWear 19 false
      else (s.setBit aWear 19 true).flag wearFlags 2
    .next ((((s.setReg (aMech 3) (wearDays nv)).setBit aWear 18 early).wearLife).wearWarn)

/-- WEAR_SAVE: the histories go to the unit region (R410). -/
def execWearSave (s : State) : Res :=
  .next (s.nvSave pgWear (s.reg 0x00080218 :: (List.range 4).map (fun k => s.reg (aMech k))))

/-! ## Test access (R418-R420) -/

/-- BH_STATUS. -/
def aBhStatus : Nat := 0x00090004

/-- The bit of a side in BH_STATUS. -/
def bhBit (d : Side) : Nat := if d = .host then 0 else 1

/-- SEL[i] of a side. -/
def aSel (d : Side) (i : Nat) : Nat := if d = .host then 0x00090100 + 4 * i else 0x10052000 + 4 * i

/-- What a test pin carries (R418-R420, R437): nothing, a level, or the node of a code, whose own signal is not in State. -/
inductive TestPin where
  | highZ
  | level (high : Bool)
  | node (code : Nat)
deriving DecidableEq, Repr

/-- HTP[i] or FTP[i]: high impedance while its side is locked, else the node selected (R418, R419). -/
def State.testPin (s : State) (d : Side) (i : Nat) : TestPin :=
  if !(s.sideAlive d && s.bit aBhStatus (bhBit d)) then .highZ
  else match s.fld (aSel d i) 11 0 with
  | 0 => .level false
  | 1 => .level true
  | n => .node n

/-- A side relocks (R420): its SEL registers return to 0, RELOCKED is set. -/
def State.relock (s : State) (d : Side) : State :=
  if !s.bit aBhStatus (bhBit d) then s
  else
    let s := foldS (List.range 8) (fun i s => s.setReg (aSel d i) 0) (s.setBit aBhStatus (bhBit d) false)
    (if s.fld aBhStatus 1 0 = 0 then s.setReg 0x00090010 0 else s).flag bhFlags 2

/-- UNLOCK_EXPIRY. -/
def execUnlockExpiry (d : Side) (s : State) : Res := .next (s.relock d)

/-- A write of BH_LOCK: 1 relocks both sides. -/
def State.writeBhLock (s : State) (v : W32) : State := if v.getLsbD 0 then (s.relock .host).relock .field else s

/-- BH_LOCK. -/
def execBhLock (v : W32) (s : State) : Res := if s.hostAlive then .next (s.writeBhLock v) else .next s

end Sys2Proof.Machine
end

