-- ==== Sys2Proof/Machine/Nv.lean ====
section
/-! DEFINITION. The commands of the non-volatile store (spec/16 R413-R417), and the two commands that run tests and
calibrations in the controllers (R142, R387, R401, R421, R422). -/

namespace Sys2Proof.Machine

/-! ## The store -/

/-- NV_WRITE: exactly PAGE and 4,096 bytes (R417), in the user region (R413). -/
def execNvWrite (h : Hdr) (w0 : W32) (data : List Byte) (s : State) : Res :=
  .next (s.runCmd h 0x50 false (fun s =>
    if data.length ≠ 4096 then s.finish h 0x50 stBadParam
    else if w0.toNat < 256 ∨ 8191 < w0.toNat then s.finish h 0x50 stRange
    else s.startLong .ci h 0x50 w0 [] (fun s =>
      s.nvPush { page := w0.toNat, data, vals := [], h := some h, op := 0x50 })))

/-- NV_READ (R415, R417). -/
def execNvRead (h : Hdr) (w0 w1 w2 : W32) (s : State) : Res :=
  .next (s.runCmd h 0x51 false (fun s =>
    let off := w1.toNat
    let len := w2.toNat
    if off % 4 ≠ 0 ∨ len % 4 ≠ 0 then s.finish h 0x51 stMisaligned
    else if len = 0 then s.finish h 0x51 stBadParam
    else if 4096 < off + len ∨ 8191 < w0.toNat then s.finish h 0x51 stRange
    else match s.nvCopy w0.toNat with
      | none => (s.flag nvFlags 1).finish h 0x51 stInternal
      | some c =>
        s.finish h 0x51 stOk (beWords (len / 4) ((List.range len).map (fun i => NvCopy.byte c w0.toNat (off + i))))))

/-- A page program ends: PINNED follows the page of the pinned address (R303, R313), and the command that the program
belongs to ends. -/
def State.nvAnswer (s : State) (j : NvJob) (ok : Bool) : State :=
  let s := if ok && j.page == pgAddr then s.setBit aMgmtStatus 4 (j.vals.getD 0 0 != 0) else s
  match j.h, s.cmd.ci with
  | some h, some l => if l.h = h then s.endLong .ci (if ok then stOk else stInternal) else s
  | _, _ => s

/-- NV_PROGRAM_DONE: the page program in progress ends, its verification having failed verifyFails times; a thermal
shutdown that waited for it follows (R394). -/
def execNvProgramDone (verifyFails : Nat) (s : State) : Res :=
  match s.nv.jobs with
  | [] => .next s
  | j :: js =>
    if !s.hostAlive then .next s
    else
      let (ok, s) := s.nvWrite j verifyFails
      let s := (State.nvShow { s with nv := { s.nv with jobs := js } }).nvAnswer j ok
      .next (if s.bit aHhStatus 24 then (State.nvShow { s with nv := { s.nv with jobs := [] } }).hostStop else s)

/-! ## Calibration and self-tests -/

/-- Tiles of the named yokes among 16 tiles of one type: type t, YOKES as a mask. -/
def yokeMaskTiles (t yokes : Nat) : List Nat :=
  ((List.range 16).filter (fun i => yokes.testBit (i / 4))).map (16 * t + ·)

/-- A tile's engine holds accepted work or is RUNNING, WAITING or HALTED (R142, R422). -/
def State.tileBusy (s : State) (n : Nat) : Bool :=
  s.tileActive n || (List.range (engsInTile n)).any (fun i => s.holdsWork (engOfTile n i))

/-- A calibration of tiles that the governor admits one by one (R142, R387). -/
def State.calTiles (s : State) (h : Hdr) (w0 : W32) (t : Nat) : State :=
  let tiles := yokeMaskTiles t (wfld w0 11 8)
  if 4096 ≤ w0.toNat then s.finish h 0x30 stBadParam
  else if !s.refPresent || tiles.any s.tileBusy then s.finish h 0x30 stBusy
  else s.startLong .fm h 0x30 w0 tiles (fun s =>
    if tiles.isEmpty then s.endLong .fm stOk
    else foldS tiles (fun n s => s.govAsk (.tile n true) none (engOfTile n 0)) s)

/-- CALIBRATE by its KIND (R294). -/
def State.calibrate (s : State) (h : Hdr) (w0 : W32) : State :=
  match wfld w0 7 0 with
  | 0 => s.runCmd h 0x30 true (fun s => s.calTiles h w0 1)
  | 1 => s.runCmd h 0x30 true (fun s => s.calTiles h w0 2)
  | 2 => s.runCmd h 0x30 false (fun s =>
      if 4096 ≤ w0.toNat then s.finish h 0x30 stBadParam
      else s.startLong .ci h 0x30 w0 [] (fun s => s.hkCalStart .host))
  | 3 => s.runCmd h 0x30 true (fun s =>
      if 4096 ≤ w0.toNat then s.finish h 0x30 stBadParam
      else if !s.refPresent then s.finish h 0x30 stBusy
      else s.startLong .fm h 0x30 w0 [] (fun s => s.hkCalStart .field))
  | _ => s.runCmd h 0x30 false (fun s => s.finish h 0x30 stBadParam)

/-- CALIBRATE, KIND 0. -/
def execCalibrateReadout (h : Hdr) (w0 : W32) (s : State) : Res := .next (s.calibrate h w0)
/-- CALIBRATE, KIND 1. -/
def execCalibrateFlux (h : Hdr) (w0 : W32) (s : State) : Res := .next (s.calibrate h w0)
/-- CALIBRATE, KIND 2. -/
def execCalibrateHostHk (h : Hdr) (w0 : W32) (s : State) : Res := .next (s.calibrate h w0)
/-- CALIBRATE, KIND 3. -/
def execCalibrateFieldHk (h : Hdr) (w0 : W32) (s : State) : Res := .next (s.calibrate h w0)

/-- The controller and the yoke scope of a TEST (R421); none for a reserved one. -/
def testKind (test : Nat) : Option (Ctl × Bool) :=
  match test with
  | 0x01 => some (.fm, false)
  | 0x02 => some (.fm, false)
  | 0x03 => some (.ci, false)
  | 0x10 => some (.fm, true)
  | 0x11 => some (.fm, true)
  | 0x12 => some (.fm, true)
  | 0x20 => some (.ci, false)
  | _ => none

/-- Every tile of the named yokes. -/
def testTiles (yokes : Nat) : List Nat := (List.range 48).filter (fun n => yokes.testBit (yokeOfTile n))

/-- What refuses an out-of-service test BUSY (R422), and a field test without a reference (R433). -/
def State.testBusy (s : State) (c : Ctl) (test yokes : Nat) : Bool :=
  (c == .fm && !s.refPresent) ||
  (decide (0x10 ≤ test) && (testTiles yokes).any s.tileBusy) ||
  (test == 0x10 && (List.range 16).any (fun k => yokes.testBit (k / 4) && !s.pocketQuiet k)) ||
  (test == 0x20 && (List.range 32).any (fun n => s.dmaSt n != 0 && s.dmaSt n != 5 && s.dmaSt n != 6))

/-- CONVERTER_LOOP isolates its ports (R422): a flux port is held at 0 V until the test ends. -/
def State.isolate (s : State) (yokes : Nat) : State :=
  foldS (((testTiles yokes).filter (fun n => tileType n == 2)).flatMap tilePorts) (fun p s =>
    s.clampBegin { port := p, start := s.pin, release := s.pin + 8000000, started := false, wasAwake := false }) s

/-- SELF_TEST (R421, R422). -/
def State.selfTest (s : State) (h : Hdr) (w0 : W32) : State :=
  let test := wfld w0 15 0
  let yokes := wfld w0 19 16
  match testKind test with
  | none => s.runCmd h 0x31 false (fun s => s.finish h 0x31 stBadParam)
  | some (c, byYoke) =>
    s.runCmd h 0x31 (c == .fm) (fun s =>
      if 0x100000 ≤ w0.toNat ∨ byYoke ≠ (yokes != 0) then s.finish h 0x31 stBadParam
      else if s.testBusy c test yokes then s.finish h 0x31 stBusy
      else s.startLong c h 0x31 w0 [] (fun s => if test = 0x11 then s.isolate yokes else s))

/-- SELF_TEST CANARY_SWEEP. -/
def execCanarySweep (h : Hdr) (w0 : W32) (s : State) : Res := .next (s.selfTest h w0)
/-- SELF_TEST SENSOR_CHECK. -/
def execSensorCheck (h : Hdr) (w0 : W32) (s : State) : Res := .next (s.selfTest h w0)
/-- SELF_TEST NV_VERIFY. -/
def execNvVerify (h : Hdr) (w0 : W32) (s : State) : Res := .next (s.selfTest h w0)
/-- SELF_TEST MEM_BIST. -/
def execMemBist (h : Hdr) (w0 : W32) (s : State) : Res := .next (s.selfTest h w0)
/-- SELF_TEST CONVERTER_LOOP. -/
def execConverterLoop (h : Hdr) (w0 : W32) (s : State) : Res := .next (s.selfTest h w0)
/-- SELF_TEST ENGINE_CHECK. -/
def execEngineCheck (h : Hdr) (w0 : W32) (s : State) : Res := .next (s.selfTest h w0)
/-- SELF_TEST HOST_MEM. -/
def execHostMem (h : Hdr) (w0 : W32) (s : State) : Res := .next (s.selfTest h w0)

/-- A self-test's ports return to their configuration before it (R422, R368). -/
def State.unisolate (s : State) : State :=
  foldS (s.hem.clamps.filter (fun c => c.started && c.release - c.start == 8000000)) (fun c s => s.clampEnd c) s

/-- A self-test ends with its result (R421): OK whatever the result; a FAIL sets TEST_FAIL. DETAIL of a PASS is free (log
entry 15). -/
def State.testEnd (s : State) (c : Ctl) (fail : Option W32) : State :=
  let s := s.unisolate
  match fail with
  | some d => (s.endLong c stOk [1, d]).flag bhFlags 3
  | none => (s.draw).endLong c stOk [0, Config.freeWord s.free]

/-- SELF_TEST_DONE. -/
def execSelfTestDone (c : Ctl) (fail : Option W32) (s : State) : Res :=
  .next (if (s.runningTest c).isSome then s.testEnd c fail else s)

end Sys2Proof.Machine
end

