-- ==== Sys2Proof/Machine/Run.lean ====
section
/-! DEFINITION. START, STOP and ABORT (spec/11 R297-R300, spec/03 R69, spec/13 R346, R349): engine sets, what refuses
them, their relay to the units that follow. -/

namespace Sys2Proof.Machine

/-! ## Engine sets (R297) -/

/-- The numbers that a list of set words names. -/
def setBits (ws : List W32) : List Nat :=
  (List.range (32 * ws.length)).filter (fun i => (ws.getD (i / 32) 0).getLsbD (i % 32))

/-- The engines of local qubit q (R107, R297); none where its entry is not valid. -/
def State.qubitEngs (s : State) (q : Nat) : Option (List Nat) :=
  let v := s.word (qmapAddr q)
  if v.getLsbD 31 then
    some ([wfld v 8 0, 512 + wfld v 17 9] ++ (if v.getLsbD 27 then [1024 + wfld v 25 18] else []))
  else none

/-- Words that one module's part of a SET takes; none for the reserved SET. -/
def setWidth : Nat → Option Nat
  | 0 => some 40
  | 1 => some 16
  | 2 => some 0
  | _ => none

/-- The engines that a SET and this module's words name; none for a qubit that is not served. -/
def State.setEngs (s : State) (code : Nat) (ws : List W32) : Option (List Nat) :=
  match code with
  | 0 => some (setBits ws)
  | 1 => ((setBits ws).mapM s.qubitEngs).map (fun l => l.flatten.dedup)
  | _ => some (List.range 1280)

/-- What a SET names in the follow, as far as the lead can tell: QUBIT_MAP of the follow is not known here, so a set of
qubits there counts as every engine (log entry 16). -/
def farEngs (code : Nat) (ws : List W32) : List Nat :=
  match code with
  | 0 => setBits ws
  | 1 => if (setBits ws).isEmpty then [] else List.range 1280
  | _ => List.range 1280

/-- A SET read from a command (R297): local engines and the follow's; none refuses it BAD_PARAM. far is true in the unit
that takes the follow's half. -/
def State.readSet (s : State) (code : Nat) (ws : List W32) (twin far : Bool) : Option (List Nat × List Nat) :=
  match setWidth code with
  | none => none
  | some n =>
    if ws.length ≠ (if twin then 2 * n else n) then none
    else
      let mine := if far then ws.drop n else ws.take n
      let other := if twin && !far then farEngs code (ws.drop n) else []
      match s.setEngs code mine with
      | none => none
      | some l => if l.isEmpty && other.isEmpty && !far then none else some (l, other)

/-! ## Pair states (R300) -/

/-- The status with which the pair state refuses START, STOP and ABORT. -/
def State.pairGate (s : State) (h : Hdr) : Option Byte :=
  let t := twinFlag h
  let p := pairFlag h
  match s.pairState with
  | 0 => if t || p then some stNotPaired else none
  | 1 => if p then some stNotPaired else if t then none else some stBadParam
  | 3 =>
    if s.twinRole = 2 then some stNotOwner
    else if !p then some stBadParam
    else if s.twinRole = 1 then (if t then none else some stBadParam)
    else if t then some stNotPaired else none
  | _ => some stNotOwner

/-- The active relays to its partner: it is joined, or joins at this command (R300, R359). -/
def State.partnerJoined (s : State) : Bool :=
  s.pairState == 3 && s.linkUp .seamB &&
    match tabFind s.pair.hbSeen 5 with
    | some m => m.state.val == 4 || m.state.val == 6
    | none => false

/-- The partner in SYNCING joins at a START that finds no engine in a shot and nothing dirty (R359). -/
def State.partnerJoins (s : State) : Bool :=
  s.pairState == 3 && s.linkUp .seamB && s.pair.copied && s.pair.dirty.isEmpty && !s.anyInShot &&
    match tabFind s.pair.hbSeen 5 with
    | some m => m.state.val == 5
    | none => false

/-- Parts of a list, n long, the last one filled with zeros. -/
def parts24 : Nat → List Byte → List (List Byte)
  | 0, _ => []
  | n + 1, bs => if bs.isEmpty then [] else (bs ++ List.replicate (24 - bs.length) 0).take 24 :: parts24 n (bs.drop 24)

/-- A command packet is relayed over a seam, 24 bytes a part (R345, R349). -/
def State.relayOn (s : State) (b : Bool) (bs : List Byte) : State :=
  let ps := parts24 bs.length bs
  foldS ps.zipIdx (fun p s =>
    s.sendSeam b 0x23 ([p.2, (p.2 + 1 == ps.length).toNat] ++ p.1.map (·.toNat))) s

/-- START, STOP or ABORT goes on to the units that follow: over seam A from a twinset's lead (log entry 17), over seam B
from the active (R300, R346). -/
def State.relayCmd (s : State) (h : Hdr) (op : Nat) (ps : List W32) (joins : Bool) : State :=
  let bs := packetBytes 2 h.dest 0 (BitVec.ofNat 8 op) h.seq h.flags 0 h.tag ps
  let s := if twinFlag h && s.twin && !s.follow && !s.shadow then s.relayOn false bs else s
  if s.partnerJoined || joins then s.relayOn true bs else s

/-! ## START -/

/-- START's words after the header (R294). -/
structure StartReq where
  count : W32
  s0 : W32
  gap : W32
  runId : BitVec 16
  code : Nat
  words : List W32
deriving DecidableEq, Repr

/-- START's parameters, in packet order. -/
def StartReq.params (r : StartReq) : List W32 := [r.count, r.s0, r.gap, r.runId ++ BitVec.ofNat 16 r.code] ++ r.words

/-- An engine cannot start (R69). -/
def EngSt.noStart : EngSt → Bool
  | .running => true
  | .waiting => true
  | .disabled => true
  | _ => false

/-- A tile that a calibration has still to finish (R142, R387). -/
def State.calOn (s : State) (t : Nat) : Bool :=
  (tabFind s.hem.calRun t).isSome || (match s.cmd.fm with
    | some l => l.op == 0x30 && decide (t ∈ l.tiles)
    | none => false)

/-- An out-of-service test holds yoke y (R422). -/
def State.testOn (s : State) (y : Nat) : Bool :=
  match s.runningTest .fm with
  | some t => decide (0x10 ≤ t.1) && t.2.testBit y
  | none => false

/-- What refuses a START of engines BUSY (R69, R142, R347, R391, R392, R422, R433). -/
def State.startBusy (s : State) (engs : List Nat) : Bool :=
  !s.refPresent || s.fieldShut || (s.pairState == 1 && s.pair.lost) ||
  engs.any (fun e => (s.eng e).st.noStart || s.bit aFhStatus (8 + yokeOfEng e) || s.calOn (tileOfEng e) || s.testOn (yokeOfEng e))

/-- The earliest S0 (R298): 400 blocks after acceptance, 800 with TWIN. -/
def State.earliestS0 (s : State) (twin : Bool) : W32 := s.pin + (if twin then 800 else 400)

/-- An engine begins (R69, R73). -/
def State.startEngine (s : State) (id : Nat) (s0 : W32) (e : Nat) : State :=
  let pc := s.fld (engAddr e 0) 13 0
  s.modEng e (fun x => { x.clearShot with
    st := .running, cause := 0, pc, cur := { b := s0, t := 0 }, shotNo := 0, shotStart := s0, s0, set := some id })

/-- The START set begins at S0 (R69, R186, R298): an engine that was HALTED leaves the set it halted in. -/
def State.begin (s : State) (r : StartReq) (engs far : List Nat) (s0 : W32) (twin pair : Bool) : State :=
  let s := if s.anyInShot then s
    else { s with onet := { s.onet with runId := r.runId, seq0 := 0, seq1 := 0 } }
  let id := s.nextSet
  let mend := s.bit aMendCtrl 0 && s.mend.set.isNone
  let g : StartSet :=
    { id, members := engs, far, halted := [], reports := [], shotNo := 0, shotCount := r.count, gap := wfld r.gap 23 0
      s0, shotStart := s0, stopping := false, twin, pair, mender := mend, menderDone := false
      partner := [], lost := false, sentUp := false, leftUp := [] }
  let old := s.sets.map (fun (g : StartSet) => { g with halted := g.halted.filter (fun e => !decide (e ∈ engs)) })
  let s : State := { s with nextSet := id + 1, sets := old ++ [g] }
  let s := foldS engs (fun e s => s.startEngine id s0 e) s
  if mend then (s.modMend (fun m => { m with set := some id })).mendShot s0 else s

/-- The Mender units of a twinset may start together (R209): both enabled with equal W, GROWTH_MAX, CLUSTER_MAX, SEQ_LEN, LAYOUT_SEQ
and MEND_ROUNDS, or neither enabled. r is what the partner's registers hold. -/
def State.mendersAgree (s : State) (r : Nat → W32) : Bool :=
  let same (a hi lo : Nat) : Bool := wfld (r a) hi lo == s.fld a hi lo
  same aMendCtrl 0 0 &&
    (!s.bit aMendCtrl 0 ||
      (same aMendCfg 26 20 && same aMendCfg 19 10 && same aMendCfg 9 4 && same aMendCfg 3 0 && same aMendRounds 15 0 &&
        (List.range 64).all (fun i => same (0x10040200 + 4 * i) 2 0)))

/-- START as the host gives it (R298, R300). With TWIN the halves' Mender registers are compared (R209): the partner's, which no
message carries, are free values (log entry 132). -/
def State.start (s : State) (h : Hdr) (r : StartReq) : State :=
  match s.pairGate h with
  | some st => s.finish h 0x21 st
  | none =>
    match (if 0x1000000 ≤ r.gap.toNat then none else s.readSet r.code r.words (twinFlag h) false) with
    | none => s.finish h 0x21 stBadParam
    | some (engs, far) =>
      let agree := !twinFlag h || s.mendersAgree (Config.partnerReg s.free)
      let s := if twinFlag h then s.draw else s
      if !agree then s.finish h 0x21 stBadParam
      else if s.startBusy engs then s.finish h 0x21 stBusy
      else
        let least := s.earliestS0 (twinFlag h)
        if r.s0 ≠ 0 ∧ blt r.s0 least then s.finish h 0x21 stRefusedLate
        else
          let s0 := if r.s0 = 0 then least else r.s0
          let joins := s.partnerJoins
          let joined := s.partnerJoined
          let s := s.relayCmd h 0x21 ({ r with s0 } : StartReq).params joins
          let s := s.begin r engs far s0 (twinFlag h) (joined || joins)
          let n : W32 := if twinFlag h && r.code == 1 then Config.freeWord s.free else BitVec.ofNat 32 (engs.length + far.length)
          let s := if twinFlag h && r.code == 1 then s.draw else s
          s.finish h 0x21 stOk [s0, n, s.onet.runId.setWidth 32]

/-- START. Bits [15:2] of w3 must be 0. -/
def execStart (h : Hdr) (w0 w1 w2 w3 : W32) (set : List W32) (s : State) : Res :=
  .next (s.runCmd h 0x21 true (fun s =>
    let r : StartReq := { count := w0, s0 := w1, gap := w2, runId := (w3 >>> 16).setWidth 16, code := wfld w3 1 0, words := set }
    if wfld w3 15 2 ≠ 0 then s.finish h 0x21 stBadParam else s.start h r))

/-! ## STOP and ABORT (R299) -/

/-- The START sets that hold a named engine. -/
def State.heldSets (s : State) (engs far : List Nat) : List StartSet :=
  s.sets.filter (fun g => g.members.any (fun e => decide (e ∈ engs)) || g.far.any (fun e => decide (e ∈ far)))

/-- STOP reaches the rendezvous of sets. -/
def State.markStop (s : State) (ids : List Nat) : State :=
  { s with sets := s.sets.map (fun g => if g.id ∈ ids then { g with stopping := true } else g) }

/-- STOP as the host gives it. -/
def State.stop (s : State) (h : Hdr) (w0 : W32) (set : List W32) : State :=
  match s.pairGate h with
  | some st => s.finish h 0x22 st
  | none =>
    match (if 4 ≤ w0.toNat then none else s.readSet w0.toNat set (twinFlag h) false) with
    | none => s.finish h 0x22 stBadParam
    | some (engs, far) =>
      match (s.heldSets engs far).map (·.id) with
      | [] => s.finish h 0x22 stOk [0, 0]
      | id :: ids =>
        s.startLong .fm h 0x22 w0 [] (fun s =>
          let s := s.relayCmd h 0x22 (w0 :: set) false
          let s := s.markStop (id :: ids)
          { s with cmd := { s.cmd with stops := s.cmd.stops ++ [(h, id :: ids)] } })

/-- STOP. -/
def execStop (h : Hdr) (w0 : W32) (set : List W32) (s : State) : Res :=
  .next (s.runCmd h 0x22 true (fun s => s.stop h w0 set))

/-- Block E of an ABORT (R57): the block named, or the earliest, which counts a crossing of 20 blocks for each seam that the
command crosses (log entry 18). -/
def State.abortBlock (s : State) (h : Hdr) (w0 : W32) : W32 :=
  let least := s.effBlock + (if twinFlag h then 20 else 0) + (if pairFlag h then 20 else 0)
  if w0 = 0 then least else bmax w0 least

/-- ABORT acts on the sets that hold a named engine. -/
def State.abortAt (s : State) (engs far : List Nat) (e : W32) : State :=
  let gs := s.heldSets engs far
  if gs.isEmpty then s
  else s.askRemoval (.abort (gs.map (·.id)) ((gs.flatMap (fun g => g.members ++ g.halted)).dedup) e)

/-- ABORT as the host gives it. -/
def State.abort (s : State) (h : Hdr) (w0 w1 : W32) (set : List W32) : State :=
  match s.pairGate h with
  | some st => s.finish h 0x23 st
  | none =>
    match (if 4 ≤ w1.toNat then none else s.readSet w1.toNat set (twinFlag h) false) with
    | none => s.finish h 0x23 stBadParam
    | some (engs, far) =>
      let e := s.abortBlock h w0
      let s := s.relayCmd h 0x23 (e :: w1 :: set) false
      (s.abortAt engs far e).finish h 0x23 stOk [e]

/-- ABORT. -/
def execAbort (h : Hdr) (w0 w1 : W32) (set : List W32) (s : State) : Res :=
  .next (s.runCmd h 0x23 true (fun s => s.abort h w0 w1 set))

/-! ## Relayed commands (R300, R346, R349) -/

/-- A unit in SYNCING becomes STANDBY at the START that is relayed to it (R359). -/
def State.joinAtStart (s : State) : State :=
  if s.pairState = 5 then (s.pairRise 4).flag pairFlags 9 else s

/-- A relayed START: the relaying unit's S0 applies; nothing starts where an engine of the set cannot (R69). -/
def State.startRelayed (s : State) (h : Hdr) (ps : List W32) : State :=
  let w3 := ps.getD 3 0
  let r : StartReq := { count := ps.getD 0 0, s0 := ps.getD 1 0, gap := ps.getD 2 0, runId := (w3 >>> 16).setWidth 16
                        code := wfld w3 1 0, words := ps.drop 4 }
  let s := if s.shadow then s.joinAtStart else s
  let s := s.relayCmd h 0x21 ps s.partnerJoins
  match s.readSet r.code r.words (twinFlag h) s.follow with
  | none => s
  | some (engs, far) =>
    if s.startBusy engs then s else s.begin r engs far r.s0 (twinFlag h) (s.shadow || s.partnerJoined)

/-- A relayed STOP or ABORT. -/
def State.stopRelayed (s : State) (h : Hdr) (op : Nat) (ps : List W32) : State :=
  let s := s.relayCmd h op ps false
  if op = 0x22 then
    match s.readSet (wfld (ps.getD 0 0) 1 0) (ps.drop 1) (twinFlag h) s.follow with
    | none => s
    | some (engs, far) => s.markStop ((s.heldSets engs far).map (·.id))
  else
    match s.readSet (wfld (ps.getD 1 0) 1 0) (ps.drop 2) (twinFlag h) s.follow with
    | none => s
    | some (engs, far) => s.abortAt engs far (bmax (ps.getD 0 0) s.effBlock)

end Sys2Proof.Machine
end

