-- ==== Sys2Proof/Machine/Pair.lean ====
section
/-! DEFINITION. Pairing (spec/13 R340-R361): joining, heartbeats and digests, giving up and taking control, return of a
repaired unit. -/

namespace Sys2Proof.Machine

/-! ## PAIR_JOIN and HELLO (R342-R344) -/

/-- A rejoin of a twinset unit in its own role (R342, R347). -/
def State.rejoins (s : State) (role : Nat) : Bool :=
  s.pair.lost && ((s.pairState == 1 && role == 0) || (s.pairState == 2 && role == 1))

/-- The status PAIR_JOIN is refused with (R342). -/
def State.joinRefusal (s : State) (w0 : W32) : Option Byte :=
  let role := wfld w0 2 0
  if s.anyActive || s.pair.joining then some stBusy
  else if s.pairState ≠ 0 ∧ !s.rejoins role then some stNotPaired
  else if (w0 &&& ~~~0x107#32) ≠ 0 ∨ s.pins.pairPresent ≠ decide (2 ≤ role) then some stBadParam
  else none

/-- PAIR_JOIN. -/
def execPairJoin (h : Hdr) (w0 : W32) (s : State) : Res :=
  .next (s.runCmd h 0x60 true (fun s =>
    match s.joinRefusal w0 with
    | some st => s.finish h 0x60 st
    | none =>
      s.startLong .fm h 0x60 w0 [] (fun s =>
        (if w0.getLsbD 8 then s.setBit aPairCtrl 0 true else s).joinStart (wfld w0 2 0))))

/-- The sources that the partner module's slots have bound with REMOTE = 1, as the hubs exchanged them (spec/06,
"Outcomes across seam A"; log entry 19). -/
def State.boundIs (s : State) (l : List (BitVec 11)) : State :=
  { s with onet := { s.onet with partnerBound := (l.map (·.toNat)).eraseDups } }

/-- HELLO: the roles and the skew are checked; the last HELLO of a join completes it (R343). -/
def State.hello (s : State) (p : LPort) (m : HelloMsg) : State :=
  if !s.pair.joining || !(p ∈ s.pair.waitSeams) then s
  else
    let s := s.setReg 0x10010108 (BitVec.ofInt 32 m.skew)
    let s := if p = .seamA then s.boundIs m.bound else s
    if roleMate p s.pair.role ≠ some m.role.val then s.joinFail stBadParam 3
    else if 1 < m.skew.natAbs then s.joinFail stRange 4
    else
      let s := s.modPair (fun x => { x with
        helloOk := if p ∈ x.helloOk then x.helloOk else x.helloOk ++ [p]
        joint := if p = .seamB then m.state.val == 0 else x.joint })
      if !s.pair.waitSeams.all (fun q => decide (q ∈ s.pair.helloOk)) then s
      else if roleActive s.pair.role && !s.pins.interlock then s.joinFail stBusy 5
      else s.joinDone s.pair.joint

/-- HELLO. -/
def execHello (p : LPort) (m : HelloMsg) (s : State) : Res := .next (s.hello p m)

/-- HELLO_TIMEOUT: 1 s after a seam reached UP. -/
def execHelloTimeout (s : State) : Res :=
  .next (if s.pair.joining && s.pair.waitSeams.any (fun p => s.linkUp p && !decide (p ∈ s.pair.helloOk)) then
    s.joinFail stInternal 2 else s)

/-- AUTO_JOIN_RETRY: a failed join, or one of a twinset that lost its partner, is tried again (R343, R347). -/
def execAutoJoinRetry (s : State) : Res :=
  let role := s.fld aPairCtrl 3 1
  let due := (s.pairState == 0 && s.fld aPairStatus 27 24 != 0) || s.rejoins role
  .next (if s.fieldAlive && s.bit aPairCtrl 0 && !s.pair.joining && due && !s.anyActive then s.joinStart role else s)

/-- SEAM_B_RETRAIN (R344). -/
def execSeamBRetrain (s : State) : Res :=
  .next (if s.pairState = 3 ∧ s.linkSt .seamB = 0 then (s.setBit (linkAddr .seamB 0) 0 true).trainStart .seamB else s)

/-! ## PAIR_SPLIT (R341, R347, R355) -/

/-- PAIR_SPLIT is refused (R347): an unlost twinset and an active unit with an engine in a shot, a copy in progress. -/
def State.splitRefusal (s : State) : Option Byte :=
  match s.pairState with
  | 0 => some stNotPaired
  | 1 => if s.anyInShot && !s.pair.lost then some stBusy else none
  | 2 => if s.anyInShot && !s.pair.lost then some stBusy else none
  | 3 => if s.anyInShot then some stBusy else none
  | 5 => if s.pair.copied then none else some stBusy
  | _ => none

/-- A unit splits (R341, R344, R347): SPLIT goes over its seams, whose ports return to DOWN; a unit that shadowed, or
failed, takes INTERLOCK where the line is high. -/
def State.pairSplit (s : State) : State :=
  let st := s.pairState
  let takes := decide (4 ≤ st) && s.pins.pairPresent && s.pins.interlock
  let s := s.handCancel
  let s := s.twinLeaves
  let s : State := { s with sets := s.sets.map (fun (g : StartSet) => { g with pair := false }) }
  let s := foldS [LPort.seamA, .seamB] (fun p s =>
    ((s.sendSeam (p == .seamB) 0x0E []).setBit (linkAddr p 0) 0 false).linkLeave p 0 []) s
  let s := ((s.setConfig 0).setFld aPairStatus 4 3 0).setPairSt 0
  let s := s.modPair (fun p => { Pair.reset with unmuted := p.unmuted, seq := p.seq })
  let s := s.setBit aPairStatus 8 false
  let s :=
    if takes then
      let s := (s.advanceTo s.effBlock).drive true
      s.modPair (fun p => { p with claimAt := some s.pin })
    else s
  s.serveRuns

/-- PAIR_SPLIT. -/
def execPairSplit (h : Hdr) (s : State) : Res :=
  .next (s.runCmd h 0x61 true (fun s =>
    match s.splitRefusal with
    | some st => s.finish h 0x61 st
    | none =>
      let s := s.pairSplit
      s.finish h 0x61 stOk [BitVec.ofNat 32 s.pairState]))

/-- SPLIT: the active partner left (R341, R355). -/
def execSplit (s : State) : Res :=
  let st := s.pairState
  .next (if st = 4 ∨ st = 5 ∨ st = 6 then (s.pairFall 7 6).pairReply 0x63 stInternal else s)

/-! ## Heartbeats (R345, R355) -/

/-- The unit computes the samples of a redundant pair (R340, R349). -/
def State.paired (s : State) : Bool := decide (3 ≤ s.pairState) && decide (s.pairState ≤ 6)

/-- A DIGEST of each block that has passed since the last one sent, of the 64 for which digests are kept (R349). -/
def State.sendDigests (s : State) : State :=
  let n := min 64 (s.pin64 - s.pair.digested).toNat
  let digests := (List.range n).map (fun i =>
    let b := s.pin64 - BitVec.ofNat 64 (n - i)
    b.toNat % 2 ^ 32 :: (List.range 4).map (fun y => (s.yokeDigest y b.toNat).toNat))
  let s := foldS digests (fun d s => s.sendSeam true 0x20 d) s
  s.modPair (fun x => { x with digested := s.pin64 })

/-- HEARTBEAT_SEND. Over seam B of a redundant pair the DIGESTs of the blocks since the last one go with it (log entry 139). -/
def execHeartbeatSend (p : LPort) (s : State) : Res :=
  .next (if isSeam p then
    let s := if p == .seamB && s.linkUp .seamB && s.paired then s.sendDigests else s
    s.sendSeam (p == .seamB) 0x07 [s.pairState, s.twinRole, s.healthy.toNat, s.storm.toNat, s.drives.toNat, s.pin.toNat]
  else s)

/-- The seam over which this unit's partner beats: seam B in a redundant configuration. -/
def State.partnerSeam (s : State) : LPort := if s.redundant then .seamB else .seamA

/-- HEARTBEAT: the partner's state is noted; one that drives INTERLOCK holds the line low. An active unit whose partner
has become STANDBY ends its copy (R359). -/
def State.heartbeat (s : State) (p : LPort) (m : HeartbeatMsg) : State :=
  if !isSeam p || !s.linkUp p then s
  else
    let s := s.modPair (fun x => { x with hbSeen := tabIns (lportKey p) m x.hbSeen })
    let s := if p = .seamA then (m.bound.map s.boundIs).getD s else s
    let s := if p = s.partnerSeam then s.setBit aPairStatus 8 true else s
    if p ≠ .seamB then s
    else
      let s := s.modPair (fun x => { x with hbLost := none })
      let s := if m.state.val = 3 then s.modPair (fun x => { x with released := none, lowFrom := none }) else s
      let s :=
        if m.interlockOut then
          ({ s with pins := { s.pins with interlock := false } }).modPair (fun x => { x with highs := 0, highAt := none })
        else s
      if s.pairState = 3 ∧ m.state.val = 4 ∧ s.pair.copied then
        s.modPair (fun x => { x with copying := false, copied := false, dirty := [], todo := [] })
      else s

/-- HEARTBEAT. -/
def execHeartbeat (p : LPort) (m : HeartbeatMsg) (s : State) : Res := .next (s.heartbeat p m)

/-- HEARTBEAT_LOST (R345, R355): a standby with the line low sets ACTIVE_SILENT; with the line high it may claim. -/
def State.heartbeatLost (s : State) (p : LPort) : State :=
  let s := s.modPair (fun x => { x with hbSeen := tabDel (lportKey p) x.hbSeen })
  let s := if p = s.partnerSeam then s.setBit aPairStatus 8 false else s
  if p ≠ .seamB then s
  else
    let s := s.modPair (fun x => { x with hbLost := some (x.hbLost.getD s.pin) })
    if s.pairState ≠ 4 then s
    else if s.pins.interlock then s.claimTry
    else s.flag pairFlags 12

/-- HEARTBEAT_LOST. -/
def execHeartbeatLost (p : LPort) (s : State) : Res := .next (s.heartbeatLost p)

/-! ## Digests (R349, R350) -/

/-- The unit keeps its digests for the latest 64 blocks (R349). -/
def State.keepsDigest (s : State) (b : W32) : Bool := decide (0 ≤ bdiff s.pin b) && decide (bdiff s.pin b < 64)

/-- The first yoke whose digest differs from the partner's. -/
def State.digestDiffers (s : State) (block : W32) (d : List W32) : Option (Fin 4) :=
  (List.finRange 4).find? (fun y => d.getD y.val 0 != s.yokeDigest y.val (s.block64 block).toNat)

/-- A digest mismatch (R350): the first since DIGEST_MISMATCH was cleared is recorded and its detail asked for; a standby
enters SUSPECT with cause 1. -/
def State.mismatch (s : State) (block : W32) (y : Fin 4) : State :=
  let s := s.addSat 0x10020024 1
  let s :=
    if s.bit 0x10020008 10 then s
    else
      (((s.setReg 0x1002001C block).setReg 0x10020020 (BitVec.ofNat 32 y.val)).flag pairFlags 10).sendSeam true 0x21
        [block.toNat, y.val]
  if s.pairState = 4 then s.pairFall 6 1 else s

/-- DIGEST. -/
def execDigest (block : W32) (d : List W32) (s : State) : Res :=
  if s.linkUp .seamB && s.paired && s.keepsDigest block then
    match s.digestDiffers block d with
    | some y => .next (s.mismatch block y)
    | none => .next s
  else .next s

/-- DIGEST_GAP: a partner digest is missing for 64 blocks while seam B is UP. -/
def execDigestGap (s : State) : Res :=
  .next (if s.linkUp .seamB && decide (3 ≤ s.pairState) then s.flag pairFlags 11 else s)

/-- DIGEST_REQ: the 112 port digests of a yoke go out, five to a message (R345). -/
def execDigestReq (block : W32) (yoke : Fin 4) (s : State) : Res :=
  if s.keepsDigest block then
    let details := (List.range 23).map (fun i =>
      let ports := (List.range 5).map (5 * i + ·) |>.filter (· < 112)
      [block.toNat, yoke.val, 5 * i, ports.length - 1] ++
        ports.map (fun q => (s.portDigest (yokePort yoke.val q) (s.block64 block).toNat).toNat))
    .next (foldS details (fun d s => s.sendSeam true 0x22 d) s)
  else .next s

/-- DIGEST_DETAIL: the first port that differs is recorded in DIGEST_WHERE. -/
def State.digestDetail (s : State) (block : W32) (yoke : Fin 4) (first : Nat) (ds : List W32) : State :=
  let asked := s.bit 0x10020008 10 && s.reg 0x1002001C == block && s.fld 0x10020020 1 0 == yoke.val
  if !asked || !s.keepsDigest block then s
  else
    match ds.zipIdx.find? (fun d => first + d.2 < 112 && d.1 != s.portDigest (yokePort yoke.val (first + d.2)) (s.block64 block).toNat) with
    | none => s
    | some d =>
      let q := first + d.2
      if s.bit 0x10020020 9 && decide (s.fld 0x10020020 8 2 ≤ q) then s
      else (s.setFld 0x10020020 8 2 q).setBit 0x10020020 9 true

/-- DIGEST_DETAIL. -/
def execDigestDetail (block : W32) (yoke : Fin 4) (first : Fin 112) (ds : List W32) (s : State) : Res :=
  .next (s.digestDetail block yoke first.val ds)

/-! ## RELAY (R345, R349) -/

/-- The header and parameters of a relayed packet. -/
def relayedPkt (bs : List Byte) : Hdr × Nat × List W32 :=
  let b := fun i => bs.getD i 0
  let half := fun i => b i ++ b (i + 1)
  let n := (half 6).toNat
  ({ port := .mgmtUp, mac := 0, ver := b 0, dest := b 1, flags := half 8, seq := half 4, tag := beWord ((bs.drop 12).take 4)
     crc := beWord ((bs.drop (16 + n)).take 4) }, (b 3).toNat, beWords (n / 4) ((bs.drop 16).take n))

/-- A relayed command is executed by the unit that follows (R300, R349). -/
def State.relayed (s : State) (bs : List Byte) : State :=
  let (h, op, ps) := relayedPkt bs
  if op = 0x21 then s.startRelayed h ps
  else if (op = 0x22 ∨ op = 0x23) ∧ s.pairState ≠ 5 then s.stopRelayed h op ps
  else s

/-- RELAY: parts are joined; the last one's packet is executed by a follow or a unit that shadows. -/
def State.relay (s : State) (part : Nat) (last : Bool) (data : List Byte) : State :=
  if !(s.shadow || s.follow) then s
  else
    let bs := (if part = 0 then [] else s.pair.relay) ++ data
    let s := s.modPair (fun p => { p with relay := if last then [] else bs })
    if last then s.relayed bs else s

/-- RELAY. -/
def execRelay (part : Nat) (last : Bool) (data : List Byte) (s : State) : Res := .next (s.relay part last data)

/-! ## Giving up control (R352, R353, R356, R357) -/

/-- The condition of an orderly cause (R352), in the order of its table: FM machine check, refusal storm, thermal,
Lining, seam A. That the standby pair's seam A is UP no message says: the command that names the cause does. -/
def State.causeHolds (s : State) (c : Nat) : Bool :=
  match c with
  | 0 => s.bit (ctrlFlags .fm).addr 0
  | 1 => s.storm && !(match tabFind s.pair.hbSeen 5 with | some m => m.storm | none => false)
  | 2 => s.hot112
  | 3 => !s.fieldUp || decide (s.fld aFmLining 8 2 < 38)
  | 4 => s.twin && !s.linkUp .seamA
  | _ => false

/-- An orderly cause is acted on (R352): its enable bit is 1, this unit is active and no handover is under way. -/
def State.mayGive (s : State) (c : Nat) : Bool :=
  s.pairState == 3 && s.pair.hand.isNone && decide (c ≤ 4) && s.bit aPairCfg (8 + c) && s.causeHolds c

/-- An orderly release begins: the active lead, or the active of a pair alone, chooses H; the active follow asks the lead
(R357). -/
def State.giveUp (s : State) (c : Nat) : State :=
  if s.twin && s.follow then (s.modPair (fun p => { p with lastCause := c })).sendSeam false 0x0B [c, 0]
  else s.handStart s.handEarliest c false

/-- RELEASE_CAUSE (R352): causes 0-4 are orderly; 6 and 7 are immediate and take the unit off the pins. Cause 5 is
PAIR_HANDOVER's, 8 INTERLOCK_HIGH's, and 9 a loss of power or reset that does it by itself. -/
def execReleaseCause (cause : Fin 10) (s : State) : Res :=
  let c := cause.val
  if s.mayGive c then .next (s.giveUp c)
  else if s.pairState = 3 ∧ (c = 6 ∧ s.fieldShut ∨ c = 7) then
    .next (s.releaseNow (s.pin + 1) c 4)
  else .next s

/-- HANDOVER_RETRY: every 1 ms while the cause of a cancelled handover lasts (R353). -/
def execHandoverRetry (s : State) : Res :=
  .next (if s.mayGive s.pair.lastCause then s.giveUp s.pair.lastCause else s)

/-- The status PAIR_HANDOVER is refused with (R356). -/
def State.handRefusal (s : State) (w0 : W32) : Option Byte :=
  if s.pairState = 0 then some stNotPaired
  else if s.pairState ≠ 3 ∨ (s.twin ∧ s.follow) then some stNotOwner
  else if s.pair.hand.isSome then some stBusy
  else if w0 ≠ 0 ∧ blt w0 s.handEarliest then some stRefusedLate
  else none

/-- PAIR_HANDOVER. -/
def execPairHandover (h : Hdr) (w0 : W32) (s : State) : Res :=
  .next (s.runCmd h 0x62 true (fun s =>
    match s.handRefusal w0 with
    | some st => s.finish h 0x62 st
    | none =>
      s.startLong .fm h 0x62 w0 [] (fun s =>
        let s := s.handStart (if w0 = 0 then s.handEarliest else w0) 5 true
        if s.linkUp .seamB then s else s.handCancel)))

/-- A recipient accepts H (R353): a healthy STANDBY, or the active follow, with H at least 8 blocks ahead. -/
def State.acceptsHand (s : State) (h : W32) : Bool :=
  ((s.pairState == 4 && s.healthy) || (s.pairState == 3 && s.twin && s.follow)) && decide (8 ≤ bdiff h s.pin)

/-- The seam a HANDOVER came over, to which its answer returns: cause 9 is a claim's, which reaches the follow's pair
through its claimant (R357). -/
def State.handBack (s : State) (cause : Nat) : Bool :=
  if s.twin && s.follow then (if s.pairState = 3 then cause == 9 else false) else true

/-- HANDOVER: accepted, it is held for its block and, by a standby of a redundant twinset, passed on; the answer goes
back (R353, R357). REASON of a refusal is stated nowhere: free. -/
def State.handover (s : State) (seq : Byte) (h : W32) (cause : Nat) : State :=
  if !(s.pairState == 4 || (s.pairState == 3 && s.twin && s.follow)) then s
  else
    let back := s.handBack cause
    if s.acceptsHand h then
      let giving := s.pairState == 3
      let s := s.modPair (fun p => { p with hand := some { h, cause, acks := [], seq, giving, host := false } })
      let onward := s.twin && s.pairState == 4 && (if s.follow then cause == 9 else cause != 9)
      let s := if onward then s.sendSeam s.follow 0x09 [seq.toNat, h.toNat, cause] else s
      s.sendSeam back 0x0A [seq.toNat, h.toNat, 1, 0]
    else (s.sendSeam back 0x0A [seq.toNat, h.toNat, 0, wfld (Config.freeWord s.free) 3 0]).draw

/-- HANDOVER. -/
def execHandover (seq : Byte) (h : W32) (cause : Fin 16) (s : State) : Res := .next (s.handover seq h cause.val)

/-- HANDOVER_ACK: the unit that chose H counts it or cancels; a standby that passed HANDOVER on passes its answer
back. -/
def State.handAck (s : State) (p : LPort) (seq : Byte) (accept : Bool) : State :=
  match s.pair.hand with
  | none => s
  | some x =>
    if x.seq ≠ seq then s
    else if s.pairState = 3 then
      if !(p ∈ x.acks) then s
      else if accept then s.modPair (fun q => { q with hand := some { x with acks := x.acks.erase p } })
      else s.handCancel
    else if s.pairState = 4 ∧ s.twin then
      s.sendSeam (p == .seamA) 0x0A [seq.toNat, x.h.toNat, accept.toNat, if accept then 0 else wfld (Config.freeWord s.free) 3 0]
    else s

/-- HANDOVER_ACK. -/
def execHandoverAck (p : LPort) (seq : Byte) (accept : Bool) (s : State) : Res := .next (s.handAck p seq accept)

/-- HANDOVER_ACK_TIMEOUT: an answer is missing 4 blocks before H. -/
def execHandoverAckTimeout (s : State) : Res :=
  match s.pair.hand with
  | some x => .next (if s.pairState = 3 ∧ x.acks ≠ [] then (s.advanceTo (x.h - 4)).handCancel else s)
  | none => .next s

/-- Control leaves this unit at H (R353): STANDBY on the host's request, else SUSPECT with cause 4. -/
def State.handGive (s : State) (x : Handing) : State :=
  let s := s.setLive false
  let s := if x.cause = 5 then s.pairRise 4 else s.pairFall 6 4
  let s := s.flag pairFlags 4
  if x.host then s.pairReply 0x62 stOk [x.h] else s

/-- Control reaches this unit at H. -/
def State.handTake (s : State) : State := ((s.drive true).setLive true).pairRise 3

/-- HANDOVER_BLOCK (R353): the standby drives INTERLOCK from H - 2; the commits due by H apply first (R129); the line stays low throughout; the former active stops driving
it at H + 2. -/
def execHandoverBlock (s : State) : Res :=
  match s.pair.hand with
  | none => .next s
  | some x =>
    if x.acks ≠ [] then .next s
    else
      let s := if !x.giving && s.pairState == 4 then (s.advanceTo (x.h - 2)).drive true else s
      let s := s.advanceTo x.h
      let s := s.commitsTo x.h s.hem.commits.length
      let s := s.modPair (fun p => { p with hand := none, lastCause := 15 })
      let s := if x.giving then s.handGive x else if s.pairState = 4 then s.handTake else s
      let s := ((s.setReg aHandBlock x.h).addSat 0x10020014 1).flag pairFlags 5
      .next (if x.giving then ((s.advanceTo (x.h + 2)).drive false).serveRuns else s.serveRuns)

/-- HANDOVER_REQ (R357): the active lead hands over. ORIGIN 0 is the active follow with a cause of R352: all four units
switch. 1 is the standby lead after a claim in the follow's pair: the lead's own pair switches. 2 is the standby follow
after a claim in the lead's pair: the follow's pair switches. -/
def State.handReq (s : State) (cause origin : Nat) : State :=
  if !(s.pairState == 3 && s.twin && !s.follow && s.pair.hand.isNone) then s
  else if origin = 0 then s.handStart s.handEarliest cause false
  else if origin = 1 then s.handVia s.handEarliest cause false true [.seamB] [.seamB]
  else s.handVia s.handEarliest cause false false [.seamA] [.seamA, .seamA]

/-- HANDOVER_REQ. -/
def execHandoverReq (cause : Fin 16) (origin : Fin 4) (s : State) : Res := .next (s.handReq cause.val origin.val)

/-- CLAIMED (R357): the unit that meets a new active over seam A passes the claim on to the active lead: the standby lead
over seam B, the standby follow over seam A. -/
def execClaimed (_block : W32) (s : State) : Res :=
  .next (if s.twin && s.pairState == 4 then
    (if s.follow then s.sendSeam false 0x0B [9, 2] else s.sendSeam true 0x0B [9, 1]) else s)

/-! ## INTERLOCK and claims (R351, R354, R355) -/

/-- RELEASE: the active gave up control. -/
def execRelease (_cause : Fin 16) (_block : W32) (s : State) : Res :=
  .next ((s.modPair (fun p => { p with released := some s.pin, lowFrom := some s.pin })).claimTry)

/-- A standby, or a unit that shadows, sees INTERLOCK high (R354, R355). -/
def State.lineHigh (s : State) : State :=
  let first := s.pair.highs == 0
  let s := s.modPair (fun p => { p with highs := p.highs + 1, highAt := if first then some s.pin else p.highAt })
  if s.pairState = 4 then
    let s := if s.bit aPairStatus 8 && s.pair.released.isNone && s.linkUp .seamB then s.flag pairFlags 7 else s
    s.claimTry
  else if s.pairState = 6 ∧ !s.linkUp .seamB ∧ s.fld aPairStatus 31 28 = 2 then s.flag pairFlags 8
  else s

/-- INTERLOCK_HIGH: the line reads high at the next block boundary. A unit that drives it releases (R351); one that has
just claimed waits for its unmute boundary (R354). -/
def execInterlockHigh (s : State) : Res :=
  if !s.pins.pairPresent then .next s
  else
    let s := s.advanceTo (s.pin + 1)
    let s : State := { s with pins := { s.pins with interlock := true } }
    if s.pair.claimAt.isSome then .next s
    else if s.drives then
      let s := s.modPair (fun p => { p with highs := 1, highAt := some s.pin })
      .next (s.releaseNow (s.pin + 1) 8 7)
    else .next s.lineHigh

/-- CLAIM_UNMUTE (R354): at the first boundary at least 4 blocks after the decision the claimant, or a unit that split,
unmutes if the line reads low; else it enters PAIR_FAULT with cause 5. -/
def State.claimUnmute (s : State) (at_ : W32) (low : Bool) : State :=
  let s := s.advanceTo (at_ + 4)
  let s := s.modPair (fun p => { p with claimAt := none })
  let s : State := { s with pins := { s.pins with interlock := !low } }
  if !low then (s.drive false).pairFall 7 5
  else
    let s := s.setLive true
    if s.pairState = 4 then
      let s : State := { s with sets := s.sets.map (fun (g : StartSet) => { g with pair := false }) }
      (((s.pairRise 3).setReg aHandBlock at_).flag pairFlags 3).addSat 0x10020018 1 |>.serveRuns
    else s

/-- CLAIM_UNMUTE. -/
def execClaimUnmute (lineLow : Bool) (s : State) : Res :=
  match s.pair.claimAt with
  | some b => .next (s.claimUnmute b lineLow)
  | none => .next s

/-- INTERLOCK_LOW_TIMEOUT (R355): the line stays low for 8 blocks after a RELEASE, or for 40 after seam B was lost. -/
def execInterlockLowTimeout (s : State) : Res :=
  match s.pair.lowFrom with
  | none => .next s
  | some b =>
    if s.pairState ≠ 4 ∨ s.pins.interlock ∨ s.pair.claimAt.isSome then .next s
    else
      let up := s.linkUp .seamB
      if up && s.pair.released.isNone then .next s
      else
        let s := (s.advanceTo (b + (if up then 8 else 40))).modPair (fun p => { p with lowFrom := none })
        .next (if up then (s.pairFall 7 7).flag pairFlags 8 else (s.pairFall 6 2).flag pairFlags 0)

/-! ## Return of a repaired unit (R358, R359) -/

/-- The pages that hold what is copied (R358). -/
def copiedPages : List Nat :=
  [0x10008, 0x10010] ++ (List.range 7).map (0x10031 + ·) ++ (List.range 12).map (0x10040 + ·) ++
  (List.range 32).map (0x11000 + ·) ++ (List.range 512).map (0x12000 + ·) ++
  (List.range 48).flatMap (fun n =>
    ([0x8, 0xA, 0xB, 0xC] ++ (if tileType n = 1 then [0xE, 0x10, 0x11, 0x12, 0x13] ++ (List.range 64).map (0x200 + ·) else []) ++
      (List.range 32).map (0x100 + ·) ++ (List.range (if tileType n = 1 then 256 else 512)).map (0x400 + ·)).map
      (tileBase n / 4096 + ·))

/-- A word as it is copied: a register's written value, a word of memory. -/
def State.rawWord (s : State) (a : Nat) : W32 :=
  match locate a with
  | .mem _ => s.word a
  | .reg _ _ _ => s.reg a
  | _ => 0

/-- A page goes to the syncing unit, 16 bytes a message (R345). -/
def State.sendPage (s : State) (pg : Nat) : State :=
  foldS (List.range 256) (fun i s =>
    let a := 4096 * pg + 16 * i
    let ws := (List.range 4).map (fun j => a + 4 * j)
    if ws.any isCopied then
      s.sendSeam true 0x24 (a :: (ws.flatMap (fun x => leBytes (s.rawWord x))).map (·.toNat))
    else s) s

/-- RESYNC_LEFT: KiB left in the pass, and whether it is a dirty pass. -/
def State.resyncLeft (s : State) (pages : Nat) (isDirty : Bool) : State :=
  s.setReg 0x10020028 (BitVec.ofNat 32 (4 * pages + (if isDirty then 0x80000000 else 0)))

/-- A word of copied state is written into the unit (R358): a register's value stands for its shadow and its working
copy. -/
def State.copyWord (s : State) (a : Nat) (v : W32) : State :=
  if !isCopied a then s
  else
    match locate a with
    | .mem m => ((s.envLog a).setWord a (v &&& m)).heal a
    | .reg .rw m _ => ((s.remember a).setReg a (v &&& m)).heal a
    | .reg .rws m _ => (((s.remember a).logPast s.pin64 .work a (s.workReg a)).setReg a (v &&& m)).setWork a (v &&& m)
    | _ => s

/-- RESYNC_DATA. -/
def execResyncData (addr : W32) (data : List W32) (s : State) : Res :=
  .next (if s.pairState = 5 then foldS data.zipIdx (fun d s => s.copyWord (addr.toNat + 4 * d.2) d.1) s else s)

/-- RESYNC_CTRL (R358): begin and abandon at the active; pass ends, done and abandon at the syncing unit. -/
def State.resyncCtrl (s : State) (kind : Nat) (value : W32) : State :=
  if s.pairState = 3 then
    if kind = 0 then
      (s.modPair (fun p => { p with copying := true, copied := false, dirty := [], todo := copiedPages })).resyncLeft
        copiedPages.length false
    else if kind = 4 then s.modPair (fun p => { p with copying := false, copied := false, dirty := [], todo := [] })
    else s
  else if s.pairState = 5 then
    if kind = 1 ∨ kind = 2 then s.setReg 0x10020028 value
    else if kind = 3 then
      ((s.setReg 0x10020028 0).modPair (fun p => { p with copied := true })).pairReply 0x63 stOk
    else if kind = 4 then (s.pairFall 6 8).pairReply 0x63 stInternal
    else s
  else s

/-- RESYNC_CTRL. -/
def execResyncCtrl (kind : Fin 16) (value : W32) (s : State) : Res := .next (s.resyncCtrl kind.val value)

/-- RESYNC_PASS_END: the pass's pages have gone; the pages written meanwhile are next, or the copy is done (R358,
R359). -/
def execResyncPassEnd (s : State) : Res :=
  if s.pairState ≠ 3 ∨ !s.pair.copying then .next s
  else
    let s := foldS s.pair.todo (fun pg s => s.sendPage pg) s
    let d := s.pair.dirty
    if d.isEmpty then
      let s := (s.modPair (fun p => { p with todo := [], copied := true })).resyncLeft 0 false
      .next (s.sendSeam true 0x25 [3, 0])
    else
      let again := s.fld 0x10020028 31 31
      let s := (s.modPair (fun p => { p with todo := d, dirty := [] })).resyncLeft d.length true
      .next (s.sendSeam true 0x25 [1 + again, (s.reg 0x10020028).toNat])

/-- The status PAIR_RESYNC is refused with (R358, R291). -/
def State.resyncRefusal (s : State) : Option Byte :=
  match s.pairState with
  | 0 => some stNotPaired
  | 1 => some stNotPaired
  | 2 => some stNotPaired
  | 3 => some stNotOwner
  | 5 => some stBusy
  | _ =>
    let beats := match tabFind s.pair.hbSeen 5 with | some m => m.state.val == 3 | none => false
    if !s.linkUp .seamB || !beats || (s.long .fm).isSome then some stBusy else none

/-- The unit's own accepted work is removed as ABORT does at the earliest block (R358). -/
def State.dropAllWork (s : State) : State :=
  s.askRemoval (.abort (s.sets.map (·.id)) (s.engines.map (·.1)) s.effBlock)

/-- An accepted PAIR_RESYNC (R358). The skew over seam B is a measurement that no operand carries: free. -/
def State.resync (s : State) (h : Hdr) : State :=
  let loaded := s.bit aAlign 0
  let skew := Config.freeWord s.free
  let s := if loaded then (s.setReg 0x10010108 skew).draw else s
  if loaded && decide (1 < skew.toInt.natAbs) then s.finish h 0x63 stRange
  else
    let s := (s.dropAllWork.setLive false).pairRise 5
    s.startLong .fm h 0x63 0 [] (fun s =>
      if loaded then s.sendSeam true 0x25 [0, 0]
      else
        let s := s.modTime (fun t => { t with align := some (3, s.pin) })
        ((s.setFld aAlign 2 1 3).setBit aAlign 3 true).setFld aAlign 7 4 0)

/-- PAIR_RESYNC. -/
def execPairResync (h : Hdr) (s : State) : Res :=
  .next (s.runCmd h 0x63 true (fun s =>
    match s.resyncRefusal with
    | some st => s.finish h 0x63 st
    | none => s.resync h))

end Sys2Proof.Machine
end

