-- ==== Sys2Proof/Machine/Ctrl.lean ====
section
/-! DEFINITION. The microcoded controllers (spec/14 R362-R380): interrupts, safe points, aborts, machine checks, patches; and
TEST_UNLOCK, whose key check is theirs (spec/16 R419). -/

namespace Sys2Proof.Machine

/-- A controller's internal state. -/
def State.ctl (s : State) : Ctl → Ctrl
  | .ci => s.ci
  | .fm => s.fm

/-- Set a controller's internal state. -/
def State.setCtl (s : State) (c : Ctl) (x : Ctrl) : State :=
  match c with
  | .ci => { s with ci := x }
  | .fm => { s with fm := x }

/-- A controller's side works and the controller takes commands (R373). -/
def State.ctlAlive (s : State) (c : Ctl) : Bool := (if c = .ci then s.hostAlive else s.fieldAlive) && s.ctlMode c != 4

/-! ## Interrupts (R366) -/

/-- INTERRUPT: taken at once in an ordinary routine; in a privileged one it waits for the safe point. It changes nothing
that the interrupted routine sees. -/
def execInterrupt (c : Ctl) (s : State) : Res :=
  .next (if s.ctlAlive c && (s.long c).isSome then s.setCtl c { s.ctl c with ints := (s.ctl c).ints + 1 } else s)

/-! ## Aborts (R368, R369) -/

/-- ADC_STATUS of a read-out input port. -/
def isAdcStatus (a : Nat) : Bool :=
  0x30000000 ≤ a && a < 0x40000000 && 0xD000 ≤ a % 0x1000000 && a % 0x1000000 < 0xD800 && a % 0x200 == 4

/-- A journal entry is restored (R368): of ADC_STATUS, what a calibration writes. -/
def State.restore (s : State) (a : Nat) (v : W32) : State :=
  let s := s.remember a
  if isAdcStatus a then s.setReg a ((s.reg a &&& 0xFFFFF360#32) ||| (v &&& 0xC9F#32)) else s.setReg a v

/-- A calibration of tiles rolls back (R368): factors restored, converters and ports back as they were. -/
def State.calUndo (s : State) (l : Long) : State :=
  let s := foldS l.journal (fun j s => s.restore j.1 j.2) s
  let run := (List.range 48).filter (fun t => (tabFind s.hem.calRun t).isSome || decide (t ∈ l.tiles))
  let mine := fun (k : GovKind) => match k with | .tile _ cal => cal | _ => false
  let s : State := { s with hem := { s.hem with
    calRun := [], requests := s.hem.requests.filter (fun r => !mine r.kind)
    grants := s.hem.grants.filter (fun g => !(mine g.kind && !g.done)) } }
  foldS run (fun t s =>
    if tileType t = 2 then s.endCalClamps t
    else foldS (List.range 4) (fun i s => s.setBit (adcAddr (4 * (t - 16) + i) 4) 8 false) s) s

/-- A housekeeping calibration rolls back: the scan goes on with the factors as they were. -/
def State.hkUndo (s : State) (d : Side) : State :=
  ((s.setHk d { s.hk d with cal := false, left := s.hkMask d, scanning := true }).setBit (aHkStatus d) 1 false).hkNext d

/-- What a routine does on abort (R368), with OUTCOME: 1 rolled back, 2 ran forward. The JOIN_CAUSE of an aborted join is
stated nowhere: free. -/
def State.undo (s : State) (l : Long) : State × Nat :=
  match l.op.toNat with
  | 0x30 =>
    match wfld l.arg 7 0 with
    | 2 => (s.hkUndo .host, 1)
    | 3 => (s.hkUndo .field, 1)
    | _ => (s.calUndo l, 1)
  | 0x31 => (s.unisolate, 2)
  | 0x41 => (s, 1)
  | 0x63 =>
    let s := s.modTime (fun t => { t with align := none })
    ((((s.setBit aAlign 3 false).sendSeam true 0x25 [4, 0])).pairFall 6 8, 2)
  | 0x60 => ((s.joinFail stInternal (wfld (Config.freeWord s.free) 3 0)).draw, 1)
  | 0x62 => (s.modPair (fun p => { p with hand := p.hand.map (fun h => { h with host := false }) }), 2)
  | 0x22 => ({ s with cmd := { s.cmd with stops := s.cmd.stops.filter (fun x => x.1 != l.h) } }, 2)
  | 0x72 => ((s.modTime (fun t => { t with align := none })).setBit aAlign 3 false, 1)
  | _ => (s, 2)

/-- A routine leaves its controller for good with a final reply. -/
def State.dropLong (s : State) (c : Ctl) (l : Long) (status : Byte) : State × Nat :=
  let (s, out) := (s.setLong c none).undo l
  (if l.answered then s else s.finalReply l.h l.op.toNat status, out)

/-- The routine running in a controller is aborted (R369). -/
def State.abortLong (s : State) (c : Ctl) : State :=
  match s.long c with
  | none => s
  | some l =>
    let (s, out) := (s.setCtl c { s.ctl c with abort := false }).dropLong c l stInternal
    (s.setReg (ctrlAddr c 0x20) (l.h.seq ++ BitVec.ofNat 16 (out * 256 + l.op.toNat))).flag (ctrlFlags c) 4

/-- SAFE_POINT (R367): interrupts run, queued commands are served by their own commands, an abort is made; SAFE_GAP_MAX
keeps the longest interval. -/
def execSafePoint (c : Ctl) (gapNs : Nat) (s : State) : Res :=
  if s.ctlAlive c && (s.long c).isSome then
    let s := (s.setCtl c { s.ctl c with ints := 0 }).maxReg (ctrlAddr c 0x24) (min gapNs 4000)
    .next (if (s.ctl c).abort then s.abortLong c else s)
  else .next s

/-- A write of LONG_ABORT: 1 asks for an abort of the running routine at its next safe point. -/
def State.writeLongAbort (s : State) (c : Ctl) (v : W32) : State :=
  if v.getLsbD 0 && (s.long c).isSome then s.setCtl c { s.ctl c with abort := true } else s

/-- LONG_ABORT. -/
def execLongAbort (c : Ctl) (v : W32) (s : State) : Res := .next (if s.ctlAlive c then s.writeLongAbort c v else s)

/-! ## Machine checks (R370-R373) -/

/-- The SEQ of the command that a controller executes: its routine's, or the front of the queue's; with neither, a free
value. -/
def State.seqOf (s : State) (c : Ctl) (op : Nat) : BitVec 16 :=
  match s.long c, s.cmd.queue with
  | some l, p :: _ => if l.op.toNat = op then l.h.seq else p.h.seq
  | some l, [] => l.h.seq
  | none, p :: _ => p.h.seq
  | none, [] => (Config.freeWord s.free).setWidth 16

/-- An ordinary command that a machine check interrupts ends with MACHINE_CHECK (R371 step 5). -/
def State.failFront (s : State) (op : Nat) : State :=
  match s.cmd.queue with
  | p :: _ => if p.opcode.toNat = op then s.finish p.h op stMachineCheck else s
  | [] => s

/-- A machine check (R371): logged; the controller restarts in safe mode, completes the abort behaviour of its routine and
replies MACHINE_CHECK; one in safe mode halts it (R373). -/
def State.machineCheck (s : State) (c : Ctl) (log : W32) : State :=
  let op := wfld log 7 0
  let safe := s.ctlMode c == 2
  let s := (s.setReg (ctrlAddr c 0x10) log).setReg (ctrlAddr c 0x14) ((s.seqOf c op).setWidth 32)
  let s := (((s.draw).addSat (ctrlAddr c 0x18) 1).flag (ctrlFlags c) 0)
  let s := if c = .fm then s.loseHealth else s
  if safe then (((s.setLong c none).setCtl c Ctrl.reset).setFld (ctrlAddr c 8) 2 0 4).flag (ctrlFlags c) 5
  else
    let s := (((s.setFld (ctrlAddr c 8) 2 0 2).setReg (ctrlAddr c 4) 0).flag (ctrlFlags c) 1).setCtl c Ctrl.reset
    match s.long c with
    | some l =>
      let s := (s.dropLong c l stMachineCheck).1
      if l.op.toNat = op then s else s.failFront op
    | none => s.failFront op

/-- MC_LOG of a machine check (R380). -/
def mcLog (cause : Nat) (space : Bool) (word addr op : Nat) : W32 :=
  BitVec.ofNat 32 (cause * 2 ^ 28 + space.toNat * 2 ^ 27 + word * 2 ^ 24 + space.toNat * 2 ^ 22 + addr * 256 + op)

/-- MACHINE_CHECK: causes 1-6; 6 arises only in safe mode (R370). -/
def execMachineCheck (c : Ctl) (cause : Fin 16) (patchSpace : Bool) (word : BitVec 3) (addr : BitVec 14) (opcode : Byte)
    (s : State) : Res :=
  let k := cause.val
  if !s.ctlAlive c || k = 0 || 6 < k || (k = 6 && s.ctlMode c != 2) then .next s
  else .next (s.machineCheck c (mcLog k patchSpace word.toNat addr.toNat opcode.toNat))

/-- WATCHDOG (R367): a routine without a safe point for 4 µs takes a machine check of cause 5; where it stood, no operand
says: free. -/
def execWatchdog (c : Ctl) (s : State) : Res :=
  match s.long c with
  | some l =>
    if s.ctlAlive c then
      let f := Config.freeWord s.free
      .next (s.draw.machineCheck c (mcLog 5 (f.getLsbD 0) (wfld f 3 1) (wfld f 17 4) l.op.toNat))
    else .next s
  | none => .next s

/-! ## Patches (R374-R378) -/

/-- The controller that a parameter's bit 0 names. -/
def ctlOf (w0 : W32) : Ctl := if w0.getLsbD 0 then .fm else .ci

/-- The key of byte n of a controller's bank. -/
def bankKey (c : Ctl) (b : Bool) (n : Nat) : Nat := (if c = .fm then 0x10000 else 0) + (if b then 0x1000 else 0) + n

/-- The active bank (R380). -/
def State.bank (s : State) (c : Ctl) : Bool := s.bit (ctrlAddr c 8) 3

/-- A byte of a bank. -/
def State.bankByte (s : State) (c : Ctl) (b : Bool) (n : Nat) : Byte := tabGet 0 s.banks (bankKey c b n)

/-- The image that a bank holds (R375). -/
def State.image (s : State) (c : Ctl) (b : Bool) : List Byte := (List.range 2304).map (s.bankByte c b)

/-- Bytes are written into a bank. -/
def State.bankWrite (s : State) (c : Ctl) (b : Bool) (off : Nat) (data : List Byte) : State :=
  foldS data.zipIdx (fun d s => { s with banks := tabSet 0 s.banks (bankKey c b (off + d.2)) d.1 }) s

/-- A controller runs a PATCH_APPLY. -/
def State.applying (s : State) (c : Ctl) : Bool := match s.long c with | some l => l.op == 0x41 | none => false

/-- PATCH_LOAD (R376). -/
def execPatchLoad (h : Hdr) (w0 w1 : W32) (data : List Byte) (s : State) : Res :=
  let c := ctlOf w0
  let off := w1.toNat
  .next (s.runCmd h 0x40 (c == .fm) (fun s =>
    if 2 ≤ w0.toNat then s.finish h 0x40 stBadParam
    else if off % 4 ≠ 0 ∨ data.length % 4 ≠ 0 then s.finish h 0x40 stMisaligned
    else if 2304 < off + data.length then s.finish h 0x40 stRange
    else if s.applying c then s.finish h 0x40 stBusy
    else ((s.bankWrite c (!s.bank c) off data).setBit (ctrlAddr c 8) 4 true).finish h 0x40 stOk))

/-- Check 1 of R377. -/
def State.applyOk (s : State) (w0 w1 : W32) (sig : List W32) : Bool :=
  decide (w0.toNat < 4) && (!w0.getLsbD 1 || s.ctlMode (ctlOf w0) == 2) && (w1 == 2304 || (w1 == 0 && !w0.getLsbD 1)) &&
    (sig.length == 16 || (w1 == 0 && sig.isEmpty))

/-- PATCH_APPLY: checks 1 and 2; the rest follow PENDING (R377). -/
def execPatchApply (h : Hdr) (w0 w1 : W32) (sig : List W32) (s : State) : Res :=
  let c := ctlOf w0
  .next (s.runCmd h 0x41 (c == .fm) (fun s =>
    if !s.applyOk w0 w1 sig then s.finish h 0x41 stBadParam
    else s.startLong c h 0x41 w0 [] (fun s =>
      match s.long c with
      | some l => s.setLong c (some { l with sig := if w1 = 0 then [] else sig })
      | none => s)))

/-- A half word and a word of an image, little-endian (R375). -/
def imgHalf (im : List Byte) (n : Nat) : Nat := (im.getD n 0).toNat + 256 * (im.getD (n + 1) 0).toNat
/-- A word of an image. -/
def imgWord (im : List Byte) (n : Nat) : Nat := imgHalf im n + 65536 * imgHalf im (n + 2)

/-- Bytes [lo, hi) of an image are 0. -/
def imgZero (im : List Byte) (lo hi : Nat) : Bool := ((im.take hi).drop lo).all (· == 0)

/-- Check 3 of R377: MAGIC, CONTROLLER, KEY_SEL, UCODE_VERSION, PATCH_VERSION, the counts, the reserved bytes and the
entries beyond the counts. -/
def imageForm (im : List Byte) (c : Ctl) (ucode : W32) : Bool :=
  imgWord im 0 == 0x51465031 && (im.getD 4 0).toNat == (if c = .fm then 1 else 0) && decide ((im.getD 5 0).toNat ≤ 1) &&
  imgWord im 8 == ucode.toNat && imgWord im 0xC != 0 && decide (imgHalf im 0x10 ≤ 256) && decide (imgHalf im 0x12 ≤ 64) &&
  decide (1 ≤ imgHalf im 0x14) && decide (imgHalf im 0x14 ≤ 32) && imgZero im 6 8 && imgZero im 0x16 0x40 &&
  imgZero im (0x80 + 2 * imgHalf im 0x10) 0x280 && imgZero im (0x280 + 24 * imgHalf im 0x12) 0x880 &&
  imgZero im (0x880 + 4 * imgHalf im 0x14) 0x900

/-- NEXT of an image's nanoword n: its bits [191:177] (R364). -/
def imgNext (im : List Byte) (n : Nat) : Nat := imgHalf im (0x280 + 24 * n + 22) / 2

/-- Check 7 of R377. -/
def imageLinks (im : List Byte) : Bool :=
  let micro := imgHalf im 0x10
  let nano := imgHalf im 0x12
  let ms := ((List.range (imgHalf im 0x14)).map (fun i => imgWord im (0x880 + 4 * i))).filter (2 ^ 31 ≤ ·)
  let roms := ms.map (fun m => m / 65536 % 16384)
  decide (roms.length = roms.dedup.length) && ms.all (fun m => decide (m % 256 < micro)) &&
  (List.range nano).all (fun n => decide (imgNext im n < 2 ^ 14) || decide (imgNext im n % 2 ^ 14 < micro)) &&
  (List.range micro).all (fun i => decide (imgHalf im (0x80 + 2 * i) % 1024 < 0x3C0 + nano))

/-- The page of the customer key slot (DESIGN CHOICE, log entry 12). -/
def pgKey : Nat := 7

/-- A customer key slot that is provisioned and valid (R14, R432, R447). -/
def State.custKey (s : State) : Bool := Config.orderF && (s.nvCopy pgKey).isSome

/-- Checks 4 and 5 of R377. -/
def State.keyOk (s : State) (cust : Bool) (key : List Byte) : Bool := (!cust || s.custKey) && Config.keyHashOk cust key

/-- Checks 3 to 7 of R377: the status of the first that fails. -/
def State.imageStatus (s : State) (c : Ctl) (im : List Byte) (sig : List W32) : Option Byte :=
  if !imageForm im c (s.reg (ctrlAddr c 0)) then some stBadParam
  else if !s.keyOk ((im.getD 5 0).toNat == 1) ((im.drop 0x40).take 64) then some stAuthFail
  else if !Config.sigOk im sig then some stAuthFail
  else if !imageLinks im then some stBadParam
  else none

/-- MATCH[m] shows the match registers of the active bank (R379). -/
def State.showMatch (s : State) (c : Ctl) : State :=
  let im := s.image c (s.bank c)
  foldS (List.range 32) (fun m s => s.setReg (ctrlAddr c (0x80 + 4 * m)) (BitVec.ofNat 32 (imgWord im (0x880 + 4 * m)))) s

/-- A bank's patch becomes active (R378). -/
def State.patchOn (s : State) (c : Ctl) (b : Bool) : State :=
  let im := s.image c b
  let s := ((s.setBit (ctrlAddr c 8) 3 b).setFld (ctrlAddr c 8) 2 0 1).setReg (ctrlAddr c 4) (BitVec.ofNat 32 (imgWord im 0xC))
  s.showMatch c

/-- PATCH_ACTIVATE: the checks after PENDING end (R377, R378). LENGTH 0 turns the patch off. -/
def execPatchActivate (c : Ctl) (s : State) : Res :=
  match s.long c with
  | none => .next s
  | some l =>
    if l.op ≠ 0x41 ∨ !s.ctlAlive c then .next s
    else if l.sig.isEmpty then
      .next ((((s.setFld (ctrlAddr c 8) 2 0 0).setReg (ctrlAddr c 4) 0).setBit (ctrlAddr c 8) 4 false).endLong c stOk)
    else
      let b := if l.arg.getLsbD 1 then s.bank c else !s.bank c
      match s.imageStatus c (s.image c b) l.sig with
      | some st => .next ((s.flag (ctrlFlags c) 3).endLong c st)
      | none =>
        let s := (s.patchOn c b).flag (ctrlFlags c) 2
        .next ((s.setBit (ctrlAddr c 8) 4 false).endLong c stOk)

/-! ## TEST_UNLOCK (R419) -/

/-- The checks of a token in their order. -/
def State.tokenStatus (s : State) (ws : List W32) : Option Byte :=
  let w := fun i => ws.getD i 0
  let dur := (w 4).toNat
  if ws.length ≠ 37 ∨ wfld (w 0) 1 0 = 0 ∨ dur = 0 ∨ 86400 < dur ∨ (w 0 &&& ~~~0x103#32) ≠ 0 then some stBadParam
  else if (ws.drop 1).take 2 ≠ serialWords ∨ w 3 ≠ s.reg 0x0009000C then some stAuthFail
  else if !s.keyOk ((w 0).getLsbD 8) (((ws.drop 5).take 16).flatMap beBytes) then some stAuthFail
  else if !Config.sigOk ((ws.take 21).flatMap beBytes) (ws.drop 21) then some stAuthFail
  else if (w 0).getLsbD 1 && !s.hostUp then some stInternal
  else none

/-- TEST_UNLOCK: a new nonce follows every one; the sides named are unlocked. -/
def execTestUnlock (h : Hdr) (ws : List W32) (s : State) : Res :=
  .next (s.runCmd h 0x78 false (fun s =>
    let st := s.tokenStatus ws
    let s := (s.setReg 0x0009000C (Config.freeWord s.free)).draw
    match st with
    | some st => (s.flag bhFlags 1).finish h 0x78 st
    | none =>
      let s := s.setReg aBhStatus (s.reg aBhStatus ||| (ws.getD 0 0 &&& 3))
      ((s.setReg 0x00090010 (ws.getD 4 0)).flag bhFlags 0).finish h 0x78 stOk))

end Sys2Proof.Machine
end

