-- ==== Sys2Proof/Machine/Access.lean ====
section
/-! DEFINITION. Reads and writes of registers by software (R6-R9, R444): what each register shows, what each write is refused
with, and what it does. -/

namespace Sys2Proof.Machine

/-! ## Reading -/

/-- A word from bit fields: (lowest bit, value) each. -/
def mkWord (l : List (Nat × Nat)) : W32 := BitVec.ofNat 32 (l.foldl (fun n x => n + x.2 * 2 ^ x.1) 0)

/-- A bit as a number. -/
def b2n (b : Bool) : Nat := if b then 1 else 0

/-- One bit for each n below a count. -/
def bitMap (n : Nat) (f : Nat → Bool) : W32 := mkWord ((List.range n).map (fun i => (i, b2n (f i))))

/-- The lowest pending event source, 0x7FF if none (R314). -/
def State.firstPending (s : State) : Nat :=
  ((List.range 1536).find? (fun n => s.bit (aPend (n / 32)) (n % 32))).getD 0x7FF

/-- EVENT_N is driven low (R305). -/
def State.pinActive (s : State) : Bool :=
  s.bit 0x00060000 0 && (List.range 48).any (fun w => s.reg (aPend w) &&& s.reg (aPinEn w) != 0)

/-- HEAD of the chain (R301); from reset until HOST_READY it reads its reset value 0 (DEDUCED, log entry 130; R313). -/
def State.isHead (s : State) : Bool := s.hostReady && (s.pins.chainHead || !s.bit aMgmtStatus 0)

/-- Bits [31:0], [63:32] or the fraction of the mapping's NET_OFFSET (R337). -/
def offsetWord (m : Mapping) (lo : Nat) : W32 := BitVec.ofNat 32 (m.offset / 2 ^ lo)

/-- A register of the host side whose value is not stored but found when it is read (R60, R312-R314, R337, R447). -/
def State.hostComputed (s : State) (a : Nat) : Option W32 :=
  match a with
  | 0x0000000C => some (mkWord [(0, b2n s.custKey)])
  | 0x00010004 => some (mkWord [(0, s.cmd.queue.length), (7, b2n s.cmd.ci.isSome), (8, b2n s.cmd.fm.isSome)])
  | 0x00022000 => some (bitMap 32 (fun n => decide (1 ≤ s.fld (dmaAddr n 8) 2 0 ∧ s.fld (dmaAddr n 8) 2 0 ≤ 4)))
  | 0x00022004 => some (bitMap 32 (fun n => s.reg (dmaAddr n 0xC) != 0))
  | 0x00022008 => some (BitVec.ofNat 32 ((s.dma.table.filter (fun r => (s.pacedFor r.eng).isNone)).length % 2048))
  | 0x00040004 => some (putFld (putFld (s.reg a) 3 3 (b2n s.pins.chainHead)) 2 2 (b2n s.isHead))
  | 0x00050014 => some (s.time.latch.getD 0 0)
  | 0x00050018 => some (s.time.latch.getD 1 0)
  | 0x0005001C => some (s.time.latch.getD 2 0)
  | 0x00050020 => some (s.time.latch.getD 3 0)
  | 0x00050024 => some (offsetWord s.time.hostMap 0 &&& 0xFFFF)
  | 0x00050028 => some (offsetWord s.time.hostMap 16)
  | 0x0005002C => some (offsetWord s.time.hostMap 48)
  | 0x00050030 => some s.time.hostMap.rate
  | 0x00050034 => some s.time.hostMap.validFrom
  | 0x00060004 => some (mkWord [(0, b2n s.pinActive), (16, s.firstPending)])
  | 0x00060010 => some (bitMap 32 (fun w => s.reg (aPend w) != 0))
  | 0x00060014 => some (bitMap 16 (fun w => s.reg (aPend (32 + w)) != 0))
  | _ => none

/-- REFUSE_TILES: bit n, some engine of tile t0 + n has a refusal flag set (R60). -/
def State.refuseTiles (s : State) (t0 n : Nat) : W32 :=
  bitMap n (fun t => (List.range (engsInTile (t0 + t))).any (fun i => s.reg (hemAddr (engOfTile (t0 + t) i) 8) != 0))

/-- MEND_STATUS (R213): the newest closed round, the state. -/
def State.mendStatus (s : State) : W32 :=
  let st := if s.mend.check.isSome then 3 else if !s.bit aMendCtrl 0 then 0 else if s.mend.set.isSome then 2 else 1
  mkWord [(0, st), (16, (s.mend.closed - 1) % 0x10000)]

/-- PAIR_STATUS (R361). -/
def State.pairStatusWord (s : State) : W32 :=
  mkWord [(0, s.fld aPairStatus 4 0), (5, b2n s.pins.pairPresent), (6, b2n s.pins.interlock), (7, s.fld aPairStatus 8 7),
    (9, b2n (s.bit aFieldBoot 6 && !s.muted)), (10, b2n (s.linkUp .seamB)), (11, b2n (s.linkUp .seamA)), (24, s.fld aPairStatus 31 24)]

/-- A field register outside the tiles whose value is found when it is read (R60, R61, R63, R185, R213, R361, R402). -/
def State.fieldComputed (s : State) (a : Nat) : Option W32 :=
  match a with
  | 0x10010000 => some (s.clk.devtime.setWidth 32)
  | 0x10010004 => some s.clk.devHi
  | 0x10010008 => some s.pin
  | 0x1001000C => some s.admitBlock
  | 0x10010010 => some (mkWord [(0, s.fld a 0 0), (4, s.hem.config.toNat), (8, s.hem.band.toNat)])
  | 0x10010014 => some (mkWord [(0, s.floorLocal), (8, s.floorRemote)])
  | 0x10010018 => some (BitVec.ofNat 32 s.leadReq)
  | 0x10010020 => some (s.refuseTiles 0 32)
  | 0x10010024 => some (s.refuseTiles 32 16)
  | 0x10020004 => some s.pairStatusWord
  | 0x10030000 => some (mkWord [(0, s.deadlineD), (8, s.deadlineM), (16, s.deadlineMR)])
  | 0x1004000C => some (mkWord [(0, s.mendDelays.1), (8, s.mendDelays.2)])
  | 0x10040010 => some s.mendStatus
  | 0x10050018 => some (BitVec.ofNat 32 (s.openGrants.length % 0x10000))
  | _ => none

/-- The code of an engine's state (R68). -/
def EngSt.code : EngSt → Nat
  | .idle => 0 | .running => 1 | .waiting => 2 | .halted => 3 | .done => 4 | .fault => 5 | .disabled => 6

/-- An engine's Hem or execution register that is found when it is read (R66, R105). -/
def State.engComputed (s : State) (e : Nat) (hem : Bool) (off : Nat) : Option W32 :=
  let x := s.eng e
  if hem then
    if off = 4 then
      some (mkWord [(0, min 32 (s.queueLevel e)), (8, b2n (s.playing e)), (9, b2n (x.offer.any (fun o => o.slot || o.stream))), (10, b2n (s.drains e)),
        (11, b2n (s.bit (portAddr (portOfEng e) 4) 2))])
    else none
  else match off with
  | 0x08 => some (mkWord [(0, x.st.code), (4, x.stack.length), (8, x.cause), (16, x.pc)])
  | 0x10 => some x.cur.b
  | 0x14 => some (x.cur.t.setWidth 32)
  | 0x30 => some (BitVec.ofNat 32 (x.stream.owed % 0x20000))
  | 0x34 => some x.shotNo
  | 0x3C => some (mkWord [(0, s.streamHeld e % 0x20000), (17, b2n x.stream.req)])
  | _ => none

/-- A register of a tile that is found when it is read. -/
def State.tileComputed (s : State) (a : Nat) : Option W32 :=
  let n := (a - 0x20000000) / 0x1000000
  let off := a % 0x1000000
  let ne := engsInTile n
  if 0x8000 ≤ off ∧ off < 0x8000 + 0x40 * ne then s.engComputed (engOfTile n ((off - 0x8000) / 0x40)) true (off % 0x40)
  else if 0xA000 ≤ off ∧ off < 0xA000 + 0x40 * ne then
    s.engComputed (engOfTile n ((off - 0xA000) / 0x40)) false (off % 0x40)
  else if 0xC200 ≤ off ∧ off < 0xC200 + 0x200 * portsInTile n ∧ (off - 0xC200) % 0x200 = 4 then
    some (putFld (s.reg a) 3 3 (b2n s.muted))
  else if tileType n = 1 ∧ 0xD000 ≤ off ∧ off < 0xD800 ∧ (off - 0xD000) % 0x200 = 4 then
    some (putFld (s.reg a) 12 12 (b2n (s.integrating (4 * (n - 16) + (off - 0xD000) / 0x200))))
  else if tileType n = 1 ∧ 0xE000 ≤ off ∧ off < 0xF000 ∧ off % 0x80 = 8 then
    let c := 32 * (n - 16) + (off - 0xE000) / 0x80
    some (mkWord [(0, s.ctxHeld c), (3, b2n ((s.ctxs c).any (fun x => s.ctxOpen x)))])
  else none

/-- The value of a register that is found when it is read; none for one whose value is stored. -/
def State.computed (s : State) (a : Nat) : Option W32 :=
  if a < 0x10000000 then s.hostComputed a else if a < 0x20000000 then s.fieldComputed a else s.tileComputed a

/-- The serial port of which an address is a LANE_PRBS_ERR register (R278). -/
def prbsPort (a : Nat) : Option LPort :=
  let off := a % 0x1000
  if off < 0x100 ∨ 0x190 ≤ off ∨ off % 0x10 ≠ 8 then none
  else if 0x30000 ≤ a ∧ a < 0x34000 then some (.hl (Fin.ofNat 4 ((a - 0x30000) / 0x1000)))
  else if 0x10028000 ≤ a ∧ a < 0x10029000 then some .seamA
  else if 0x10029000 ≤ a ∧ a < 0x1002A000 then some .seamB
  else none

/-- What a read of a register latches (R60, R337), or brings up to date before it (R157, R277). -/
def State.readLatch (s : State) (a : Nat) : State :=
  let n := (a - 0x20000000) / 0x1000000
  let off := a % 0x1000000
  if a = 0x10010000 then s.devLatch
  else if a = 0x00050010 then s.netNow.2
  else if a < 0x20000000 then (match prbsPort a with | some p => s.prbsCount p | none => s)
  else if 0xC200 ≤ off ∧ off < 0xC200 + 0x200 * portsInTile n then
    (if (off - 0xC200) % 0x200 = 8 ∨ (off - 0xC200) % 0x200 = 0xC then s.clipUp (portOfTile n ((off - 0xC200) / 0x200)) else s)
  else if tileType n ≠ 1 then s
  else if 0xF000 ≤ off ∧ off < 0xF100 then s.pocketSync (n - 16)
  else s.adcSettle

/-- A read of a register (R6, R8): a WO register reads 0, an RC register is cleared. BH_REMAIN counts seconds down, which
no command shows: what it reads is free, at most DURATION while a side is unlocked (log entry 20). -/
def State.readReg (s : State) (a : Nat) (acc : Acc) : W32 × State :=
  match acc with
  | .wo => (0, s)
  | .rc => let s := s.readLatch a
           (s.reg a, s.setReg a 0)
  | _ =>
    let s := s.readLatch a
    if a = 0x00050010 then (s.netNow.1, s)
    else if a = 0x00090010 then (BitVec.ofNat 32 ((Config.freeWord s.free).toNat % ((s.reg a).toNat + 1)), s.draw)
    else ((s.computed a).getD (s.reg a), s)

/-! ## What a write is refused with -/

/-- A source number of R169 that is not reserved. -/
def sourceOk (n : Nat) : Bool := n < 1536

/-- The codes of HTP_SEL and FTP_SEL (R418). -/
def selOk (d : Side) (i n : Nat) : Bool :=
  n < 3 ||
  match d with
  | .host => decide (0x100 ≤ n ∧ n < 0x180)
  | .field =>
    decide (0x100 ≤ n ∧ n < 0xB00) || decide (0xB00 ≤ n ∧ n < 0xB6C) || decide (0xC00 ≤ n ∧ n < 0xC10) ||
      decide (0xC20 ≤ n ∧ n < 0xC40) || decide (0xC80 ≤ n ∧ n < 0xCE0) || (decide (0xE00 ≤ n ∧ n < 0xE40) && decide (6 ≤ i))

/-- The first status of a list of checks that fails. -/
def firstOf : List (Bool × Byte) → Option Byte
  | [] => none
  | (p, st) :: t => if p then some st else firstOf t

/-- A write of a DMA channel's register (R220, R221, R229). -/
def State.dmaWriteRefusal (s : State) (n off : Nat) (v : W32) : Option Byte :=
  let st := s.dmaSt n
  let quiet := st == 0 || st == 5 || st == 6
  match off with
  | 0x04 => firstOf [(!quiet, stBusy), (v.getLsbD 0 && decide (1280 ≤ wfld v 16 6), stBadParam),
      (v.getLsbD 0 && s.pacedClash n (wfld v 16 6), stBadParam)]
  | 0x10 => firstOf [(!quiet, stBusy)]
  | 0x1C => firstOf [(v.toNat % 32 != 0, stMisaligned)]
  | _ => none

/-- A write of a serial port's register other than LINK_CTRL (R278, R280). -/
def linkWriteRefusal (off : Nat) (v : W32) : Option Byte :=
  match off with
  | 0x10 => firstOf [(decide (wfld v 15 0 < 10), stBadParam), (wfld v 27 16 == 0, stBadParam)]
  | 0x14 => firstOf [(!decide (1 ≤ wfld v 6 0 ∧ wfld v 6 0 ≤ 100), stBadParam)]
  | _ => none

/-- A write of a test pin's selection (R418, R419). -/
def State.selRefusal (s : State) (d : Side) (a : Nat) (v : W32) : Option Byte :=
  firstOf [(!s.bit aBhStatus (bhBit d), stAuthFail), (!selOk d (a % 0x20 / 4) (wfld v 11 0), stBadParam)]

/-- A write of a host-side register (R9, R278, R312, R338, R418). -/
def State.hostRefusal (s : State) (a : Nat) (v : W32) : Option Byte :=
  if 0x00020000 ≤ a ∧ a < 0x00022000 then s.dmaWriteRefusal ((a - 0x00020000) / 0x100) (a % 0x100) v
  else if 0x00030000 ≤ a ∧ a < 0x00034000 then linkWriteRefusal (a % 0x1000) v
  else if a = 0x00034000 then firstOf [(wfld v 3 0 == 0, stBadParam)]
  else if a = 0x00040000 then firstOf [(decide (wfld v 15 0 < 0x600) || wfld v 15 0 == 0x88F7, stBadParam)]
  else if a = aTimeCtrl then firstOf [(!decide (1 ≤ wfld v 17 8 ∧ wfld v 17 8 ≤ 1000), stBadParam)]
  else if 0x00090100 ≤ a then s.selRefusal .host a v
  else none

/-- A write of MEND_DET[d] (R187). -/
def State.mendDetBad (s : State) (d : Nat) (v : W32) : Bool :=
  let src := wfld v 10 0
  !sourceOk src ||
  (decide (512 ≤ src) && (let o := s.reg (pubOwnerAddr (src - 512)); o.getLsbD 31 && wfld o 10 0 == 0x7FF)) ||
  (v.getLsbD 31 && (List.range 1024).any (fun k => k != d && s.bit (mendDetAddr k) 31 && s.fld (mendDetAddr k) 10 0 == src))

/-- A write of MEND_OBS[k] (R204). -/
def State.mendObsBad (s : State) (v : W32) : Bool :=
  let o := s.reg (pubOwnerAddr (wfld v 9 0))
  wfld v 30 29 == 3 || (v.getLsbD 31 && !(o.getLsbD 31 && wfld o 10 0 == 0x7FF))

/-- A write of MEND_CFG outside its ranges (R213). -/
def mendCfgBad (v : W32) : Bool :=
  !decide (1 ≤ wfld v 26 20 ∧ wfld v 26 20 ≤ 64) || !decide (1 ≤ wfld v 19 10 ∧ wfld v 19 10 ≤ 512) ||
  !decide (1 ≤ wfld v 9 4 ∧ wfld v 9 4 ≤ 32) || !decide (1 ≤ wfld v 3 0 ∧ wfld v 3 0 ≤ 8)

/-- A write of a register of the Mender block other than MEND_CTRL (R187, R193, R204, R213). -/
def State.mendRefusal (s : State) (a : Nat) (v : W32) : Option Byte :=
  let en := s.bit aMendCtrl 0
  let off := a - 0x10040000
  if off < 4 ∨ (0x10 ≤ off ∧ off < 0x100) then none
  else firstOf [(en, stBusy), (off == 4 && mendCfgBad v, stBadParam),
    (decide (0x100 ≤ off ∧ off < 0x140) && s.mendObsBad v, stBadParam),
    (decide (0x1000 ≤ off ∧ off < 0x2000) && s.mendDetBad ((off - 0x1000) / 4) v, stBadParam)]

/-- A write of a field register outside the tiles (R97, R185, R278, R339, R402, R404, R418). -/
def State.fieldRefusal (s : State) (a : Nat) (v : W32) : Option Byte :=
  if a = 0x10010100 then firstOf [(s.bit aAlign 3, stBusy)]
  else if 0x10028000 ≤ a ∧ a < 0x1002A000 then linkWriteRefusal (a % 0x1000) v
  else if 0x10031000 ≤ a ∧ a < 0x10032000 then
    let o := wfld v 10 0
    firstOf [(s.anyActive, stBusy), (decide (1279 < o) && o != 0x7FF, stBadParam)]
  else if 0x10034000 ≤ a ∧ a < 0x10037800 then firstOf [(s.anyActive, stBusy)]
  else if 0x10040000 ≤ a ∧ a < 0x10050000 then s.mendRefusal a v
  else if a = 0x10050000 then firstOf [(wfld v 7 0 == 0 || wfld v 15 8 == 0, stBadParam)]
  else if 0x10052000 ≤ a ∧ a < 0x10052020 then s.selRefusal .field a v
  else if 0x10060000 ≤ a ∧ a % 0x4000 = 0 then firstOf [(decide (4 < wfld v 2 0), stBadParam)]
  else none

/-- A write of a pocket's register other than POCKET_CTRL (R238, R242, R251, R252). -/
def State.pocketRefusal (s : State) (k off : Nat) (v : W32) : Option Byte :=
  let y := yokeOfTile (16 + k)
  let bad := match off with
    | 0x04 => decide (5 < wfld v 2 0) || wfld v 31 16 == 0
    | 0x08 => false
    | 0x0C => wfld v 15 0 == 0
    | 0x10 => !decide (1 ≤ wfld v 4 0 ∧ wfld v 4 0 ≤ 16)
    | 0x1C => yokeOfTile (16 + wfld v 8 0 / 32) != y || !decide (wfld v 23 13 < 1280) || yokeOfEng (wfld v 23 13) != y
    | _ => false
  if 0x04 ≤ off ∧ off < 0x20 then firstOf [(!s.pocketQuiet k, stBusy), (bad, stBadParam)] else none

/-- A write of an output port's trims (R386). -/
def State.trimRefusal (s : State) (p off : Nat) : Option Byte :=
  if 0x100 ≤ off then firstOf [((engsOfPort p).any (fun e => s.holdsWork e), stBusy)] else none

/-- A write of a read-out input port's register (R164). -/
def State.adcRefusal (s : State) (l off : Nat) (v : W32) : Option Byte :=
  if off = 0x10 then firstOf [(decide (wfld v 15 0 < 10), stBadParam)]
  else if 0x40 ≤ off then firstOf [(s.bit (adcAddr l 0) 0 || s.bit (adcAddr l 4) 8, stBusy)]
  else none

/-- A write of a register of a tile (R104, R157, R164, R166-R168, R173, R251, R386). -/
def State.tileRefusal (s : State) (a : Nat) (v : W32) : Option Byte :=
  let n := (a - 0x20000000) / 0x1000000
  let off := a % 0x1000000
  let e := engOfTile n (off % 0x1000 / 0x40)
  if 0xA000 ≤ off ∧ off < 0xB000 then
    if off % 0x40 = 0x0C ∨ off % 0x40 = 0x38 then none else firstOf [((s.eng e).active, stBusy)]
  else if 0xB000 ≤ off ∧ off < 0xC000 then
    firstOf [((s.eng e).active, stBusy), (!sourceOk (wfld v 10 0), stBadParam)]
  else if 0xC200 ≤ off ∧ off < 0xC200 + 0x200 * portsInTile n then
    s.trimRefusal (portOfTile n ((off - 0xC200) / 0x200)) ((off - 0xC200) % 0x200)
  else if tileType n ≠ 1 then none
  else if 0xD000 ≤ off ∧ off < 0xD800 then s.adcRefusal (4 * (n - 16) + (off - 0xD000) / 0x200) ((off - 0xD000) % 0x200) v
  else if 0xE000 ≤ off ∧ off < 0xF000 then
    let c := 32 * (n - 16) + (off - 0xE000) / 0x80
    if 8 ≤ off % 0x80 then none
    else firstOf [(decide (0 < s.ctxHeld c), stBusy), (off % 0x80 == 0 && wfld v 2 1 == 3, stBadParam)]
  else if 0xF000 ≤ off ∧ off < 0xF100 then s.pocketRefusal (n - 16) (off - 0xF000) v
  else if 0x10000 ≤ off then firstOf [(off % 0x20 == 0 && decide (2048 < wfld v 27 16), stBadParam)]
  else none

/-- The register is held by the privileged routine that runs in its side's controller (R367): one that the routine has
written, or a factor of a flux tile it calibrates. -/
def State.heldByLong (s : State) (a : Nat) : Bool :=
  match s.long (if a < 0x10000000 then .ci else .fm) with
  | none => false
  | some l =>
    l.journal.any (fun j => j.1 == a) ||
    (decide (0x40000000 ≤ a) && l.op == 0x30 && decide ((a - 0x20000000) / 0x1000000 ∈ l.tiles) &&
      decide (0xC200 ≤ a % 0x1000000) && decide (0x100 ≤ (a % 0x1000000 - 0xC200) % 0x200))

/-- What a write of an RW, RWS or WO register is refused with, apart from what the write's own meaning refuses. -/
def State.writeRefusal (s : State) (a : Nat) (v : W32) : Option Byte :=
  if s.heldByLong a then some stBusy
  else if a < 0x10000000 then s.hostRefusal a v
  else if a < 0x20000000 then s.fieldRefusal a v
  else s.tileRefusal a v

/-! ## What a write does -/

/-- The bits of a register that a write can act on are replaced (R7, R9). -/
def State.putReg (s : State) (a : Nat) (mask v : W32) : State := s.setReg a ((s.reg a &&& ~~~mask) ||| (v &&& mask))

/-- A write to HEM_CFG: a change of FAST_FEEDBACK waits for its block (R62). -/
def State.writeHemCfg (s : State) (v : W32) : State :=
  let f := v.getLsbD 0
  if f = s.bit 0x10010010 0 then s
  else
    let now := s.fastNow
    let s := s.setBit 0x10010010 0 f
    { s with hem := { s.hem with
        fast := now, fastPend := some (f, if s.anyInShot then none else some (s.pin64 + 4)) } }

/-- A write to TIME_CTRL (R325): SERVO_EN written from 0 to 1 begins in FREE. -/
def State.writeTimeCtrl (s : State) (v : W32) : State :=
  let was := s.bit aTimeCtrl 0
  let s := s.putReg aTimeCtrl 0xFF03FF03 v
  if !was && v.getLsbD 0 then (s.setServo 0).modTime (fun t => { t with master := none, measured := 0 }) else s

/-- A write to AV_CTRL (R397): EN written from 0 to 1 sends VOUT_COMMAND. -/
def State.writeAvCtrl (s : State) (v : W32) : State :=
  let was := s.bit aAvCtrl 0
  let s := s.putReg aAvCtrl 0x03FF7FFF v
  if !was && v.getLsbD 0 then s.voutCommand else s

/-- A write to a host-side register that does more than set its bits; none for any other. -/
def State.hostWrite (s : State) (a : Nat) (v : W32) : Option (Byte × State) :=
  if 0x00020000 ≤ a ∧ a < 0x00022000 then
    let n := (a - 0x00020000) / 0x100
    if a % 0x100 = 0 then some (s.writeDmaCtrl n v)
    else if a % 0x100 = 0x2C then some (stOk, s.writeDmaKick n v)
    else none
  else if 0x00030000 ≤ a ∧ a < 0x00034000 ∧ a % 0x1000 = 0 then
    some (s.writeLinkCtrl (.hl (Fin.ofNat 4 ((a - 0x00030000) / 0x1000))) v)
  else match a with
  | 0x0001041C => some (stOk, s.writeLongAbort .ci v)
  | 0x00034000 => some (stOk, (s.putReg a 0xF v).flushHostBuf)
  | 0x00050000 => some (stOk, s.writeTimeCtrl v)
  | 0x00081000 => some (stOk, s.writeHkCtrl .host v)
  | 0x00081008 => some (s.writeHkInject .host v)
  | 0x00090000 => some (stOk, s.writeBhLock v)
  | _ => none

/-- A write to a field register outside the tiles that does more than set its bits; none for any other. -/
def State.fieldWrite (s : State) (a : Nat) (v : W32) : Option (Byte × State) :=
  match a with
  | 0x1000041C => some (stOk, s.writeLongAbort .fm v)
  | 0x10010010 => some (stOk, s.writeHemCfg v)
  | 0x10028000 => some (s.writeLinkCtrl .seamA v)
  | 0x10029000 => some (s.writeLinkCtrl .seamB v)
  | 0x10050020 => some (stOk, s.writeAvCtrl v)
  | 0x10051000 => some (stOk, s.writeHkCtrl .field v)
  | 0x10051008 => some (s.writeHkInject .field v)
  | _ => none

/-- A write to an output port's register that does more than set its bits (R127, R131, R135). -/
def State.portWrite (s : State) (p off : Nat) (acc : Acc) (mask v : W32) : Option (Byte × State) :=
  if acc = .rws then some (stOk, s.writeShadow p (portAddr p off) (v &&& mask))
  else match off with
  | 0x00 => some (stOk, s.writePortCtrl p v)
  | 0x10 => some (stOk, s.askCommit p v none)
  | 0x1C => match s.writeFluxCfg (p - 192) v with
    | some t => some (stOk, t)
    | none => some (stBusy, s)
  | _ => none

/-- A write to a tile's register that does more than set its bits. -/
def State.tileWrite (s : State) (a : Nat) (acc : Acc) (mask v : W32) : Option (Byte × State) :=
  let n := (a - 0x20000000) / 0x1000000
  let off := a % 0x1000000
  let e := engOfTile n (off % 0x1000 / 0x40)
  if 0x8000 ≤ off ∧ off < 0xA000 then if off % 0x40 = 0 then some (stOk, s.writeHemCtrl e v) else none
  else if 0xA000 ≤ off ∧ off < 0xB000 then
    if off % 0x40 = 0x38 then
      match s.writeStreamCfg e v with
      | (none, t) => some (stOk, t)
      | (some st, t) => some (st, t)
    else none
  else if off = 0xC000 then some (stOk, s.askTileCommit n v)
  else if 0xC200 ≤ off ∧ off < 0xC200 + 0x200 * portsInTile n then
    s.portWrite (portOfTile n ((off - 0xC200) / 0x200)) ((off - 0xC200) % 0x200) acc mask v
  else if tileType n = 1 ∧ 0xD000 ≤ off ∧ off < 0xD800 ∧ (off - 0xD000) % 0x200 = 0 then
    some (stOk, s.writeAdcCtrl (4 * (n - 16) + (off - 0xD000) / 0x200) v)
  else if tileType n = 1 ∧ off = 0xF000 then some (s.writePocketCtrl (n - 16) v)
  else none

/-- A write of an RW, RWS or WO register that is not refused: its own meaning, or its bits are set. -/
def State.writeBits (s : State) (a : Nat) (acc : Acc) (mask v : W32) : Byte × State :=
  let own :=
    if a < 0x10000000 then s.hostWrite a v
    else if a < 0x20000000 then s.fieldWrite a v
    else s.tileWrite a acc mask v
  own.getD (stOk, ((s.remember a).putReg a mask v).heal a)

/-- What a write comes to: it ended with a status, or its reply waits for Mender's check (R193). -/
inductive WriteEnd where
  | ended (st : Byte)
  | waits
deriving DecidableEq, Repr

/-- A write of a register (R6, R9, R295): RO and RC registers ignore it, W1C bits written 1 are cleared. who answers when
Mender's check ends. -/
def State.writeReg (s : State) (a : Nat) (acc : Acc) (mask v : W32) (who : Option Deferred) : WriteEnd × State :=
  match acc with
  | .ro => (.ended stOk, s)
  | .rc => (.ended stOk, s)
  | .w1c => let s := s.readLatch a
            (.ended stOk, s.setReg a (s.reg a &&& ~~~(v &&& mask)))
  | _ =>
    match s.writeRefusal a v with
    | some st => (.ended st, s)
    | none =>
      if a = aMendCtrl then
        match s.writeMendCtrl v who with
        | (.done, t) => (.ended stOk, t.touch a)
        | (.busy, t) => (.ended stBusy, t)
        | (.checking, t) => (.waits, t)
      else
        let (st, t) := s.writeBits a acc mask v
        (.ended st, if st = stOk then t.touch a else t)

/-! ## Words of the address space (R295, R444) -/

/-- A read of one word: its status, its value, the state after it. -/
def State.readWord (s : State) (a : Nat) : Byte × W32 × State :=
  match (if inFrames a then Loc.mem 0 else locate a) with
  | .hole => (stRange, 0, s)
  | .window => (stRange, 0, s)
  | .reserved => (stOk, 0, s)
  | .mem _ =>
    match s.memRefusal a false with
    | some st => (st, 0, s)
    | none => (stOk, s.memRead a)
  | .reg acc _ _ => (stOk, s.readReg a acc)

/-- A write of one word. -/
def State.writeWord (s : State) (a : Nat) (v : W32) (who : Option Deferred) : WriteEnd × State :=
  match (if inFrames a then Loc.mem 0 else locate a) with
  | .hole => (.ended stRange, s)
  | .window => (.ended stRange, s)
  | .reserved => (.ended stOk, s)
  | .mem _ =>
    let (st, t) := s.memStore a [v]
    (.ended st, t)
  | .reg acc mask _ => s.writeReg a acc mask v who

/-- MODIFY is permitted on a word (R295): RW and RWS registers, memory words, and frame words by their own access. -/
def modifyOk (a : Nat) : Bool :=
  match locate a with
  | .reg acc _ _ => acc == .rw || acc == .rws
  | .mem _ => true
  | _ => false

/-- MODIFY of one word (R295): the value before it, and the write of (old AND NOT MASK) OR (VALUE AND MASK). -/
def State.modifyWord (s : State) (a : Nat) (mask v : W32) (who : W32 → Option Deferred) : WriteEnd × W32 × State :=
  match (if inFrames a then Loc.mem 0 else locate a) with
  | .hole => (.ended stRange, 0, s)
  | .window => (.ended stRange, 0, s)
  | _ =>
    if !modifyOk a then (.ended stBadParam, 0, s)
    else
      let (st, old, t) := s.readWord a
      if st ≠ stOk then (.ended st, 0, s)
      else
        match t.writeWord a ((old &&& ~~~mask) ||| (v &&& mask)) (who old) with
        | (.ended st, u) => (.ended st, old, if st = stOk then u else s)
        | (.waits, u) => (.waits, old, u)

/-- n words from address a lie in one register block or memory region (R295). -/
def inOneRegion (a n : Nat) : Bool :=
  match regionOf a with
  | some r => decide (a + 4 * n ≤ r.base + r.size)
  | none => false

/-- Words are read in ascending order, each as a separate access (R295). -/
def State.readWords (s : State) (a : Nat) : Nat → Byte × List W32 × State
  | 0 => (stOk, [], s)
  | n + 1 =>
    let (st, v, s) := s.readWord a
    if st ≠ stOk then (st, [], s)
    else
      let (st, vs, s) := s.readWords (a + 4) n
      (st, v :: vs, s)

/-- Words are written in ascending order, each as a separate access (R295); the first that is refused ends them. A check
that a write of MEND_CTRL starts is answered when it ends. -/
def State.writeWords (s : State) (a : Nat) (who : Option Deferred) (waits : Bool) : List W32 → WriteEnd × State
  | [] => (if waits then .waits else .ended stOk, s)
  | v :: vs =>
    match s.writeWord a v who with
    | (.ended st, t) => if st = stOk then t.writeWords (a + 4) who waits vs else (.ended st, t)
    | (.waits, t) => t.writeWords (a + 4) who true vs

/-- Words written by one command (R293, R295): refused as a whole with no effect, or written. A range of memory is one
write, so that QUBIT_MAP is judged as it will stand (R107). -/
def State.writeRange (s : State) (a : Nat) (vs : List W32) (who : Option Deferred) : WriteEnd × State :=
  if inOneMem a (4 * vs.length) then
    let (st, t) := s.memStore a vs
    (.ended st, t)
  else
    match s.writeWords a who false vs with
    | (.ended st, t) => (.ended st, if st = stOk then t else s)
    | (.waits, t) => (.waits, t)

/-- The side of an address works: software reaches its registers. -/
def State.sideOn (s : State) (a : Nat) : Bool := if isFieldAddr a then s.fieldAlive else s.hostAlive

/-! ## The rows of register access -/

/-- REGISTER_WRITE: a write of any register, as R6 and its own rules say. -/
def execRegisterWrite (addr v : W32) (s : State) : Res :=
  let a := addr.toNat
  .next (if s.sideOn a && a % 4 == 0 then
    match locate a with
    | .reg acc mask _ => if inFrames a then (s.memStore a [v]).2 else (s.writeReg a acc mask v none).2
    | _ => s
  else s)

/-- READ_CLEAR: a read of an RC register (R6). -/
def execReadClear (addr : W32) (s : State) : Res :=
  let a := addr.toNat
  .next (if s.sideOn a && a % 4 == 0 then
    match locate a with
    | .reg .rc _ _ => (s.readReg a .rc).2
    | _ => s
  else s)

/-- A frame word is reached: the field side works and its memories are cleared (R434). -/
def State.framesOn (s : State) (f : Nat) (write : Bool) : Bool :=
  s.fieldAlive && (s.memRefusal (frameAddr f 0) write).isNone

/-- FRAME_FREQ_LO_READ: the low word of a pair is read (R477). -/
def execFrameFreqLoRead (f : Fin 4096) (anchor : Bool) (s : State) : Res :=
  .next (if s.framesOn f false then (s.frameLoRead f anchor).2 else s)

/-- FRAME_FREQ_LO_WRITE: the low word of a pair is written (R477). -/
def execFrameFreqLoWrite (f : Fin 4096) (anchor : Bool) (v : W32) (s : State) : Res :=
  .next (if s.framesOn f true then s.frameLoWrite f anchor v else s)

/-- FRAME_FREQ_HI_WRITE: the high word of a pair is written (R477). -/
def execFrameFreqHiWrite (f : Fin 4096) (anchor : Bool) (v : W32) (s : State) : Res :=
  .next (if s.framesOn f true then s.frameHiWrite f anchor v else s)

/-- A type 1 request is applied on the field side (R18, R20): the words its response carries, and the state after it. -/
def State.access (s : State) : Access → List W32 × State
  | .read addr =>
    let (_, v, s) := s.readWord addr.toNat
    ([v], s)
  | .write addr v => ([], (s.writeRange addr.toNat [v] none).2)
  | .modify addr mask v =>
    let (_, old, s) := s.modifyWord addr.toNat mask v (fun _ => none)
    ([old], s)
  | .readBlock addr count =>
    let (_, vs, s) := s.readWords addr.toNat count.toNat
    (vs, s)
  | .writeBlock addr ws => ([], (s.writeRange addr.toNat ws none).2)

/-- The address and the number of words of a request. -/
def accessRange : Access → Nat × Nat
  | .read a => (a.toNat, 1)
  | .write a _ => (a.toNat, 1)
  | .modify a _ _ => (a.toNat, 1)
  | .readBlock a n => (a.toNat, n.toNat)
  | .writeBlock a ws => (a.toNat, ws.length)

/-- The words a READ_BLOCK or WRITE_BLOCK may name (R295). -/
def accessCount : Access → Bool
  | .readBlock _ n => decide (1 ≤ n.toNat ∧ n.toNat ≤ 2048)
  | .writeBlock _ ws => decide (1 ≤ ws.length ∧ ws.length ≤ 2047)
  | _ => true

/-- REGISTER_ACCESS: a type 1 request reaches the field side, which applies it and sends its response (R18, R20). The FM
serves it, unless it is halted (R373). -/
def execRegisterAccess (x : Access) (s : State) : Res :=
  let (a, n) := accessRange x
  .next (if s.fieldUp && s.ctlAlive .fm && isFieldAddr a && a % 4 == 0 && accessCount x && inOneRegion a n then
    let (ws, s) := s.access x
    s.send (.lining 1 ws)
  else s)

/-- BULK_LOAD: data of a LOAD or a DMA transfer is written into one field memory (R18, R20). -/
def execBulkLoad (addr : W32) (data : List W32) (s : State) : Res :=
  let a := addr.toNat
  .next (if s.fieldUp && s.fieldAlive && isFieldAddr a && a % 4 == 0 && inOneMem a (4 * data.length) then
    (s.memStore a data).2 else s)

end Sys2Proof.Machine
end

