-- ==== Sys2Proof/Machine/Command.lean ====
section
/-! DEFINITION. Command packets and the management chain (spec/11): the commands on registers and memory (R294-R296), addresses
(R301-R303), the CI's packet checks and queue (R283, R291, R292), the switch of R287 and the COMMAND transaction of R288. -/

namespace Sys2Proof.Machine

/-! ## PING and register access (R294, R295) -/

/-- PING: the serial number and the parameters come back. -/
def execPing (h : Hdr) (ws : List W32) (s : State) : Res :=
  .next (s.runCmd h 0x01 false (fun s =>
    if 2046 < ws.length then s.finish h 0x01 stRange else s.finish h 0x01 stOk (serialWords ++ ws)))

/-- What a command on words at an address is refused with before any access (R295): n words, count the number it may
name. -/
def rangeStatus (a n : Nat) (countOk : Bool) : Option Byte :=
  if a % 4 ≠ 0 then some stMisaligned
  else if !countOk || !inOneRegion a n then some stRange
  else none

/-- A read command: its words, or the status that ends it. -/
def State.readCmd (s : State) (h : Hdr) (op : Nat) (a n : Nat) (countOk : Bool) : State :=
  match rangeStatus a n countOk with
  | some st => s.finish h op st
  | none =>
    match s.readWords a n with
    | (st, ws, t) => if st = stOk then t.finish h op stOk ws else s.finish h op st

/-- READ. -/
def execRead (h : Hdr) (addr : W32) (s : State) : Res :=
  .next (s.runCmd h 0x02 (isFieldAddr addr.toNat) (fun s => s.readCmd h 0x02 addr.toNat 1 true) addr)

/-- READ_BLOCK. -/
def execReadBlock (h : Hdr) (addr count : W32) (s : State) : Res :=
  .next (s.runCmd h 0x04 (isFieldAddr addr.toNat) (fun s =>
    s.readCmd h 0x04 addr.toNat count.toNat (decide (1 ≤ count.toNat ∧ count.toNat ≤ 2048))) addr)

/-- A write command: done, refused with the target's status, or answered when Mender's check ends (R193, R295). -/
def State.writeCmd (s : State) (h : Hdr) (op : Nat) (a : Nat) (ws : List W32) (countOk : Bool) : State :=
  match rangeStatus a ws.length countOk with
  | some st => s.finish h op st
  | none =>
    match s.writeRange a ws (some { h, op, okParams := [], badParams := [] }) with
    | (.ended st, t) => t.finish h op st
    | (.waits, t) => t.hold h

/-- WRITE. -/
def execWrite (h : Hdr) (addr v : W32) (s : State) : Res :=
  .next (s.runCmd h 0x03 (isFieldAddr addr.toNat) (fun s => s.writeCmd h 0x03 addr.toNat [v] true))

/-- WRITE_BLOCK. -/
def execWriteBlock (h : Hdr) (addr : W32) (ws : List W32) (s : State) : Res :=
  .next (s.runCmd h 0x05 (isFieldAddr addr.toNat) (fun s =>
    s.writeCmd h 0x05 addr.toNat ws (decide (1 ≤ ws.length ∧ ws.length ≤ 2047))))

/-- MODIFY: the reply carries the value before it. -/
def execModify (h : Hdr) (addr mask v : W32) (s : State) : Res :=
  .next (s.runCmd h 0x06 (isFieldAddr addr.toNat) (fun s =>
    match rangeStatus addr.toNat 1 true with
    | some st => s.finish h 0x06 st
    | none =>
      match s.modifyWord addr.toNat mask v (fun old => some { h, op := 0x06, okParams := [old], badParams := [] }) with
      | (.ended st, old, t) => t.finish h 0x06 st (if st = stOk then [old] else [])
      | (.waits, _, t) => t.hold h))

/-! ## LOAD (R296) -/

/-- The memory of a KIND in tile t, or module-wide for KIND 3 to 5: base and size; none where the tile has no such
memory. -/
def loadMem (kind t : Nat) : Option (Nat × Nat) :=
  match kind with
  | 0 => some (tileBase t + 0x100000, 0x20000)
  | 1 => some (tileBase t + 0x400000, if tileType t = 1 then 0x100000 else 0x200000)
  | 2 => if tileType t = 1 then some (tileBase t + 0x200000, 0x40000) else none
  | 3 => some (0x11000000, 0x20000)
  | 4 => some (0x12000000, 0x200000)
  | _ => some (0x10008000, 0x800)

/-- The tiles that SCOPE and TILE name. -/
def loadTiles (kind scope tile : Nat) : List Nat :=
  if 3 ≤ kind then [0]
  else if scope = 0 then [tile]
  else (List.range 16).map (16 * (scope - 1) + ·)

/-- What LOAD's own words are refused with. -/
def loadStatus (w0 w1 : W32) (len : Nat) : Option Byte :=
  let kind := wfld w0 31 24
  let scope := wfld w0 9 8
  let tile := wfld w0 7 0
  let unit := if kind = 3 then 32 else 16
  if 5 < kind ∨ wfld w0 23 10 ≠ 0 then some stBadParam
  else if 3 ≤ kind ∧ (scope ≠ 0 ∨ tile ≠ 0) then some stBadParam
  else if kind < 3 ∧ scope = 0 ∧ 48 ≤ tile then some stRange
  else if (loadTiles kind scope tile).any (fun t => (loadMem kind t).isNone) then some stBadParam
  else if w1.toNat % unit ≠ 0 ∨ len % unit ≠ 0 then some stMisaligned
  else if (loadTiles kind scope tile).any (fun t => ((loadMem kind t).map (fun m => decide (m.2 < w1.toNat + len))).getD true) then
    some stRange
  else none

/-- The data is written into every target, or, where one refuses it, into none. -/
def State.loadAll (s : State) (kind off : Nat) (data : List W32) : List Nat → Byte × State
  | [] => (stOk, s)
  | t :: ts =>
    match loadMem kind t with
    | none => (stBadParam, s)
    | some m =>
      let (st, u) := s.memStore (m.1 + off) data
      if st ≠ stOk then (st, s)
      else
        let (st, w) := u.loadAll kind off data ts
        if st ≠ stOk then (st, s) else (stOk, w)

/-- LOAD. -/
def execLoad (h : Hdr) (w0 w1 : W32) (data : List W32) (s : State) : Res :=
  .next (s.runCmd h 0x20 true (fun s =>
    match loadStatus w0 w1 (4 * data.length) with
    | some st => s.finish h 0x20 st
    | none =>
      let (st, t) := s.loadAll (wfld w0 31 24) w1.toNat data (loadTiles (wfld w0 31 24) (wfld w0 9 8) (wfld w0 7 0))
      t.finish h 0x20 st))

/-! ## Addresses (R301-R303) -/

/-- Take an address (R301, R313). -/
def State.takeAddr (s : State) (a : Nat) : State := s.setFld aMgmtStatus 15 8 a

/-- PINNED. -/
def State.pinned (s : State) : Bool := s.bit aMgmtStatus 4


/-- A packet of a host link that goes onto MGMT_DN is remembered, so that its replies find the link (R288). -/
def State.noteFwd (s : State) (h : Hdr) : State :=
  match h.port with
  | .hl k => { s with cmd := { s.cmd with fwd := s.cmd.fwd ++ [{ seq := h.seq, tag := h.tag, link := k, at_ := s.clk.image }] } }
  | _ => s

/-- A frame leaves on a management port that has link (R287). -/
def State.forward (s : State) (up : Bool) (f : Frame) : State := if s.mgmtLink up then s.send (.frame up f) else s

/-- A command frame that the unit forms: with the chain's EtherType, long enough for Ethernet. -/
def State.ownFrame (s : State) (dst src : BitVec 48) (packet : List Byte) : Frame :=
  { dst, src, etherType := BitVec.ofNat 16 (s.fld 0x00040000 15 0), len := max 64 (packet.length + 18), fcsOk := true, payload := packet }

/-- The source MAC of a packet that goes onto MGMT_DN: the unit's own for one from a host link (R288), else the one it came with. -/
def State.sourceMac (s : State) (h : Hdr) : BitVec 48 :=
  match h.port with
  | .hl _ => s.ownMac
  | _ => h.mac

/-- The outcome of an ENUMERATE: LAST, HEAD, PINNED, address (R294). -/
def State.enumWord (s : State) : W32 :=
  mkWord [(0, s.unitAddr.toNat), (8, b2n s.pinned), (9, b2n s.isHead), (10, b2n (!s.mgmtLink false))]

/-- An ENUMERATE leaves on MGMT_DN with NEXT replaced (R302). -/
def State.enumForward (s : State) (h : Hdr) (w0 : W32) (next : Nat) : State :=
  if s.mgmtLink false then
    (s.noteFwd h).forward false (s.ownFrame Config.chainMac (s.sourceMac h)
      (packetBytes h.ver h.dest 0 0x10 h.seq h.flags 0 h.tag [putFld w0 7 0 next]))
  else s

/-- ENUMERATE (R302). -/
def execEnumerate (h : Hdr) (w0 : W32) (s : State) : Res :=
  .next (s.runCmd h 0x10 false (fun s =>
    let next := wfld w0 7 0
    if 512 ≤ w0.toNat then s.finish h 0x10 stBadParam
    else
      let keep := s.pinned && w0.getLsbD 8
      let st := if keep ∨ next ≤ 254 then stOk else stRange
      let s := if keep then s else s.takeAddr (if next ≤ 254 then next else 0)
      let s := s.finish h 0x10 st (serialWords ++ [s.enumWord])
      s.enumForward h w0 (if keep ∨ 254 < next then next else next + 1)))

/-- ASSIGN_ADDRESS (R303): only the unit whose serial number it names acts and replies. -/
def execAssignAddress (h : Hdr) (w0 w1 w2 : W32) (s : State) : Res :=
  let a := wfld w2 7 0
  let pin := w2.getLsbD 8
  .next (s.runCmd h 0x11 false (fun s =>
    if [w0, w1] ≠ serialWords then s.dequeue h
    else if 512 ≤ w2.toNat then s.finish h 0x11 stBadParam
    else if a = 255 ∨ (a = 0 ∧ !pin) then s.finish h 0x11 stRange
    else if pin then
      s.startLong .ci h 0x11 w2 [] (fun s =>
        (s.takeAddr a).nvPush { page := pgAddr, data := [], vals := [BitVec.ofNat 32 a], h := some h, op := 0x11 })
    else (s.takeAddr a).finish h 0x11 stOk))

/-! ## Packets (R283, R291, R292) -/

/-- A packet's header, opcode and parameters, on the port it came in on (R281). -/
def parsePacket (port : CPort) (mac : BitVec 48) (bs : List Byte) : Hdr × Nat × List W32 :=
  let (h, op, ps) := relayedPkt bs
  ({ h with port, mac }, op, ps)

/-- PARAM_LEN of a packet. -/
def paramLen (bs : List Byte) : Nat := (bs.getD 6 0 ++ bs.getD 7 0).toNat

/-- A packet takes its place in the queue: one with PRIORITY ahead of every packet without it (R291). -/
def enqueue (p : Pkt) (q : List Pkt) : List Pkt :=
  if p.h.flags.getLsbD 2 then
    q.takeWhile (fun x => x.h.flags.getLsbD 2) ++ p :: q.dropWhile (fun x => x.h.flags.getLsbD 2)
  else q ++ [p]

/-- A packet is answered at once with an error and not executed. -/
def State.refusePacket (s : State) (h : Hdr) (op : Nat) (st : Byte) : State :=
  let h := s.refusedHdr h
  (s.countError h op st).sendReply h (s.mkReply h op st [])

/-- A packet reaches the CI (R283): it is discarded, answered, or queued. -/
def State.packet (s : State) (port : CPort) (mac : BitVec 48) (bs : List Byte) : State :=
  let n := paramLen bs
  if !s.hostAlive then s
  else if bs.length < 20 ∨ bs.length < n + 20 then s.addSat 0x00010014 1
  else
    let (h, op, ps) := parsePacket port mac bs
    if crc32c (bs.take (16 + n)) ≠ h.crc then s.addSat 0x00010010 1
    else if h.flags.getLsbD 0 ∨ bs.getD 2 0 ≠ 0 then s.addSat 0x00010014 1
    else match s.headerStatus h op n with
    | some st => s.refusePacket h op st
    | none =>
      match s.cached h with
      | some c => s.resend h op c
      | none =>
        if 64 ≤ s.cmd.queue.length then s.refusePacket h op stBusy
        else { s with cmd := { s.cmd with queue := enqueue { h, opcode := BitVec.ofNat 8 op, params := ps } s.cmd.queue } }

/-- COMMAND_PACKET. -/
def execCommandPacket (port : CPort) (mac : BitVec 48) (bytes : List Byte) (s : State) : Res := .next (s.packet port mac bytes)

/-- ENUMERATE, which leaves on MGMT_DN by its own rule (R302). -/
def isEnumerate (bs : List Byte) : Bool := bs.getD 3 0 == 0x10

/-- COMMAND: a packet from host link k goes to the CI, onto MGMT_DN, or both (R288). -/
def State.hostCommand (s : State) (k : Fin 4) (bs : List Byte) : State :=
  let dest := bs.getD 1 0
  let own := s.unitAddr
  let mine := dest == own || dest == 255
  if !s.hostAlive || !s.linkUp (.hl k) then s
  else
    let s := if (dest == own && own != 0) || (mine && isEnumerate bs) then s
      else (s.noteFwd (parsePacket (.hl k) 0 bs).1).forward false (s.ownFrame Config.chainMac s.ownMac bs)
    if mine then s.packet (.hl k) 0 bs else s

/-- COMMAND. -/
def execCommand (k : Fin 4) (packet : List Byte) (s : State) : Res := .next (s.hostCommand k packet)

/-! ## The switch (R285-R288) -/

/-- 1 s in ticks of DEV_IMAGE. -/
def secondTicks : Nat := 25600000000

/-- The host link that a reply from MGMT_DN goes to (R288). -/
def State.replyLink (s : State) (bs : List Byte) : Option (Fin 4) :=
  let h := (parsePacket .mgmtDn 0 bs).1
  let sent := s.cmd.fwd.filter (fun f => f.seq == h.seq && f.tag == h.tag && decide ((s.clk.image - f.at_).toNat ≤ secondTicks))
  match sent.getLast? with
  | some f => some f.link
  | none => (List.finRange 4).find? (fun k => s.linkUp (.hl k))

/-- A command frame on MGMT_UP (R287). -/
def State.frameDown (s : State) (f : Frame) : State :=
  let own := s.unitAddr
  let dest := f.payload.getD 1 0
  let mine := dest == own || dest == 255
  let fwd := !(dest == own && own != 0) && !(mine && isEnumerate f.payload)
  let s := if fwd then s.forward false f else s
  if mine then s.packet .mgmtUp f.src f.payload else s

/-- A command frame on MGMT_DN (R287, R288). -/
def State.frameUp (s : State) (f : Frame) : State :=
  if f.dst ≠ s.ownMac then s.forward true f
  else match s.replyLink f.payload with
  | some k => s.send (.linkCommand k f.payload)
  | none => s

/-- A PTP frame (R322): Pdelay messages are dropped and counted, management and signalling forwarded unchanged; the others have
commands of their own. The message types are the standard's (log entry 137). -/
def State.ptpOther (s : State) (up : Bool) (f : Frame) : State :=
  match (f.payload.getD 0 0).toNat % 16 with
  | 2 => s.ptpIgnored
  | 3 => s.ptpIgnored
  | 10 => s.ptpIgnored
  | 12 => s.forward (!up) f
  | 13 => s.forward (!up) f
  | _ => s

/-- A frame at a management port (R285, R287): one that is too short, too long or fails its check is dropped and
counted. A PTP frame goes to the time unit, whose own commands take it. A frame with the chain's EtherType is a command frame; any
other is forwarded. -/
def State.mgmtFrame (s : State) (up : Bool) (f : Frame) : State :=
  let p := if up then 0 else 1
  if !s.hostAlive || !s.mgmtLink up then s
  else if !f.fcsOk || f.len < 64 || 9216 < f.len then (s.addSat (0x00040028 + 0x10 * p) 1).flag (mgmtFlags p) 2
  else
    let s := s.addSat (0x00040020 + 0x10 * p) 1
    if f.etherType = 0x88F7 then s.ptpOther up f
    else if f.etherType.toNat = s.fld 0x00040000 15 0 then (if up then s.frameDown f else s.frameUp f)
    else s.forward (!up) f

/-- MGMT_FRAME_RECEIVE. -/
def execMgmtFrameReceive (up : Bool) (f : Frame) (s : State) : Res := .next (s.mgmtFrame up f)

/-- MGMT_LINK_CHANGE: a management port gains or loses block lock (R312, R313). -/
def execMgmtLinkChange (up link : Bool) (s : State) : Res :=
  .next (if !s.hostAlive || s.mgmtLink up == link then s
  else (s.setBit aMgmtStatus (if up then 0 else 1) link).flag (mgmtFlags (if up then 0 else 1)) (if link then 1 else 0))

end Sys2Proof.Machine
end

