-- ==== Sys2Proof/Machine/Boot.lean ====
section
/-! DEFINITION. Supplies, resets and the boot of both sides (spec/17 R425-R440). -/

namespace Sys2Proof.Machine

/-! ## What a reset does (R426, R429, R434) -/

/-- The host side's addresses. -/
def hostKey (k : Nat) : Bool := !isFieldAddr k

/-- RESET_CAUSE of a side: the code of R427, SEQ for a RESET command. -/
def State.setCause (s : State) (d : Side) (cause : Nat) (seq : BitVec 16) : State :=
  s.setReg (bootAddr d 8) (mkWord [(0, cause), (16, seq.toNat)])

/-- Every piece of field state takes its reset value (R429, R434): registers, memories, engines and their work, the Hem,
the outcome network, Mender, pockets, seams, the field halves of time and of the event path, DEVTIME. -/
def State.fieldClear (s : State) : State :=
  { s with
    regs := s.regs.filter (fun r => hostKey r.1), work := [], mem := s.mem.filter (fun c => hostKey c.1)
    clk := { s.clk with devtime := 0, run := false, devHi := 0 }
    hem := Hem.reset, engines := [], sets := [], syncs := [], frameAux := [], chans := [], onet := Onet.reset
    mend := Mend.reset, pockets := [], links := s.links.filter (fun l => l.1 < 4)
    dma := { s.dma with liningHeld := [] }, cmd := { s.cmd with fm := none, stops := [] }
    evt := { way := [], lostMap := [], lostCount := s.evt.lostCount.filter (fun x => x.1 == 1336) }
    lining := { s.lining with field := LiningDir.reset, store := s.lining.store.map LinMsg.cancelAll, classC := Lining.reset.classC, fmDue := true }
    thermal := { scanned := s.thermal.scanned.filter (fun k => decide (64 ≤ k)), bandAt := [], avOff := false, canary := [] }
    hkField := HkAdc.reset, fm := Ctrl.reset, pair := Pair.reset, banks := s.banks.filter (fun b => b.1 < 0x10000)
    time := { s.time with fieldMap := Mapping.reset, fieldNext := none, align := none }
    pins := { s.pins with fieldOn := false, markOut := [] } }

/-- Every piece of host state takes its reset value (R429): registers, descriptor RAM, queue, repeat cache, buffers, host
links, the host halves of time and of the event path, DEV_IMAGE. What the NV store says of itself is kept. -/
def State.hostClear (s : State) : State :=
  { s with
    regs := s.regs.filter (fun r => !hostKey r.1), mem := s.mem.filter (fun c => !hostKey c.1)
    clk := { s.clk with image := 0 }
    dma := { DmaUnit.reset with liningHeld := s.dma.liningHeld }, links := s.links.filter (fun l => decide (4 ≤ l.1))
    cmd := { CmdUnit.reset with fm := s.cmd.fm, stops := s.cmd.stops }
    evt := { s.evt with lostCount := s.evt.lostCount.filter (fun x => x.1 != 1336) }
    lining := { s.lining with host := LiningDir.reset, store := [], hostReset := true, fmDue := true }
    thermal := { s.thermal with scanned := s.thermal.scanned.filter (fun k => decide (k < 64)) }
    hkHost := HkAdc.reset, wear := Wear.reset, ci := Ctrl.reset
    banks := s.banks.filter (fun b => decide (0x10000 ≤ b.1))
    time := { TimeUnit.reset with fieldMap := s.time.fieldMap, fieldNext := s.time.fieldNext, align := s.time.align }
    pins := { s.pins with hostOn := false, hostShut := false } }

/-- The field side is shut down (R391). -/
def State.fieldShutNow (s : State) : Bool := s.bit aFhStatus 0

/-- The field side is reset (R426, R429): the host side declares the Lining down (R26), the field side's test access
relocks (R420), a driven INTERLOCK is released (R437), and after a shutdown the hub holds the reset while a valid sensor reads above
100 °C (R391). REF_LOST survives an internal reset. -/
def State.fieldReset (s : State) (cause : Nat) (seq : BitVec 16) : State :=
  let s := (s.liningDown .host).relock .field
  let code := if s.fieldShutNow && cause != 4 then 3 else cause
  let lost := s.bit (bootAddr .field 4) 0
  let s := s.setBit aHostBoot 4 false
  let hot := if s.fieldShutNow then fieldSensors.filter (fun k => s.validAbove [k] 1601) else []
  let line := s.pins.interlock || s.drives
  let s := (s.fieldClear).setCause .field code (if code = 2 then seq else 0)
  let s : State := { s with pins := { s.pins with fieldHot := hot, interlock := line } }
  if cause = 4 then s.setBit (bootAddr .field 4) 0 lost else s

/-- A long command of the FM goes on after the host side's reset, but nothing waits for its reply any more (R28). -/
def State.orphan (s : State) : State :=
  let s := match s.cmd.fm with
    | some l => if l.op = 0x22 then s.setLong .fm none
      else { s with cmd := { s.cmd with fm := some { l with answered := true } } }
    | none => s
  let s : State := { s with cmd := { s.cmd with stops := [] } }
  s.modMend (fun m => { m with check := m.check.map (fun c => (c.1, none)) })

/-- The host side is reset (R426, R429): the field side declares the Lining down (R26). An NV page program in progress has
stopped or completed before it. Of the NV store and the field side's test access nothing is lost. -/
def State.hostReset (s : State) (cause : Nat) (seq : BitVec 16) : State :=
  let s := (s.liningDown .field).orphan
  let code := if s.pins.hostShut then 3 else cause
  let nv := s.reg aNvStatus &&& 0x007F0000#32
  let maxc := s.reg aNvMax
  let page := s.reg 0x00070014
  let bh := s.reg aBhStatus &&& 2#32
  let left := if bh = 0 then 0 else s.reg 0x00090010
  let s := (((s.hostClear).setReg aNvStatus nv).setReg aNvMax maxc).setReg 0x00070014 page
  ((s.setReg aBhStatus bh).setReg 0x00090010 left).setCause .host code (if code = 2 then seq else 0)

/-! ## Supplies and reset pins -/

/-- SUPPLY_GOOD: a side leaves its power-on reset (R425, R427). -/
def execSupplyGood (d : Side) (s : State) : Res :=
  .next (match d with
  | .host =>
    if s.pins.hostPower then s
    else State.setCause { s with pins := { s.pins with hostPower := true, hostOn := true } } .host 0 0
  | .field =>
    if s.pins.fieldPower then s
    else State.setCause { s with pins := { s.pins with fieldPower := true, fieldOn := true, fieldHot := [] } } .field 0 0)

/-- SUPPLY_LOSS: the effect of a pin reset; an NV page program stops at once (R416, R429). -/
def execSupplyLoss (d : Side) (s : State) : Res :=
  .next (match d with
  | .host =>
    if !s.pins.hostPower then s
    else
      let s := (s.nvStop).hostReset 0 0
      { s with pins := { s.pins with hostPower := false } }
  | .field =>
    if !s.pins.fieldPower then s
    else
      let s := s.fieldReset 0 0
      { s with pins := { s.pins with fieldPower := false } })

/-- The host side's shutdown does not end yet: a valid host sensor reads above 100 °C (R394). -/
def State.hostHot (s : State) : Bool := s.pins.hostShut && s.validAbove hostSensors 1601

/-- HOST_RESET_N is asserted (R426). -/
def execHostResetN (s : State) : Res :=
  .next (if s.pins.hostPower && !s.hostHot then (s.nvStop).hostReset 1 0 else s)

/-- FIELD_RESET_N is asserted (R426). -/
def execFieldResetN (s : State) : Res := .next (if s.pins.fieldPower then s.fieldReset 1 0 else s)

/-! ## RESET (R428) -/

/-- What RESET is refused with: a reserved SCOPE or bit; a field side that the Lining does not reach. -/
def State.resetStatus (s : State) (w0 : W32) : Byte :=
  if 3 ≤ w0.toNat then stBadParam
  else if w0.toNat ≠ 0 ∧ !s.hostUp then stInternal
  else stOk

/-- RESET: the reply is sent before the reset begins (R294, R428). The packet front end performs it when the CI is halted
(R373). -/
def execReset (h : Hdr) (w0 : W32) (s : State) : Res :=
  .next (if !s.hostAlive || (!s.hostReady && s.ctlMode .ci != 4) then s
  else match s.cached h, s.gate h 0x7F false with
    | some c, _ => s.resend h 0x7F c
    | none, some st => s.finish h 0x7F st
    | none, none =>
      let st := s.resetStatus w0
      let s := s.finish h 0x7F st
      if st = stOk then { s with cmd := { s.cmd with resetPend := some (w0.setWidth 2, h.seq) } } else s)

/-- RESET_EFFECT: 10 µs after the reply. The routine of each side's controller is aborted first (R369), and an NV page
program in progress completes before a host-side reset (R416, R428). -/
def execResetEffect (s : State) : Res :=
  match s.cmd.resetPend with
  | none => .next s
  | some (scope, seq) =>
    if scope ≠ 1 ∧ !s.nv.jobs.isEmpty then .next { s with nv := { s.nv with jobs := s.nv.jobs.take 1 } }
    else
      let s : State := { s with cmd := { s.cmd with resetPend := none } }
      let s := if scope ≠ 0 then (s.abortLong .fm).fieldReset 2 seq else s
      .next (if scope ≠ 1 then (s.abortLong .ci).hostReset 2 seq else s)

/-! ## Host-side boot (R430-R432) -/

/-- The unit pages that the unit writes (R413). -/
def unitPages : List Nat := [pgAddr, pgSteps, pgHk .host, pgHk .field, pgWear]

/-- The factory pages whose loss sets FACTORY_BAD (R432). -/
def factoryPages : List Nat := List.range 8 ++ (List.range 88).map (40 + ·)

/-- The journal shows a program that was cut off (R416). -/
def State.bootJournal (s : State) : State :=
  match s.nv.cut with
  | none => s
  | some p =>
    ((State.setReg { s with nv := { s.nv with cut := none } } 0x00070008 (BitVec.ofNat 32 (0x80000000 + p)))).flag nvFlags 2

/-- Pages without a valid copy are flagged (R432). -/
def State.bootPages (s : State) : State :=
  let s := if unitPages.any (fun p => (s.nvCopy p).isNone) then s.flag (bootFlags .host) 2 else s
  if factoryPages.any (fun p => (s.nvCopy p).isNone) then s.flag (bootFlags .host) 3 else s

/-- The factors of a side's housekeeping ADC as the store holds them, 0 by default (R401, R432). -/
def State.loadHk (s : State) (d : Side) : State :=
  let v := (s.nvVals (pgHk d)).getD []
  (s.setReg (hkAddr d 0x10) (v.getD 0 0)).setReg (hkAddr d 0x14) (v.getD 1 0)

/-- What the host side takes from the unit pages at boot: the pinned address, the housekeeping factors, the operating
hours. BH_NONCE takes a new random value: free. -/
def State.bootUnit (s : State) : State :=
  let a := ((s.nvVals pgAddr).getD []).getD 0 0
  let s := (s.takeAddr (wfld a 7 0)).setBit aMgmtStatus 4 (a != 0)
  let s := (s.loadHk .host).setReg 0x00080218 (((s.nvVals pgWear).getD []).getD 0 0)
  (s.setReg 0x0009000C (Config.freeWord s.free)).draw

/-- The boot page (R431), when it is valid. -/
def State.bootPage (s : State) : Option (List Byte) :=
  match s.nvCopy 256 with
  | some c => if leWord (c.data.take 4) = 0x51464231 then some c.data else none
  | none => none

/-- BOOT_FLAGS of a boot page. -/
def bootFlag (pg : List Byte) (b : Nat) : Bool := (leWord ((pg.drop 4).take 4)).getLsbD b

/-- A patch is restored from its page (R431): the checks and the apply of R377 and R378 on the page's image and signature.
A failure leaves the controller in ROM mode. -/
def State.restorePatch (s : State) (c : Ctl) (page : Nat) : Bool × State :=
  let data := ((s.nvCopy page).map (·.data)).getD []
  let im := data.take 0x900
  let sig := beWords 16 ((data.drop 0x900).take 64)
  let st := if (s.nvCopy page).isNone then some stBadParam else s.imageStatus c im sig
  match st with
  | some _ => (false, (s.flag (ctrlFlags c) 3).flag (bootFlags .host) 1)
  | none =>
    let b := !s.bank c
    (true, ((s.bankWrite c b 0 im).patchOn c b).flag (ctrlFlags c) 2)

/-- MGMT_CTRL.ETHERTYPE and TIME_CTRL.DOMAIN of the boot page (R431). -/
def State.bootConfig (s : State) (pg : List Byte) : State :=
  let et := (pg.getD 9 0 ++ pg.getD 8 0).toNat
  let s := if bootFlag pg 2 && decide (0x600 ≤ et) && et != 0x88F7 then s.setFld 0x00040000 15 0 et else s
  if bootFlag pg 3 then s.setFld aTimeCtrl 31 24 (pg.getD 10 0).toNat else s

/-- HOST_READY (R430): the time it took, for which the model keeps no clock, is free (log entry 13). BOOT_DONE comes with
it when no FM patch is named. -/
def State.bootReady (s : State) (fmPatch : Bool) : State :=
  let s := ((s.setBit aHostBoot 0 true).setReg 0x0001010C (Config.freeWord s.free)).draw
  if fmPatch then s else s.setBit aHostBoot 5 true

/-- The host side boots (R430): host links train, the store is read, the boot page is carried out. -/
def State.hostBoot (s : State) : State :=
  let s : State := { s with pins := { s.pins with hostOn := true } }
  let s := foldS (List.finRange 4) (fun k s => s.trainStart (.hl k)) s
  let s := ((s.bootJournal).bootPages).bootUnit
  let s := s.setBit aHostBoot 1 true
  match s.bootPage with
  | none => (s.flag (bootFlags .host) 0).bootReady false
  | some pg =>
    let s := (s.setBit aHostBoot 2 true).bootConfig pg
    let s := if bootFlag pg 0 then
        (let (ok, s) := s.restorePatch .ci 257
         s.setBit aHostBoot 3 ok)
      else s
    s.bootReady (bootFlag pg 1)

/-- HOST_BOOT: the reset of the host side has ended. -/
def execHostBoot (s : State) : Res := .next (if s.pins.hostPower && !s.pins.hostShut && !s.hostReady then s.hostBoot else s)

/-- FM_PATCH_RESTORE: with the Lining up after a reset of either side and the host side ready (R430, R431). -/
def execFmPatchRestore (s : State) : Res :=
  if !s.hostAlive || !s.hostReady || !s.hostUp || !s.fieldAlive || !s.lining.fmDue then .next s
  else
    let s : State := { s with lining := { s.lining with fmDue := false } }
    match s.bootPage with
    | none => .next s
    | some pg =>
      if !bootFlag pg 1 then .next s
      else
        let (ok, s) := s.restorePatch .fm 258
        .next ((s.setBit aHostBoot 4 ok).setBit aHostBoot 5 true)

/-! ## Field-side boot (R433-R436) -/

/-- A factory trim page without a valid copy sets TRIM_DEFAULT (R432). -/
def State.trimsBad (s : State) : Bool := (List.range 4).any (fun b => !s.trimTable b)

/-- CANARY_TARGET as the factory pages give it (R408, R413). -/
def State.loadCanary (s : State) : State :=
  if ((List.range 88).map (40 + ·)).all (fun p => (s.nvCopy p).isSome) then
    s.setReg 0x10053000 (Config.canaryTarget.setWidth 32) else s

/-- The field side begins to boot: trims and slice coefficients of band 3, STEPS, the housekeeping factors and
CANARY_TARGET are loaded (R386, R429). -/
def State.fieldBoot (s : State) : State :=
  let s : State := { s with pins := { s.pins with fieldOn := true } }
  let s := s.loadTrims
  let s := if s.trimsBad then s.flag (bootFlags .field) 1 else s
  let s := ((s.setFld aAvStatus 4 0 (((s.nvVals pgSteps).getD []).getD 0 0).toNat).loadHk .field).loadCanary
  (s.setBit aFieldBoot 5 true).fieldReady

/-- FIELD_RESET_RELEASE: the field side leaves its reset; after a shutdown the hub holds it until the sensors allow
(R391). -/
def execFieldResetRelease (s : State) : Res :=
  .next (if s.pins.fieldPower && s.pins.fieldHot.isEmpty && !s.bit aFieldBoot 5 then s.fieldBoot else s)

/-- REFCLK_VALID: the input has been valid for 100 µs (R462). -/
def execRefclkValid (s : State) : Res :=
  .next (if s.fieldAlive then s.setBit aFieldBoot 0 true else s)

/-- REF_LOST: the reference, or the lock, is lost. After lock this is an internal field reset with cause 4 (R433), from
which the field side boots again, a shut-down one once the hub allows it. -/
def execRefLost (s : State) : Res :=
  .next (if !s.fieldAlive then s
  else if s.pllLocked then
    let s := (s.fieldReset 4 0).flag (bootFlags .field) 0
    if s.pins.fieldHot.isEmpty then s.fieldBoot else s
  else s.setBit aFieldBoot 0 false)

/-- PLL_LOCK: DEVTIME starts and the FM asks for the power of tiles 0 to 47 (R433, R434). -/
def execPllLock (s : State) : Res :=
  if !s.fieldAlive || !s.refPresent || s.pllLocked then .next s
  else
    let s := s.setBit aFieldBoot 1 true
    let s : State := { s with clk := { s.clk with run := true } }
    .next ((foldS (List.range 48) (fun t s => s.govAsk (.tile t false) none (engOfTile t 0)) s).fieldReady)

/-- MEM_CLEAR_DONE (R434). -/
def execMemClearDone (s : State) : Res := .next (if s.fieldAlive then (s.setBit aFieldBoot 2 true).fieldReady else s)

/-- A tile's power is still on its way: requested, granted, or its 20 µs running (R434). -/
def State.tilesDue (s : State) : Bool :=
  let isTile := fun (k : GovKind) => match k with
    | .tile _ cal => !cal
    | _ => false
  !s.hem.tileWait.isEmpty || s.hem.requests.any (fun r => isTile r.kind) || s.openGrants.any (fun g => isTile g.kind)

/-- TILE_POWER_UP_DONE: 20 µs after its grant a tile is powered; after the last one TILES_POWERED is set (R434). -/
def execTilePowerUpDone (t : Tile) (s : State) : Res :=
  match tabFind s.hem.tileWait t with
  | none => .next s
  | some b =>
    let s := s.advanceTo b
    let s : State := { s with hem := { s.hem with tileWait := tabDel t s.hem.tileWait } }
    .next (if s.tilesDue then s else (s.setBit aFieldBoot 3 true).fieldReady)

end Sys2Proof.Machine
end

