-- ==== Sys2Proof/Machine/Dispatch.lean ====
section
/-! DEFINITION. What each command does: one arm per constructor of Instr, each one call of its meaning. -/

namespace Sys2Proof.Machine

/-- A command's effect on everything but the queue of waiting commands. -/
def exec (i : Instr) (s : State) : Host.Outcome State Fault Refusal :=
  match i with
  | .ping h ws => Sys2Proof.Machine.execPing h ws s
  | .read h addr => Sys2Proof.Machine.execRead h addr s
  | .write h addr v => Sys2Proof.Machine.execWrite h addr v s
  | .readBlock h addr count => Sys2Proof.Machine.execReadBlock h addr count s
  | .writeBlock h addr ws => Sys2Proof.Machine.execWriteBlock h addr ws s
  | .modify h addr mask v => Sys2Proof.Machine.execModify h addr mask v s
  | .enumerate h w0 => Sys2Proof.Machine.execEnumerate h w0 s
  | .assignAddress h w0 w1 w2 => Sys2Proof.Machine.execAssignAddress h w0 w1 w2 s
  | .load h w0 w1 data => Sys2Proof.Machine.execLoad h w0 w1 data s
  | .start h w0 w1 w2 w3 set => Sys2Proof.Machine.execStart h w0 w1 w2 w3 set s
  | .stop h w0 set => Sys2Proof.Machine.execStop h w0 set s
  | .abort h w0 w1 set => Sys2Proof.Machine.execAbort h w0 w1 set s
  | .calibrateReadout h w0 => Sys2Proof.Machine.execCalibrateReadout h w0 s
  | .calibrateFlux h w0 => Sys2Proof.Machine.execCalibrateFlux h w0 s
  | .calibrateHostHk h w0 => Sys2Proof.Machine.execCalibrateHostHk h w0 s
  | .calibrateFieldHk h w0 => Sys2Proof.Machine.execCalibrateFieldHk h w0 s
  | .canarySweep h w0 => Sys2Proof.Machine.execCanarySweep h w0 s
  | .sensorCheck h w0 => Sys2Proof.Machine.execSensorCheck h w0 s
  | .nvVerify h w0 => Sys2Proof.Machine.execNvVerify h w0 s
  | .memBist h w0 => Sys2Proof.Machine.execMemBist h w0 s
  | .converterLoop h w0 => Sys2Proof.Machine.execConverterLoop h w0 s
  | .engineCheck h w0 => Sys2Proof.Machine.execEngineCheck h w0 s
  | .hostMem h w0 => Sys2Proof.Machine.execHostMem h w0 s
  | .selfTestDone c fail => Sys2Proof.Machine.execSelfTestDone c fail s
  | .patchLoad h w0 w1 data => Sys2Proof.Machine.execPatchLoad h w0 w1 data s
  | .patchApply h w0 w1 sig => Sys2Proof.Machine.execPatchApply h w0 w1 sig s
  | .patchActivate c => Sys2Proof.Machine.execPatchActivate c s
  | .nvWrite h w0 data => Sys2Proof.Machine.execNvWrite h w0 data s
  | .nvRead h w0 w1 w2 => Sys2Proof.Machine.execNvRead h w0 w1 w2 s
  | .nvProgramDone verifyFails => Sys2Proof.Machine.execNvProgramDone verifyFails s
  | .pairJoin h w0 => Sys2Proof.Machine.execPairJoin h w0 s
  | .pairSplit h => Sys2Proof.Machine.execPairSplit h s
  | .pairHandover h w0 => Sys2Proof.Machine.execPairHandover h w0 s
  | .pairResync h => Sys2Proof.Machine.execPairResync h s
  | .timeSet h w0 w1 w2 w3 => Sys2Proof.Machine.execTimeSet h w0 w1 w2 w3 s
  | .timeStep h w0 w1 => Sys2Proof.Machine.execTimeStep h w0 w1 s
  | .timeAlignSource h w0 => Sys2Proof.Machine.execTimeAlignSource h w0 s
  | .timeAlignFollowSync h w0 => Sys2Proof.Machine.execTimeAlignFollowSync h w0 s
  | .timeAlignFollowSeam h w0 => Sys2Proof.Machine.execTimeAlignFollowSeam h w0 s
  | .testUnlock h ws => Sys2Proof.Machine.execTestUnlock h ws s
  | .reset h w0 => Sys2Proof.Machine.execReset h w0 s
  | .resetEffect => Sys2Proof.Machine.execResetEffect s
  | .halt e => Sys2Proof.Machine.execHalt e s
  | .nop e => Sys2Proof.Machine.execNop e s
  | .play e => Sys2Proof.Machine.execPlay e s
  | .playStream e => Sys2Proof.Machine.execPlayStream e s
  | .wait e => Sys2Proof.Machine.execWait e s
  | .waitUntil e => Sys2Proof.Machine.execWaitUntil e s
  | .setFreq e => Sys2Proof.Machine.execSetFreq e s
  | .shiftPhase e => Sys2Proof.Machine.execShiftPhase e s
  | .setPhase e => Sys2Proof.Machine.execSetPhase e s
  | .framePauli e => Sys2Proof.Machine.execFramePauli e s
  | .acquire e => Sys2Proof.Machine.execAcquire e s
  | .publish e => Sys2Proof.Machine.execPublish e s
  | .branch e => Sys2Proof.Machine.execBranch e s
  | .loop e => Sys2Proof.Machine.execLoop e s
  | .call e => Sys2Proof.Machine.execCall e s
  | .ret e => Sys2Proof.Machine.execRet e s
  | .mark e => Sys2Proof.Machine.execMark e s
  | .sync e => Sys2Proof.Machine.execSync e s
  | .commit e => Sys2Proof.Machine.execCommit e s
  | .armJump e => Sys2Proof.Machine.execArmJump e s
  | .counter e => Sys2Proof.Machine.execCounter e s
  | .shotEnd e => Sys2Proof.Machine.execShotEnd e s
  | .shotRendezvousComplete set => Sys2Proof.Machine.execShotRendezvousComplete set s
  | .syncComplete set group inst => Sys2Proof.Machine.execSyncComplete set group inst s
  | .syncTimeout set group inst => Sys2Proof.Machine.execSyncTimeout set group inst s
  | .hemAdmit e => Sys2Proof.Machine.execHemAdmit e s
  | .descriptorDequeue e => Sys2Proof.Machine.execDescriptorDequeue e s
  | .segmentStart e => Sys2Proof.Machine.execSegmentStart e s
  | .markOutPulse e => Sys2Proof.Machine.execMarkOutPulse e s
  | .frameUpdate => Sys2Proof.Machine.execFrameUpdate s
  | .windowOpen c => Sys2Proof.Machine.execWindowOpen c s
  | .outcomeRelease c given => Sys2Proof.Machine.execOutcomeRelease c given s
  | .slotEntryArrival e slot => Sys2Proof.Machine.execSlotEntryArrival e slot s
  | .trigInEdge pin tick => Sys2Proof.Machine.execTrigInEdge pin tick s
  | .engineDisable e v => Sys2Proof.Machine.execEngineDisable e v s
  | .removalEffect => Sys2Proof.Machine.execRemovalEffect s
  | .engineReenable e v => Sys2Proof.Machine.execEngineReenable e v s
  | .engineReenableEffect e => Sys2Proof.Machine.execEngineReenableEffect e s
  | .leadClr e v => Sys2Proof.Machine.execLeadClr e v s
  | .portEnable p v => Sys2Proof.Machine.execPortEnable p v s
  | .portEnableEffect p => Sys2Proof.Machine.execPortEnableEffect p s
  | .portDisable p v => Sys2Proof.Machine.execPortDisable p v s
  | .portCommit p block => Sys2Proof.Machine.execPortCommit p block s
  | .tileCommit t block => Sys2Proof.Machine.execTileCommit t block s
  | .commitApply => Sys2Proof.Machine.execCommitApply s
  | .fluxCfgWrite f v => Sys2Proof.Machine.execFluxCfgWrite f v s
  | .rangeClampStart f => Sys2Proof.Machine.execRangeClampStart f s
  | .rangeClampRelease f => Sys2Proof.Machine.execRangeClampRelease f s
  | .governorRequest => Sys2Proof.Machine.execGovernorRequest s
  | .governorGrant => Sys2Proof.Machine.execGovernorGrant s
  | .portWakeReady p => Sys2Proof.Machine.execPortWakeReady p s
  | .portDoze p => Sys2Proof.Machine.execPortDoze p s
  | .streamCfgWrite e v => Sys2Proof.Machine.execStreamCfgWrite e v s
  | .streamRequest e => Sys2Proof.Machine.execStreamRequest e s
  | .streamRefill e => Sys2Proof.Machine.execStreamRefill e s
  | .adcEnable l v => Sys2Proof.Machine.execAdcEnable l v s
  | .adcPortReady l => Sys2Proof.Machine.execAdcPortReady l s
  | .readoutCalTileDone k fits => Sys2Proof.Machine.execReadoutCalTileDone k fits s
  | .rotationStep l converged fit => Sys2Proof.Machine.execRotationStep l converged fit s
  | .rotStalled l => Sys2Proof.Machine.execRotStalled l s
  | .fluxCalTileDone m fits => Sys2Proof.Machine.execFluxCalTileDone m fits s
  | .hkCalDone sd offset gain => Sys2Proof.Machine.execHkCalDone sd offset gain s
  | .pledge source stamp => Sys2Proof.Machine.execPledge source stamp s
  | .outcome b o => Sys2Proof.Machine.execOutcome b o s
  | .remoteDeadline => Sys2Proof.Machine.execRemoteDeadline s
  | .mirrorDeadline => Sys2Proof.Machine.execMirrorDeadline s
  | .report b m => Sys2Proof.Machine.execReport b m s
  | .complete m => Sys2Proof.Machine.execComplete m s
  | .trig pin stamp => Sys2Proof.Machine.execTrig pin stamp s
  | .menderEnable v => Sys2Proof.Machine.execMenderEnable v s
  | .menderCheckDone => Sys2Proof.Machine.execMenderCheckDone s
  | .menderInput => Sys2Proof.Machine.execMenderInput s
  | .emptyRoundClose => Sys2Proof.Machine.execEmptyRoundClose s
  | .menderCommit => Sys2Proof.Machine.execMenderCommit s
  | .mendXchg m => Sys2Proof.Machine.execMendXchg m s
  | .seamLostExchange => Sys2Proof.Machine.execSeamLostExchange s
  | .observablePublish => Sys2Proof.Machine.execObservablePublish s
  | .menderFrameUpdate => Sys2Proof.Machine.execMenderFrameUpdate s
  | .menderScrub bad => Sys2Proof.Machine.execMenderScrub bad s
  | .dmaRun n v => Sys2Proof.Machine.execDmaRun n v s
  | .dmaKick n v => Sys2Proof.Machine.execDmaKick n v s
  | .dmaBytesComplete n units => Sys2Proof.Machine.execDmaBytesComplete n units s
  | .readData k tag status data => Sys2Proof.Machine.execReadData k tag status data s
  | .writeAck k tag status => Sys2Proof.Machine.execWriteAck k tag status s
  | .memReadTimeout k tag => Sys2Proof.Machine.execMemReadTimeout k tag s
  | .arm k v => Sys2Proof.Machine.execArm k v s
  | .disarm k v => Sys2Proof.Machine.execDisarm k v s
  | .force k v => Sys2Proof.Machine.execForce k v s
  | .triggerDecision k => Sys2Proof.Machine.execTriggerDecision k s
  | .captureComplete k => Sys2Proof.Machine.execCaptureComplete k s
  | .rearmEnd k => Sys2Proof.Machine.execRearmEnd k s
  | .pocketData k => Sys2Proof.Machine.execPocketData k s
  | .pocketOverflow k => Sys2Proof.Machine.execPocketOverflow k s
  | .liningFrameReceive rx ok lane => Sys2Proof.Machine.execLiningFrameReceive rx ok lane s
  | .liningHeartbeat sd => Sys2Proof.Machine.execLiningHeartbeat sd s
  | .liningDown sd => Sys2Proof.Machine.execLiningDown sd s
  | .liningTrainingAttempt sd => Sys2Proof.Machine.execLiningTrainingAttempt sd s
  | .liningUp => Sys2Proof.Machine.execLiningUp s
  | .registerAccess a => Sys2Proof.Machine.execRegisterAccess a s
  | .bulkLoad addr data => Sys2Proof.Machine.execBulkLoad addr data s
  | .outcomeAndResultRecord => Sys2Proof.Machine.execOutcomeAndResultRecord s
  | .eventNotice => Sys2Proof.Machine.execEventNotice s
  | .timeBeacon => Sys2Proof.Machine.execTimeBeacon s
  | .flitReceive p f => Sys2Proof.Machine.execFlitReceive p f s
  | .nak p seq => Sys2Proof.Machine.execNak p seq s
  | .nakRepeat p => Sys2Proof.Machine.execNakRepeat p s
  | .credit p c0 c1 c2 => Sys2Proof.Machine.execCredit p c0 c1 c2 s
  | .creditSend p => Sys2Proof.Machine.execCreditSend p s
  | .command k packet => Sys2Proof.Machine.execCommand k packet s
  | .train p m => Sys2Proof.Machine.execTrain p m s
  | .trainingPhasePass p => Sys2Proof.Machine.execTrainingPhasePass p s
  | .trainingPhaseTimeout p cause lanes => Sys2Proof.Machine.execTrainingPhaseTimeout p cause lanes s
  | .hostLinkRetrainTimer k => Sys2Proof.Machine.execHostLinkRetrainTimer k s
  | .clockLaneLost p => Sys2Proof.Machine.execClockLaneLost p s
  | .silence p => Sys2Proof.Machine.execSilence p s
  | .laneDrift p => Sys2Proof.Machine.execLaneDrift p s
  | .retrain p v => Sys2Proof.Machine.execRetrain p v s
  | .loopback p v => Sys2Proof.Machine.execLoopback p v s
  | .sleep p => Sys2Proof.Machine.execSleep p s
  | .quietEntry k => Sys2Proof.Machine.execQuietEntry k s
  | .dormantEntry k => Sys2Proof.Machine.execDormantEntry k s
  | .linkWake k tx => Sys2Proof.Machine.execLinkWake k tx s
  | .mgmtFrameReceive up f => Sys2Proof.Machine.execMgmtFrameReceive up f s
  | .mgmtLinkChange up link => Sys2Proof.Machine.execMgmtLinkChange up link s
  | .commandPacket port mac bytes => Sys2Proof.Machine.execCommandPacket port mac bytes s
  | .registerWrite addr v => Sys2Proof.Machine.execRegisterWrite addr v s
  | .readClear addr => Sys2Proof.Machine.execReadClear addr s
  | .devtimeLoRead => Sys2Proof.Machine.execDevtimeLoRead s
  | .netNowLoRead => Sys2Proof.Machine.execNetNowLoRead s
  | .frameFreqLoRead f anchor => Sys2Proof.Machine.execFrameFreqLoRead f anchor s
  | .frameFreqLoWrite f anchor v => Sys2Proof.Machine.execFrameFreqLoWrite f anchor v s
  | .frameFreqHiWrite f anchor v => Sys2Proof.Machine.execFrameFreqHiWrite f anchor v s
  | .timeProbe sent reply => Sys2Proof.Machine.execTimeProbe sent reply s
  | .imageLost => Sys2Proof.Machine.execImageLost s
  | .beaconSend => Sys2Proof.Machine.execBeaconSend s
  | .mappingValidFrom sd => Sys2Proof.Machine.execMappingValidFrom sd s
  | .announce up m => Sys2Proof.Machine.execAnnounce up m s
  | .ptpSync up m => Sys2Proof.Machine.execPtpSync up m s
  | .followUp up m => Sys2Proof.Machine.execFollowUp up m s
  | .delayReq up m => Sys2Proof.Machine.execDelayReq up m s
  | .delayResp up m freq => Sys2Proof.Machine.execDelayResp up m freq s
  | .holdover => Sys2Proof.Machine.execHoldover s
  | .tcUnmatchedTimeout up ident seq => Sys2Proof.Machine.execTcUnmatchedTimeout up ident seq s
  | .alignmentWordSend => Sys2Proof.Machine.execAlignmentWordSend s
  | .alignmentSourceEnd => Sys2Proof.Machine.execAlignmentSourceEnd s
  | .alignmentWordReceive bits edge => Sys2Proof.Machine.execAlignmentWordReceive bits edge s
  | .seamTimeProbe probes => Sys2Proof.Machine.execSeamTimeProbe probes s
  | .alignTimeout checkFailed => Sys2Proof.Machine.execAlignTimeout checkFailed s
  | .hello p m => Sys2Proof.Machine.execHello p m s
  | .helloTimeout => Sys2Proof.Machine.execHelloTimeout s
  | .autoJoinRetry => Sys2Proof.Machine.execAutoJoinRetry s
  | .seamBRetrain => Sys2Proof.Machine.execSeamBRetrain s
  | .heartbeatSend p => Sys2Proof.Machine.execHeartbeatSend p s
  | .heartbeat p m => Sys2Proof.Machine.execHeartbeat p m s
  | .heartbeatLost p => Sys2Proof.Machine.execHeartbeatLost p s
  | .digest block d => Sys2Proof.Machine.execDigest block d s
  | .digestGap => Sys2Proof.Machine.execDigestGap s
  | .digestReq block yoke => Sys2Proof.Machine.execDigestReq block yoke s
  | .digestDetail block yoke first ds => Sys2Proof.Machine.execDigestDetail block yoke first ds s
  | .relay part last data => Sys2Proof.Machine.execRelay part last data s
  | .releaseCause cause => Sys2Proof.Machine.execReleaseCause cause s
  | .release cause block => Sys2Proof.Machine.execRelease cause block s
  | .handover seq h cause => Sys2Proof.Machine.execHandover seq h cause s
  | .handoverAck p seq accept => Sys2Proof.Machine.execHandoverAck p seq accept s
  | .handoverAckTimeout => Sys2Proof.Machine.execHandoverAckTimeout s
  | .handoverBlock => Sys2Proof.Machine.execHandoverBlock s
  | .handoverReq cause origin => Sys2Proof.Machine.execHandoverReq cause origin s
  | .claimed block => Sys2Proof.Machine.execClaimed block s
  | .interlockHigh => Sys2Proof.Machine.execInterlockHigh s
  | .claimUnmute lineLow => Sys2Proof.Machine.execClaimUnmute lineLow s
  | .split => Sys2Proof.Machine.execSplit s
  | .resyncData addr data => Sys2Proof.Machine.execResyncData addr data s
  | .resyncCtrl kind value => Sys2Proof.Machine.execResyncCtrl kind value s
  | .resyncPassEnd => Sys2Proof.Machine.execResyncPassEnd s
  | .interrupt c => Sys2Proof.Machine.execInterrupt c s
  | .safePoint c gapNs => Sys2Proof.Machine.execSafePoint c gapNs s
  | .longAbort c v => Sys2Proof.Machine.execLongAbort c v s
  | .watchdog c => Sys2Proof.Machine.execWatchdog c s
  | .machineCheck c cause patchSpace word addr opcode => Sys2Proof.Machine.execMachineCheck c cause patchSpace word addr opcode s
  | .sensorConversion sd reading => Sys2Proof.Machine.execSensorConversion sd reading s
  | .sensorReferenceCheck sd diff => Sys2Proof.Machine.execSensorReferenceCheck sd diff s
  | .sensorTimeout sd => Sys2Proof.Machine.execSensorTimeout sd s
  | .throttleStep y => Sys2Proof.Machine.execThrottleStep y s
  | .bandChange y => Sys2Proof.Machine.execBandChange y s
  | .fieldShutdown cause => Sys2Proof.Machine.execFieldShutdown cause s
  | .yokeFault y rail => Sys2Proof.Machine.execYokeFault y rail s
  | .hostShutdown => Sys2Proof.Machine.execHostShutdown s
  | .avAdjust readVout status busOk => Sys2Proof.Machine.execAvAdjust readVout status busOk s
  | .hkConversion sd raw => Sys2Proof.Machine.execHkConversion sd raw s
  | .hkIntervalEnd sd => Sys2Proof.Machine.execHkIntervalEnd sd s
  | .hkInject sd v => Sys2Proof.Machine.execHkInject sd v s
  | .canaryMeasurement margins => Sys2Proof.Machine.execCanaryMeasurement margins s
  | .wearEstimate canary trim em nv early => Sys2Proof.Machine.execWearEstimate canary trim em nv early s
  | .wearSave => Sys2Proof.Machine.execWearSave s
  | .unlockExpiry sd => Sys2Proof.Machine.execUnlockExpiry sd s
  | .bhLock v => Sys2Proof.Machine.execBhLock v s
  | .supplyGood sd => Sys2Proof.Machine.execSupplyGood sd s
  | .supplyLoss sd => Sys2Proof.Machine.execSupplyLoss sd s
  | .hostResetN => Sys2Proof.Machine.execHostResetN s
  | .fieldResetN => Sys2Proof.Machine.execFieldResetN s
  | .hostBoot => Sys2Proof.Machine.execHostBoot s
  | .fmPatchRestore => Sys2Proof.Machine.execFmPatchRestore s
  | .refclkValid => Sys2Proof.Machine.execRefclkValid s
  | .refLost => Sys2Proof.Machine.execRefLost s
  | .pllLock => Sys2Proof.Machine.execPllLock s
  | .memClearDone => Sys2Proof.Machine.execMemClearDone s
  | .adcOverRange l m => Sys2Proof.Machine.execAdcOverRange l m s
  | .inServiceSliceFailure l slice => Sys2Proof.Machine.execInServiceSliceFailure l slice s
  | .handoverRetry => Sys2Proof.Machine.execHandoverRetry s
  | .interlockLowTimeout => Sys2Proof.Machine.execInterlockLowTimeout s
  | .fieldResetRelease => Sys2Proof.Machine.execFieldResetRelease s
  | .tilePowerUpDone t => Sys2Proof.Machine.execTilePowerUpDone t s

end Sys2Proof.Machine
end

