-- ==== Sys2Proof/Machine/Idle.lean ====
section
/-! DEFINITION. What the block does by itself while no command waits. -/

namespace Sys2Proof.Machine

/-- One block passes (R37): the sample clock advances, samples that saturated are counted (R122), and what waits in the seam queues
is sent at the rate of R179 (DESIGN CHOICE, log entry 1). -/
def State.idle (s : State) : State := (s.tickBlock.clipAll.drainQ false).drainQ true

end Sys2Proof.Machine
end

