-- ==== Sys2Proof/Safety.lean ====
section
/-! DEFINITION. What counts as a safe run: every table of the state stays in its canonical form, and no step stops. -/

namespace Sys2Proof.Machine

/-- The memory is in canonical form. -/
def Memory.wf (m : List Host.Cell) : Bool := tabWf memReset m

/-- The register tables are in canonical form. -/
def regsWf (s : State) : Bool := tabWf regReset s.regs && tabWf regReset s.work

/-- The keys of a table rise strictly, so each is listed once. -/
def keysRise {α : Type} (t : Tab α) : Bool := decide ((t.map (·.1)).Pairwise (· < ·))

/-- The state's tables are in canonical form, and the engines' is keyed once. -/
def State.wf (s : State) : Bool := Memory.wf s.mem && regsWf s && keysRise s.engines

/-- A step that does not stop. -/
def goesOn (s : State) : Prop := ∃ t, step s = .next t

/-! The terms that the statements use. -/

/-- Memory byte for byte as before. -/
def State.sameMem (s t : State) : Prop := ∀ a, t.byte a = s.byte a

/-- Every register but those of a list as before. -/
def State.sameRegs (s t : State) (but : List Nat) : Prop := ∀ a, a ∉ but → t.reg a = s.reg a

/-- t differs from s in engine e and the registers of a list alone: every other engine, register and field is as before. -/
def State.onlyEng (s t : State) (e : Nat) (regs : List Nat) : Prop :=
  t = { s with engines := t.engines, regs := t.regs } ∧ (∀ f, f ≠ e → t.eng f = s.eng f) ∧ s.sameRegs t regs

/-- t differs from s in the registers of a list alone. -/
def State.onlyRegs (s t : State) (regs : List Nat) : Prop := t = { s with regs := t.regs } ∧ s.sameRegs t regs

/-- A register's flag bit set without change of another: f is one register, b its bit. -/
def State.flagSet (s t : State) (f : FlagReg) (b : Nat) : Prop := t.reg f.addr = s.reg f.addr ||| (1#32 <<< b)

/-- Engine e can execute the instruction word w at its PC, whose opcode is op (R77). -/
abbrev State.executes (s : State) (e : Eng) (op : Nat) (w : W64) : Prop :=
  (s.eng e).goEnd = false ∧ (s.eng e).canRun = true ∧ (s.eng e).pledgeWait = none ∧ s.fetch e = w ∧ opcodeOf w = op

/-- Engine x at the next instruction, RUNNING. -/
def Engine.stepped (x : Engine) : Engine := { x with pc := x.pc + 1, st := .running, cause := 0 }

/-- The 22 engine instructions of engine e with their opcodes (R77). -/
def engInstrs (e : Eng) : List (Instr × Nat) :=
  [(.halt e, 0x00), (.nop e, 0x01), (.play e, 0x02), (.playStream e, 0x03), (.wait e, 0x04), (.waitUntil e, 0x05),
   (.setFreq e, 0x06), (.shiftPhase e, 0x07), (.setPhase e, 0x08), (.framePauli e, 0x09), (.acquire e, 0x0A),
   (.publish e, 0x0B), (.branch e, 0x0C), (.loop e, 0x0D), (.call e, 0x0E), (.ret e, 0x0F), (.mark e, 0x10),
   (.sync e, 0x11), (.commit e, 0x12), (.armJump e, 0x13), (.counter e, 0x14), (.shotEnd e, 0x15)]

/-- The CI takes the command: it runs (R430), the packet does not wait behind another (R291), it has no cached packet like it (R292), and no check before the command's own
refuses it (R27, R283, R301, R373). -/
abbrev State.takes (s : State) (h : Hdr) (op : Nat) (field : Bool) (addr : W32 := 0) : Prop :=
  s.hostAlive = true ∧ s.hostReady = true ∧ s.myTurn h = true ∧ s.ctlMode .ci ≠ 4 ∧ s.cached h = none ∧ s.gate h op field addr = none

/-- Between s and t a reply to h left with this opcode, status and parameters (R290). -/
def State.answers (s t : State) (h : Hdr) (op : Nat) (status : Byte) (ps : List W32) : Prop :=
  ∃ r l, t.sent = s.sent ++ l ∧ Out.reply r ∈ l ∧ r.port = h.port ∧ r.seq = h.seq ∧ r.tag = h.tag ∧
    r.opcode = BitVec.ofNat 8 op ∧ r.status = status ∧ r.params = ps

/-- No engine, no register of a tile and no byte of memory changes. -/
def State.tilesKept (s t : State) : Prop :=
  (∀ e, t.eng e = s.eng e) ∧ (∀ a, 0x20000000 ≤ a → t.reg a = s.reg a) ∧ s.sameMem t

/-- The window with its mark where it includes over-range sample n (R139). -/
def State.marked (s : State) (n : Nat) (x : Ctx) : Ctx :=
  if x.opened ∧ x.dead.isNone ∧ s.firstSample x ≤ n ∧ n < s.firstSample x + 32 * x.len then { x with ovr := true } else x

/-- The window as its port becomes unavailable (R156). -/
def State.unavailable (s : State) (x : Ctx) : Ctx := if s.ctxOpen x then { x with dead := some 2 } else x

/-- The MISSED counters and flags of the pockets, which a trigger cause can change (R243). -/
def pocketMissRegs : List Nat := (List.range 16).flatMap (fun k => [pocketAddr k 0x24, pocketAddr k 0x28])

/-- No slice fit of a port is repeated. -/
def fitsOnce (fits : List SliceFit) : Prop := fits.Pairwise (fun f g => ¬(f.port = g.port ∧ f.slice = g.slice))

/-- A slice fit that passes (R144). -/
def SliceFit.good (f : SliceFit) : Bool := SliceFit.inRange f && f.residualOk

/-- The entry that an OUTCOME message of the partner brings to a slot (R91, R177). -/
def seamEntry (o : SeamOutcome) : Entry :=
  { value := o.value, uncertain := o.uncertain, absent := o.absent, remote := true, stamp := some o.stamp }

/-- The same entry on its way to each of some slots. -/
def toSlots (slots : List (Nat × Nat)) (en : Entry) : List Delivery :=
  slots.map (fun es => { eng := es.1, slot := es.2, entry := en })

/-- The frame operations of a commit outside a twinset: the correction edges that it applies (R195-R197). -/
def State.commitEdges (s : State) (c : Close) : List GEntry :=
  (appliedEdges (s.windowFirst c) c.final (s.decodeWindow (s.windowFirst c) c.round).correction).map (·.g)

/-- t has committed the oldest close of s outside any exchange (R196-R201): its close is gone, the observables hold the
parities of its edges, its frame operations wait at their block, and it is counted. -/
def State.hasCommitted (s t : State) (c : Close) : Prop :=
  let gs := s.commitEdges c
  let due := bmax (c.stamp + BitVec.ofNat 32 s.mendDelays.2) (s.pin + 4)
  t.mend.closes = s.mend.closes.drop 1 ∧ t.mend.mine = none ∧ t.mend.exch = none ∧
    t.reg 0x10040030 = ((s.reg 0x10040030).setWidth 16 ^^^ obsXor gs).setWidth 32 ∧
    (t.reg 0x10040018).toNat = min 0xFFFFFFFF ((s.reg 0x10040018).toNat + 1) ∧
    t.reg 0x1004002C = BitVec.ofNat 32 (s.windowFirst c) ∧
    t.mend.finalAt = (if c.final then some due else s.mend.finalAt) ∧
    t.hem.frameQ = s.hem.frameQ ++ ((frameOps gs).take 1024).map (fun x => { block := due, frame := x.1, cls := clsMender
                                                                             op := .pauli (if x.2 % 2 = 1 then 3 else 0) (if 2 ≤ x.2 then 3 else 0) }) ∧
    (∀ e, t.eng e = s.eng e) ∧ s.sameMem t

/-- A seam message of a kind left over seam A or B (R345). -/
def State.sentSeam (s t : State) (b : Bool) (mtype : Nat) : Prop :=
  ∃ f l, t.sent = s.sent ++ l ∧ Out.seam b mtype f ∈ l

/-- Between s and t channel n fetched descriptor i (R217, R218): not valid, the channel waits for a kick; refused, it is in
ERROR with the status written back; a valid one of a channel that is not paced runs. -/
def State.dmaFetched (s t : State) (n i : Nat) : Prop :=
  let d := s.descWords i
  ((dw d 0).getLsbD 31 = false → t.dmaSt n = 3 ∧ t.bit (dmaAddr n 0xC) 6 = true ∧ t.dmaCur n = i ∧ s.sameMem t) ∧
  (∀ st, (dw d 0).getLsbD 31 = true → dmaTest d (s.dmaPaced n) (s.dmaEng n) = some st →
    t.dmaSt n = 6 ∧ t.fld (dmaAddr n 8) 31 24 = st.toNat ∧ t.word (descAddr i 6) = BitVec.ofNat 32 (st.toNat * 2 ^ 24 + 2 ^ 23) ∧
    t.bit (dmaAddr n 0xC) (if st = stMisaligned then 4 else 5) = true) ∧
  ((dw d 0).getLsbD 31 = true → dmaTest d (s.dmaPaced n) (s.dmaEng n) = none → s.dmaPaced n = false →
    t.dmaSt n = 1 ∧ (t.dmaCh n).desc = d ∧ (t.dmaCh n).moved = 0 ∧ t.dmaCur n = i ∧ t.dmaDone n = 0 ∧ (dSrc d = 0 → s.sameMem t))

/-- Channel n of t ended its descriptor in s with a status (R219): ERROR, written back. -/
def State.dmaFailed (s t : State) (n : Nat) (st : Byte) : Prop :=
  t.dmaSt n = 6 ∧ t.fld (dmaAddr n 8) 31 24 = st.toNat ∧ (t.dmaCh n).desc = [] ∧
    t.word (descAddr (s.dmaCur n) 6) = BitVec.ofNat 32 (st.toNat * 2 ^ 24 + 2 ^ 23) ∧ (∀ r ∈ t.dma.reads, r.ch ≠ n) ∧
    t.bit (dmaAddr n 0xC) (if st = stMisaligned then 4 else 5) = true

/-- Channel m as before, but for what further reads of host memory change: what it has asked for and looked ahead at, the link of its
latest transaction, the links of the writes it repeats (R225, R228, R266). -/
def State.sameDma (s t : State) (m : Nat) : Prop :=
  let x := t.dmaCh m
  x = { s.dmaCh m with asked := x.asked, ahead := x.ahead, stripe := x.stripe, writes := x.writes }

/-- No engine and no other DMA channel changes, but that it may read ahead. -/
def State.otherDma (s t : State) (n : Nat) : Prop :=
  (∀ e, t.eng e = s.eng e) ∧ ∀ m, m ≠ n → s.sameDma t m ∧ (m < 32 → n < 32 → t.dmaSt m = s.dmaSt m ∧ t.dmaDone m = s.dmaDone m)

/-- t is s with bits of one register changed alone. -/
abbrev State.onlyReg (s t : State) (a : Nat) : Prop := s.onlyRegs t [a]

/-- Words v were stored from address a on, and no other byte of memory changed. -/
def State.stored (s t : State) (a : Nat) (vs : List W32) : Prop :=
  (∀ i < vs.length, t.word (a + 4 * i) = vs.getD i 0 &&& memMask (a + 4 * i)) ∧
    ∀ b, b < a ∨ a + 4 * vs.length ≤ b → t.byte b = s.byte b

/-- A memory range that takes a write as plain words: in one memory, not refused, neither frames nor QUBIT_MAP. -/
def State.plainStore (s : State) (a n : Nat) : Prop :=
  inOneMem a (4 * n) = true ∧ s.memRefusal a true = none ∧ inQmap a = false ∧ ∀ i < n, inFrames (a + 4 * i) = false

/-- No engine, no byte of memory and no field register changes. -/
def State.fieldKept (s t : State) : Prop :=
  (∀ e, t.eng e = s.eng e) ∧ s.sameMem t ∧ ∀ a, 0x10000000 ≤ a → t.reg a = s.reg a

/-- Port p of t went DOWN from UP in s (R273, R274): a host link that is enabled trains again, its flit layer is begun anew,
the loss is counted and LINK_LOST and the flags given are set. -/
def State.linkDropped (s t : State) (p : LPort) (more : List Nat) : Prop :=
  t.linkSt p = (if !isSeam p && s.linkEn p then 1 else 0) ∧ t.link p = Link.reset ∧
    (t.reg (linkAddr p 0x20)).toNat = min 0xFFFFFFFF ((s.reg (linkAddr p 0x20)).toNat + 1) ∧
    (∀ b ∈ 0 :: more, t.bit (linkAddr p 8) b = true) ∧
    (isSeam p = false → (∀ e, t.eng e = s.eng e) ∧ ∀ q, q ≠ p → t.linkSt q = s.linkSt q)

/-- A control flit as port p sends it in s (R258, R260): the next SEQ, the latest SEQ received, VC 3. -/
def State.ctlFlit (s : State) (p : LPort) (ftype : Nat) (fields : List (Nat × Nat)) : Out :=
  .control p (mkFlit false (controlPayload ftype fields) (s.link p).nextSeq ((s.link p).expSeq - 1) 3)

/-- A PTP message as it leaves the other port than it came by, where that port has link (R324). -/
def State.ptpOut (s : State) (up : Bool) (kind : Nat) (corr : Int) : List Out := if s.mgmtLink (!up) then [.ptp (!up) kind corr] else []

/-- No engine, no byte of memory and no other port's flit layer changes. -/
def State.portKept (s t : State) (p : LPort) : Prop :=
  (∀ e, t.eng e = s.eng e) ∧ s.sameMem t ∧ ∀ q, q ≠ p → t.link q = s.link q

/-- Between s and t control flits alone left port p, whose transmit direction is ACTIVE. -/
def State.ctlSent (s t : State) (p : LPort) (fs : List Out) : Prop :=
  t = { s with sent := s.sent ++ fs, regs := t.regs, links := t.links } ∧ s.sameRegs t [linkAddr p 4] ∧ t.fld (linkAddr p 4) 6 5 = 0 ∧ s.portKept t p

/-- Between s and t one frame left on a management port that has link, none on one without (R287): its count and what was
sent alone change. -/
def State.frameLeft (s t : State) (up : Bool) (f : Frame) : Prop :=
  if s.mgmtLink up then t = { s with sent := s.sent ++ [.frame up f], regs := t.regs } ∧
    s.sameRegs t [if up then 0x00040024 else 0x00040034] else t = s

/-- A register whose value is stored, not found when it is read: a read of it shows what it holds. -/
def State.plainReg (s : State) (a : Nat) : Prop :=
  s.computed a = none ∧ a ≠ 0x00050010 ∧ a ≠ 0x00090010 ∧ prbsPort a = none ∧ (a < 0x20000000 ∨ ((a < 0x30000000 ∨ 0x40000000 ≤ a) ∧ a % 0x1000000 < 0xC200))

/-- A register that a write sets as its mask says, with no meaning of its own and no refusal. -/
def State.plainWrite (s : State) (a : Nat) (m v : W32) : Prop :=
  s.writeRefusal a v = none ∧ a ≠ aMendCtrl ∧
    (if a < 0x10000000 then s.hostWrite a v else if a < 0x20000000 then s.fieldWrite a v else s.tileWrite a .rw m v) = none

/-- Between s and t a long command of a controller that is free was accepted: PENDING is answered where asked for, and its
routine runs (R291, R294). -/
def State.longStarted (s t : State) (c : Ctl) (h : Hdr) (op : Nat) : Prop :=
  (ackReq h = true → s.answers t h op stPending []) ∧
    ∃ l, t.long c = some l ∧ l.op = BitVec.ofNat 8 op ∧ l.h = h ∧ l.answered = false

/-- Between s and t an ENUMERATE left on MGMT_DN with NEXT replaced, or, without link there, none did (R302). -/
def State.enumSent (s t : State) (h : Hdr) (w0 : W32) (next : Nat) : Prop :=
  (s.mgmtLink false = true →
    t.sent.getLast? = some (.frame false (s.ownFrame Config.chainMac (s.sourceMac h)
      (packetBytes h.ver h.dest 0 0x10 h.seq h.flags 0 h.tag [putFld w0 7 0 next])))) ∧
  (s.mgmtLink false = false → ∀ l, t.sent = s.sent ++ l → ∀ b, Out.frame false b ∉ l)

/-- The unit's address and all but what a reply changes are as before: nothing was done. -/
def State.refused (s t : State) (h : Hdr) (op : Nat) (st : Byte) : Prop :=
  s.answers t h op st [] ∧ s.tilesKept t ∧ t.unitAddr = s.unitAddr ∧ t.nv = s.nv ∧ t.banks = s.banks ∧
    t.cmd.ci = s.cmd.ci ∧ t.cmd.fm = s.cmd.fm

/-- Between s and t the final reply of the pairing command op left, and the FM's routine ended, where that command waits. -/
def State.endsPairing (s t : State) (op : Nat) (st : Byte) (ps : List W32) : Prop :=
  ∀ l, s.cmd.fm = some l → l.op = BitVec.ofNat 8 op → l.answered = false →
    t.cmd.fm = none ∧ ((st ≠ stOk ∧ st ≠ stPending) ∨ ps ≠ [] ∨ ackReq l.h = true → s.answers t l.h op st ps)

/-- A join ended in t without success for a cause (R343): the ports of its seams are DOWN. -/
def State.joinFailed (s t : State) (cause : Nat) (st : Byte) : Prop :=
  t.pair.joining = false ∧ t.pair.waitSeams = [] ∧ t.fld aPairStatus 27 24 = cause ∧ t.bit pairFlags.addr 0 = true ∧
    (∀ p ∈ s.pair.waitSeams, t.linkSt p = 0 ∧ t.bit (linkAddr p 0) 0 = false) ∧ t.pairState = s.pairState ∧
    s.endsPairing t 0x60 st [] ∧ (∀ e, t.eng e = s.eng e) ∧ ((∀ p ∈ s.pair.waitSeams, isSeam p = true) → s.sameMem t)

/-- t is muted, in a pair state with a cause (R341, R361). -/
def State.fellTo (t : State) (st cause : Nat) : Prop :=
  t.pairState = st ∧ t.fld aPairStatus 31 28 = cause ∧ t.pair.unmuted = false ∧ (st = 6 → t.bit pairFlags.addr 2 = true)

/-- Control left t for a cause: SUSPECT, muted, INTERLOCK no longer driven, RELEASED (R352). -/
def State.gaveUp (t : State) (cause : Nat) : Prop := t.fellTo 6 cause ∧ t.drives = false ∧ t.bit pairFlags.addr 4 = true ∧ t.pair.hand = none

/-- The handover in progress in s is gone in t: refused, and PAIR_HANDOVER ended INTERNAL where it asked for it (R353, R356). -/
def State.handRefused (s t : State) (host : Bool) : Prop :=
  t.pair.hand = none ∧ t.bit pairFlags.addr 6 = true ∧ t.pairState = s.pairState ∧ (host = true → s.endsPairing t 0x62 stInternal []) ∧
    (∀ e, t.eng e = s.eng e) ∧ s.sameMem t

/-- t has a handover at H for a cause, HANDOVER sent over seam B where it is UP. -/
def State.handBegun (s t : State) (h : W32) (cause : Nat) (host : Bool) : Prop :=
  t.pair.hand = some { h, cause, acks := if s.twin then [.seamB, .seamB, .seamA] else [.seamB], seq := s.pair.seq + 1, giving := true, host } ∧
    (s.linkUp .seamB = true → s.sentSeam t true 0x09) ∧ t.pairState = s.pairState ∧ (∀ e, t.eng e = s.eng e) ∧ s.sameMem t

/-- Between s and t sensor k failed (R382): it reads 101 °C; a field sensor's yoke is at level 4. -/
def State.sensorLost (s t : State) (k : Nat) : Prop :=
  t.reg (aTemp k) = 0x10650 ∧
    (k < 64 → t.bit (if k < 32 then 0x10050010 else 0x10050014) (k % 32) = true ∧ t.bit fhFlags.addr 1 = true ∧ t.yokeLevel (k / 16) = 4) ∧
    (64 ≤ k → t.bit aHhStatus (16 + (k - 64)) = true ∧ t.bit hhFlags.addr 0 = true ∧ s.tilesKept t)

/-- v is a conversion's result under the factors in HK_CAL (R399): exact, or, where it does not divide, one of its neighbours. -/
def State.hkValue (s : State) (d : Side) (raw v : Int) : Prop :=
  let k := (16 * raw - sfld (s.reg (hkAddr d 0x10)) 16) * (2 ^ 20 + sfld (s.reg (hkAddr d 0x14)) 18)
  v = sat16 (k / 2 ^ 24) ∨ (k % 2 ^ 24 ≠ 0 ∧ v = sat16 (k / 2 ^ 24 + 1))

/-- Side d is locked in t, its SEL registers 0, its test pins at high impedance, and RELOCKED set (R420). -/
def State.relocked (t : State) (d : Side) : Prop :=
  t.bit aBhStatus (bhBit d) = false ∧ (∀ i < 8, t.reg (aSel d i) = 0 ∧ t.testPin d i = .highZ) ∧ t.bit bhFlags.addr 2 = true

/-- The code that a side's reset records, and the SEQ of a RESET command (R427). -/
def causeWord (cause : Nat) (seq : BitVec 16) : W32 := mkWord [(0, cause), (16, if cause = 2 then seq.toNat else 0)]

/-- The host side of t is in reset with what R429 says it loses lost: queue, repeat cache, routine, address, descriptor RAM, DEV_IMAGE. -/
def State.hostCleared (t : State) (cause : Nat) (seq : BitVec 16) : Prop :=
  t.pins.hostOn = false ∧ t.pins.hostShut = false ∧ t.clk.image = 0 ∧ t.cmd.queue = [] ∧ t.cmd.cache = [] ∧ t.cmd.ci = none ∧ t.unitAddr = 0 ∧
    t.ctlMode .ci = 0 ∧ t.hostReady = false ∧ t.fieldUp = false ∧ (∀ a, a < 0x10000000 → t.byte a = memReset a) ∧
    t.reg (bootAddr .host 8) = causeWord cause seq

/-- What a host reset keeps of the field side (R429): engines and their work, memories, tile registers, the pair state, DEVTIME. -/
def State.hostKept (s t : State) : Prop :=
  (∀ e, t.eng e = s.eng e) ∧ t.hem = s.hem ∧ (∀ a, 0x10000000 ≤ a → t.byte a = s.byte a) ∧ (∀ a, 0x20000000 ≤ a → t.reg a = s.reg a) ∧
    t.pairState = s.pairState ∧ t.clk.devtime = s.clk.devtime ∧ t.clk.run = s.clk.run

/-- The field side of t has the contents of R434: engines IDLE, memories and tile registers at reset, ALONE, DEVTIME at 0. -/
def State.fieldCleared (t : State) (cause : Nat) (seq : BitVec 16) : Prop :=
  (∀ e, t.eng e = Engine.reset) ∧ t.hem = Hem.reset ∧ (∀ a, 0x10000000 ≤ a → t.byte a = memReset a) ∧ (∀ a, 0x20000000 ≤ a → t.reg a = regReset a) ∧
    t.pairState = 0 ∧ t.clk.devtime = 0 ∧ t.clk.run = false ∧ t.cmd.fm = none ∧ t.pins.fieldOn = false ∧ t.hostUp = false ∧ t.ctlMode .fm = 0 ∧
    t.reg (bootAddr .field 8) = causeWord cause seq

end Sys2Proof.Machine
end

