-- ==== Sys2Proof/Certificates/Slice0/Obligations.lean ====
section
/-! DEFINITION. The statements for the provers. -/

open Sys2Proof Sys2Proof.Machine

/-- A step takes the command at the front of the queue and runs it with the rest of the queue. (00_scope.md, 11_commands_and_management_chain.md) -/
def Obligations.StepRunsFrontCommand : Prop :=
  ∀ (c : Instr) (rest : List Instr) (s : State),
    Sys2Proof.Machine.step { s with pending := c :: rest } = Sys2Proof.Machine.exec c { s with pending := rest }

/-- On an empty queue one block passes: DEVTIME advances by 64 ticks while it runs, DEV_IMAGE while the host side runs. (R37, R315, 02_time_and_the_hem.md) -/
def Obligations.EmptyQueuePassesOneBlock : Prop :=
  ∀ s : State, s.pending = [] → ∃ t : State, Sys2Proof.Machine.step s = .next t ∧
    t.clk.devtime = (if s.clk.run then s.clk.devtime + 64 else s.clk.devtime) ∧
    t.clk.image = (if s.pins.hostOn then s.clk.image + 64 else s.clk.image) ∧
    t.clk.run = s.clk.run ∧ t.pending = [] ∧ s.sameMem t ∧ (∀ e, t.eng e = s.eng e) ∧ t.hem = s.hem

/-- Every step keeps memory, register tables and the engine table in canonical form. (18_address_map.md, R444) -/
def Obligations.TablesStayCanonical : Prop :=
  ∀ s t : State, s.wf = true → Sys2Proof.Machine.step s = .next t → t.wf = true

/-- Every step goes on, takes exactly the front command from the queue and adds none. (R290, R293, 00_scope.md, 11_commands_and_management_chain.md) -/
def Obligations.StepTakesOneCommand : Prop :=
  ∀ s : State, ∃ t : State, Sys2Proof.Machine.step s = .next t ∧ t.pending = s.pending.tail

/-- After reset the tables are canonical, every register holds the reset value of its map, every engine is IDLE, DEVTIME is 0 and does not run, the unit is ALONE. (R37, R61, R68, R341, R429, R434) -/
def Obligations.ResetLeaves : Prop :=
  State.reset.wf = true ∧ (∀ a, State.reset.reg a = regReset a) ∧
  (∀ e, (State.reset.eng e).st = .idle ∧ (State.reset.eng e).pc = 0 ∧ (State.reset.eng e).work = []) ∧
  State.reset.clk.devtime = 0 ∧ State.reset.clk.run = false ∧ State.reset.hem.config = 0 ∧ State.reset.hem.band = 3 ∧
  State.reset.pairState = 0 ∧ State.reset.pending = []

/-- NOP, WAIT, LOOP, CALL, RETURN and ARM_JUMP: the program counter, cursor, counter, stack and pending arm they leave. (R74, R76, R77, R80, R81, R82, R90, R98) -/
def Obligations.EngineFlowInstructions : Prop :=
  ∀ (s : State) (e : Eng) (w : W64), (s.eng e).pc < 16383 →
    (s.executes e 0x01 w → bareOk w = true → ∃ t : State, Sys2Proof.Machine.exec (.nop e) s = .next t.serveRuns ∧
      s.onlyEng t e [] ∧ t.eng e = (s.eng e).stepped) ∧
    (∀ p, s.executes e 0x04 w → decWait w = some p → ∃ t : State, ∃ c, Sys2Proof.Machine.exec (.wait e) s = .next t.serveRuns ∧
      s.onlyEng t e [] ∧ t.eng e = { (s.eng e).stepped with cur := c } ∧
      64 * c.b.toNat + c.t.toNat = (64 * (s.eng e).cur.b.toNat + (s.eng e).cur.t.toNat + 64 * p.blocks.toNat + p.ticks.toNat +
        (match p.ctr with | some i => 64 * (s.reg (engAddr e (0x20 + 4 * i))).toNat | none => 0)) % 2 ^ 38) ∧
    (∀ p, s.executes e 0x0D w → decLoop w = some p → let a := engAddr e (0x20 + 4 * p.1)
      ∃ t : State, Sys2Proof.Machine.exec (.loop e) s = .next (if s.reg a = 0 then t else t.touch a).serveRuns ∧
      s.onlyEng t e [a] ∧
      t.reg a = (if s.reg a = 0 then 0 else s.reg a - 1) ∧
      t.eng e = { (s.eng e).stepped with
        pc := if s.reg a = 0 ∨ s.reg a = 1 then (s.eng e).pc + 1 else p.2 }) ∧
    (∀ target, s.executes e 0x0E w → decCall w = some target → (s.eng e).stack.length < 4 →
      ∃ t : State, Sys2Proof.Machine.exec (.call e) s = .next t.serveRuns ∧ s.onlyEng t e [] ∧
      t.eng e = { (s.eng e).stepped with pc := target, stack := ((s.eng e).pc + 1) :: (s.eng e).stack }) ∧
    (∀ a rest, s.executes e 0x0F w → bareOk w = true → (s.eng e).stack = a :: rest → a ≤ 16383 →
      ∃ t : State, Sys2Proof.Machine.exec (.ret e) s = .next t.serveRuns ∧ s.onlyEng t e [] ∧
      t.eng e = { (s.eng e).stepped with pc := a, stack := rest }) ∧
    (∀ a, s.executes e 0x13 w → decArm w = some a → ∃ t : State, Sys2Proof.Machine.exec (.armJump e) s = .next t.serveRuns ∧
      s.onlyEng t e [] ∧ t.eng e = { (s.eng e).stepped with arm := some a })

/-- PLAY, PLAY_STREAM, the frame instructions and MARK offer one descriptor and go on; its COND, REMOTE and FB_DELTA come from the deciding stamps. (R41, R43, R74, R78, R79, R84, R89, R98, R47, R75) -/
def Obligations.EngineDescriptorInstructions : Prop :=
  (∀ (s : State) (e : Eng) (w : W64), (s.eng e).pc < 16383 →
    let x := s.eng e
    let offers := fun (c : Instr) (d : Desc) (cur : Tm) =>
      (x.offer = none → ∃ t : State, Sys2Proof.Machine.exec c s = .next t.serveRuns ∧ s.onlyEng t e [] ∧
        t.eng e = { x.stepped with cur := cur, offer := some { d := d, slot := false, stream := false } }) ∧
      (x.offer.isSome → ∃ t : State, Sys2Proof.Machine.exec c s = .next t.serveRuns ∧ s.onlyEng t e [] ∧
        t.eng e = { x with st := .waiting, cause := 1 })
    let frame := fun (sel : Nat) (op : FrameOp) => s.mkDesc e x.cur.b 0 (.frame (s.frameSlot e sel) op)
    let later := fun (n : Nat) => ({ x.cur with b := x.cur.b + BitVec.ofNat 32 n } : Tm)
    (∀ p, s.executes e 0x02 w → decPlay w = some p → 2 ≤ p.len → p.env + p.len ≤ envGranules e → p.armed = false →
      offers (.play e) (s.mkDesc e x.cur.b x.cur.t (.play p.env p.len p.amp (s.frameSlot e p.sel))) (later p.len)) ∧
    (∀ p a, s.executes e 0x02 w → decPlay w = some p → 2 ≤ p.len → p.env + p.len ≤ envGranules e → p.armed = true →
      x.arm = some a → x.offer = none →
      let d := s.mkDesc e x.cur.b x.cur.t (.play p.env p.len p.amp (s.frameSlot e p.sel)) true
      ∃ t : State, Sys2Proof.Machine.exec (.play e) s = .next t.serveRuns ∧ s.onlyEng t e [] ∧
        t.eng e = { x.stepped with
          cur := later p.len, offer := some { d := d, slot := false, stream := false }, arm := none
          live := x.live ++ [{ a with span := some (x.cur, later p.len) }] }) ∧
    (∀ p, s.executes e 0x03 w → decStream w = some p → 2 ≤ p.len → 16 * p.len ≤ 4096 * s.fld (engAddr e 0x38) 8 4 →
      offers (.playStream e) (s.mkDesc e x.cur.b x.cur.t (.stream p.len p.amp (s.frameSlot e p.sel))) (later p.len)) ∧
    (∀ p, s.executes e 0x06 w → decSetFreq w = some p → offers (.setFreq e) (frame p.2.1 (.setFreq p.1 p.2.2)) x.cur) ∧
    (∀ p, s.executes e 0x07 w → decShift w = some p → offers (.shiftPhase e) (frame p.2.1 (.shift (p.1 +
      (match p.2.2 with | some i => s.reg (engAddr e (0x20 + 4 * i)) | none => 0)))) x.cur) ∧
    (∀ p, s.executes e 0x08 w → decSetPhase w = some p → offers (.setPhase e) (frame p.2 (.setPhase p.1)) x.cur) ∧
    (∀ p, s.executes e 0x09 w → decPauli w = some p → offers (.framePauli e) (frame p.1 (.pauli p.2.1 p.2.2)) x.cur) ∧
    (∀ p, s.executes e 0x10 w → decMark w = some p → offers (.mark e)
      (s.mkDesc e x.cur.b x.cur.t (.mark p.event p.pin p.width p.code)) x.cur)) ∧
  (∀ (s : State) (e : Nat) (start : W32) (tick : BitVec 6) (body : Body) (armed : Bool),
    let x := s.eng e
    let d := s.mkDesc e start tick body armed
    let sat := fun (stamp : W32) => (max 0 (min 4095 (start - stamp).toInt)).toNat
    d.start = start ∧ d.tick = tick ∧ d.body = body ∧ d.armed = armed ∧ d.absent = x.refuse ∧
    (d.cond = true ↔ x.decL ≠ none ∨ x.decR ≠ none) ∧
    (x.decL = none → x.decR = none → d.remote = false ∧ d.fbDelta = 0) ∧
    (∀ l, x.decL = some l → x.decR = none → d.remote = false ∧ d.fbDelta = sat l) ∧
    (∀ r, x.decL = none → x.decR = some r → d.remote = true ∧ d.fbDelta = sat r) ∧
    (∀ l r, x.decL = some l → x.decR = some r →
      ((start - r).toInt - s.floorRemote < (start - l).toInt - s.floorLocal → d.remote = true ∧ d.fbDelta = sat r) ∧
      ((start - l).toInt - s.floorLocal < (start - r).toInt - s.floorRemote → d.remote = false ∧ d.fbDelta = sat l)))

/-- WAIT_UNTIL, BRANCH, COUNTER, COMMIT and HALT: cursor, jump, counter, commit request and state they leave. (R71, R74, R80, R83, R88, R89, R92, R93) -/
def Obligations.EngineControlInstructions : Prop :=
  ∀ (s : State) (e : Eng) (w : W64), (s.eng e).pc < 16383 →
    let x := s.eng e
    (∀ p, s.executes e 0x05 w → decWaitUntil w = some p →
      let target := p.1 + (if p.2 = 1 then x.shotStart else if p.2 = 2 then x.s0 else 0)
      ((0 < (target - x.cur.b).toInt ∨ (target = x.cur.b ∧ x.cur.t = 0)) →
        ∃ t : State, Sys2Proof.Machine.exec (.waitUntil e) s = .next t.serveRuns ∧ s.onlyEng t e [] ∧
          t.eng e = { x.stepped with cur := { b := target, t := 0 } }) ∧
      (((target - x.cur.b).toInt < 0 ∨ (target = x.cur.b ∧ x.cur.t ≠ 0)) →
        ∃ t : State, Sys2Proof.Machine.exec (.waitUntil e) s = .next t.serveRuns ∧ t.eng e = x.stepped ∧
          t.bit (engAddr e 0x0C) 2 = true ∧ s.sameMem t ∧ s.sameRegs t [engAddr e 0x0C] ∧
          (∀ f : Nat, f ≠ e.val → t.eng f = s.eng f))) ∧
    (∀ b, s.executes e 0x0C w → decBranch w = some b →
      let goes := fun (taken : Bool) (y : Engine) =>
        ∃ t : State, Sys2Proof.Machine.exec (.branch e) s = .next t.serveRuns ∧ s.onlyEng t e [] ∧
          t.eng e = { y.stepped with pc := if taken != b.neg then b.target else x.pc + 1 }
      (b.cond = 0 → goes true x) ∧
      (b.cond = 6 → goes (cmpHolds b.cmp (s.reg (engAddr e (0x20 + 4 * b.ctr))).toInt b.imm) x) ∧
      (∀ en rest, x.slot b.slot = en :: rest →
        (b.cond = 1 → en.absent = false → goes (en.value != 0) (x.takeSlot b.slot en b.keep)) ∧
        (b.cond = 2 → en.absent = false → goes (en.value.toNat == b.state) (x.takeSlot b.slot en b.keep)) ∧
        (b.cond = 3 → en.absent = false → goes en.uncertain (x.takeSlot b.slot en b.keep)) ∧
        (b.cond = 7 → goes en.absent (x.takeSlot b.slot en b.keep)))) ∧
    (∀ p, s.executes e 0x14 w → decCounter w = some p → p.op < 4 →
      let a := engAddr e (0x20 + 4 * p.ctr)
      ∃ t : State, Sys2Proof.Machine.exec (.counter e) s = .next (t.touch a).serveRuns ∧ s.onlyEng t e [a] ∧ t.eng e = x.stepped ∧
        t.reg a = (if p.op = 0 then p.imm else if p.op = 1 then s.reg a + p.imm else if p.op = 2 then x.shotNo
          else s.reg a + s.reg (engAddr e (0x20 + 4 * p.src)))) ∧
    (∀ n, s.executes e 0x12 w → decCommit w = some (false, n) →
      let blk := x.cur.b + BitVec.ofNat 32 n
      let first := s.pin + 4
      ∃ t : State, Sys2Proof.Machine.exec (.commit e) s = .next t.serveRuns ∧ t.eng e = x.stepped ∧ s.sameMem t ∧
        t.hem.commits = s.hem.commits ++ [{ port := portOfEng e, block := bmax blk first, late := blt blk first, eng := some e }] ∧
        t.bit (portAddr (portOfEng e) 4) 8 = true ∧ (∀ f : Nat, f ≠ e.val → t.eng f = s.eng f) ∧
        s.sameRegs t [portAddr (portOfEng e) 4]) ∧
    (s.executes e 0x00 w → bareOk w = true →
      ∃ t : State, Sys2Proof.Machine.exec (.halt e) s = .next t.serveRuns ∧ t = { s with engines := t.engines, sets := t.sets } ∧
        (x.set = none → t.eng e = { x with st := .halted, cause := 0 } ∧ (∀ f : Nat, f ≠ e.val → t.eng f = s.eng f)) ∧
        (∀ id, x.set = some id → t.eng e = { x.noteGone e with st := .halted, cause := 0 } ∧
          (∀ f : Nat, f ≠ e.val → t.eng f = (s.eng f).noteGone e) ∧ t.sets = s.sets.map (fun g => if g.id = id then
          { g with members := g.members.filter (· != e.val), halted := g.halted ++ [e.val] } else g)))

/-- ACQUIRE, PUBLISH, SYNC and SHOT_END: window contexts, outcome, instance and rendezvous reports. (R70, R85, R86, R91, R94, R95, R155, R170) -/
def Obligations.EngineMeetingInstructions : Prop :=
  ∀ (s : State) (e : Eng) (w : W64), (s.eng e).pc < 16383 →
    let x := s.eng e
    (∀ p, s.executes e 0x0A w → decAcquire w = some p → 512 ≤ e.val → e.val < 1024 → x.offer = none → s.twin = false →
      (∀ c ∈ maskChans e p.mask, s.ctxHeld c < 5) →
      let start := x.cur.b + BitVec.ofNat 32 p.offset
      ∃ t : State, Sys2Proof.Machine.exec (.acquire e) s = .next t.serveRuns ∧
        t = { s with engines := t.engines, chans := t.chans } ∧ (∀ f : Nat, f ≠ e.val → t.eng f = s.eng f) ∧
        t.eng e = { x.stepped with offer := some { d := s.mkDesc e start x.cur.t (.acquire p.mask p.wset p.len), slot := false, stream := false } } ∧
        (∀ c, t.ctxs c = if c ∈ maskChans e p.mask then s.ctxs c ++ [{
            start := start, tick := x.cur.t, len := p.len, wset := p.wset, shotNo := x.shotNo, eng := e, words := []
            opened := false, dead := none, ovr := false, flip := none }] else s.ctxs c)) ∧
    (∀ id v inv, s.executes e 0x0B w → decPublish w = some (id, .value v, inv) → s.twin = false →
      (s.reg (pubOwnerAddr id)).getLsbD 31 = true → s.fld (pubOwnerAddr id) 10 0 = e.val →
      ∃ t : State, Sys2Proof.Machine.exec (.publish e) s = .next t.serveRuns ∧ t.eng e = x.stepped ∧
        t = { s with engines := t.engines, onet := t.onet } ∧ (∀ f : Nat, f ≠ e.val → t.eng f = s.eng f) ∧
        t.onet.deliv = s.onet.deliv ++ (s.boundSlots (512 + id) false).map (fun es => { eng := es.1, slot := es.2, entry := {
          value := if v != inv then 1 else 0, uncertain := false, absent := false, remote := false, stamp := some x.cur.b } })) ∧
    (∀ p id, s.executes e 0x11 w → decSync w = some p → x.set = some id → s.syncMember p.1 e = true →
      let k := tabGet 0 x.syncs p.1
      (∀ i, s.findSync id p.1 k = some i → i.closed = false) →
      ∃ t : State, ∃ i, Sys2Proof.Machine.exec (.sync e) s = .next t.serveRuns ∧
        t = { s with engines := t.engines, syncs := t.syncs } ∧ (∀ f : Nat, f ≠ e.val → t.eng f = s.eng f) ∧
        t.eng e = { x with st := .waiting, cause := 3, refuse := false, syncs := tabSet 0 x.syncs p.1 (k + 1) } ∧
        t.findSync id p.1 k = some i ∧ i.offset = p.2 ∧ (e.val, x.cur.ceil) ∈ i.arrived) ∧
    (∀ id, s.executes e 0x15 w → bareOk w = true → x.set = some id →
      ∃ t : State, Sys2Proof.Machine.exec (.shotEnd e) s = .next t.serveRuns ∧
        t = { s with engines := t.engines, sets := t.sets } ∧ (∀ f : Nat, f ≠ e.val → t.eng f = (s.eng f).noteGone e) ∧
        t.eng e = { x.noteGone e with st := .waiting, cause := 4, refuse := false } ∧
        t.sets = s.sets.map (fun g => if g.id = id then
          { g with reports := g.reports.filter (fun r => r.1 != e.val) ++ [(e.val, x.cur.ceil)] } else g))

/-- A reserved opcode or a non-zero reserved bit faults the engine and has no other effect. (R68, R71, R77) -/
def Obligations.IllegalInstructionFaults : Prop :=
  ∀ (s : State) (e : Eng) (w : W64) (c : Instr × Nat), c ∈ engInstrs e →
    ((0x15 < opcodeOf w ∧ s.executes e (opcodeOf w) w) ∨
      (c.2 ∈ [0x00, 0x01, 0x0F, 0x15] ∧ s.executes e c.2 w ∧ bareOk w = false)) →
    ∃ t : State, Sys2Proof.Machine.exec c.1 s = .next t.serveRuns ∧ t.bit (engAddr e 0x0C) 0 = true ∧
      s.sameMem t ∧ s.sameRegs t [engAddr e 0x0C] ∧
      let left := fun (f : Nat) => if (s.eng e).set.isSome then (s.eng f).noteGone e else s.eng f
      t.eng e = { left e with st := .fault, cause := 0, arm := none, set := none } ∧ (∀ f : Nat, f ≠ e.val → t.eng f = left f)

/-- What follows an engine event changes no engine but to release waiting readers, and nothing where nothing waits. (R91, R175, R190, R346) -/
def Obligations.EngineEventsServed : Prop :=
  (∀ (s : State) (e : Nat), { s.serveRuns.eng e with st := (s.eng e).st, cause := (s.eng e).cause } = s.eng e) ∧
  (∀ s : State, s.sameMem s.serveRuns) ∧
  (∀ s : State, s.sets = [] → s.syncs = [] → s.mend.set = none → (∀ e, (s.eng e).cause ≠ 2) → s.serveRuns = s)

/-- A shot rendezvous that completes starts the next shot at B_SHOT for every engine of the set, or ends the set. (R56, R70, R71, R73, R390) -/
def Obligations.RendezvousFormsNextShot : Prop :=
  ∀ (s : State) (id : Nat) (g : StartSet) (c : W32), s.findSet id = some g → s.twin = false → s.pairState = 0 →
    g.localIn = true → g.partner = [] → maxBlock (g.reports.map (·.2)) = some c →
    let b := bmax (c + BitVec.ofNat 32 (g.gap + s.paceGap g c)) (s.pin + BitVec.ofNat 32 (10 + (31 + 3 * s.hem.band.toNat)))
    (s.lastShot g = false → ∃ t : State, Sys2Proof.Machine.exec (.shotRendezvousComplete id) s = .next t.serveRuns ∧
      (∀ e ∈ g.members, t.eng e = { (s.eng e).clearShot with
        st := .running, cause := 0, pc := s.fld (engAddr e 0) 13 0, cur := { b := b, t := 0 }
        shotNo := g.shotNo + 1, shotStart := b }) ∧
      (∀ e, e ∉ g.members → t.eng e = s.eng e) ∧ s.sameMem t ∧
      ∃ g', t.findSet id = some g' ∧ g'.shotNo = g.shotNo + 1 ∧ g'.shotStart = b ∧ g'.reports = [] ∧ g'.members = g.members) ∧
    (s.lastShot g = true → ∃ t : State, Sys2Proof.Machine.exec (.shotRendezvousComplete id) s = .next t.serveRuns ∧
      (∀ e ∈ g.members ++ g.halted, (s.eng e).active = true →
        t.eng e = { s.eng e with st := .done, cause := 0, set := none, goEnd := false }) ∧
      (∀ e, e ∉ g.members ++ g.halted → t.eng e = s.eng e) ∧ s.sameMem t ∧ t.findSet id = none)

/-- A SYNC instance that completes sets its members' cursors to B_SYNC; one that times out sends them to SHOT_END with SYNC_TIMEOUT. (R56, R70, R95, R96) -/
def Obligations.SyncInstanceReleases : Prop :=
  ∀ (s : State) (id inst : Nat) (group : Fin 64) (g : StartSet) (i : SyncInst), s.findSet id = some g →
    s.findSync id group inst = some i → s.twin = false → s.pairState = 0 → i.closed = false → i.partner = [] →
    (∀ c, s.syncIn i g = true → maxBlock (i.arrived.map (·.2)) = some c →
      let b := bmax (c + BitVec.ofNat 32 i.offset) (s.pin + BitVec.ofNat 32 (10 + (31 + 3 * s.hem.band.toNat)))
      ∃ t : State, Sys2Proof.Machine.exec (.syncComplete id group inst) s = .next t.serveRuns ∧
        (∀ a ∈ i.arrived, (s.eng a.1).st = .waiting → (s.eng a.1).cause = 3 → (s.eng a.1).pc < 16383 →
          t.eng a.1 = { (s.eng a.1).stepped with cur := { b := b, t := 0 }, decL := none, decR := none }) ∧
        (∀ e, (∀ a ∈ i.arrived, a.1 ≠ e) → t.eng e = s.eng e) ∧ s.sameMem t ∧ t.findSync id group inst = none) ∧
    (i.arrived ≠ [] → s.syncIn i g = false → s.fld (0x10034000 + 4 * group.val) 31 16 ≠ 0 →
      ∃ t : State, Sys2Proof.Machine.exec (.syncTimeout id group inst) s = .next t.serveRuns ∧
        (∀ a ∈ i.arrived, (s.eng a.1).st = .waiting → (s.eng a.1).cause = 3 →
          t.eng a.1 = { s.eng a.1 with st := .running, cause := 0, goEnd := true } ∧ t.bit (engAddr a.1 0x0C) 4 = true) ∧
        (∀ e, (∀ a ∈ i.arrived, a.1 ≠ e) → t.eng e = s.eng e) ∧ s.sameMem t ∧
        (t.findSync id group inst).any (·.closed) = true)

/-- START sets every named engine running at its start PC with its cursor at S0 and answers the S0 applied, the engine count and RUN_ID. (R69, R73, R293, R294, R297, R298, R300, R209) -/
def Obligations.StartBeginsEngines : Prop :=
  ∀ (s : State) (h : Hdr) (w0 w1 w2 w3 : W32) (set : List W32) (engs far : List Nat),
    s.takes h 0x21 true → s.pairGate h = none → wfld w3 15 2 = 0 → w2.toNat < 0x1000000 →
    s.readSet (wfld w3 1 0) set (twinFlag h) false = some (engs, far) →
    let least := s.pin + (if twinFlag h then 800 else 400)
    let s0 := if w1 = 0 then least else w1
    let rid : BitVec 16 := if s.anyInShot then s.onet.runId else (w3 >>> 16).setWidth 16
    let agree := twinFlag h = false ∨ s.mendersAgree (Config.partnerReg s.free) = true
    (agree → s.startBusy engs = false → (w1 = 0 ∨ 0 ≤ (w1 - least).toInt) →
      ∃ t : State, Sys2Proof.Machine.exec (.start h w0 w1 w2 w3 set) s = .next t ∧
        (∀ e ∈ engs, t.eng e = { (s.eng e).clearShot with
          st := .running, cause := 0, pc := s.fld (engAddr e 0) 13 0, cur := { b := s0, t := 0 }, shotNo := 0
          shotStart := s0, s0 := s0, set := some s.nextSet }) ∧
        (∀ e, e ∉ engs → t.eng e = s.eng e) ∧ (∀ a, 0x20000000 ≤ a → t.reg a = s.reg a) ∧ s.sameMem t ∧
        t.onet.runId = rid ∧
        (twinFlag h = false → s.answers t h 0x21 stOk [s0, BitVec.ofNat 32 (engs.length + far.length), rid.setWidth 32])) ∧
    (¬ agree →
      ∃ t : State, Sys2Proof.Machine.exec (.start h w0 w1 w2 w3 set) s = .next t ∧ s.tilesKept t ∧ s.answers t h 0x21 stBadParam []) ∧
    (agree → s.startBusy engs = true →
      ∃ t : State, Sys2Proof.Machine.exec (.start h w0 w1 w2 w3 set) s = .next t ∧ s.tilesKept t ∧ s.answers t h 0x21 stBusy []) ∧
    (agree → s.startBusy engs = false → w1 ≠ 0 → (w1 - least).toInt < 0 →
      ∃ t : State, Sys2Proof.Machine.exec (.start h w0 w1 w2 w3 set) s = .next t ∧ s.tilesKept t ∧ s.answers t h 0x21 stRefusedLate [])

/-- STOP marks the START sets that hold a named engine; ABORT asks for their removal at block E; neither changes an engine at once. (R57, R59, R291, R297, R299, R300) -/
def Obligations.StopAndAbortActOnSets : Prop :=
  (∀ (s : State) (h : Hdr) (w0 : W32) (set : List W32) (engs far : List Nat), s.takes h 0x22 true → s.pairGate h = none →
    w0.toNat < 4 → s.readSet w0.toNat set (twinFlag h) false = some (engs, far) →
    (s.heldSets engs far ≠ [] → s.long .fm = none →
      ∃ t : State, Sys2Proof.Machine.exec (.stop h w0 set) s = .next t ∧ s.tilesKept t ∧
        t.sets = s.sets.map (fun g => if g.id ∈ (s.heldSets engs far).map (·.id) then { g with stopping := true } else g) ∧
        t.cmd.stops = s.cmd.stops ++ [(h, (s.heldSets engs far).map (·.id))] ∧
        (ackReq h = true → s.answers t h 0x22 stPending [])) ∧
    (s.heldSets engs far = [] →
      ∃ t : State, Sys2Proof.Machine.exec (.stop h w0 set) s = .next t ∧ s.tilesKept t ∧ t.sets = s.sets ∧
        s.answers t h 0x22 stOk [0, 0])) ∧
  (∀ (s : State) (h : Hdr) (w0 w1 : W32) (set : List W32) (engs far : List Nat), s.takes h 0x23 true → s.pairGate h = none →
    w1.toNat < 4 → s.readSet w1.toNat set (twinFlag h) false = some (engs, far) →
    let least := s.pin + 4 + (if twinFlag h then 20 else 0) + (if pairFlag h then 20 else 0)
    let e := if w0 = 0 ∨ (w0 - least).toInt < 0 then least else w0
    ∃ t : State, Sys2Proof.Machine.exec (.abort h w0 w1 set) s = .next t ∧ s.tilesKept t ∧ t.sets = s.sets ∧
      s.answers t h 0x23 stOk [e] ∧
      (s.heldSets engs far ≠ [] → t.hem.removals = s.hem.removals ++
        [.abort ((s.heldSets engs far).map (·.id)) (((s.heldSets engs far).flatMap (fun g => g.members ++ g.halted)).dedup) e]))

/-- The Hem discards an offer for a disabled port, refuses one with the first cause that holds, and accepts one in time for an awake port. (R45, R46, R50, R52, R53, R58, R43, R49, R55) -/
def Obligations.AdmissionAnswersAnOffer : Prop :=
  (∀ (s : State) (e : Eng) (d : Desc), (s.eng e).offer = some { d := d, slot := false, stream := false } →
    let x := s.eng e
    let lead := (d.start - (s.pin + 12)).toInt
    let off := s.bit (portAddr (portOfEng e) 4) 0 = false
    let code : Option Nat :=
      if d.absent then some 5
      else if s.outOfOrder e d then some 7
      else if d.cond && decide (d.fbDelta < if d.remote then s.floorRemote else s.floorLocal) then some 2
      else if lead < 8 then some (if d.cond then 2 else 1) else none
    (off → ∃ t : State, Sys2Proof.Machine.exec (.hemAdmit e) s = .next t.serveRuns ∧ (t.eng e).offer = none ∧ (t.eng e).work = x.work ∧
      (t.eng e).cur = x.cur ∧
      (t.reg (hemAddr e 0x20)).toNat = min 0xFFFFFFFF ((s.reg (hemAddr e 0x20)).toNat + 1) ∧
      (t.reg 0x10010028).toNat = min 0xFFFFFFFF ((s.reg 0x10010028).toNat + 1) ∧
      t.reg (hemAddr e 0x08) = s.reg (hemAddr e 0x08) ∧ t.reg (hemAddr e 0x1C) = s.reg (hemAddr e 0x1C) ∧ s.sameMem t) ∧
    (∀ c, ¬ off → code = some c →
      ∃ t : State, Sys2Proof.Machine.exec (.hemAdmit e) s = .next t.serveRuns ∧ (t.eng e).offer = none ∧ (t.eng e).work = x.work ∧
      (t.eng e).cur = x.cur ∧ (x.st = .waiting → x.cause = 1 → (t.eng e).st = .running) ∧
      t.bit (hemAddr e 0x08) (c - 1) = true ∧ t.reg (hemAddr e 0x10) = d.start ∧ t.fld (hemAddr e 0x14) 3 0 = c ∧
      (t.reg (hemAddr e 0x1C)).toNat = min 0xFFFFFFFF ((s.reg (hemAddr e 0x1C)).toNat + 1) ∧
      (t.reg 0x1001001C).toNat = min 0xFFFFFFFF ((s.reg 0x1001001C).toNat + 1) ∧ s.sameMem t)) ∧
  (∀ (s : State) (e : Eng) (d : Desc), (s.eng e).offer = some { d := d, slot := false, stream := false } →
    let x := s.eng e
    let p := portOfEng e
    let lead := (d.start - (s.pin + 12)).toInt
    s.bit (portAddr p 4) 0 = true → s.bit (portAddr p 4) 2 = true → (∀ c ∈ s.hem.clamps, c.port ≠ p) → d.absent = false →
    s.outOfOrder e d = false →
    (d.cond && decide (d.fbDelta < if d.remote then s.floorRemote else s.floorLocal)) = false →
    8 ≤ lead → 0 ≤ (d.start - s.pin).toInt → (d.kind = 1 → d.streamBytes ≤ x.stream.data.length) →
    ((x.work.filter (fun w => w.stage == .queued)).length < 32 →
      ∃ t : State, Sys2Proof.Machine.exec (.hemAdmit e) s = .next t.serveRuns ∧ (t.eng e).offer = none ∧
        (t.eng e).work = x.work ++ [{ d := d, stage := .queued, b64 := s.block64 d.start, cut := none
                                      samples := x.stream.data.take d.streamBytes }] ∧
        (t.eng e).stream = { x.stream with data := x.stream.data.drop d.streamBytes } ∧ (t.eng e).cur = x.cur ∧
        (x.st = .waiting → x.cause = 1 → (t.eng e).st = .running) ∧
        (t.reg (hemAddr e 0x18)).toNat = min 0xFFFFFFFF ((s.reg (hemAddr e 0x18)).toNat + 1) ∧
        (t.reg (hemAddr e 0x0C)).toNat = min (s.reg (hemAddr e 0x0C)).toNat lead.toNat ∧
        t.reg (hemAddr e 0x1C) = s.reg (hemAddr e 0x1C) ∧ s.sameMem t) ∧
    (32 ≤ (x.work.filter (fun w => w.stage == .queued)).length →
      ∃ t : State, Sys2Proof.Machine.exec (.hemAdmit e) s = .next t.serveRuns ∧ s.onlyEng t e [] ∧
        t.eng e = { x with offer := some { d := d, slot := true, stream := false } }))

/-- DESCRIPTOR_DEQUEUE, SEGMENT_START and MARK_OUT_PULSE: work leaves the queue at ADMIT_BLOCK = START, plays from START, a MARK acts at its block. (R38, R40, R43, R49, R89, R122) -/
def Obligations.AcceptedWorkReachesPins : Prop :=
  ∀ (s : State) (e : Eng) (w : Work), s.clk.run = true →
    (s.firstWork e (fun w => w.stage == .queued) = some w →
      ∃ t : State, Sys2Proof.Machine.exec (.descriptorDequeue e) s = .next t.serveRuns ∧
        t.eng e = { s.eng e with work := (s.eng e).work.map (fun y => if y = w then { w with stage := .pipe } else y) } ∧
        (0 < (w.d.start - 12 - s.pin).toInt → t.pin = w.d.start - 12) ∧ (∀ f : Nat, f ≠ e.val → t.eng f = s.eng f) ∧
        s.sameRegs t [] ∧ s.sameMem t) ∧
    (s.firstWork e (fun w => w.d.isSeg && w.stage != .playing) = some w →
      let p := portOfEng e
      let r := ((s.advanceTo w.d.start).latchWeights e w.d).modWork e w { w with stage := .playing }
      ∃ t : State, Sys2Proof.Machine.exec (.segmentStart e) s = .next t ∧
        t.eng e = { s.eng e with work := (s.eng e).work.map (fun y => if y = w then { w with stage := .playing } else y) } ∧
        (0 < (w.d.start - s.pin).toInt → t.pin = w.d.start) ∧
        (t.reg (portAddr p 0x0C)).toNat = min 0xFFFFFFFF ((s.reg (portAddr p 0x0C)).toNat +
          ((List.range (r.pin64.toNat - r.clipFrom p)).map (fun i => r.clipsIn p (r.clipFrom p + i))).sum) ∧
        (∀ f : Nat, f ≠ e.val → t.eng f = s.eng f) ∧
        s.sameRegs t [portAddr p 0x0C, portAddr p 0x08] ∧ s.sameMem t) ∧
    (s.firstWork e (fun w => w.d.kind == 3) = some w →
      (∀ pin width code, w.d.body = .mark true pin width code →
        ∃ t : State, Sys2Proof.Machine.exec (.markOutPulse e) s = .next t ∧ t.bit (engAddr e 0x0C) 7 = true ∧
          (t.eng e).work = (s.eng e).work.erase w ∧ (t.eng e).cur = (s.eng e).cur ∧ s.sameMem t) ∧
      (∀ pin width code, w.d.body = .mark false pin width code → s.muted = false →
        ∃ t : State, Sys2Proof.Machine.exec (.markOutPulse e) s = .next t ∧ t.sent = s.sent ++ [.pulse pin width w.d.start] ∧
          (t.eng e).work = (s.eng e).work.erase w ∧ (t.eng e).cur = (s.eng e).cur ∧ s.sameMem t))

/-- A frame update sets FREQ, PHASE_OFFSET, ANCHOR and the Pauli bits as its kind says, and a SET_PHASE makes the phase the one asked at the block's first tick. (R84, R112, R113, R114, R115) -/
def Obligations.FrameUpdateFollowsR115 : Prop :=
  ∀ (s : State) (u : FrameUpd), s.hem.frameQ = [u] → s.frameDescs = [] → u.frame < 4096 →
    (∀ off v, u.op = .word off v → off = 8 ∨ off = 0xC) →
    ∃ t : State, Sys2Proof.Machine.exec .frameUpdate s = .next t.serveRuns ∧ t.hem.frameQ = [] ∧ s.sameMem t ∧
      (∀ e, t.eng e = s.eng e) ∧ t.reg (frameAddr u.frame 0x18) = u.block ∧
      s.sameRegs t [frameAddr u.frame 0, frameAddr u.frame 4, frameAddr u.frame 8, frameAddr u.frame 0xC, frameAddr u.frame 0x10,
        frameAddr u.frame 0x14, frameAddr u.frame 0x18] ∧
      (∀ f r, u.op = .setFreq f r → t.freq u.frame = f ∧ t.reg (frameAddr u.frame 0xC) = s.reg (frameAddr u.frame 0xC) ∧
        t.phase u.frame = (if r then 0 else s.phase u.frame) ∧
        t.anchor u.frame = (if r then s.tickOf u.block else s.anchor u.frame)) ∧
      (∀ p, u.op = .shift p → t.freq u.frame = s.freq u.frame ∧ t.phase u.frame = s.phase u.frame + p ∧
        t.anchor u.frame = s.anchor u.frame) ∧
      (∀ p, u.op = .setPhase p → t.freq u.frame = s.freq u.frame ∧ t.anchor u.frame = s.anchor u.frame ∧
        ((t.acc u.frame (s.tickOf u.block)) >>> 16).setWidth 32 = p) ∧
      (∀ x z, u.op = .pauli x z → t.freq u.frame = s.freq u.frame ∧ t.phase u.frame = s.phase u.frame ∧
        t.bit (frameAddr u.frame 0xC) 0 = pauliOp x (s.bit (frameAddr u.frame 0xC) 0) ∧
        t.bit (frameAddr u.frame 0xC) 1 = pauliOp z (s.bit (frameAddr u.frame 0xC) 1) ∧
        t.fld (frameAddr u.frame 0xC) 31 2 = s.fld (frameAddr u.frame 0xC) 31 2)

/-- An entry on its way to a slot arrives there, or overruns a full one; a trigger edge is latched by every engine in a shot. (R34, R73, R91, R93, R98) -/
def Obligations.SlotEntriesAndTriggers : Prop :=
  (∀ (s : State) (e : Eng) (n : Fin 16) (d : Delivery),
    s.onet.deliv.find? (fun d => d.eng == e.val && d.slot == n.val) = some d →
    let x := s.eng e
    let old := !x.inShot || d.entry.stamp.any (fun b => decide ((b - x.shotStart).toInt < 0))
    ∃ t : State, Sys2Proof.Machine.exec (.slotEntryArrival e n) s = .next t.serveRuns ∧ t.onet.deliv = s.onet.deliv.erase d ∧
      (∀ f : Nat, f ≠ e.val → t.eng f = s.eng f) ∧
      (old = true → t.eng e = x ∧ s.sameRegs t []) ∧
      (old = false → x.live = [] → (x.slot n).length < 4 →
        t.eng e = x.setSlot n (x.slot n ++ [d.entry]) ∧ s.sameRegs t []) ∧
      (old = false → x.live = [] → 4 ≤ (x.slot n).length →
        t.eng e = x ∧ t.bit (engAddr e 0x0C) 6 = true ∧ s.sameRegs t [engAddr e 0x0C])) ∧
  (∀ (s : State) (pin : Fin 8) (tick : BitVec 6), s.fieldAlive = true → s.clk.run = true → s.shadow = false →
    s.wf = true → (∀ e, (s.eng e).live = []) →
    let stamp : W64 := s.clk.devtime + tick.setWidth 64
    ∃ t : State, Sys2Proof.Machine.exec (.trigInEdge pin tick) s = .next t.serveRuns ∧
      ∀ e, (((s.eng e).inShot = true ∧ 0 ≤ (((stamp >>> 6).setWidth 32 : W32) - (s.eng e).shotStart).toInt) →
          (t.eng e).trigs = (s.eng e).trigs ++ [(pin.val, stamp)] ∧ (t.eng e).pc = (s.eng e).pc ∧ (t.eng e).slots = (s.eng e).slots) ∧
        (¬ ((s.eng e).inShot = true ∧ 0 ≤ (((stamp >>> 6).setWidth 32 : W32) - (s.eng e).shotStart).toInt) → t.eng e = s.eng e))

/-- Clearing ENABLE asks for removal at the first boundary 4 blocks ahead; at that block the engine enters DISABLED; setting ENABLE returns it to IDLE. (R57, R58, R59, R65, R71, R72) -/
def Obligations.EngineRemovalAndReturn : Prop :=
  (∀ (s : State) (e : Eng) (v : W32) (c : Instr), c = .engineDisable e v ∨ c = .engineReenable e v ∨ c = .leadClr e v →
    ∃ t : State, Sys2Proof.Machine.exec c s = .next (t.touch (hemAddr e 0)) ∧ (∀ f, t.eng f = s.eng f) ∧ s.sameMem t ∧
      s.sameRegs t [hemAddr e 0, hemAddr e 0x0C] ∧
      t.fld (hemAddr e 0) 31 16 = wfld v 31 16 ∧ t.bit (hemAddr e 0) 2 = v.getLsbD 2 ∧
      t.reg (hemAddr e 0x0C) = (if v.getLsbD 3 then 0xFFFFFFFF else s.reg (hemAddr e 0x0C)) ∧
      (s.bit (hemAddr e 0) 0 = true → v.getLsbD 0 = false → t.bit (hemAddr e 0) 0 = false ∧
        t.hem = { s.hem with removals := s.hem.removals ++ [.engine e (v.getLsbD 2) (s.pin + 4)] }) ∧
      (s.bit (hemAddr e 0) 0 = false → v.getLsbD 0 = true → (s.eng e).st = .disabled → t.bit (hemAddr e 0) 0 = true ∧
        t.hem = { s.hem with reenables := s.hem.reenables ++ [(e.val, s.pin + 4)] }) ∧
      (v.getLsbD 0 = s.bit (hemAddr e 0) 0 → t.bit (hemAddr e 0) 0 = s.bit (hemAddr e 0) 0 ∧ t.hem = s.hem)) ∧
  (∀ (s : State) (e : Nat) (cut : Bool) (b : W32), s.nextRemoval = some (.engine e cut b) → (s.eng e).pledgeWait = none →
    (s.eng e).offer = none → (∀ w ∈ (s.eng e).work, w.d.armed = false ∧ w.d.kind ≠ 2) →
    let stays := fun (w : Work) => (s.advanceTo b).workDone w || tmLt w.d.at { b := b, t := 0 }
    let left := fun (f : Nat) => if (s.eng e).set.isSome then (s.eng f).noteGone e else s.eng f
    ∃ t : State, Sys2Proof.Machine.exec .removalEffect s = .next t.serveRuns ∧ s.sameMem t ∧
      t.eng e = { left e with
        st := .disabled, cause := 0, arm := none, goEnd := false, set := none, draining := !cut
        work := if cut then (s.eng e).work.filter stays else (s.eng e).work } ∧
      (∀ f, f ≠ e → t.eng f = left f) ∧ t.hem.removals = s.hem.removals.erase (.engine e cut b) ∧
      (t.reg (hemAddr e 0x20)).toNat = min 0xFFFFFFFF ((s.reg (hemAddr e 0x20)).toNat +
        (if cut then ((s.eng e).work.filter (fun w => !stays w)).length else 0))) ∧
  (∀ (s : State) (e : Eng) (b : W32), s.hem.reenables.find? (fun r => r.1 == e.val) = some (e.val, b) → (s.eng e).st = .disabled →
    ∃ t : State, Sys2Proof.Machine.exec (.engineReenableEffect e) s = .next t ∧ t.eng e = { s.eng e with st := .idle, cause := 0 } ∧
      (∀ f : Nat, f ≠ e.val → t.eng f = s.eng f) ∧ s.sameRegs t [] ∧ s.sameMem t ∧
      t.hem.reenables = s.hem.reenables.erase (e.val, b))

/-- A change of PORT_CTRL.ENABLE asks for an enable or removal 4 blocks ahead; each, and an ABORT, acts at its block. (R57, R58, R59, R130, R135, R299, R478) -/
def Obligations.PortEnableAndRemoval : Prop :=
  (∀ (s : State) (p : OPort) (v : W32) (c : Instr), c = .portEnable p v ∨ c = .portDisable p v →
    ∃ t : State, Sys2Proof.Machine.exec c s = .next (t.touch (portAddr p 0)) ∧ t = { s with regs := t.regs, hem := t.hem } ∧
      s.sameRegs t [portAddr p 0] ∧ t.reg (portAddr p 0) = v &&& 3 ∧
      (s.bit (portAddr p 0) 0 = false → v.getLsbD 0 = true → t.hem = { s.hem with enables := s.hem.enables ++ [(p.val, s.pin + 4)] }) ∧
      (s.bit (portAddr p 0) 0 = true → v.getLsbD 0 = false →
        t.hem = { s.hem with removals := s.hem.removals ++ [.port p (s.pin + 4)] }) ∧
      (s.bit (portAddr p 0) 0 = v.getLsbD 0 → t.hem = s.hem)) ∧
  (∀ (s : State) (p : OPort) (b : W32), s.hem.enables.find? (fun r => r.1 == p.val) = some (p.val, b) →
    ∃ t : State, Sys2Proof.Machine.exec (.portEnableEffect p) s = .next t ∧ t.bit (portAddr p 4) 0 = true ∧ t.bit (portAddr p 4) 1 = true ∧
      s.sameRegs t [portAddr p 4] ∧ (∀ e, t.eng e = s.eng e) ∧ s.sameMem t ∧
      (s.bit (portAddr p 4) 1 = false → t.hem.requests = s.hem.requests ++
        [{ kind := .port p true, arrival := t.pin, use := some b, eng := port0Eng p }]) ∧
      (s.bit (portAddr p 4) 1 = true → s.waking p = false → (∀ c ∈ s.hem.clamps, c.port ≠ p.val) →
        t.bit (portAddr p 4) 2 = true ∧ t.hem.requests = s.hem.requests)) ∧
  (∀ (s : State) (p : Nat) (b : W32), s.nextRemoval = some (.port p b) →
    ∃ t : State, Sys2Proof.Machine.exec .removalEffect s = .next t.serveRuns ∧ t.bit (portAddr p 4) 0 = false ∧
      (192 ≤ p → t.bit (portAddr p 4) 5 = true) ∧ s.sameMem t ∧ (∀ e, e ∉ engsOfPort p → t.eng e = s.eng e) ∧
      ∀ e ∈ engsOfPort p, (t.eng e).offer = none ∧
        ∀ w ∈ (t.eng e).work, t.workDone w = false → tmLt w.d.at { b := b, t := 0 } = true ∧ (w.d.isSeg = true → tmLt { b := b, t := 0 } w.fin = false)) ∧
  (∀ (s : State) (sets engs : List Nat) (b : W32), s.nextRemoval = some (.abort sets engs b) →
    ∃ t : State, Sys2Proof.Machine.exec .removalEffect s = .next t.serveRuns ∧
      ∀ e ∈ engs, ((s.eng e).active = true → (t.eng e).st = .done) ∧ (t.eng e).offer = none ∧
        ∀ w ∈ (t.eng e).work, t.workDone w = false → tmLt w.d.at { b := b, t := 0 } = true ∧ (w.d.isSeg = true → tmLt { b := b, t := 0 } w.fin = false))

/-- PORT_COMMIT and TILE_COMMIT ask for commits at their block; COMMIT_APPLY makes every shadow register of the port its working copy. (R127, R128, R135) -/
def Obligations.CommitsCopyShadows : Prop :=
  (∀ (s : State) (block : W32) (c : Instr) (ps : List Nat),
    ((∃ p : OPort, c = .portCommit p block ∧ ps = [p.val]) ∨ (∃ n : Tile, c = .tileCommit n block ∧ ps = tilePorts n)) →
    let first := s.pin + 4
    ∃ t : State, Sys2Proof.Machine.exec c s = .next t ∧ (∀ e, t.eng e = s.eng e) ∧ s.sameMem t ∧
      t.hem.commits = s.hem.commits ++ ps.map (fun p => { port := p, block := bmax block first, late := blt block first, eng := none }) ∧
      (∀ p ∈ ps, t.bit (portAddr p 4) 8 = true) ∧ s.sameRegs t (ps.map (fun p => portAddr p 4))) ∧
  (∀ (s : State) (c : Commit), s.hem.commits = [c] → s.hem.shadowLog = [] → c.port < 448 → (∀ g, c.eng = some g → g < 1280) →
    let flag := match c.eng with
      | some g => (engAddr g 0x0C, 5)
      | none => (portAddr c.port 8, 2)
    ∃ t : State, Sys2Proof.Machine.exec .commitApply s = .next t ∧ (∀ a ∈ shadowRegs c.port, t.workReg a = s.reg a) ∧
      (∀ a, a ∉ shadowRegs c.port → t.workReg a = s.workReg a) ∧ t.reg (portAddr c.port 0x14) = c.block ∧
      t.bit (portAddr c.port 4) 8 = false ∧ t.hem.commits = [] ∧ (c.late = true → t.bit flag.1 flag.2 = true) ∧
      s.sameRegs t ([portAddr c.port 0x14, portAddr c.port 4] ++ if c.late then [flag.1] else []) ∧
      (∀ e, t.eng e = s.eng e) ∧ s.sameMem t)

/-- FLUX_CFG and the clamp of 1.6 us a change of range causes; STREAM_CFG, a stream request and its refill. (R101, R102, R131, R226, R227, R228) -/
def Obligations.FluxRangeClampAndStreamWindow : Prop :=
  (∀ (s : State) (f : Fin 256) (v : W32), let e := 1024 + f.val; let a := portAddr (192 + f) 0x1C
    ((s.eng e).active = false → s.holdsWork e = false →
      ∃ t : State, Sys2Proof.Machine.exec (.fluxCfgWrite f v) s = .next (t.touch a) ∧
        t = { s with regs := t.regs, hem := t.hem, synth := t.synth } ∧ s.sameRegs t [a] ∧ t.reg a = v &&& 7 ∧
        t.hem.clamps = s.hem.clamps ++ (if (s.reg a ^^^ v) &&& 3 = 0 then []
          else [{ port := 192 + f, start := s.pin + 4, release := s.pin + 644, started := false, wasAwake := false }])) ∧
    ((s.eng e).active = true ∨ s.holdsWork e = true → Sys2Proof.Machine.exec (.fluxCfgWrite f v) s = .next s)) ∧
  (∀ (s : State) (f : Fin 256) (c : Clamp), let p := 192 + f.val
    s.hem.clamps = [c] → c.port = p →
    (c.started = false → ∃ t : State, Sys2Proof.Machine.exec (.rangeClampStart f) s = .next t ∧ t.bit (portAddr p 4) 2 = false ∧
      t.bit (portAddr p 4) 5 = true ∧ t.bit (portAddr p 4) 6 = s.bit (portAddr p 0x1C) 1 ∧
      t.bit (portAddr p 4) 7 = s.bit (portAddr p 0x1C) 0 ∧ t.hem.clamps = [{ c with started := true, wasAwake := s.bit (portAddr p 4) 2 }] ∧
      s.sameRegs t [portAddr p 4] ∧ (∀ e, t.eng e = s.eng e) ∧ s.sameMem t) ∧
    (c.started = true → c.release - c.start = 640 →
      ∃ t : State, Sys2Proof.Machine.exec (.rangeClampRelease f) s = .next t ∧ t.hem.clamps = [] ∧ s.sameRegs t [portAddr p 4] ∧
        t.bit (portAddr p 4) 2 = (c.wasAwake || s.bit (portAddr p 4) 2) ∧
        t.bit (portAddr p 4) 5 = (!s.bit (portAddr p 4) 0 || s.bit (portAddr p 4) 4) ∧
        (∀ e, t.eng e = s.eng e) ∧ s.sameMem t)) ∧
  (∀ (s : State) (e : Eng) (v : W32), let a := engAddr e 0x38
    (s.streamRefusal e v = none → ∃ t : State, Sys2Proof.Machine.exec (.streamCfgWrite e v) s = .next (t.touch a) ∧
      t.reg a = v &&& 0x1FFFFF ∧ s.sameRegs t (a :: (List.range 32).map (fun n => dmaAddr n 8)) ∧ s.sameMem t ∧
      (∀ g : Nat, g ≠ e.val → t.eng g = s.eng g) ∧ (∀ r ∈ t.dma.table, r.eng ≠ e.val) ∧
      t.eng e = { s.eng e with
        stream := { (s.eng e).stream with data := [], req := false }, work := (s.eng e).work.map (fun w => { w with samples := [] }) }) ∧
    ((s.streamRefusal e v).isSome → Sys2Proof.Machine.exec (.streamCfgWrite e v) s = .next s)) ∧
  (∀ (s : State) (e : Eng), s.wantsBurst e = true → s.fieldUp = true → s.pacedFor e = none →
    ∃ t : State, Sys2Proof.Machine.exec (.streamRequest e) s = .next t ∧ (t.eng e).stream.req = true ∧
      t.dma.table = s.dma.table ++ [{ eng := e, block := s.pin, bytes := 1024 * s.fld (engAddr e 0x38) 20 17
                                      underrun := (s.eng e).stream.underran
                                      discarding := (s.eng e).stream.untilMark || decide (0 < (s.eng e).stream.owed) }] ∧
      (∀ g : Nat, g ≠ e.val → t.eng g = s.eng g) ∧ s.sameRegs t [] ∧ s.sameMem t) ∧
  (∀ (s : State) (e : Eng) (data : List Byte) (mark cancelled : Bool) (rest : List LinMsg), let x := (s.eng e).stream
    let m := LinMsg.refill e data mark none cancelled
    s.hostUp = true → s.fieldUp = true → s.lining.store = m :: rest →
    let lost := min (16 * x.owed) data.length
    ∃ t : State, Sys2Proof.Machine.exec (.streamRefill e) s = .next t ∧ t = { s with engines := t.engines, lining := t.lining } ∧
      t.lining = { s.lining with store := rest } ∧ (∀ g : Nat, g ≠ e.val → t.eng g = s.eng g) ∧
      (cancelled = true ∨ x.req = false → t.eng e = s.eng e) ∧
      (cancelled = false → x.req = true → x.untilMark = true → mark = false →
        t.eng e = { s.eng e with stream := { x with req := false } }) ∧
      (cancelled = false → x.req = true → x.untilMark = false ∨ mark = true →
        t.eng e = { s.eng e with stream := { x with
          req := false, untilMark := false, owed := x.owed - lost / 16, data := x.data ++ data.drop lost } }))

/-- When the governor grants a lone request, what a grant does at its block, when a port wakes and dozes. (R54, R389, R395, R396, R434) -/
def Obligations.GovernorAndWakes : Prop :=
  (∀ (s : State) (r : GovReq), s.hem.requests = [r] → s.hem.grants = [] →
    let use := r.use.getD r.arrival
    let g := if r.kind.isWake && decide (4 ≤ (use - r.arrival).toInt - 800) then use - 800 else r.arrival + 4
    ∃ t : State, Sys2Proof.Machine.exec .governorRequest s = .next t ∧ t = { s with hem := t.hem } ∧ t.hem.requests = [] ∧
      t.hem.grants = [{ kind := r.kind, g := g, len := r.kind.interval, done := false }] ∧
      (∀ p en, r.kind = .port p en → tabFind t.hem.ready p = some (g + 800))) ∧
  (∀ (s : State) (g : Grant), s.openGrants = [g] → g.done = false →
    (0 ≤ (s.pin - g.g).toInt ∨ (s.clk.run = true ∧ 0 < (g.g - s.pin).toInt)) →
    ∃ t : State, Sys2Proof.Machine.exec .governorGrant s = .next t ∧ t.openGrants = [] ∧ (∀ e, t.eng e = s.eng e) ∧ s.sameMem t ∧
      (∀ p en, g.kind = .port p en → (t.reg 0x1005001C).toNat = min 0xFFFFFFFF ((s.reg 0x1005001C).toNat + 1) ∧
        s.sameRegs t [0x1005001C]) ∧
      (∀ n, g.kind = .tile n false → tabFind t.hem.tileWait n = some (g.g + 8000) ∧ s.sameRegs t []) ∧
      (∀ l, g.kind = .inport l → tabFind t.hem.inWait l = some (g.g + 8000) ∧ s.sameRegs t [])) ∧
  (∀ (s : State) (p : OPort) (r : W32), tabFind s.hem.ready p = some r → s.openGrants = [] → s.hem.clamps = [] →
    ∃ t : State, Sys2Proof.Machine.exec (.portWakeReady p) s = .next t ∧ t.bit (portAddr p 4) 2 = true ∧ tabFind t.hem.ready p = none ∧
      s.sameRegs t [portAddr p 4] ∧ (∀ e, t.eng e = s.eng e) ∧ s.sameMem t) ∧
  (∀ (s : State) (p : OPort),
    let r := match tabFind s.hem.dozeFrom p with
      | some b => s.advanceTo (b + BitVec.ofNat 32 s.dozeIdle)
      | none => s
    (s.mayDoze p = true → isFlux p = false ∨ r.fluxQuiet p = true →
      ∃ t : State, Sys2Proof.Machine.exec (.portDoze p) s = .next t ∧ t.bit (portAddr p 4) 2 = false ∧
      s.sameRegs t [portAddr p 4] ∧ (∀ e, t.eng e = s.eng e) ∧ s.sameMem t) ∧
    (s.mayDoze p = true → r.fluxQuiet p = false → Sys2Proof.Machine.exec (.portDoze p) s = .next r) ∧
    (s.mayDoze p = false → Sys2Proof.Machine.exec (.portDoze p) s = .next s))

/-- ADC_ENABLE asks for the port's power or its removal; a granted port becomes READY; an over-range sample is counted and marks open windows. (R139, R157, R165, R395) -/
def Obligations.InputPortsAndOverRange : Prop :=
  (∀ (s : State) (l : Feed) (v : W32),
    let hem := if !s.bit (adcAddr l 0) 1 && v.getLsbD 1 then { s.hem with rotAt := tabIns l s.pin64 s.hem.rotAt } else s.hem
    ∃ t : State, Sys2Proof.Machine.exec (.adcEnable l v) s = .next t ∧ t = { s with regs := t.regs, hem := t.hem } ∧
      s.sameRegs t [adcAddr l 0] ∧ t.reg (adcAddr l 0) = v &&& 7 ∧
      (s.bit (adcAddr l 0) 0 = false → v.getLsbD 0 = true → t.hem = { hem with requests := s.hem.requests ++
        [{ kind := .inport l, arrival := s.pin, use := none, eng := 512 + 8 * l.val }] }) ∧
      (s.bit (adcAddr l 0) 0 = true → v.getLsbD 0 = false → t.hem.adcOff = s.hem.adcOff ++ [(l.val, s.pin + 4)] ∧
        tabFind t.hem.inWait l = none ∧ ∀ r ∈ t.hem.requests, r.kind ≠ .inport l) ∧
      (s.bit (adcAddr l 0) 0 = v.getLsbD 0 → t.hem = hem)) ∧
  (∀ (s : State) (l : Feed) (b : W32), tabFind s.hem.inWait l = some b → s.hem.adcOff = [] →
    ∃ t : State, Sys2Proof.Machine.exec (.adcPortReady l) s = .next t ∧ tabFind t.hem.inWait l = none ∧
      (∀ e, t.eng e = s.eng e) ∧ s.sameMem t ∧
      (s.bit (adcAddr l 0) 0 = true → t.bit (adcAddr l 4) 6 = true ∧ s.sameRegs t [adcAddr l 4]) ∧
      (s.bit (adcAddr l 0) 0 = false → s.sameRegs t [])) ∧
  (∀ (s : State) (l : Feed) (m : Fin 32),
    ∃ t : State, Sys2Proof.Machine.exec (.adcOverRange l m) s = .next t ∧ s.sameRegs t [adcAddr l 0xC, adcAddr l 8] ∧
      (t.reg (adcAddr l 0xC)).toNat = min 0xFFFFFFFF ((s.reg (adcAddr l 0xC)).toNat + 1) ∧ t.bit (adcAddr l 8) 0 = true ∧
      (∀ c ∈ portChans l, t.ctxs c = (s.ctxs c).map (s.marked (32 * s.pin64.toNat + m.val))) ∧ (∀ c, c ∉ portChans l → t.ctxs c = s.ctxs c) ∧
      (∀ e, t.eng e = s.eng e) ∧ s.sameMem t)

/-- A window opens or finds its port or channel unavailable; the earliest window of a channel releases its outcome to registers, record and slots. (R152, R154, R156, R158, R159, R160, R161, R166, R169, R174) -/
def Obligations.WindowsOpenAndRelease : Prop :=
  (∀ (s : State) (c : Chan) (done rest : List Ctx) (x : Ctx), s.ctxs c = done ++ x :: rest →
    (∀ y ∈ done, y.opened = true ∨ y.dead ≠ none) → x.opened = false → x.dead = none → s.ctxAccepted x = true →
    (∀ y ∈ rest, blt y.start x.start = false) → s.hem.adcOff = [] →
    ∃ t : State, Sys2Proof.Machine.exec (.windowOpen c) s = .next t ∧
      t.ctxs c = done ++ { x with
          opened := true
          words := if x.words.isEmpty then s.wset c x.wset else x.words
          dead := if s.adcReady (portOfChan c) && s.bit (chAddr c 0) 0 then none else some 2 } :: rest ∧
      (∀ d : Nat, d ≠ c.val → t.ctxs d = s.ctxs d) ∧ (∀ e, t.eng e = s.eng e) ∧ s.sameRegs t [] ∧ s.sameMem t) ∧
  (∀ (s : State) (c : Chan) (x : Ctx) (rest : List Ctx) (given : Option (List (BitVec 16 × BitVec 16))), s.ctxs c = x :: rest →
    x.opened = true ∨ x.dead ≠ none → (∀ y ∈ rest, blt y.stamp x.stamp = false) → s.hem.adcOff = [] → s.frameAll = [] →
    s.twin = false → s.shadow = false → s.pairState ≠ 3 →
    let r := s.advanceTo x.stamp
    let o := r.windowOut c x (r.windowSamples c x given)
    ∃ t : State, Sys2Proof.Machine.exec (.outcomeRelease c given) s = .next t.serveRuns ∧ t.ctxs c = rest ∧
      (∀ d : Nat, d ≠ c.val → t.ctxs d = s.ctxs d) ∧
      t.reg (chAddr c 0x1C) = s.outWord0 1 c o ∧ t.reg (chAddr c 0x20) = x.stamp ∧
      (t.reg (chAddr c 0x10)).toNat = min 0xFFFFFFFF ((s.reg (chAddr c 0x10)).toNat + 1) ∧
      (t.reg (chAddr c 0x14)).toNat = min 0xFFFFFFFF ((s.reg (chAddr c 0x14)).toNat + o.absent.isSome.toNat) ∧
      (t.reg (chAddr c 0x18)).toNat = min 0xFFFFFFFF ((s.reg (chAddr c 0x18)).toNat + o.uncertain.toNat) ∧
      (o.absent = none → t.reg (chAddr c 0x24) = sat32w o.i ∧ t.reg (chAddr c 0x28) = sat32w o.q ∧
        t.reg (chAddr c 0x2C) = sat32w o.d0 ∧ t.reg (chAddr c 0x30) = sat32w o.d1) ∧
      (o.absent ≠ none → t.bit (chAddr c 0xC) 3 = true ∧ ∀ i ∈ [0x24, 0x28, 0x2C, 0x30], t.reg (chAddr c i) = s.reg (chAddr c i)) ∧
      t.onet.deliv = s.onet.deliv ++ (s.boundSlots c false).map (fun b => { eng := b.1, slot := b.2, entry :=
        { value := o.value, uncertain := o.uncertain, absent := o.absent.isSome, remote := false, stamp := some x.stamp } }) ∧
      (let yoke := yokeOfTile (16 + c.val / 32)
       s.chans = [(c.val, x :: rest)] → s.onet.unformed = [] → s.onet.due = [] → s.recsOf (some yoke) < 4096 → t.onet.recs = s.onet.recs ++
        (if s.fld (chAddr c 0) 2 1 = 0 then [] else [{ yoke := some yoke, stream := 0, seq := s.onet.seq0, words := r.outRecord c x o }])) ∧
      s.sameRegs t ([0xC, 0x10, 0x14, 0x18, 0x1C, 0x20, 0x24, 0x28, 0x2C, 0x30].map (chAddr c) ++ aResultsLost :: pocketMissRegs) ∧
      (∀ e, t.eng e = s.eng e) ∧ s.sameMem t)

/-- A dwell ends in a step of the spare, in waiting for a quiet boundary, or in failure after three; a slice failing in service becomes the spare. (R140, R144, R145, R146, R147, R156) -/
def Obligations.SliceRotationAndFailure : Prop :=
  (∀ (s : State) (l : Feed) (conv : Bool) (fit : SliceFit), s.hem.adcOff = [] →
    let a := adcAddr l 4
    let sp := s.fld a 4 0
    let good := conv && SliceFit.inRange fit
    let bad := tabGet 0 s.hem.rotBad l
    let dwell := s.advance64 (s.rotBlock l (s.dwellBlocks l))
    (s.rotates l = false → Sys2Proof.Machine.exec (.rotationStep l conv fit) s = .next s) ∧
    (s.rotates l = true → good = false → s.bit a 9 = false → bad < 2 →
      ∃ t : State, Sys2Proof.Machine.exec (.rotationStep l conv fit) s = .next t ∧ t = { s with clk := dwell.clk, hem := t.hem } ∧
        tabGet 0 t.hem.rotBad l = bad + 1 ∧ tabFind t.hem.rotAt l = some dwell.pin64) ∧
    (s.rotates l = true → good = false → s.bit a 9 = false → 2 ≤ bad →
      ∃ t : State, Sys2Proof.Machine.exec (.rotationStep l conv fit) s = .next t ∧ tabGet 0 t.hem.rotBad l = 0 ∧
        t.bit (adcAddr l 8) 2 = true ∧ (sp ≤ 16 → t.bit (adcAddr l 0x18) sp = true) ∧
        s.sameRegs t [a, adcAddr l 8, adcAddr l 0x18] ∧ (∀ e, t.eng e = s.eng e) ∧ s.sameMem t) ∧
    (s.rotates l = true → good = true ∨ s.bit a 9 = true → sp ≤ 16 →
      let hold := s.bit (adcAddr l 0) 2 && (if s.bit a 9 then s else dwell).integrating l
      let up := sp = 0 ∨ (s.bit a 5 = true ∧ sp < 16)
      let next := if up then sp + 1 else sp - 1
      ∃ t : State, Sys2Proof.Machine.exec (.rotationStep l conv fit) s = .next t ∧ tabGet 0 t.hem.rotBad l = 0 ∧
        t.fld a 4 0 = (if hold then sp else next) ∧ t.bit a 9 = hold ∧
        t.bit a 5 = (if hold then s.bit a 5 else if next = 0 then true else if next = 16 then false else decide up) ∧
        t.reg (adcAddr l 0x14) = s.reg (adcAddr l 0x14) + (if hold then 0 else 1) ∧
        (s.bit a 9 = false → ∀ r ∈ sliceRegs l sp fit, t.reg r.1 = r.2) ∧ (s.bit a 9 = true → ∀ r ∈ sliceRegs l sp fit, t.reg r.1 = s.reg r.1) ∧
        s.sameRegs t (a :: adcAddr l 0x14 :: (sliceRegs l sp fit).map (·.1)) ∧ (∀ e, t.eng e = s.eng e) ∧ s.sameMem t)) ∧
  (∀ (s : State) (l : Feed),
    (s.bit (adcAddr l 4) 9 = true → ∃ t : State, Sys2Proof.Machine.exec (.rotStalled l) s = .next t ∧ t.bit (adcAddr l 8) 1 = true ∧
      s.sameRegs t [adcAddr l 8] ∧ (∀ e, t.eng e = s.eng e) ∧ s.sameMem t) ∧
    (s.bit (adcAddr l 4) 9 = false → Sys2Proof.Machine.exec (.rotStalled l) s = .next s)) ∧
  (∀ (s : State) (l : Feed) (k : Fin 17),
    (s.fld (adcAddr l 4) 4 0 = k.val ∨ s.bit (adcAddr l 0x18) k = true →
      Sys2Proof.Machine.exec (.inServiceSliceFailure l k) s = .next s) ∧
    (s.fld (adcAddr l 4) 4 0 ≠ k.val → s.bit (adcAddr l 0x18) k = false → s.hem.adcOff = [] →
      ∃ t : State, Sys2Proof.Machine.exec (.inServiceSliceFailure l k) s = .next t ∧ t.bit (adcAddr l 0x18) k = true ∧
        t.bit (adcAddr l 8) 2 = true ∧ s.sameRegs t [adcAddr l 4, adcAddr l 8, adcAddr l 0x18] ∧
        (∀ e, t.eng e = s.eng e) ∧ s.sameMem t ∧
        (s.failedSlices l = [] → t.fld (adcAddr l 4) 4 0 = k.val ∧ t.bit (adcAddr l 4) 10 = true ∧ t.bit (adcAddr l 4) 9 = false ∧
          t.bit (adcAddr l 4) 11 = s.bit (adcAddr l 4) 11 ∧ t.chans = s.chans) ∧
        (s.failedSlices l ≠ [] → t.bit (adcAddr l 4) 11 = true ∧ t.bit (adcAddr l 8) 3 = true ∧ t.bit (adcAddr l 8) 4 = true ∧
          (∀ c ∈ portChans l, t.ctxs c = (s.ctxs c).map t.unavailable) ∧ ∀ c, c ∉ portChans l → t.ctxs c = s.ctxs c)))

/-- A calibrated tile writes its factors, or marks what failed, and the last tile of the command ends it with OK or INTERNAL. (R131, R143, R144, R387) -/
def Obligations.CalibrationTilesComplete : Prop :=
  (∀ (s : State) (k : Fin 16) (fits : List SliceFit) (b : W32) (l : Long), let n := 16 + k.val
    tabFind s.hem.calRun n = some b → s.cmd.fm = some l → fitsOnce fits →
    let fault := (List.finRange 4).any (fun p => decide (2 ≤ (fits.filter (fun f => f.port == p && !SliceFit.good f)).length))
    ∃ t : State, Sys2Proof.Machine.exec (.readoutCalTileDone k fits) s = .next t ∧ tabFind t.hem.calRun n = none ∧
      (∀ e, t.eng e = s.eng e) ∧ s.sameMem t ∧
      (∀ p : Fin 4, let i := 4 * k.val + p.val
        t.bit (adcAddr i 4) 8 = false ∧ t.reg (adcAddr i 0x1C) = t.pin ∧
        ((∀ f ∈ fits, f.port = p → SliceFit.good f = true) → t.reg (adcAddr i 0x18) = 0 ∧ t.bit (adcAddr i 4) 11 = false ∧
          t.bit (adcAddr i 4) 10 = false ∧ t.bit (adcAddr i 4) 7 = true ∧
          ∀ f ∈ fits, f.port = p → ∀ r ∈ sliceRegs i f.slice f, t.reg r.1 = r.2) ∧
        (2 ≤ (fits.filter (fun f => f.port == p && !SliceFit.good f)).length →
          t.bit (adcAddr i 4) 11 = true ∧ t.bit (adcAddr i 8) 4 = true)) ∧
      (∀ c ∈ l.tiles, c ≠ n → (t.cmd.fm.map (·.tiles)) = some (l.tiles.filter (· != n))) ∧
      ((∀ c ∈ l.tiles, c = n) → t.cmd.fm = none ∧
        (l.answered = false → ackReq l.h = true → s.answers t l.h l.op.toNat (if l.failed || fault then stInternal else stOk) []))) ∧
  (∀ (s : State) (m : Fin 16) (fits : List FluxFit) (b : W32) (l : Long), let n := 32 + m.val
    tabFind s.hem.calRun n = some b → s.cmd.fm = some l → fits.Pairwise (fun f g => ¬(f.port = g.port ∧ f.r = g.r)) →
    ∃ t : State, Sys2Proof.Machine.exec (.fluxCalTileDone m fits) s = .next t ∧ tabFind t.hem.calRun n = none ∧
      (∀ e, t.eng e = s.eng e) ∧ s.sameMem t ∧
      (∀ c ∈ t.hem.clamps, ¬(tileOfPort c.port = n ∧ c.started = true ∧ c.release - c.start ≠ 640)) ∧
      (∀ i : Fin 16, let p := 192 + 16 * m.val + i.val
        ((∀ f ∈ fits, f.port = i → FluxFit.inRange f = true) → ∀ f ∈ fits, f.port = i →
          t.reg (portAddr p (0x100 + 8 * f.r.val)) = (BitVec.ofInt 18 f.offset).setWidth 32 ∧
          t.reg (portAddr p (0x104 + 8 * f.r.val)) = (BitVec.ofInt 18 f.gain).setWidth 32) ∧
        ((∃ f ∈ fits, f.port = i ∧ FluxFit.inRange f = false) → t.bit 0x10050008 7 = true ∧
          ∀ r : Fin 4, t.reg (portAddr p (0x100 + 8 * r.val)) = s.reg (portAddr p (0x100 + 8 * r.val)) ∧
            t.reg (portAddr p (0x104 + 8 * r.val)) = s.reg (portAddr p (0x104 + 8 * r.val)))) ∧
      (∀ c ∈ l.tiles, c ≠ n → (t.cmd.fm.map (·.tiles)) = some (l.tiles.filter (· != n))) ∧
      ((∀ c ∈ l.tiles, c = n) → t.cmd.fm = none ∧ (l.answered = false → ackReq l.h = true → s.answers t l.h l.op.toNat
        (if l.failed || !fits.all FluxFit.inRange then stInternal else stOk) [])))

/-- A REPORT joins the set's or the instance's partner reports; a COMPLETE starts the next shot, ends the set, or releases or closes the instance. (R70, R71, R95, R96, R97, R345, R346, R349) -/
def Obligations.SeamReportsAndCompletes : Prop :=
  (∀ (s : State) (b : Bool) (m : ReportMsg), s.seamSet m.shotNo = none → Sys2Proof.Machine.exec (.report b m) s = .next s) ∧
  (∀ (s : State) (m : CompleteMsg), s.seamSet m.shotNo = none → Sys2Proof.Machine.exec (.complete m) s = .next s) ∧
  (∀ (s : State) (b : Bool) (m : ReportMsg) (g : StartSet), s.seamSet m.shotNo = some g →
    (m.sync = false ∨ m.left = true → ∃ t : State, Sys2Proof.Machine.exec (.report b m) s = .next t.serveRuns ∧ t = { s with sets := t.sets } ∧
      t.sets = s.sets.map (fun x => if x.id = g.id then { x with partner := replaceReport b m x.partner } else x)) ∧
    (m.sync = true → m.left = false → ∃ t : State, ∃ i, Sys2Proof.Machine.exec (.report b m) s = .next t.serveRuns ∧
      t = { s with syncs := t.syncs } ∧ t.findSync g.id m.group m.inst = some i ∧ i.offset = m.offset.toNat ∧
      i.partner = replaceReport b m (((s.findSync g.id m.group m.inst).map (·.partner)).getD []) ∧
      i.arrived = ((s.findSync g.id m.group m.inst).map (·.arrived)).getD [])) ∧
  (∀ (s : State) (m : CompleteMsg) (g : StartSet), s.seamSet m.shotNo = some g → ¬(s.pairState = 3 ∧ s.twin = true ∧ s.follow = true) →
    let last := m.last || (s.shadow && s.yokeStopped g)
    (m.sync = false → last = false → s.findSet g.id = some g → ∃ t : State, Sys2Proof.Machine.exec (.complete m) s = .next t.serveRuns ∧
      (∀ e ∈ g.members, t.eng e = { (s.eng e).clearShot with
        st := .running, cause := 0, pc := s.fld (engAddr e 0) 13 0, cur := { b := m.b, t := 0 }
        shotNo := g.shotNo + 1, shotStart := m.b }) ∧
      (∀ e, e ∉ g.members → t.eng e = s.eng e) ∧ s.sameMem t) ∧
    (m.sync = false → last = true → ∃ t : State, Sys2Proof.Machine.exec (.complete m) s = .next t.serveRuns ∧
      (∀ e ∈ g.members ++ g.halted, (s.eng e).active = true →
        t.eng e = { s.eng e with st := .done, cause := 0, set := none, goEnd := false }) ∧
      (∀ e, e ∉ g.members ++ g.halted → t.eng e = s.eng e) ∧ s.sameMem t ∧ t.findSet g.id = none) ∧
    (m.sync = true → m.closed = false → s.findSync g.id m.group m.inst = none → Sys2Proof.Machine.exec (.complete m) s = .next s) ∧
    (m.sync = true → m.closed = true → s.findSync g.id m.group m.inst = none →
      ∃ t : State, Sys2Proof.Machine.exec (.complete m) s = .next t.serveRuns ∧ t = { s with syncs := t.syncs } ∧
        (t.findSync g.id m.group m.inst).any (·.closed) = true) ∧
    (∀ i, m.sync = true → s.findSync g.id m.group m.inst = some i →
      ∃ t : State, Sys2Proof.Machine.exec (.complete m) s = .next t.serveRuns ∧
        (∀ a ∈ i.arrived, (s.eng a.1).st = .waiting → (s.eng a.1).cause = 3 →
          (m.closed = false → (s.eng a.1).pc < 16383 →
            t.eng a.1 = { (s.eng a.1).stepped with cur := { b := m.b, t := 0 }, decL := none, decR := none }) ∧
          (m.closed = true →
            t.eng a.1 = { s.eng a.1 with st := .running, cause := 0, goEnd := true } ∧ t.bit (engAddr a.1 0x0C) 4 = true)) ∧
        (∀ e, (∀ a ∈ i.arrived, a.1 ≠ e) → t.eng e = s.eng e) ∧ s.sameMem t))

/-- A pledge is held until its outcome reaches its slots in time or its deadline puts ABSENT there; the standby mirrors alike; TRIG edges are the active's. (R93, R98, R174, R176, R177, R178, R180, R349) -/
def Obligations.RemoteOutcomesAndDeadlines : Prop :=
  (∀ (s : State) (src : BitVec 11) (stamp : W32),
    (s.twin = false → Sys2Proof.Machine.exec (.pledge src stamp) s = .next s) ∧
    (s.twin = true → ∃ t : State, Sys2Proof.Machine.exec (.pledge src stamp) s = .next t ∧ t = { s with onet := t.onet } ∧
      (s.shadow = false → t.onet = { s.onet with pledges := s.onet.pledges ++ [{ source := src.toNat, stamp := stamp, absentTo := [] }] }) ∧
      (s.shadow = true → t.onet = { s.onet with due := s.onet.due ++
        [{ source := src.toNat, stamp := stamp, viaA := true, words := [], flips := false, b1 := false }] }))) ∧
  (∀ (s : State) (b : Bool) (o : SeamOutcome), (b = true ∧ s.shadow = false) ∨ (b = false ∧ (s.twin = false ∨ s.shadow = true)) →
    Sys2Proof.Machine.exec (.outcome b o) s = .next s) ∧
  (∀ (s : State) (o : SeamOutcome), s.twin = true → s.shadow = false → s.pairState ≠ 3 →
    let slots := s.boundSlots o.source.toNat true
    let late := fun es => bge s.pin (s.slotDeadline o.stamp es)
    (s.onet.pledges = [{ source := o.source.toNat, stamp := o.stamp, absentTo := [] }] → (∀ es ∈ slots, late es = false) →
      ∃ t : State, Sys2Proof.Machine.exec (.outcome false o) s = .next t.serveRuns ∧ t = { s with onet := t.onet } ∧ t.onet.pledges = [] ∧
        t.onet.deliv = s.onet.deliv ++ toSlots slots (seamEntry o)) ∧
    (s.onet.pledges = [] → ∃ t : State, Sys2Proof.Machine.exec (.outcome false o) s = .next t.serveRuns ∧ (∀ e, t.eng e = s.eng e) ∧ s.sameMem t ∧
      t.onet.pledges = [] ∧ t.onet.deliv = s.onet.deliv ++ toSlots (slots.filter (fun es => !late es)) (seamEntry o) ++
        toSlots (slots.filter late) (absentEntry true (some o.stamp)) ∧
      s.sameRegs t [0x10030008, 0x10030004] ∧ ((∃ es ∈ slots, late es = true) → t.bit 0x10030004 0 = true ∧
        (t.reg 0x10030008).toNat = min 0xFFFFFFFF ((s.reg 0x10030008).toNat + 1)) ∧
      ((∀ es ∈ slots, late es = false) → s.sameRegs t []))) ∧
  (∀ (s : State) (p : Pledge) (b : W32), s.onet.pledges = [p] → p.absentTo = [] → s.nextDeadline = some b → s.pairState ≠ 3 →
    s.hem.fastPend = none →
    (s.clk.run = true ∨ bge s.pin b = true) →
    ∃ t : State, Sys2Proof.Machine.exec .remoteDeadline s = .next t.serveRuns ∧ bge t.pin b = true ∧
      let due := (s.boundSlots p.source true).filter (fun es => bge t.pin (t.slotDeadline p.stamp es))
      t.onet.deliv = s.onet.deliv ++ toSlots due (absentEntry true (some p.stamp)) ∧ t.onet.pledges = [{ p with absentTo := due }] ∧
      t.bit 0x10030004 0 = true ∧ (t.reg 0x10030008).toNat = min 0xFFFFFFFF ((s.reg 0x10030008).toNat + 1) ∧
      s.sameRegs t [0x10030008, 0x10030004] ∧ (∀ e, t.eng e = s.eng e) ∧ s.sameMem t) ∧
  (∀ (s : State) (o : SeamOutcome), s.shadow = true → s.onet.due = [] → o.viaA = false →
    bge s.pin (o.stamp + BitVec.ofNat 32 s.deadlineM) = false →
    Sys2Proof.Machine.exec (.outcome true o) s =
      .next ({ s with onet := { s.onet with mirrored := s.onet.mirrored ++ [o] } } : State).formReady.serveRuns) ∧
  (∀ (s : State) (d : Due), s.onet.due = [d] → ∃ t : State, Sys2Proof.Machine.exec .mirrorDeadline s = .next t.serveRuns ∧ t.onet.due = [] ∧
    t.bit 0x10030004 2 = true ∧ (t.reg 0x10030010).toNat = min 0xFFFFFFFF ((s.reg 0x10030010).toNat + 1) ∧
    s.sameRegs t [0x10030010, 0x10030004, aResultsLost] ∧ (∀ e, t.eng e = s.eng e) ∧ s.sameMem t ∧
    (d.viaA = false → t.onet.deliv = s.onet.deliv ++ toSlots (s.boundSlots d.source false) (absentEntry false (some d.stamp)))) ∧
  (∀ (s : State) (pin : Fin 8) (stamp : W64),
    (s.shadow = false → Sys2Proof.Machine.exec (.trig pin stamp) s = .next s) ∧
    (s.shadow = true → s.wf = true → (∀ e, (s.eng e).live = []) →
      ∃ t : State, Sys2Proof.Machine.exec (.trig pin stamp) s = .next t.serveRuns ∧ s.sameMem t ∧ s.sameRegs t [] ∧
        ∀ e, let x := s.eng e
          let latches := x.inShot && decide (0 ≤ (((stamp >>> 6).setWidth 32 : W32) - x.shotStart).toInt)
          (latches = true → (t.eng e).trigs = x.trigs ++ [(pin.val, stamp)] ∧ (t.eng e).pc = x.pc ∧ (t.eng e).slots = x.slots) ∧
          (latches = false → t.eng e = x)))

/-- Setting EN starts the table check; the check sets EN or records the first failing entry; clearing EN while attached waits; the scrub disables words. (R186, R193, R194, R213) -/
def Obligations.MenderSwitchesOnAfterItsCheck : Prop :=
  (∀ (s : State) (v : W32), let on := s.bit 0x10040000 0
    (s.mend.check.isSome = true → Sys2Proof.Machine.exec (.menderEnable v) s = .next s) ∧
    (s.mend.check = none → on = false → v.getLsbD 0 = true →
      Sys2Proof.Machine.exec (.menderEnable v) s = .next { s with mend := { s.mend with check := some (v &&& 0xF, none) } }) ∧
    (s.mend.check = none → on = true ∨ v.getLsbD 0 = false → ∃ t : State, Sys2Proof.Machine.exec (.menderEnable v) s = .next (t.touch 0x10040000) ∧
      s.sameRegs t [0x10040000] ∧ t = { s with regs := t.regs, mend := t.mend } ∧
      (on = true → v.getLsbD 0 = false → s.mend.set.isSome = true →
        t.reg 0x10040000 = (v &&& 0xE) ||| 1 ∧ t.mend = { s.mend with detachAfter := true }) ∧
      (on = false ∨ v.getLsbD 0 = true ∨ s.mend.set = none →
        t.reg 0x10040000 = v &&& 0xF ∧ t.mend = { s.mend with detachAfter := false }))) ∧
  (∀ (s : State) (v : W32) (who : Option Deferred), s.mend.check = some (v, who) →
    ∃ t : State, Sys2Proof.Machine.exec .menderCheckDone s = .next t ∧ t.mend.check = none ∧ (∀ e, t.eng e = s.eng e) ∧ s.sameMem t ∧
      (s.checkTables = none → t.reg 0x10040000 = v ∧ t.reg 0x10040028 = s.reg 0x10040028 ∧
        (who = none → s.sameRegs t [0x10040000]) ∧
        ∀ d, who = some d → ackReq d.h = true → s.answers t d.h d.op stOk d.okParams) ∧
      (∀ err, s.checkTables = some err → t.reg 0x10040028 = err ∧ t.bit 0x10040014 4 = true ∧ t.reg 0x10040000 = s.reg 0x10040000 ∧
        (who = none → s.sameRegs t [0x10040028, 0x10040014]) ∧ ∀ d, who = some d → s.answers t d.h d.op 0x11 d.badParams)) ∧
  (∀ (s : State) (bad : List Nat),
    (s.bit 0x10040000 0 = true → s.bit 0x10050004 3 = false → bad ≠ [] → ∃ t : State, Sys2Proof.Machine.exec (.menderScrub bad) s = .next t ∧
      (∀ n, n ∈ t.mend.bad ↔ n ∈ s.mend.bad ∨ n ∈ bad) ∧ (∀ n, n ∈ t.mend.off ↔ n ∈ s.mend.off ∨ n ∈ bad) ∧
      t.bit 0x10040014 7 = true ∧ t.bit 0x10040014 4 = true ∧ s.sameRegs t [0x10040014] ∧ (∀ e, t.eng e = s.eng e) ∧ s.sameMem t) ∧
    (s.bit 0x10040000 0 = false ∨ s.bit 0x10050004 3 = true ∨ bad = [] → Sys2Proof.Machine.exec (.menderScrub bad) s = .next s))

/-- An outcome that reaches Mender becomes its detector's next input, counted when ABSENT, or is discarded with a flag; an empty round closes 80 blocks on. (R187, R188, R189, R190, R213) -/
def Obligations.MenderTakesInputsAndClosesRounds : Prop :=
  (∀ (s : State) (i : MendIn) (rest : List MendIn) (d : Nat), s.onet.mendIn = i :: rest → s.detOf i.source = some d →
    s.mend.set ≠ none → (∀ b, i.stamp = some b → blt b s.mend.shotStart = false) →
    let x := tabGet DetSt.reset s.mend.dets d
    let v := if i.absent then x.prev.getD (s.bit (mendDetAddr d) 29) else i.value != 0
    let event := match x.prev with
      | some p => v != p
      | none => s.bit (mendDetAddr d) 30 && (v != s.bit (mendDetAddr d) 29)
    ∃ t : State, Sys2Proof.Machine.exec .menderInput s = .next t.serveRuns ∧ t.onet.mendIn = rest ∧ (∀ e, t.eng e = s.eng e) ∧ s.sameMem t ∧
      (∀ n, s.roundOf d x.taken = some n → s.finalMade = false → (s.mendRounds = 0 ∨ n < s.mendRounds) →
        t.mend.ins = s.mend.ins ++ [{ round := n, det := d, v := v, event := event, absent := i.absent }] ∧
        tabGet DetSt.reset t.mend.dets d = { taken := x.taken + 1, prev := some v } ∧
        (i.absent = false → s.sameRegs t []) ∧
        (i.absent = true → s.sameRegs t [0x10040020, 0x10040014] ∧ t.bit 0x10040014 2 = true ∧
          (t.reg 0x10040020).toNat = min 0xFFFFFFFF ((s.reg 0x10040020).toNat + 1))) ∧
      (s.roundOf d x.taken = none ∨ s.finalMade = true ∨
          (∃ n, s.roundOf d x.taken = some n ∧ s.mendRounds ≠ 0 ∧ s.mendRounds ≤ n) →
        t.mend = s.mend ∧ t.bit 0x10040014 3 = true ∧ s.sameRegs t [0x10040014])) ∧
  (∀ s : State, let n := s.mend.closed
    (s.mend.set ≠ none → s.finalMade = false → s.activeDets (s.layoutOf n) = [] →
      ∃ t : State, ∃ l, Sys2Proof.Machine.exec .emptyRoundClose s = .next t.serveRuns ∧ (∀ e, t.eng e = s.eng e) ∧ s.sameMem t ∧ s.sameRegs t [] ∧
        t.mend.closes = s.mend.closes ++ { round := n, stamp := s.mend.lastStamp + 80, final := s.mendRounds == n + 1
                                           late := s.decoderBusy } :: l) ∧
    (s.mend.set = none ∨ s.finalMade = true ∨ s.activeDets (s.layoutOf n) ≠ [] →
      Sys2Proof.Machine.exec .emptyRoundClose s = .next s))

/-- A close that commits applies its edges once any exchange is made: observables, frame updates, carries; what is published and applied later. (R195, R196, R197, R201, R204, R208, R210) -/
def Obligations.MenderCommitsWindows : Prop :=
  (∀ (s : State) (c : Close) (rest : List Close), s.mend.closes = c :: rest →
    (s.commits c = false → Sys2Proof.Machine.exec .menderCommit s = .next { s with mend := { s.mend with closes := rest } }) ∧
    (s.commits c = true → s.twin = false → (∀ g ∈ s.commitEdges c, g.cross = false) →
      ∃ t : State, Sys2Proof.Machine.exec .menderCommit s = .next t.serveRuns ∧ s.hasCommitted t c ∧ t.mend.alone = s.mend.alone) ∧
    (s.commits c = true → s.twin = true → s.mend.alone = true ∨ s.linkUp .seamA = false → (∀ g ∈ s.commitEdges c, g.cross = false) →
      ∃ t : State, Sys2Proof.Machine.exec .menderCommit s = .next t.serveRuns ∧ s.hasCommitted t c ∧ t.mend.alone = true ∧ t.bit 0x10040014 6 = true) ∧
    (s.commits c = true → s.twin = true → s.mend.alone = false → s.linkUp .seamA = true → s.mend.mine = none → s.mend.exch = none →
      ∃ t : State, Sys2Proof.Machine.exec .menderCommit s = .next t ∧ t.mend = { s.mend with mine := some (s.xchgMsg c) } ∧
        s.sentSeam t false 0x05 ∧ (∀ e, t.eng e = s.eng e) ∧ s.sameMem t)) ∧
  (∀ (s : State) (m : XchgMsg), s.twin = true → s.mend.set ≠ none → s.mend.alone = false →
    (s.mend.mine = none → Sys2Proof.Machine.exec (.mendXchg m) s = .next { s with mend := { s.mend with exch := some m } }) ∧
    (∀ x c rest, s.mend.mine = some x → s.mend.closes = c :: rest →
      ∃ t : State, Sys2Proof.Machine.exec (.mendXchg m) s = .next t.serveRuns ∧ t.mend.closes = rest ∧ t.mend.mine = none ∧ t.mend.exch = none ∧
        (t.reg 0x10040018).toNat = min 0xFFFFFFFF ((s.reg 0x10040018).toNat + 1) ∧ (∀ e, t.eng e = s.eng e) ∧ s.sameMem t)) ∧
  (∀ s : State,
    (s.mend.mine = none ∨ s.mend.closes = [] → Sys2Proof.Machine.exec .seamLostExchange s = .next s) ∧
    (∀ x c rest, s.mend.mine = some x → s.mend.closes = c :: rest → (∀ g ∈ s.commitEdges c, g.cross = false) →
      ∃ t : State, Sys2Proof.Machine.exec .seamLostExchange s = .next t.serveRuns ∧ s.hasCommitted t c ∧ t.mend.alone = true ∧ t.bit 0x10040014 6 = true)) ∧
  (∀ (s : State) (b : W32) (id : Nat) (v ab : Bool) (st : W32), s.mend.pubs = [(b, id, v, ab, st)] →
    s.twin = false → ∃ t : State, Sys2Proof.Machine.exec .observablePublish s = .next t.serveRuns ∧ t.mend.pubs = [] ∧
      t.onet.deliv = s.onet.deliv ++ toSlots (s.boundSlots (512 + id) false) (if ab then absentEntry false (some st)
        else { value := if v then 1 else 0, uncertain := false, absent := false, remote := false, stamp := some st }) ∧
      s.sameRegs t [] ∧ (∀ e, t.eng e = s.eng e) ∧ s.sameMem t) ∧
  (∀ (s : State) (b : W32), s.mendNext = some b → ∃ t : State, Sys2Proof.Machine.exec .menderFrameUpdate s = .next t.serveRuns ∧
    (∀ u ∈ t.hem.frameQ, u.block ≠ b) ∧ (∀ u ∈ s.hem.frameQ, u.block ≠ b → u ∈ t.hem.frameQ) ∧ s.sameMem t)

/-- RUN starts a channel at its START descriptor or stops it; KICK fetches again the descriptor that was not valid. (R217, R218, R220, R229, R236, R422) -/
def Obligations.DmaChannelsRunAndKick : Prop :=
  (∀ (s : State) (n : Fin 32) (v : W32), v.getLsbD 0 = true →
    let clash := s.dmaPaced n && s.pacedClash n (s.dmaEng n)
    (s.outTest = true ∨ clash = true → Sys2Proof.Machine.exec (.dmaRun n v) s = .next s) ∧
    (s.outTest = false → clash = false → s.dmaSt n = 0 ∨ s.dmaSt n = 6 →
      ∃ t : State, Sys2Proof.Machine.exec (.dmaRun n v) s = .next t ∧ t.reg (dmaAddr n 0) = 1 ∧
        s.dmaFetched t n (s.fld (dmaAddr n 0x10) 12 0) ∧ s.otherDma t n)) ∧
  (∀ (s : State) (n : Fin 32) (v : W32), v.getLsbD 0 = false →
    ∃ t : State, Sys2Proof.Machine.exec (.dmaRun n v) s = .next t ∧ t.reg (dmaAddr n 0) = 0 ∧ s.otherDma t n ∧
      s.sameRegs t [dmaAddr n 0, dmaAddr n 8] ∧ (s.dmaSt n ≠ 2 → s.sameMem t) ∧
      (s.dmaSt n = 1 ∨ s.dmaSt n = 4 → t.dmaCh n = { s.dmaCh n with stopReq := true } ∧ t.dmaSt n = s.dmaSt n) ∧
      (s.dmaSt n = 2 ∨ s.dmaSt n = 3 → t.dmaSt n = 5 ∧ t.dmaCh n = s.dmaCh n) ∧
      (s.dmaSt n = 2 → t.fld (dmaAddr n 8) 31 24 = 0 ∧ let a := descAddr (s.dmaCur n) 7
        t.word a = s.reg (dmaAddr n 0x18) ∧ ∀ b, b < a ∨ a + 4 ≤ b → t.byte b = s.byte b) ∧
      (s.dmaSt n = 0 ∨ 5 ≤ s.dmaSt n → t.dmaSt n = s.dmaSt n ∧ t.dmaCh n = s.dmaCh n)) ∧
  (∀ (s : State) (n : Fin 32) (v : W32),
    (v.getLsbD 0 = true → s.dmaSt n = 3 → (s.dmaCh n).ahead = [] →
      ∃ t : State, Sys2Proof.Machine.exec (.dmaKick n v) s = .next t ∧ s.dmaFetched t n (s.dmaCur n) ∧ s.otherDma t n) ∧
    (v.getLsbD 0 = false ∨ s.dmaSt n ≠ 3 → Sys2Proof.Machine.exec (.dmaKick n v) s = .next s))

/-- Bytes of a descriptor move and are counted; read answers enter staging; write acknowledgements complete bytes; errors and time-outs end the descriptor. (R214, R219, R221, R223, R225, R265) -/
def Obligations.DmaMovesAndHearsAnswers : Prop :=
  (∀ (s : State) (n : Fin 32) (units : Nat),
    (s.dmaSt n ≠ 1 → s.dmaSt n ≠ 4 → Sys2Proof.Machine.exec (.dmaBytesComplete n units) s = .next s) ∧
    (∀ st, s.dmaSt n = 1 ∨ s.dmaSt n = 4 → s.dmaPath n = some st →
      ∃ t : State, Sys2Proof.Machine.exec (.dmaBytesComplete n units) s = .next t ∧ s.dmaFailed t n st ∧ s.otherDma t n) ∧
    (let x := s.dmaCh n
     let a := (dw x.desc 3).toNat + x.moved
     s.dmaSt n = 1 → s.dmaPath n = none → s.dmaPaced n = false → dSrc x.desc = 0 → dDst x.desc = 1 → x.desc ≠ [] → x.compat = false →
      32 ≤ x.ready.length → x.moved + 32 < dLen x.desc → s.dmaDone n + 32 < dLen x.desc → units = 1 → x.stopReq = false →
      0x10000000 ≤ a → s.memRefusal a true = none → inQmap a = false → (∀ i < 8, inFrames (a + 4 * i) = false) →
      ∃ t : State, Sys2Proof.Machine.exec (.dmaBytesComplete n units) s = .next t ∧ s.otherDma t n ∧ t.dmaDone n = s.dmaDone n + 32 ∧
        (t.dmaCh n).moved = x.moved + 32 ∧ (t.dmaCh n).ready = x.ready.drop 32 ∧
        (∀ i < 8, t.word (a + 4 * i) = leWord ((x.ready.drop (4 * i)).take 4) &&& memMask (a + 4 * i)) ∧
        ∀ b, b < a ∨ a + 32 ≤ b → t.byte b = s.byte b)) ∧
  (∀ (s : State) (k : Fin 4) (tag : Byte) (status : BitVec 3) (data : List Byte) (r : MemRead),
    s.dma.reads = [r] → r.link = k.val → r.tag = tag.toNat → r.data = none → r.ch < 32 →
    (status = 0 → ∃ t : State, Sys2Proof.Machine.exec (.readData k tag status data) s = .next t ∧ s.otherDma t r.ch ∧ s.sameMem t ∧
      (t.dmaCh r.ch).ready = (s.dmaCh r.ch).ready ++ data.take r.len) ∧
    (status ≠ 0 → ∃ t : State, Sys2Proof.Machine.exec (.readData k tag status data) s = .next t ∧ s.otherDma t r.ch ∧ s.dmaFailed t r.ch stRange) ∧
    (∃ t : State, Sys2Proof.Machine.exec (.memReadTimeout k tag) s = .next t ∧ s.otherDma t r.ch ∧ s.dmaFailed t r.ch stInternal)) ∧
  (∀ (s : State) (k : Fin 4) (tag : Byte) (status : BitVec 3) (data : List Byte),
    (∀ r ∈ s.dma.reads, r.link ≠ k.val ∨ r.tag ≠ tag.toNat ∨ r.data.isSome = true) →
    ∃ t : State, Sys2Proof.Machine.exec (.readData k tag status data) s = .next t ∧ Sys2Proof.Machine.exec (.memReadTimeout k tag) s = .next t ∧
      t.dma.stray = s.dma.stray.erase (k.val, tag.toNat) ∧ (∀ e, t.eng e = s.eng e) ∧ s.sameMem t ∧
      ∀ n, s.sameDma t n ∧ (n < 32 → t.dmaSt n = s.dmaSt n ∧ t.dmaDone n = s.dmaDone n)) ∧
  (∀ (s : State) (k : Fin 4) (tag : Byte) (status : BitVec 3) (n : Nat) (x : Dma) (w : MemWrite),
    s.dma.chans = [(n, x)] → x.writes = [w] → w.link = k.val → w.tag = tag.toNat → n < 32 →
    (status ≠ 0 → ∃ t : State, Sys2Proof.Machine.exec (.writeAck k tag status) s = .next t ∧ s.otherDma t n ∧ s.dmaFailed t n stRange) ∧
    (status = 0 → x.compat = false → x.stopReq = false → s.dmaSt n ≠ 5 → s.dmaSt n ≠ 6 → x.desc ≠ [] → s.dmaDone n + w.data.length < dLen x.desc →
      ∃ t : State, Sys2Proof.Machine.exec (.writeAck k tag status) s = .next t ∧ s.otherDma t n ∧ s.sameMem t ∧
        t.dmaDone n = s.dmaDone n + w.data.length ∧ (t.dmaCh n).writes = [])) ∧
  (∀ (s : State) (k : Fin 4) (tag : Byte) (status : BitVec 3),
    (∀ c ∈ s.dma.chans, ∀ w ∈ c.2.writes, w.link ≠ k.val ∨ w.tag ≠ tag.toNat) →
    ∃ t : State, Sys2Proof.Machine.exec (.writeAck k tag status) s = .next t ∧ t.dma.stray = s.dma.stray.erase (k.val, tag.toNat) ∧
      (∀ e, t.eng e = s.eng e) ∧ s.sameMem t ∧ ∀ n, s.sameDma t n)

/-- ARM fills segment 0 from its arm block or is refused; FORCE is a trigger cause; DISARM stops, completing a capture in POST. (R240, R241, R242, R247, R249, R251, R252) -/
def Obligations.PocketArmsForcesAndStops : Prop :=
  ∀ (s : State) (k : Fin 16) (v : W32) (c : Instr), c = .arm k v ∨ c = .disarm k v ∨ c = .force k v →
    let own := [0, 0x20, 0x24, 0x28, 0x2C].map (pocketAddr k)
    (v.getLsbD 0 = true → (s.armRefusal k (v.getLsbD 5)).isSome = true → Sys2Proof.Machine.exec c s = .next s) ∧
    (v.getLsbD 0 = true → v.getLsbD 1 = false → v.getLsbD 2 = false → s.armRefusal k (v.getLsbD 5) = none →
      ∃ t : State, Sys2Proof.Machine.exec c s = .next t ∧ t.reg (pocketAddr k 0) = v &&& 0x30 ∧ t.fld (pocketAddr k 0x20) 7 4 = 0 ∧
        (t.pocket k).armBlock = s.pin + 4 ∧ s.sameRegs t own ∧ (∀ e, t.eng e = s.eng e) ∧ s.sameMem t ∧
        (∀ m : Nat, m ≠ k.val → t.pocket m = s.pocket m) ∧
        t.pocketSt k = (if v.getLsbD 5 && s.fld (pocketAddr k 0x14) 4 0 == 0 then 5 else 1)) ∧
    (v.getLsbD 0 = false → v.getLsbD 1 = false → v.getLsbD 2 = true →
      ∃ t : State, Sys2Proof.Machine.exec c s = .next t ∧ t.pocketSt k = s.pocketSt k ∧ s.sameRegs t own ∧ (∀ e, t.eng e = s.eng e) ∧ s.sameMem t ∧
        (s.pocketSt k = 1 → s.bit (pocketAddr k 0x14) 4 = true →
          0 ≤ (s.tickOf (s.pin + 4) - s.tickOf (s.pocket k).armBlock).toInt →
          (t.pocket k).cands = (s.pocket k).cands ++ [{ cause := 4, p := s.tickOf (s.pin + 4) }])) ∧
    (v.getLsbD 0 = false → v.getLsbD 1 = true → v.getLsbD 2 = false →
      ∃ t : State, Sys2Proof.Machine.exec c s = .next t ∧ s.sameRegs t own ∧ (∀ e, t.eng e = s.eng e) ∧
        (s.pocketSt k = 1 ∨ s.pocketSt k = 3 → t.pocketSt k = 6 ∧ t.reg (pocketAddr k 0x2C) = s.reg (pocketAddr k 0x2C)) ∧
        (s.pocketSt k = 3 → s.sameMem t) ∧ (s.pocketSt k = 1 → (s.pocketSrc k).src ≠ 4 →
          ∀ a, a < s.segBase k + 64 ∨ s.segBase k + 64 + s.pocketRing k ≤ a → t.byte a = s.byte a) ∧
        (s.pocketSt k = 2 → t.pocketSt k = 6 ∧ t.bit (pocketAddr k 0x24) 0 = true ∧
          (t.reg (pocketAddr k 0x2C)).toNat = min 0xFFFFFFFF ((s.reg (pocketAddr k 0x2C)).toNat + 1)) ∧
        (s.pocketSt k = 0 ∨ s.pocketSt k = 4 ∨ s.pocketSt k = 6 → t.pocketSt k = s.pocketSt k ∧ s.sameMem t))

/-- A pocket takes its earliest candidate, completes its capture, fills the next segment or is done; its stream is read or overflows. (R243, R244, R245, R246, R247, R248, R250) -/
def Obligations.PocketTriggersCapturesAndStreams : Prop :=
  (∀ (s : State) (k : Fin 16),
    (s.pocketSt k ≠ 1 ∨ s.firstCand k = none → Sys2Proof.Machine.exec (.triggerDecision k) s = .next s) ∧
    (∀ i c, s.pocketSt k = 1 → s.firstCand k = some (i, c) → s.bit (pocketAddr k 0x14) 0 = false →
      let later := (s.pocket k).cands.length - ((s.candidates k).filter (fun c => c.1 == i)).length
      ∃ t : State, Sys2Proof.Machine.exec (.triggerDecision k) s = .next t ∧ (t.pocket k).cands = [] ∧
        (t.pocket k).causes = causeBits (((s.candidates k).filter (fun c => c.1 == i)).map (·.2)) ∧
        (t.pocket k).missed = (s.pocket k).missed + later ∧ t.pocketSt k = (if s.bit (pocketAddr k 0) 5 then 5 else 2) ∧
        s.sameRegs t ([0x20, 0x24, 0x28].map (pocketAddr k)) ∧ (∀ e, t.eng e = s.eng e) ∧ s.sameMem t)) ∧
  (∀ (s : State) (k : Fin 16) (i : Nat) (b : W32), let p := s.pocketSrc k
    s.pocketSt k = 2 → s.unitIndex k (s.pocket k).trigUnit = some i → s.unitsDoneAt k i (64 * s.fld (pocketAddr k 0xC) 15 0 / p.size) = some b →
    ∃ t : State, Sys2Proof.Machine.exec (.captureComplete k) s = .next t ∧ t.pocketSt k = 3 ∧ t.bit (pocketAddr k 0x24) 0 = true ∧
      (t.reg (pocketAddr k 0x2C)).toNat = min 0xFFFFFFFF ((s.reg (pocketAddr k 0x2C)).toNat + 1) ∧ (t.pocket k).doneAt = t.pin ∧
      s.sameRegs t ([0x20, 0x24, 0x28, 0x2C].map (pocketAddr k)) ∧ (∀ e, t.eng e = s.eng e) ∧
      (p.src ≠ 4 → ∀ a, a < s.segBase k ∨ s.segBase k + 64 + s.pocketRing k ≤ a → t.byte a = s.byte a)) ∧
  (∀ (s : State) (k : Fin 16), let seg := s.fld (pocketAddr k 0x20) 7 4 + 1
    let more := s.bit (pocketAddr k 0) 4 && decide (seg < s.fld (pocketAddr k 0x10) 4 0)
    (s.pocketSt k ≠ 3 → Sys2Proof.Machine.exec (.rearmEnd k) s = .next s) ∧
    (s.pocketSt k = 3 → ∃ t : State, Sys2Proof.Machine.exec (.rearmEnd k) s = .next t ∧
      s.sameRegs t ([0x20, 0x24, 0x28].map (pocketAddr k)) ∧ (∀ e, t.eng e = s.eng e) ∧ s.sameMem t ∧
      (more = true → seg < 16 → t.pocketSt k = 1 ∧ t.fld (pocketAddr k 0x20) 7 4 = seg ∧ (t.pocket k).armBlock = t.pin) ∧
      (more = false → t.pocketSt k = 4 ∧ t.bit (pocketAddr k 0x24) 1 = true))) ∧
  (∀ (s : State) (k : Fin 16), let x := s.pocket k
    (s.windowReader k = none ∨ s.hostUp = false ∨ s.fieldUp = false → Sys2Proof.Machine.exec (.pocketData k) s = .next s) ∧
    (∀ n, s.windowReader k = some n → s.hostUp = true → s.fieldUp = true → s.pocketSt k ≠ 5 →
      (s.dataCrosses = false → ∃ t : State, Sys2Proof.Machine.exec (.pocketData k) s = .next t ∧ t = { s with lining := t.lining } ∧
        t.lining.classC.since.isSome = true) ∧
      (s.dataCrosses = true → let bs := x.fifo.take 32 ++ List.replicate (32 - x.fifo.length) 0
        ∃ t : State, Sys2Proof.Machine.exec (.pocketData k) s = .next t ∧ t.sent = s.sent ++ [Out.lining 8 (toWords 8 bs)] ∧
          t.pocket k = { x with fifo := x.fifo.drop 32 } ∧
          t.dmaCh n = { s.dmaCh n with ready := (s.dmaCh n).ready ++ bs, asked := (s.dmaCh n).asked + 32 } ∧
          (∀ e, t.eng e = s.eng e) ∧ s.sameMem t))) ∧
  (∀ (s : State) (k : Fin 16) (i : Nat) (b : W32), let p := s.pocketSrc k
    let x := s.pocket k
    let n := i + x.streamed / p.size + (0x400000 - 64 - x.fifo.length) / p.size
    (s.pocketSt k ≠ 5 → Sys2Proof.Machine.exec (.pocketOverflow k) s = .next s) ∧
    (s.pocketSt k = 5 → s.streamUp k = s → p.src ≠ 4 → s.fld (pocketAddr k 0xC) 15 0 = 0xFFFF →
      s.unitIndex k x.trigUnit = some i → s.unitsDoneAt k n 1 = some b → s.clk.run = true → 0 < (b - s.pin).toInt →
      (n + 1) * p.blocks < 2 ^ 31 →
      ∃ t : State, Sys2Proof.Machine.exec (.pocketOverflow k) s = .next t ∧ t.pocketSt k = 6 ∧ t.bit (pocketAddr k 0x24) 3 = true ∧
        (∀ e, t.eng e = s.eng e) ∧ s.sameMem t))

/-- Lining frames are taken, retried or retire their lane; idle and down sides signal; loss and return act as the rules say. (R23, R24, R25, R26, R27, R219, R307, R319) -/
def Obligations.LiningFramesLossAndReturn : Prop :=
  (∀ (s : State) (rx : Side) (ok : Bool) (lane : Fin 64), let x := s.linDir rx
    let recent := ((tabFind x.fails lane).getD []).filter (fun t => decide ((s.sideTime rx - t).toNat < 25600000)) ++ [s.sideTime rx]
    let tries := tabGet 0 x.retry lane + 1
    let n := 64 - (x.out.length + 1)
    (s.bit (aLin rx) 0 = false ∨ lane.val ∈ x.out → Sys2Proof.Machine.exec (.liningFrameReceive rx ok lane) s = .next s) ∧
    (s.bit (aLin rx) 0 = true → lane.val ∉ x.out → ok = true →
      ∃ t : State, Sys2Proof.Machine.exec (.liningFrameReceive rx ok lane) s = .next t ∧ t = { s with regs := t.regs, lining := t.lining } ∧
        t.linDir rx = { x with retry := tabDel lane x.retry } ∧ t.linDir (Side.other rx) = s.linDir (Side.other rx) ∧
        t.bit (aLin rx) 16 = true ∧ s.sameRegs t [aLin rx]) ∧
    (s.bit (aLin rx) 0 = true → lane.val ∉ x.out → ok = false → tries ≤ 3 → recent.length ≤ 16 →
      ∃ t : State, Sys2Proof.Machine.exec (.liningFrameReceive rx ok lane) s = .next t ∧ t = { s with regs := t.regs, lining := t.lining } ∧
        tabGet 0 (t.linDir rx).retry lane = tries ∧ (t.linDir rx).out = x.out ∧ t.linDir (Side.other rx) = s.linDir (Side.other rx) ∧
        (t.reg 0x00010204).toNat = min 0xFFFFFFFF ((s.reg 0x00010204).toNat + 1) ∧ s.sameRegs t [0x00010204]) ∧
    (s.bit (aLin rx) 0 = true → lane.val ∉ x.out → ok = false → 3 < tries ∨ 16 < recent.length →
      (8 ≤ n → ∃ t : State, Sys2Proof.Machine.exec (.liningFrameReceive rx ok lane) s = .next t ∧
        t.linDir rx = { x with retry := tabDel lane x.retry, fails := tabDel lane x.fails, out := x.out ++ [lane.val] } ∧
        t.linDir (Side.other rx) = s.linDir (Side.other rx) ∧ t.fld (aLin rx) 15 9 = n ∧ t.bit (aLin rx) 1 = true ∧
        (s.bit (aLin (Side.other rx)) 0 = true → t.fld (aLin (Side.other rx)) 8 2 = n ∧ t.bit (aLin (Side.other rx)) 1 = true) ∧
        (s.bit (aLin (Side.other rx)) 0 = false → t.reg (aLin (Side.other rx)) = s.reg (aLin (Side.other rx))) ∧
        (3 < tries → t.reg 0x00010204 = s.reg 0x00010204) ∧ t.bit (aPend 41) 10 = true ∧ (∀ e, t.eng e = s.eng e) ∧ s.sameMem t) ∧
      (n < 8 → ∃ t : State, Sys2Proof.Machine.exec (.liningFrameReceive rx ok lane) s = .next t ∧ t.hostUp = false ∧ t.fieldUp = false ∧
        t.bit (aPend 41) 10 = true ∧ (∀ e, t.eng e = s.eng e)))) ∧
  (∀ (s : State) (d : Side),
    (s.sideAlive d = true → s.bit (aLin d) 0 = true →
      Sys2Proof.Machine.exec (.liningHeartbeat d) s = .next { s with sent := s.sent ++ [.liningBeat d] }) ∧
    (s.sideAlive d = false ∨ s.bit (aLin d) 0 = false → Sys2Proof.Machine.exec (.liningHeartbeat d) s = .next s) ∧
    (s.sideAlive d = true → s.bit (aLin d) 0 = false →
      Sys2Proof.Machine.exec (.liningTrainingAttempt d) s = .next { s with sent := s.sent ++ [.liningTrain d] }) ∧
    (s.sideAlive d = false ∨ s.bit (aLin d) 0 = true → Sys2Proof.Machine.exec (.liningTrainingAttempt d) s = .next s) ∧
    (s.sideAlive d = false ∨ s.bit (aLin d) 0 = false → Sys2Proof.Machine.exec (.liningDown d) s = .next s)) ∧
  (∀ s : State, s.sideAlive .field = true → s.fieldUp = true →
    ∃ t : State, Sys2Proof.Machine.exec (.liningDown .field) s = .next t ∧ t = { s with regs := t.regs, lining := t.lining } ∧
      t.fieldUp = false ∧ t.reg aFmLining = s.reg aFmLining &&& 2 ∧ s.sameRegs t [aFmLining] ∧ t.linDir .field = LiningDir.reset) ∧
  (∀ s : State, s.sideAlive .host = true → s.hostUp = true →
    ∃ t : State, Sys2Proof.Machine.exec (.liningDown .host) s = .next t ∧ t.hostUp = false ∧ t.reg aLining = s.reg aLining &&& 2 ∧
      (t.reg 0x00010208).toNat = min 0xFFFFFFFF ((s.reg 0x00010208).toNat + 1) ∧ t.bit (aPend 41) 10 = true ∧
      (∀ e, t.eng e = s.eng e) ∧ t.cmd.stops = [] ∧
      ∀ l, s.cmd.fm = some l → l.answered = false → l.op ≠ 0x22 → s.answers t l.h l.op.toNat stInternal []) ∧
  (∀ s : State,
    (s.hostAlive = true → s.fieldAlive = true → s.hostUp = false → s.fieldUp = false →
      ∃ t l b, Sys2Proof.Machine.exec .liningUp s = .next t ∧ t.reg aLining = 0x00018101 ∧ t.reg aFmLining = 0x00018101 ∧
        t.linDir .host = LiningDir.reset ∧ t.linDir .field = LiningDir.reset ∧ t.bit (aPend 41) 10 = true ∧
        t.sent = s.sent ++ l ∧ Out.beacon b ∈ l) ∧
    (s.hostAlive = false ∨ s.fieldAlive = false ∨ s.hostUp = true ∨ s.fieldUp = true →
      Sys2Proof.Machine.exec .liningUp s = .next s))

/-- The next record, notice, beacon, register request and bulk data cross the Lining, or wait, or are lost, as the two sides take them. (R9, R18, R20, R27, R266, R295, R305, R306, R308, R320) -/
def Obligations.RecordsNoticesBeaconsAndAccessesCross : Prop :=
  (∀ s : State, (s.noticeWaits = true ∨ (s.recordWaits = true ∧ s.yieldsToC = true) → Sys2Proof.Machine.exec .outcomeAndResultRecord s = .next s) ∧
    (s.onet.held = [] → s.noticeWaits = false → s.recordWaits = false ∨ s.yieldsToC = false →
    (s.onet.recs = [] → Sys2Proof.Machine.exec .outcomeAndResultRecord s = .next s) ∧
    (∀ r rs, s.onet.recs = r :: rs → ∃ t : State, Sys2Proof.Machine.exec .outcomeAndResultRecord s = .next t ∧ t.onet.recs = rs ∧
      (∀ e, t.eng e = s.eng e) ∧ s.sameMem t ∧
      ((if s.onet.rate.1 = s.pin then s.onet.rate.2 else 0) + (r.bytes + 15) / 16 ≤ 4 → t.clk = s.clk) ∧
      (s.takesRec r = true → s.resultLink = true → t.sent = s.sent ++ (List.range r.parts).map (Out.records r) ∧ t.onet.held = []) ∧
      (s.takesRec r = true → s.resultLink = false → t.cmd.hostBuf = s.cmd.hostBuf ++ (List.range r.parts).map (Out.records r) ∧ t.onet.held = []) ∧
      (s.takesRec r = false → r.bytes ≤ 0x80000 → t.onet.held = [r] ∧ t.reg aResultsHeld = BitVec.ofNat 32 r.bytes ∧ s.sameRegs t [aResultsHeld]) ∧
      (s.takesRec r = false → 0x80000 < r.bytes → t.onet.held = [] ∧
        (t.reg aResultsLost).toNat = min 0xFFFFFFFF ((s.reg aResultsLost).toNat + 1) ∧ s.sameRegs t [aResultsLost])))) ∧
  (∀ s : State,
    (s.evt.way = [] ∨ s.liningUp = false ∨ s.hostBufFull 16 = true → Sys2Proof.Machine.exec .eventNotice s = .next s) ∧
    (∀ n ns, s.evt.way = n :: ns → s.evt.lostMap = [] → s.liningUp = true → s.hostBufFull 16 = false → n.source < 1336 →
      ∃ t : State, Sys2Proof.Machine.exec .eventNotice s = .next t ∧ t.evt.way = ns ∧ t.bit (aPend (n.source / 32)) (n.source % 32) = true ∧
        (∀ e, t.eng e = s.eng e) ∧ s.sameMem t)) ∧
  (∀ (s : State) (b : BeaconMsg), let m : Mapping :=
      { offset := b.netOffset % 2 ^ 80, rate := b.netRate, validFrom := b.validFrom, bseq := b.bseq, stepped := b.flags.getLsbD 1 }
    let l : Lining := { s.lining with store := s.lining.store.erase (.beacon b) }
    (s.fieldAlive = false ∨ s.fieldUp = false ∨ s.hostUp = false ∨ nextBeacon s.lining.store = none →
      Sys2Proof.Machine.exec .timeBeacon s = .next s) ∧
    (s.fieldAlive = true → s.fieldUp = true → s.hostUp = true → nextBeacon s.lining.store = some b →
      ((b.bseq - s.time.fieldMap.bseq).toInt ≤ 0 → Sys2Proof.Machine.exec .timeBeacon s = .next { s with lining := l }) ∧
      (0 < (b.bseq - s.time.fieldMap.bseq).toInt → bge s.pin b.validFrom = false →
        Sys2Proof.Machine.exec .timeBeacon s = .next { s with lining := l, time := { s.time with fieldNext := some m } }) ∧
      (0 < (b.bseq - s.time.fieldMap.bseq).toInt → bge s.pin b.validFrom = true →
        ∃ t : State, Sys2Proof.Machine.exec .timeBeacon s = .next t ∧ t.lining = l ∧ t.time.fieldMap = m ∧
        t.time.fieldNext = none ∧ t.reg 0x1001010C = b.bseq.setWidth 32 ∧ t.reg 0x10010110 = b.validFrom ∧
        (t.reg 0x10010114).toNat = min 0xFFFFFFFF ((s.reg 0x10010114).toNat + 1) ∧
        s.sameRegs t [0x1001010C, 0x10010110, 0x10010114] ∧ (∀ e, t.eng e = s.eng e) ∧ s.sameMem t))) ∧
  (∀ (s : State) (addr v : W32), let a := addr.toNat
    let runs := s.fieldUp && s.ctlAlive .fm && isFieldAddr a && a % 4 == 0 && inOneRegion a 1
    (runs = false → Sys2Proof.Machine.exec (.registerAccess (.read addr)) s = .next s ∧
      Sys2Proof.Machine.exec (.registerAccess (.write addr v)) s = .next s) ∧
    (∀ m, runs = true → locate a = .mem m → inFrames a = false → s.memRefusal a false = none →
      ∃ t : State, Sys2Proof.Machine.exec (.registerAccess (.read addr)) s = .next t ∧ t.sent = s.sent ++ [.lining 1 [t.word a]] ∧
        (pocketAt a = none → t = { s with sent := t.sent }) ∧ ∀ e, t.eng e = s.eng e) ∧
    (runs = true → s.plainStore a 1 → ∃ t : State, Sys2Proof.Machine.exec (.registerAccess (.write addr v)) s = .next t ∧ s.stored t a [v] ∧
      t.sent = s.sent ++ [.lining 1 []] ∧ (∀ e, t.eng e = s.eng e) ∧ s.sameRegs t [])) ∧
  (∀ (s : State) (addr : W32) (data : List W32), let a := addr.toNat
    (s.fieldUp = false ∨ s.fieldAlive = false → Sys2Proof.Machine.exec (.bulkLoad addr data) s = .next s) ∧
    (s.fieldUp = true → s.fieldAlive = true → isFieldAddr a = true → a % 4 = 0 → s.plainStore a data.length →
      ∃ t : State, Sys2Proof.Machine.exec (.bulkLoad addr data) s = .next t ∧ s.stored t a data ∧ (∀ e, t.eng e = s.eng e) ∧ s.sameRegs t []))

/-- A register write follows the access code; a read of an RC register clears it; reads of a pair's low word latch, writes hold and pair. (R6, R7, R9, R60, R117, R337, R477) -/
def Obligations.RegisterAccessCodes : Prop :=
  (∀ (s : State) (addr v : W32), let a := addr.toNat
    (s.sideOn a = false ∨ a % 4 ≠ 0 → Sys2Proof.Machine.exec (.registerWrite addr v) s = .next s ∧
      Sys2Proof.Machine.exec (.readClear addr) s = .next s) ∧
    (∀ acc mask r, s.sideOn a = true → a % 4 = 0 → locate a = .reg acc mask r →
      (acc ≠ .rc → Sys2Proof.Machine.exec (.readClear addr) s = .next s) ∧
      (acc = .rc → ∃ t : State, Sys2Proof.Machine.exec (.readClear addr) s = .next t ∧ (s.readLatch a).onlyReg t a ∧ t.reg a = 0) ∧
      (inFrames a = true → s.memRefusal a true = none → (frameOf a).2 = 8 →
        Sys2Proof.Machine.exec (.registerWrite addr v) s = .next { s with hem := { s.hem with frameQ := s.hem.frameQ ++
          [{ block := s.pin + 4, frame := (frameOf a).1, cls := clsHost, op := .word 8 v }] } }) ∧
      (inFrames a = false →
        (acc = .ro ∨ acc = .rc → Sys2Proof.Machine.exec (.registerWrite addr v) s = .next s) ∧
        (acc = .w1c → ∃ t : State, Sys2Proof.Machine.exec (.registerWrite addr v) s = .next t ∧ (s.readLatch a).onlyReg t a ∧
          t.reg a = (s.readLatch a).reg a &&& ~~~(v &&& mask)) ∧
        (acc = .rw ∨ acc = .rws ∨ acc = .wo →
          ((s.writeRefusal a v).isSome = true → Sys2Proof.Machine.exec (.registerWrite addr v) s = .next s) ∧
          (s.writeRefusal a v = none → a ≠ 0x10040000 →
            (if a < 0x10000000 then s.hostWrite a v else if a < 0x20000000 then s.fieldWrite a v else s.tileWrite a acc mask v) = none →
            ∃ t : State, Sys2Proof.Machine.exec (.registerWrite addr v) s = .next (t.touch a) ∧ t = { s with regs := t.regs, synth := t.synth, mend := t.mend } ∧
              (heard a = false → tableWord a = none → s.onlyReg t a) ∧ s.sameRegs t [a] ∧
              t.reg a = (s.reg a &&& ~~~mask) ||| (v &&& mask)))))) ∧
  (∀ s : State,
    Sys2Proof.Machine.exec .devtimeLoRead s = .next { s with clk := { s.clk with devHi := (s.clk.devtime >>> 32).setWidth 32 } } ∧
    let n := netTime s.time.hostMap s.clk.image
    Sys2Proof.Machine.exec .netNowLoRead s = .next { s with time := { s.time with latch :=
      [BitVec.ofInt 32 (n / 65536 / 2 ^ 32), BitVec.ofInt 32 (n % 65536), s.clk.image.setWidth 32, (s.clk.image >>> 32).setWidth 32] } }) ∧
  (∀ (s : State) (f : Fin 4096) (anchor : Bool) (v : W32), let x := s.faux f
    (s.framesOn f false = false → Sys2Proof.Machine.exec (.frameFreqLoRead f anchor) s = .next s) ∧
    (s.framesOn f true = false → Sys2Proof.Machine.exec (.frameFreqLoWrite f anchor v) s = .next s ∧
      Sys2Proof.Machine.exec (.frameFreqHiWrite f anchor v) s = .next s) ∧
    (s.framesOn f false = true → ∃ t : State, Sys2Proof.Machine.exec (.frameFreqLoRead f anchor) s = .next t ∧ t = { s with frameAux := t.frameAux } ∧
      t.faux f = (if anchor then { x with ancLatch := s.reg (frameAddr f 0x14) } else { x with freqLatch := s.reg (frameAddr f 4) }) ∧
      ∀ g : Nat, g ≠ f.val → t.faux g = s.faux g) ∧
    (s.framesOn f true = true → ∃ t : State, Sys2Proof.Machine.exec (.frameFreqLoWrite f anchor v) s = .next t ∧ t = { s with frameAux := t.frameAux } ∧
      t.faux f = (if anchor then { x with ancHold := some v } else { x with freqHold := some v }) ∧
      ∀ g : Nat, g ≠ f.val → t.faux g = s.faux g) ∧
    (s.framesOn f true = true → ∃ t : State, Sys2Proof.Machine.exec (.frameFreqHiWrite f anchor v) s = .next t ∧
      t = { s with frameAux := t.frameAux, hem := t.hem } ∧
      t.faux f = (if anchor then { x with ancHold := none } else { x with freqHold := none }) ∧
      t.hem.frameQ = s.hem.frameQ ++ [{ block := s.pin + 4, frame := f, cls := clsHost, op :=
        match if anchor then x.ancHold else x.freqHold with
        | some lo => .pair anchor lo v
        | none => if anchor then .word 0x14 v else .word 0x4 (v &&& 0xFFFF) }]))

/-- Probes discipline DEV_IMAGE, beacons leave on time, a mapping takes effect at its block, the servo holds over, the clock's table forgets. (R60, R315, R316, R317, R318, R319, R320, R324, R325, R328) -/
def Obligations.ProbesBeaconsAndMappings : Prop :=
  (∀ (s : State) (sent reply : W64), let runs := s.hostAlive && s.hostUp && s.fieldUp && s.fieldAlive
    let trip := (reply - sent).toNat
    let c : W64 := s.clk.devtime - (sent + BitVec.ofNat 64 (trip / 2))
    (runs = false → Sys2Proof.Machine.exec (.timeProbe sent reply) s = .next s) ∧
    (runs = true → 1024 < trip → ∃ t : State, Sys2Proof.Machine.exec (.timeProbe sent reply) s = .next t ∧ t.clk = { s.clk with devHi := (s.clk.devtime >>> 32).setWidth 32 } ∧
      t.time = { s.time with accepted := 0 } ∧ s.sameRegs t [] ∧ s.fieldKept t) ∧
    (runs = true → trip ≤ 1024 → ∃ t : State, Sys2Proof.Machine.exec (.timeProbe sent reply) s = .next t ∧ t.clk.image = s.clk.image + c ∧
      t.clk.devtime = s.clk.devtime ∧ t.time.accepted = min 8 (s.time.accepted + 1) ∧ s.fieldKept t ∧
      (7 ≤ s.time.accepted → t.bit 0x00050004 3 = true) ∧
      (c.toInt.natAbs ≤ 256 → t.time = { s.time with accepted := min 8 (s.time.accepted + 1) } ∧ s.sameRegs t [0x00050004]))) ∧
  (∀ s : State,
    (s.hostAlive = false → Sys2Proof.Machine.exec .imageLost s = .next s) ∧
    (s.hostAlive = true → ∃ t : State, Sys2Proof.Machine.exec .imageLost s = .next t ∧ t.bit 0x00050004 3 = false ∧ t.time = { s.time with accepted := 0 } ∧
      t.clk = s.clk ∧ s.fieldKept t ∧ (s.bit 0x00050004 3 = true → t.bit 0x00050008 3 = true) ∧ (s.bit 0x00050004 3 = false → s.sameRegs t [])) ∧
    (s.hostAlive = false ∨ s.hostUp = false → Sys2Proof.Machine.exec .beaconSend s = .next s) ∧
    (s.hostAlive = true → s.hostUp = true → ∃ t : State, ∃ b, Sys2Proof.Machine.exec .beaconSend s = .next t ∧ t.sent = s.sent ++ [.beacon b] ∧ t.lining.store = s.lining.store ++ [.beacon b] ∧
      b.bseq = s.time.bseq + 1 ∧ t.time = { s.time with bseq := s.time.bseq + 1 } ∧ b.validFrom = s.newestMap.validFrom ∧
      b.netOffset = s.newestMap.offset ∧ b.netRate = s.newestMap.rate ∧ s.sameRegs t [0x00050044, 0x00050048] ∧ s.fieldKept t)) ∧
  (∀ s : State,
    (s.time.hostNext = none → Sys2Proof.Machine.exec (.mappingValidFrom .host) s = .next s) ∧
    (s.time.fieldNext = none → Sys2Proof.Machine.exec (.mappingValidFrom .field) s = .next s) ∧
    (∀ m, s.time.hostNext = some m → ∃ t : State, Sys2Proof.Machine.exec (.mappingValidFrom .host) s = .next t ∧ t.time.hostMap = m ∧
      t.time.hostNext = none ∧ t.time.stepNext = none ∧ s.fieldKept t ∧ (s.time.stepNext = none → s.sameRegs t []) ∧
      ∀ d, s.time.stepNext = some d → t.bit 0x00050008 1 = true ∧ t.reg 0x00050058 = (BitVec.ofInt 64 d).setWidth 32 ∧ t.reg 0x00050060 = m.validFrom) ∧
    (∀ m, s.time.fieldNext = some m → ∃ t : State, Sys2Proof.Machine.exec (.mappingValidFrom .field) s = .next t ∧ t.time.fieldMap = m ∧
      t.time.fieldNext = none ∧ t.reg 0x10010110 = m.validFrom ∧ t.reg 0x1001010C = m.bseq.setWidth 32 ∧
      s.sameRegs t [0x1001010C, 0x10010110] ∧ (∀ e, t.eng e = s.eng e) ∧ s.sameMem t)) ∧
  (∀ s : State,
    (s.hostAlive = true → s.servo = 1 ∨ s.servo = 2 → ∃ t : State, Sys2Proof.Machine.exec .holdover s = .next t ∧ t.servo = 3 ∧
      t.bit 0x00050008 2 = true ∧ t.time.slew = 0 ∧ t.time.freq = s.time.freq ∧ s.fieldKept t) ∧
    (s.hostAlive = false ∨ (s.servo ≠ 1 ∧ s.servo ≠ 2) → Sys2Proof.Machine.exec .holdover s = .next s)) ∧
  (∀ (s : State) (up : Bool) (ident : Nat) (seq : BitVec 16),
    Sys2Proof.Machine.exec (.tcUnmatchedTimeout up ident seq) s = .next { s with time := { s.time with
      tc := s.time.tc.filter (fun e => !(e.up == up && e.ident == ident && e.seq == seq)) } })

/-- Every PTP message is forwarded with its residence; the ordinary clock chooses a master and measures its offset from what OC_PORT receives. (R322, R324, R325, R326, R327, R338) -/
def Obligations.PtpMessagesForwardAndSteer : Prop :=
  (∀ (s : State) (up : Bool) (m : AnnounceMsg) (p : PtpMsg) (f : Int) (c : Instr),
    c = .announce up m ∨ c = .ptpSync up p ∨ c = .followUp up p ∨ c = .delayReq up p ∨ c = .delayResp up p f →
    s.hostAlive = false → Sys2Proof.Machine.exec c s = .next s) ∧
  (∀ (s : State) (up : Bool) (m : AnnounceMsg), s.hostAlive = true →
    ∃ t : State, Sys2Proof.Machine.exec (.announce up m) s = .next t ∧ t.sent = s.sent ++ s.ptpOut up 11 0 ∧ s.fieldKept t ∧
      (s.ocPort up = false → t.time = s.time) ∧
      (s.ocPort up = true → s.ocDomain m.domain = false → t.time = s.time ∧
        (t.reg 0x00050068).toNat = min 0xFFFFFFFF ((s.reg 0x00050068).toNat + 1)) ∧
      (s.ocPort up = true → s.ocDomain m.domain = true → s.time.master = none →
        t.time = { s.time with master := some m, measured := 0 } ∧ t.servo = 1 ∧ t.reg 0x00050050 = m.gmId.setWidth 32)) ∧
  (∀ (s : State) (up : Bool) (m : PtpMsg), s.hostAlive = true →
    let kept : TcEntry := { up := up, ident := m.ident, seq := m.seq, delay := false, residence := s.residence up m }
    let room := decide ((s.time.tc.filter (fun e => e.up == up)).length < 64)
    let mine := s.ocPort up && s.ocDomain m.domain
    (∃ t : State, Sys2Proof.Machine.exec (.ptpSync up m) s = .next t ∧ t.sent = s.sent ++ s.ptpOut up 0 m.correction ∧ s.fieldKept t ∧
      (m.oneStep = true → t.time = s.time ∧ (t.reg 0x00050068).toNat = min 0xFFFFFFFF ((s.reg 0x00050068).toNat + 1)) ∧
      (m.oneStep = false → room = true → t.time.tc = s.time.tc ++ [kept]) ∧ (m.oneStep = false → room = false → t.time.tc = s.time.tc) ∧
      (m.oneStep = false → mine = true → t.time.sample = some
        { ident := m.ident, seq := m.seq, t2 := netTime s.time.hostMap m.ingress + s.ingCorr up, corr := m.correction + s.asym up, t1 := none }) ∧
      (mine = false → t.time.sample = s.time.sample)) ∧
    (∃ t : State, Sys2Proof.Machine.exec (.delayReq up m) s = .next t ∧ t.sent = s.sent ++ s.ptpOut up 1 m.correction ∧ s.fieldKept t ∧
      t.time.tc = (if room then s.time.tc ++ [{ kept with delay := true }] else s.time.tc)) ∧
    (∃ t : State, Sys2Proof.Machine.exec (.followUp up m) s = .next t ∧ s.fieldKept t ∧
      (∀ e, s.tcFind up false m = some e → t.sent = s.sent ++ s.ptpOut up 8 (m.correction + e.residence) ∧ t.time.tc = s.time.tc.erase e) ∧
      (s.tcFind up false m = none → t.sent = s.sent ++ s.ptpOut up 8 m.correction ∧ t.time.tc = s.time.tc ∧
        (t.reg 0x00050068).toNat = min 0xFFFFFFFF ((s.reg 0x00050068).toNat + 1)) ∧
      (∀ x, s.time.sample = some x → t.time.sample = some (if mine ∧ x.ident = m.ident ∧ x.seq = m.seq then
        { x with t1 := some m.origin, corr := x.corr + m.correction } else x)))) ∧
  (∀ (s : State) (up : Bool) (m : PtpMsg) (f : Int), s.hostAlive = true →
    (∀ e, s.tcFind (!up) true m = some e → ∃ t : State, Sys2Proof.Machine.exec (.delayResp up m f) s = .next t ∧
      t.sent = s.sent ++ s.ptpOut up 9 (m.correction + e.residence) ∧ t.time = { s.time with tc := s.time.tc.erase e } ∧ s.fieldKept t) ∧
    (∀ path th, s.tcFind (!up) true m = none → s.ocResp up m = true → s.measure up m = some (path, th) →
      ∃ t : State, ∃ l, Sys2Proof.Machine.exec (.delayResp up m f) s = .next t ∧ t.sent = s.sent ++ s.ptpOut up 9 m.correction ++ l ∧ s.fieldKept t ∧
        t.reg 0x00050038 = (BitVec.ofInt 64 (th / 65536)).setWidth 32 ∧ t.reg 0x00050040 = BitVec.ofInt 32 (path / 4096) ∧ t.time.freq = f ∧
        t.time.measured = min 8 (s.time.measured + 1) ∧
        (s.servo = 1 → s.time.measured = 7 → t.servo = 2) ∧ (65536000 < th.natAbs → t.bit 0x00050008 0 = true)) ∧
    (s.tcFind (!up) true m = none → s.ocResp up m = false ∨ s.measure up m = none →
      ∃ t : State, Sys2Proof.Machine.exec (.delayResp up m f) s = .next t ∧ t.sent = s.sent ++ s.ptpOut up 9 m.correction ∧ t.time = s.time ∧
        (t.reg 0x00050068).toNat = min 0xFFFFFFFF ((s.reg 0x00050068).toNat + 1) ∧ s.fieldKept t))

/-- TIME_SET and TIME_STEP decide a stepped mapping; TIME_ALIGN begins an alignment or is refused; words, probes and time-outs end it. (R318, R328, R329, R330, R332, R333, R334, R335, R336, R339) -/
def Obligations.TimeCommandsAndAlignment : Prop :=
  (∀ (s : State) (h : Hdr) (w0 w1 w2 w3 : W32), s.takes h 0x70 false →
    let bad := decide (65536 ≤ w0.toNat) || decide (1000000000 ≤ w2.toNat) || decide (w3.toInt < -(2 ^ 29)) || decide (2 ^ 29 < w3.toInt)
    (bad = true → ∃ t : State, Sys2Proof.Machine.exec (.timeSet h w0 w1 w2 w3) s = .next t ∧ t.time = s.time ∧ s.fieldKept t ∧ s.answers t h 0x70 stBadParam []) ∧
    (bad = false → s.servo = 2 → ∃ t : State, Sys2Proof.Machine.exec (.timeSet h w0 w1 w2 w3) s = .next t ∧ t.time = s.time ∧ s.fieldKept t ∧
      s.answers t h 0x70 stBusy []) ∧
    (bad = false → s.servo ≠ 2 → ∃ t : State, ∃ m, Sys2Proof.Machine.exec (.timeSet h w0 w1 w2 w3) s = .next t ∧ t.time.hostNext = some m ∧
      m.rate = w3 ∧ m.validFrom = BitVec.ofNat 32 s.validBlock ∧ m.stepped = true ∧ t.time.stepNext.isSome = true ∧ t.time.freq = w3.toInt ∧
      s.fieldKept t ∧ (ackReq h = true → s.answers t h 0x70 stOk []))) ∧
  (∀ (s : State) (h : Hdr) (w0 w1 : W32), s.takes h 0x71 false →
    let most := decide (w0 = 0x80000000 ∧ w1 = 0)
    let d := if most then -s.offsetMeas else (w0 ++ w1 : W64).toInt
    (most = true → s.servo = 0 → ∃ t : State, Sys2Proof.Machine.exec (.timeStep h w0 w1) s = .next t ∧ t.time = s.time ∧ s.fieldKept t ∧
      s.answers t h 0x71 stBusy []) ∧
    (most = false ∨ s.servo ≠ 0 → ∃ t : State, ∃ m, Sys2Proof.Machine.exec (.timeStep h w0 w1) s = .next t ∧ t.time.hostNext = some m ∧
      m.stepped = true ∧ t.time.stepNext = some (s.time.stepNext.getD 0 + d) ∧ s.fieldKept t ∧ (ackReq h = true → s.answers t h 0x71 stOk []) ∧
      (s.time.stepNext = none ∨ s.time.hostNext = none → m.validFrom = BitVec.ofNat 32 s.validBlock) ∧
      ∀ d0 m0, s.time.stepNext = some d0 → s.time.hostNext = some m0 →
        m.validFrom = (if 0 < (m0.validFrom - BitVec.ofNat 32 s.validBlock).toInt then m0.validFrom else BitVec.ofNat 32 s.validBlock))) ∧
  (∀ (s : State) (h : Hdr) (w0 : W32) (c : Instr), c = .timeAlignSource h w0 ∨ c = .timeAlignFollowSync h w0 ∨ c = .timeAlignFollowSeam h w0 →
    s.takes h 0x72 true →
    (∀ st, s.alignRefusal w0 = some st → ∃ t : State, Sys2Proof.Machine.exec c s = .next t ∧ t.time = s.time ∧ s.fieldKept t ∧
      (st ≠ stOk → st ≠ stPending → s.answers t h 0x72 st [])) ∧
    (s.alignRefusal w0 = none → s.cmd.fm = none → ∃ t : State, Sys2Proof.Machine.exec c s = .next t ∧
      t.time = { s.time with align := some (wfld w0 1 0, s.pin) } ∧ t.fld 0x10010104 2 1 = wfld w0 1 0 ∧ t.bit 0x10010104 3 = true ∧
      t.fld 0x10010104 7 4 = 0 ∧ t.cmd.fm.isSome = true ∧ (∀ e, t.eng e = s.eng e) ∧ s.sameMem t ∧ (ackReq h = true → s.answers t h 0x72 stPending []))) ∧
  (∀ (s : State) (role : Nat) (accept : W32), s.time.align = some (role, accept) → (∀ l, s.cmd.fm = some l → l.op ≠ 0x63) →
    (role = 0 → s.firstWord accept + 80000000 > nextWord ((s.clk.devtime >>> 6).toNat + 1) → s.firstWord accept ≤ nextWord ((s.clk.devtime >>> 6).toNat + 1) →
      ∃ t : State, Sys2Proof.Machine.exec .alignmentWordSend s = .next t ∧ t.time = s.time ∧ s.sameRegs t [] ∧
        t.sent = s.sent ++ [.syncOut (alignWord (nextWord ((s.clk.devtime >>> 6).toNat + 1)))]) ∧
    (role = 0 → ∃ t : State, Sys2Proof.Machine.exec .alignmentSourceEnd s = .next t ∧ t.time.align = none ∧ t.bit 0x10010104 3 = false ∧ t.fld 0x10010104 7 4 = 0) ∧
    (∀ (bits : BitVec 80) (edge : W64), let good := bits.getLsbD 79 && wordCheck (wordBits bits 1 58) == BitVec.ofNat 16 (ofBits (wordBits bits 59 16))
      let u := s.advanceTo (blockOf (edge + 80 * 64 + 63))
      (role ≠ 1 ∨ good = false → Sys2Proof.Machine.exec (.alignmentWordReceive bits edge) s = .next s) ∧
      (role = 1 → good = true → u.anyWork = true → Sys2Proof.Machine.exec (.alignmentWordReceive bits edge) s = .next u) ∧
      (role = 1 → good = true → u.anyWork = false → ∃ t : State, Sys2Proof.Machine.exec (.alignmentWordReceive bits edge) s = .next t ∧ t.time.align = none ∧
        t.bit 0x10010104 0 = true ∧ t.bit 0x10010104 3 = false ∧ t.clk.devtime &&& 63 = 0)) ∧
    (∀ (probes : List (Nat × Int)) (d : Int), bestProbe probes = some d → 2 ≤ role → s.linkUp (alignPort role) = true → (s.advanceTo (s.pin + 1)).anyWork = false →
      ∃ t : State, Sys2Proof.Machine.exec (.seamTimeProbe probes) s = .next t ∧ t.time.align = none ∧ t.bit 0x10010104 0 = true ∧ t.clk.devtime &&& 63 = 0) ∧
    (∀ failed : Bool, role ≠ 0 → ∃ t : State, Sys2Proof.Machine.exec (.alignTimeout failed) s = .next t ∧ t.time.align = none ∧ t.bit 0x10010104 3 = false ∧
      t.fld 0x10010104 7 4 = (if 2 ≤ role ∧ s.linkUp (alignPort role) = false then 3 else if failed then 2 else 1))) ∧
  (∀ (s : State) (bits : BitVec 80) (edge : W64) (probes : List (Nat × Int)) (d : Int) (failed : Bool), s.time.align = none →
    Sys2Proof.Machine.exec .alignmentWordSend s = .next s ∧ Sys2Proof.Machine.exec .alignmentSourceEnd s = .next s ∧
    Sys2Proof.Machine.exec (.alignmentWordReceive bits edge) s = .next s ∧ Sys2Proof.Machine.exec (.alignTimeout failed) s = .next s ∧
    (bestProbe probes = some d → ∃ t : State, Sys2Proof.Machine.exec (.seamTimeProbe probes) s = .next t ∧ s.onlyReg t 0x10010108 ∧
      t.reg 0x10010108 = BitVec.ofInt 32 d))

/-- A flit is checked, acknowledges, is taken in order or answered with a NAK; NAK, CREDIT and SLEEP act; idle directions sleep and wake. (R258, R259, R260, R261, R262, R263, R275, R276, R345) -/
def Obligations.LinkFlitsAcksAndCredit : Prop :=
  (∀ (s : State) (p : LPort) (f : Flit) (q : BitVec 7) (c0 c1 c2 : BitVec 12) (c : Instr),
    c = .flitReceive p f ∨ c = .nak p q ∨ c = .credit p c0 c1 c2 ∨ c = .sleep p ∨ c = .nakRepeat p ∨ c = .creditSend p →
    s.linkUp p = false → Sys2Proof.Machine.exec c s = .next s) ∧
  (∀ (s : State) (p : LPort) (f : Flit), s.linkUp p = true → let x := s.link p
    let acked := x.replay.drop (ackedCount x.replay (Flit.ack f))
    (Flit.good f = false → ∃ t : State, Sys2Proof.Machine.exec (.flitReceive p f) s = .next t ∧ s.portKept t p ∧ s.sameRegs t [linkAddr p 0x18, linkAddr p 4] ∧
      (t.reg (linkAddr p 0x18)).toNat = min 0xFFFFFFFF ((s.reg (linkAddr p 0x18)).toNat + 1) ∧
      (Flit.vc f = 3 ∨ x.nakWait = true → t.link p = x ∧ t.sent = s.sent ∧ t.reg (linkAddr p 4) = s.reg (linkAddr p 4)) ∧
      (Flit.vc f ≠ 3 → x.nakWait = false → t.link p = { x with nakWait := true, ackTold := x.expSeq } ∧
        t.sent = s.sent ++ [s.ctlFlit p 1 [(1, 0), (7, x.expSeq.toNat)]])) ∧
    (Flit.good f = true → Flit.vc f ≠ 3 → x.queue = [] → x.wait = [] →
      ∃ t : State, Sys2Proof.Machine.exec (.flitReceive p f) s = .next t ∧ (∀ e, t.eng e = s.eng e) ∧ s.sameMem t ∧ t.fld (linkAddr p 4) 8 7 = 0 ∧
        (Flit.seq f ≠ x.expSeq ∨ badHeader p f = false → s.portKept t p ∧ (t.link p).replay = acked) ∧
        (Flit.seq f = x.expSeq → (t.link p).expSeq = x.expSeq + 1 ∧ (t.link p).nakWait = false ∧
          (t.link p).freed = credMod x.freed (Flit.vc f) (fun n => (n + 1) % 4096) ∧
          (badHeader p f = false → s.sameRegs t [linkAddr p 4] ∧
            (s.fld (linkAddr p 4) 6 5 = 0 → t.sent = s.sent ∧ (t.link p).ackTold = x.expSeq + 1) ∧
            (s.fld (linkAddr p 4) 6 5 ≠ 0 → (x.expSeq + 1 - x.ackTold).toNat < 32 → t.sent = s.sent ∧ (t.link p).ackTold = x.ackTold ∧
              t.fld (linkAddr p 4) 6 5 = s.fld (linkAddr p 4) 6 5) ∧
            (s.fld (linkAddr p 4) 6 5 ≠ 0 → 32 ≤ (x.expSeq + 1 - x.ackTold).toNat → t.fld (linkAddr p 4) 6 5 = 0 ∧
              t.sent = s.sent ++ [.control p (mkFlit false (controlPayload 0 []) x.nextSeq x.expSeq 3)])) ∧
          (badHeader p f = true → t.bit (linkAddr p 8) 6 = true)) ∧
        (Flit.seq f ≠ x.expSeq → (t.link p).expSeq = x.expSeq ∧ (t.link p).nakWait = true ∧ s.sameRegs t [linkAddr p 4] ∧
          t.sent = s.sent ++ (if x.nakWait then [] else [s.ctlFlit p 1 [(1, 0), (7, x.expSeq.toNat)]]))) ∧
    (Flit.good f = true → Flit.vc f = 3 → x.queue = [] → x.wait = [] →
      ∃ u : State, u = { s with regs := u.regs, links := u.links } ∧ s.portKept u p ∧ s.sameRegs u [linkAddr p 4] ∧ (u.link p).replay = acked ∧
        (Flit.ftype f = 0 ∨ Flit.ftype f = 4 → Sys2Proof.Machine.exec (.flitReceive p f) s = .next u) ∧
        (Flit.ftype f = 1 → Sys2Proof.Machine.exec (.flitReceive p f) s = Sys2Proof.Machine.exec (.nak p (BitVec.ofNat 7 (fbits f 250 244))) u) ∧
        (Flit.ftype f = 2 → Sys2Proof.Machine.exec (.flitReceive p f) s = Sys2Proof.Machine.exec (.credit p (BitVec.ofNat 12 (fbits f 251 240))
          (BitVec.ofNat 12 (fbits f 239 228)) (BitVec.ofNat 12 (fbits f 227 216))) u) ∧
        (Flit.ftype f = 3 → Sys2Proof.Machine.exec (.flitReceive p f) s = Sys2Proof.Machine.exec (.sleep p) u) ∧
        (4 < Flit.ftype f → ∃ t : State, Sys2Proof.Machine.exec (.flitReceive p f) s = .next t ∧ t.bit (linkAddr p 8) 6 = true))) ∧
  (∀ (s : State) (p : LPort) (q : BitVec 7), s.linkUp p = true → let x := s.link p
    let late := x.replay.dropWhile (fun r => r.seq != q)
    let again := late.map (fun r => ({ r with flit := Flit.withAck r.flit (x.expSeq - 1), again := r.again + 1 } : Sent))
    (late = [] → ∃ t : State, Sys2Proof.Machine.exec (.nak p q) s = .next t ∧ s.onlyReg t (linkAddr p 0x1C)) ∧
    (late ≠ [] → (∀ r ∈ late, r.again < 7) → ∃ t : State, Sys2Proof.Machine.exec (.nak p q) s = .next t ∧
      t.link p = { x with replay := x.replay.takeWhile (fun r => r.seq != q) ++ again, ackTold := x.expSeq } ∧
      s.sameRegs t [linkAddr p 0x1C, linkAddr p 4] ∧ t.sent = s.sent ++ again.map (fun r => .retransmit p r.seq r.flit) ∧ s.portKept t p) ∧
    (∀ r ∈ late, 7 ≤ r.again → ∃ t : State, Sys2Proof.Machine.exec (.nak p q) s = .next t ∧ s.linkDropped t p [2])) ∧
  (∀ (s : State) (p : LPort) (c0 c1 c2 : BitVec 12), s.linkUp p = true → let x := s.link p
    let tells := s.fld (linkAddr p 4) 6 5 == 0 || x.creditOwed
    (x.wait = [] → ∃ t : State, Sys2Proof.Machine.exec (.credit p c0 c1 c2) s = .next t ∧ s.portKept t p ∧ s.sameRegs t [] ∧
      (t.link p).credSeen = (c0.toNat, c1.toNat, c2.toNat) ∧ (t.link p).credits = (x.credits.1 + credDelta c0.toNat x.credSeen.1,
        x.credits.2.1 + credDelta c1.toNat x.credSeen.2.1, x.credits.2.2 + credDelta c2.toNat x.credSeen.2.2)) ∧
    (∃ t : State, Sys2Proof.Machine.exec (.sleep p) s = .next t ∧ s.portKept t p ∧ (isSeam p = true → t.bit (linkAddr p 8) 6 = true ∧ t.link p = x) ∧
      (isSeam p = false → t.fld (linkAddr p 4) 8 7 = 1 ∧ s.onlyReg t (linkAddr p 4))) ∧
    (x.nakWait = true → ∃ t : State, Sys2Proof.Machine.exec (.nakRepeat p) s = .next t ∧ s.ctlSent t p [s.ctlFlit p 1 [(1, 0), (7, x.expSeq.toNat)]] ∧
      t.link p = { x with ackTold := x.expSeq }) ∧
    (x.nakWait = false → Sys2Proof.Machine.exec (.nakRepeat p) s = .next s) ∧
    (tells = true → ∃ t : State, Sys2Proof.Machine.exec (.creditSend p) s = .next t ∧
      s.ctlSent t p [s.ctlFlit p 2 [(12, x.freed.1), (12, x.freed.2.1), (12, x.freed.2.2)]] ∧ t.link p = { x with ackTold := x.expSeq, credTold := x.freed }) ∧
    (tells = false → Sys2Proof.Machine.exec (.creditSend p) s = .next s)) ∧
  (∀ (s : State) (k : Fin 4) (tx : Bool), let p := LPort.hl k
    let x := s.link p
    let idle := s.linkUp p && s.fld (linkAddr p 4) 6 5 == 0 && s.bit (linkAddr p 0x10) 28 && x.replay.isEmpty && x.queue.isEmpty && x.wait.isEmpty &&
      x.expSeq == x.ackTold && x.freed == x.credTold
    let dorm := s.linkUp p && s.fld (linkAddr p 4) 6 5 == 1 && s.bit (linkAddr p 0x10) 29
    (idle = true → ∃ t : State, Sys2Proof.Machine.exec (.quietEntry k) s = .next t ∧ t.fld (linkAddr p 4) 6 5 = 1 ∧ s.sameRegs t [linkAddr p 4] ∧
      t.sent = s.sent ++ List.replicate 4 (s.ctlFlit p 3 []) ∧ t.link p = x ∧ s.portKept t p) ∧
    (idle = false → Sys2Proof.Machine.exec (.quietEntry k) s = .next s) ∧
    (dorm = true → ∃ t : State, Sys2Proof.Machine.exec (.dormantEntry k) s = .next t ∧ s.onlyReg t (linkAddr p 4) ∧ t.fld (linkAddr p 4) 6 5 = 2) ∧
    (dorm = false → Sys2Proof.Machine.exec (.dormantEntry k) s = .next s) ∧
    (s.linkUp p = false → Sys2Proof.Machine.exec (.linkWake k tx) s = .next s) ∧
    (s.linkUp p = true → tx = false → ∃ t : State, Sys2Proof.Machine.exec (.linkWake k tx) s = .next t ∧ s.onlyReg t (linkAddr p 4) ∧ t.fld (linkAddr p 4) 8 7 = 0) ∧
    (s.linkUp p = true → tx = true → (s.fld (linkAddr p 4) 6 5 = 0 ∨ (x.freed = x.credTold ∧ x.expSeq = x.ackTold) →
        Sys2Proof.Machine.exec (.linkWake k tx) s = .next s) ∧
      (s.fld (linkAddr p 4) 6 5 ≠ 0 → x.freed ≠ x.credTold → ∃ t : State, Sys2Proof.Machine.exec (.linkWake k tx) s = .next t ∧
        s.ctlSent t p [s.ctlFlit p 2 [(12, x.freed.1), (12, x.freed.2.1), (12, x.freed.2.2)]] ∧ t.link p = { x with ackTold := x.expSeq, credTold := x.freed }) ∧
      (s.fld (linkAddr p 4) 6 5 ≠ 0 → x.freed = x.credTold → x.expSeq ≠ x.ackTold → ∃ t : State, Sys2Proof.Machine.exec (.linkWake k tx) s = .next t ∧
        s.ctlSent t p [s.ctlFlit p 0 []] ∧ t.link p = { x with ackTold := x.expSeq })))

/-- TRAIN is checked, phases pass, repeat or fail, a lost clock, silence or drift takes a port DOWN; RETRAIN and LOOPBACK act on LINK_CTRL. (R270, R271, R272, R273, R274, R275, R277, R278, R279) -/
def Obligations.LinkTrainsLosesAndLoops : Prop :=
  (∀ (s : State) (p : LPort) (m : TrainMsg), let x := s.link p
    let n := if m.lanesInOrder && m.pass then x.accepted + 1 else 0
    let own := Out.train p (ownKind p) (ownNumber p) Config.serial (ownCredits p) m.lanesInOrder (s.bit (linkAddr p 0) 8)
    let loops := m.loopReq && s.bit (linkAddr p 0) 7
    (s.trainPhase p ≠ 4 → Sys2Proof.Machine.exec (.train p m) s = .next s) ∧
    (s.linkSt p = 6 → x.phase = 4 → ∃ t : State, Sys2Proof.Machine.exec (.train p m) s = .next t ∧ t.link p = { x with accepted := n } ∧
      t.sent = s.sent ++ [own] ∧ s.sameRegs t [] ∧ s.portKept t p) ∧
    (s.linkSt p = 4 → s.ownTrain p m = true → ∃ t : State, Sys2Proof.Machine.exec (.train p m) s = .next t ∧ t = { s with links := t.links } ∧
      t.link p = { x with farLoop := true } ∧ s.portKept t p) ∧
    (s.linkSt p = 4 → s.ownTrain p m = false → loops = true → ∃ t : State, Sys2Proof.Machine.exec (.train p m) s = .next t ∧ t.linkSt p = 6) ∧
    (s.linkSt p = 4 → s.ownTrain p m = false → loops = false → x.tries ≤ 3 →
      (kindOk p m.kind.val = false → ∃ t : State, Sys2Proof.Machine.exec (.train p m) s = .next t ∧ t.linkSt p = 0 ∧ t.fld (linkAddr p 0xC) 31 28 = 6 ∧
        t.fld (linkAddr p 0xC) 24 23 = max x.tries (s.fld (linkAddr p 0xC) 24 23) ∧ t.bit (linkAddr p 8) 1 = true ∧ t.bit (linkAddr p 8) 4 = true) ∧
      (kindOk p m.kind.val = true → isSeam p = false → m.credits.1 < 295 ∨ m.credits.2.1 = 0 →
        ∃ t : State, Sys2Proof.Machine.exec (.train p m) s = .next t ∧ t.linkSt p = 0 ∧ t.fld (linkAddr p 0xC) 31 28 = 7 ∧ t.bit (linkAddr p 8) 1 = true)) ∧
    (s.linkSt p = 4 → s.ownTrain p m = false → loops = false → kindOk p m.kind.val = true →
      (isSeam p = true ∨ (295 ≤ m.credits.1 ∧ m.credits.2.1 ≠ 0)) →
      ∃ t : State, ∃ l, Sys2Proof.Machine.exec (.train p m) s = .next t ∧ t.linkSt p = 4 ∧ t.reg (linkAddr p 0x24) = m.serial.setWidth 32 ∧
        t.reg (linkAddr p 0x28) = (m.serial >>> 32).setWidth 32 ∧ t.bit (linkAddr p 4) 9 = true ∧
        t.link p = { x with credits := m.credits, accepted := n } ∧ t.sent = s.sent ++ l ∧ own ∈ l ∧
        (isSeam p = true → Out.trainEcho p m ∈ l ∧ t.reg (linkAddr p 0x30) = BitVec.ofNat 32 (min 0xFFFF (m.roundTrip / 2)) ∧
          (350 < m.roundTrip / 2 → t.bit (linkAddr p 8) 5 = true)) ∧ s.portKept t p)) ∧
  (∀ (s : State) (p : LPort) (cause : Fin 3) (lanes : BitVec 9), let st := s.trainPhase p
    let x := s.link p
    (st = 0 ∨ 4 < st → Sys2Proof.Machine.exec (.trainingPhasePass p) s = .next s ∧
      Sys2Proof.Machine.exec (.trainingPhaseTimeout p cause lanes) s = .next s) ∧
    (1 ≤ st → st ≤ 3 → ∃ t : State, Sys2Proof.Machine.exec (.trainingPhasePass p) s = .next t ∧ t.trainPhase p = st + 1 ∧
      (t.link p).tries = 0 ∧ (st = 1 → (t.link p).laneCfg = s.laneCfgs p) ∧ (s.linkSt p = 6 → t.linkSt p = 6) ∧ s.portKept t p) ∧
    (st = 4 → x.accepted < 16 → ∃ t : State, Sys2Proof.Machine.exec (.trainingPhasePass p) s = .next t ∧ t.trainPhase p = 4 ∧
      t.link p = { x with tries := 0 } ∧ s.portKept t p) ∧
    (s.linkSt p = 4 → 16 ≤ x.accepted → ∃ t : State, Sys2Proof.Machine.exec (.trainingPhasePass p) s = .next t ∧ t.linkUp p = true ∧
      t.bit (linkAddr p 8) 7 = true ∧ (∀ e, t.eng e = s.eng e) ∧ s.sameMem t) ∧
    (s.linkSt p = 6 → x.phase = 4 → 16 ≤ x.accepted → ∃ t : State, Sys2Proof.Machine.exec (.trainingPhasePass p) s = .next t ∧ t.linkSt p = 6 ∧
      t.link p = { x with tries := 0, phase := 5 } ∧ s.portKept t p) ∧
    (1 ≤ st → st ≤ 4 → x.tries < 3 → ∃ t : State, Sys2Proof.Machine.exec (.trainingPhaseTimeout p cause lanes) s = .next t ∧ t.trainPhase p = st ∧
      (t.link p).tries = x.tries + 1 ∧ (t.link p).accepted = 0 ∧ s.portKept t p) ∧
    (1 ≤ st → st ≤ 4 → 3 ≤ x.tries → ∃ t : State, Sys2Proof.Machine.exec (.trainingPhaseTimeout p cause lanes) s = .next t ∧
      t.linkSt p = (if s.linkSt p = 6 then 6 else 0) ∧ (s.linkSt p = 6 → (t.link p).phase = 0) ∧
      t.reg (linkAddr p 0xC) = BitVec.ofNat 32 (phaseCause st cause * 2 ^ 28 + st * 2 ^ 25 + 3 * 2 ^ 23 + lanes.toNat) ∧ t.bit (linkAddr p 8) 1 = true)) ∧
  (∀ (s : State) (k : Fin 4), let go := s.linkSt (.hl k) == 0 && s.linkEn (.hl k) && s.hostAlive
    (go = true → ∃ t : State, Sys2Proof.Machine.exec (.hostLinkRetrainTimer k) s = .next t ∧ t.linkSt (.hl k) = 1 ∧ t.link (.hl k) = Link.reset ∧
      s.sameRegs t [linkAddr (.hl k) 4, linkAddr (.hl k) 0xC] ∧ s.portKept t (.hl k)) ∧
    (go = false → Sys2Proof.Machine.exec (.hostLinkRetrainTimer k) s = .next s)) ∧
  (∀ (s : State) (p : LPort), let asleep := decide (s.fld (linkAddr p 4) 8 7 ≠ 0)
    (s.linkUp p = false → Sys2Proof.Machine.exec (.clockLaneLost p) s = .next s ∧ Sys2Proof.Machine.exec (.silence p) s = .next s ∧
      Sys2Proof.Machine.exec (.laneDrift p) s = .next s) ∧
    (s.linkUp p = true → asleep = true → Sys2Proof.Machine.exec (.silence p) s = .next s ∧
      ∃ t : State, Sys2Proof.Machine.exec (.clockLaneLost p) s = .next t ∧ s.onlyReg t (linkAddr p 4) ∧ t.fld (linkAddr p 4) 8 7 = 2) ∧
    (s.linkUp p = true → asleep = false → (∃ t : State, Sys2Proof.Machine.exec (.clockLaneLost p) s = .next t ∧ s.linkDropped t p []) ∧
      ∃ t : State, Sys2Proof.Machine.exec (.silence p) s = .next t ∧ s.linkDropped t p []) ∧
    (s.linkUp p = true → ∃ t : State, Sys2Proof.Machine.exec (.laneDrift p) s = .next t ∧ s.linkDropped t p [3])) ∧
  (∀ (s : State) (p : LPort) (v : W32) (c : Instr), c = .retrain p v ∨ c = .loopback p v →
    let old := s.reg (linkAddr p 0)
    let loop := wfld v 3 1
    let held := isSeam p && s.pairState != 0 && (v.getLsbD 6 || loop != wfld old 3 1 || v.getLsbD 8 != old.getLsbD 8)
    let en := if isSeam p then old.getLsbD 0 else v.getLsbD 0
    (3 < loop ∨ held = true → Sys2Proof.Machine.exec c s = .next s) ∧
    (1 ≤ loop → loop ≤ 3 → held = false → ∃ t : State, Sys2Proof.Machine.exec c s = .next t ∧ t.linkSt p = 6) ∧
    (loop = 0 → held = false → s.linkSt p ≠ 6 → v.getLsbD 6 = true → en = true → ∃ t : State, Sys2Proof.Machine.exec c s = .next t ∧ t.linkSt p = 1) ∧
    (loop = 0 → held = false → s.linkSt p ≠ 6 → v.getLsbD 6 = false → en = true → s.prbsOn p = false → ∃ t : State, Sys2Proof.Machine.exec c s = .next t ∧
      t = { s with regs := t.regs, links := t.links } ∧ s.sameRegs t [linkAddr p 0] ∧ t.reg (linkAddr p 0) = (v &&& 0x1BE) ||| 1 ∧ s.portKept t p ∧
      t.link p = (if v.getLsbD 8 then s.link p else { s.link p with farLoop := false })) ∧
    (loop = 0 → held = false → s.linkSt p ≠ 6 → v.getLsbD 6 = false → en = false → isSeam p = false →
      ∃ t : State, Sys2Proof.Machine.exec c s = .next t ∧ t.linkSt p = 0) ∧
    (loop = 0 → held = false → s.linkSt p = 6 → ∃ t : State, Sys2Proof.Machine.exec c s = .next t ∧
      t.linkSt p = (if isSeam p = false ∧ en = true then 1 else 0)))

/-- A packet is discarded, refused, answered from the cache or queued; the switch forwards; a management frame is checked and counted, a link change flagged. (R283, R285, R287, R288, R290, R291, R292, R312) -/
def Obligations.PacketsReachTheCi : Prop :=
  (∀ (s : State) (p : CPort) (mac : BitVec 48) (bs : List Byte), let n := paramLen bs
    let h := (parsePacket p mac bs).1
    let op := (parsePacket p mac bs).2.1
    let whole := decide (20 ≤ bs.length ∧ n + 20 ≤ bs.length)
    let crcOk := crc32c (bs.take (16 + n)) == h.crc
    let fresh := !h.flags.getLsbD 0 && bs.getD 2 0 == 0
    (s.hostAlive = false → Sys2Proof.Machine.exec (.commandPacket p mac bs) s = .next s) ∧
    (s.hostAlive = true → whole = false ∨ (crcOk = true ∧ fresh = false) → ∃ t : State, Sys2Proof.Machine.exec (.commandPacket p mac bs) s = .next t ∧
      s.onlyReg t 0x00010014 ∧ (t.reg 0x00010014).toNat = min 0xFFFFFFFF ((s.reg 0x00010014).toNat + 1)) ∧
    (s.hostAlive = true → whole = true → crcOk = false → ∃ t : State, Sys2Proof.Machine.exec (.commandPacket p mac bs) s = .next t ∧
      s.onlyReg t 0x00010010 ∧ (t.reg 0x00010010).toNat = min 0xFFFFFFFF ((s.reg 0x00010010).toNat + 1)) ∧
    (s.hostAlive = true → whole = true → crcOk = true → fresh = true →
      (∀ st, s.headerStatus h op n = some st → ∃ t : State, Sys2Proof.Machine.exec (.commandPacket p mac bs) s = .next t ∧
        s.answers t h op st [] ∧ t.cmd.queue = s.cmd.queue ∧ t.cmd.cache = s.cmd.cache) ∧
      (s.headerStatus h op n = none → s.cached h ≠ none → ∃ t : State, Sys2Proof.Machine.exec (.commandPacket p mac bs) s = .next t ∧
        t.cmd.queue.length ≤ s.cmd.queue.length ∧ t.cmd.cache = s.cmd.cache ∧ s.tilesKept t) ∧
      (s.headerStatus h op n = none → s.cached h = none → 64 ≤ s.cmd.queue.length →
        ∃ t : State, Sys2Proof.Machine.exec (.commandPacket p mac bs) s = .next t ∧ s.answers t h op stBusy [] ∧ t.cmd.queue = s.cmd.queue) ∧
      (s.headerStatus h op n = none → s.cached h = none → s.cmd.queue.length < 64 →
        let q := s.cmd.queue
        let x : Pkt := { h, opcode := BitVec.ofNat 8 op, params := (parsePacket p mac bs).2.2 }
        let first : Pkt → Bool := fun y => y.h.flags.getLsbD 2
        let q' := if first x then q.takeWhile first ++ [x] ++ q.dropWhile first else q ++ [x]
        Sys2Proof.Machine.exec (.commandPacket p mac bs) s = .next { s with cmd := { s.cmd with queue := q' } }))) ∧
  (∀ (s : State) (k : Fin 4) (bs : List Byte), let dest := bs.getD 1 0
    let h := (parsePacket (.hl k) 0 bs).1
    let mine := dest == s.unitAddr || dest == 255
    let keeps := (dest == s.unitAddr && dest != 0) || (mine && isEnumerate bs)
    (s.hostAlive = false ∨ s.linkUp (.hl k) = false → Sys2Proof.Machine.exec (.command k bs) s = .next s) ∧
    (s.hostAlive = true → s.linkUp (.hl k) = true →
      (keeps = true → Sys2Proof.Machine.exec (.command k bs) s = Sys2Proof.Machine.exec (.commandPacket (.hl k) 0 bs) s) ∧
      (keeps = false → ∃ u : State,
        State.frameLeft { s with cmd := { s.cmd with fwd := s.cmd.fwd ++ [{ seq := h.seq, tag := h.tag, link := k, at_ := s.clk.image }] } } u false
          (s.ownFrame Config.chainMac s.ownMac bs) ∧
        Sys2Proof.Machine.exec (.command k bs) s =
          if mine then Sys2Proof.Machine.exec (.commandPacket (.hl k) 0 bs) u else .next u))) ∧
  (∀ (s : State) (up : Bool) (f : Frame), let p := if up then 0 else 1
    let good := f.fcsOk && decide (64 ≤ f.len ∧ f.len ≤ 9216)
    let kind := (f.payload.getD 0 0).toNat % 16
    let dest := f.payload.getD 1 0
    let mine := dest == s.unitAddr || dest == 255
    (s.hostAlive = false ∨ s.mgmtLink up = false → Sys2Proof.Machine.exec (.mgmtFrameReceive up f) s = .next s) ∧
    (s.hostAlive = true → s.mgmtLink up = true → good = false → ∃ t : State, Sys2Proof.Machine.exec (.mgmtFrameReceive up f) s = .next t ∧
      (t.reg (0x00040028 + 0x10 * p)).toNat = min 0xFFFFFFFF ((s.reg (0x00040028 + 0x10 * p)).toNat + 1) ∧
      t.bit (mgmtFlags p).addr 2 = true ∧ t.cmd.queue = s.cmd.queue ∧ s.tilesKept t) ∧
    (s.hostAlive = true → s.mgmtLink up = true → good = true → ∃ u, s.onlyReg u (0x00040020 + 0x10 * p) ∧
      (u.reg (0x00040020 + 0x10 * p)).toNat = min 0xFFFFFFFF ((s.reg (0x00040020 + 0x10 * p)).toNat + 1) ∧
      (f.etherType = 0x88F7 →
        (kind = 2 ∨ kind = 3 ∨ kind = 10 → ∃ t : State, Sys2Proof.Machine.exec (.mgmtFrameReceive up f) s = .next t ∧ u.onlyReg t 0x00050068 ∧
          (t.reg 0x00050068).toNat = min 0xFFFFFFFF ((u.reg 0x00050068).toNat + 1)) ∧
        (kind = 12 ∨ kind = 13 → ∃ t : State, Sys2Proof.Machine.exec (.mgmtFrameReceive up f) s = .next t ∧ u.frameLeft t (!up) f) ∧
        (kind ∉ [2, 3, 10, 12, 13] → Sys2Proof.Machine.exec (.mgmtFrameReceive up f) s = .next u)) ∧
      (f.etherType ≠ 0x88F7 → f.etherType.toNat ≠ s.fld 0x00040000 15 0 →
        ∃ t : State, Sys2Proof.Machine.exec (.mgmtFrameReceive up f) s = .next t ∧ u.frameLeft t (!up) f) ∧
      (f.etherType ≠ 0x88F7 → f.etherType.toNat = s.fld 0x00040000 15 0 → up = true →
        ∃ v, (if (dest = s.unitAddr ∧ dest ≠ 0) ∨ (mine = true ∧ isEnumerate f.payload = true) then v = u else u.frameLeft v false f) ∧
          Sys2Proof.Machine.exec (.mgmtFrameReceive up f) s =
            if mine then Sys2Proof.Machine.exec (.commandPacket .mgmtUp f.src f.payload) v else .next v) ∧
      (f.etherType ≠ 0x88F7 → f.etherType.toNat = s.fld 0x00040000 15 0 → up = false →
        ∃ t : State, Sys2Proof.Machine.exec (.mgmtFrameReceive up f) s = .next t ∧
        (f.dst ≠ s.ownMac → u.frameLeft t true f) ∧ (f.dst = s.ownMac →
          (∀ k, s.replyLink f.payload = some k → t.sent = s.sent ++ [.linkCommand k f.payload]) ∧ (s.replyLink f.payload = none → t = u))))) ∧
  (∀ (s : State) (up link : Bool), let p := if up then 0 else 1
    (s.hostAlive = false ∨ s.mgmtLink up = link → Sys2Proof.Machine.exec (.mgmtLinkChange up link) s = .next s) ∧
    (s.hostAlive = true → s.mgmtLink up ≠ link → ∃ t : State, Sys2Proof.Machine.exec (.mgmtLinkChange up link) s = .next t ∧ t.mgmtLink up = link ∧
      t.bit (mgmtFlags p).addr (if link then 1 else 0) = true ∧ t.unitAddr = s.unitAddr ∧ t.cmd.queue = s.cmd.queue ∧ s.tilesKept t))

/-- PING echoes; READ, READ_BLOCK, WRITE, WRITE_BLOCK, MODIFY and LOAD check their address and range, then read or write words and answer. (R5, R9, R107, R112, R477, R290, R293, R294, R295, R296) -/
def Obligations.CommandsReachRegistersAndMemory : Prop :=
  (∀ (s : State) (h : Hdr) (ws : List W32), s.takes h 0x01 false →
    (ws.length ≤ 2046 → ∃ t : State, Sys2Proof.Machine.exec (.ping h ws) s = .next t ∧ s.answers t h 0x01 stOk (serialWords ++ ws) ∧ s.tilesKept t) ∧
    (2046 < ws.length → ∃ t : State, Sys2Proof.Machine.exec (.ping h ws) s = .next t ∧ s.answers t h 0x01 stRange [] ∧ s.tilesKept t)) ∧
  (∀ (s : State) (h : Hdr) (addr count v mask : W32) (ws : List W32), let a := addr.toNat
    let n := count.toNat
    let sees := fun (c : Instr) (op : Nat) (st : Byte) => ∃ t : State, Sys2Proof.Machine.exec c s = .next t ∧ s.answers t h op st [] ∧ s.tilesKept t
    (s.takes h 0x02 (isFieldAddr a) addr →
      (a % 4 ≠ 0 → sees (.read h addr) 0x02 stMisaligned) ∧
      (a % 4 = 0 → inOneRegion a 1 = false → sees (.read h addr) 0x02 stRange) ∧
      (a % 4 = 0 → inOneMem a 4 = true → inFrames a = false → (∀ st, s.memRefusal a false = some st → sees (.read h addr) 0x02 st) ∧
        (s.memRefusal a false = none → ∃ t : State, Sys2Proof.Machine.exec (.read h addr) s = .next t ∧ s.answers t h 0x02 stOk [t.word a] ∧
          (∀ e, t.eng e = s.eng e) ∧ (pocketAt a = none → s.tilesKept t))) ∧
      (∀ acc m r, a % 4 = 0 → inOneRegion a 1 = true → inFrames a = false → locate a = .reg acc m r →
        (acc = .wo → ∃ t : State, Sys2Proof.Machine.exec (.read h addr) s = .next t ∧ s.answers t h 0x02 stOk [0] ∧ s.tilesKept t) ∧
        (acc = .rc → ∃ t : State, Sys2Proof.Machine.exec (.read h addr) s = .next t ∧ s.answers t h 0x02 stOk [(s.readLatch a).reg a] ∧ (0x10000000 ≤ a → t.reg a = 0) ∧
          (s.readLatch a).sameMem t ∧ (∀ e, t.eng e = (s.readLatch a).eng e) ∧ ∀ b, 0x10000000 ≤ b → b ≠ a → t.reg b = (s.readLatch a).reg b) ∧
        (acc ≠ .wo → acc ≠ .rc → s.plainReg a → ∃ t : State, Sys2Proof.Machine.exec (.read h addr) s = .next t ∧ s.answers t h 0x02 stOk [s.reg a] ∧ s.tilesKept t))) ∧
    (s.takes h 0x04 (isFieldAddr a) addr →
      (a % 4 ≠ 0 → sees (.readBlock h addr count) 0x04 stMisaligned) ∧
      (a % 4 = 0 → n = 0 ∨ 2048 < n ∨ inOneRegion a n = false → sees (.readBlock h addr count) 0x04 stRange) ∧
      (a % 4 = 0 → 1 ≤ n → n ≤ 2048 → inOneMem a (4 * n) = true → (∀ i < n, inFrames (a + 4 * i) = false) → s.memRefusal a false = none →
        ∃ t : State, ∃ vs, Sys2Proof.Machine.exec (.readBlock h addr count) s = .next t ∧ s.answers t h 0x04 stOk vs ∧ vs.length = n ∧
          ((∀ i < n, pocketAt (a + 4 * i) = none) → vs = (List.range n).map (fun i => s.word (a + 4 * i)) ∧ s.tilesKept t))) ∧
    (s.takes h 0x03 (isFieldAddr a) →
      (a % 4 ≠ 0 → sees (.write h addr v) 0x03 stMisaligned) ∧
      (a % 4 = 0 → inOneRegion a 1 = false → sees (.write h addr v) 0x03 stRange) ∧
      (a % 4 = 0 → s.plainStore a 1 → ∃ t : State, Sys2Proof.Machine.exec (.write h addr v) s = .next t ∧
        (ackReq h = true → s.answers t h 0x03 stOk []) ∧ s.stored t a [v] ∧ ∀ e, t.eng e = s.eng e) ∧
      (∀ m r, a % 4 = 0 → inOneRegion a 1 = true → inFrames a = false → locate a = .reg .rw m r →
        (∀ st, s.writeRefusal a v = some st → st ≠ stOk → ∃ t : State, Sys2Proof.Machine.exec (.write h addr v) s = .next t ∧ s.answers t h 0x03 st [] ∧
          s.tilesKept t ∧ t.reg a = s.reg a) ∧
        (s.plainWrite a m v →
          ∃ t : State, Sys2Proof.Machine.exec (.write h addr v) s = .next t ∧ (ackReq h = true → s.answers t h 0x03 stOk []) ∧
          t.reg a = (s.reg a &&& ~~~m) ||| (v &&& m) ∧ s.sameMem t ∧ (∀ e, t.eng e = s.eng e) ∧ ∀ b, 0x10000000 ≤ b → b ≠ a → t.reg b = s.reg b))) ∧
    (s.takes h 0x05 (isFieldAddr a) →
      (a % 4 ≠ 0 → sees (.writeBlock h addr ws) 0x05 stMisaligned) ∧
      (a % 4 = 0 → ws = [] ∨ 2047 < ws.length ∨ inOneRegion a ws.length = false → sees (.writeBlock h addr ws) 0x05 stRange) ∧
      (a % 4 = 0 → 1 ≤ ws.length → ws.length ≤ 2047 → s.plainStore a ws.length →
        ∃ t : State, Sys2Proof.Machine.exec (.writeBlock h addr ws) s = .next t ∧ (ackReq h = true → s.answers t h 0x05 stOk []) ∧ s.stored t a ws ∧ ∀ e, t.eng e = s.eng e)) ∧
    (s.takes h 0x06 (isFieldAddr a) →
      (a % 4 ≠ 0 → sees (.modify h addr mask v) 0x06 stMisaligned) ∧
      (a % 4 = 0 → inOneRegion a 1 = false → sees (.modify h addr mask v) 0x06 stRange) ∧
      (a % 4 = 0 → s.plainStore a 1 → ∃ t : State, Sys2Proof.Machine.exec (.modify h addr mask v) s = .next t ∧
        s.answers t h 0x06 stOk [s.word a] ∧ s.stored t a [(s.word a &&& ~~~mask) ||| (v &&& mask)] ∧ ∀ e, t.eng e = s.eng e) ∧
      (∀ acc m r, a % 4 = 0 → inOneRegion a 1 = true → inFrames a = false → locate a = .reg acc m r → acc ≠ .rw → acc ≠ .rws →
        sees (.modify h addr mask v) 0x06 stBadParam))) ∧
  (∀ (s : State) (h : Hdr) (w0 w1 : W32) (data : List W32), s.takes h 0x20 true →
    let targets := (loadTiles (wfld w0 31 24) (wfld w0 9 8) (wfld w0 7 0)).filterMap (fun t => (loadMem (wfld w0 31 24) t).map (·.1 + w1.toNat))
    (∀ st, loadStatus w0 w1 (4 * data.length) = some st → ∃ t : State, Sys2Proof.Machine.exec (.load h w0 w1 data) s = .next t ∧
      s.answers t h 0x20 st [] ∧ s.tilesKept t) ∧
    (loadStatus w0 w1 (4 * data.length) = none →
      ((∃ b ∈ targets, (s.memRefusal b true).isSome = true) → ∃ t : State, ∃ st, Sys2Proof.Machine.exec (.load h w0 w1 data) s = .next t ∧
        s.answers t h 0x20 st [] ∧ st ≠ stOk ∧ s.tilesKept t) ∧
      ((∀ b ∈ targets, s.plainStore b data.length) → ∃ t : State, Sys2Proof.Machine.exec (.load h w0 w1 data) s = .next t ∧
        (ackReq h = true → s.answers t h 0x20 stOk []) ∧ (∀ b ∈ targets, ∀ i < data.length, t.word (b + 4 * i) = data.getD i 0 &&& memMask (b + 4 * i)) ∧
        (∀ x, (∀ b ∈ targets, x < b ∨ b + 4 * data.length ≤ x) → t.byte x = s.byte x) ∧ ∀ e, t.eng e = s.eng e) ∧
      (∀ b u, wfld w0 31 24 = 5 → targets = [b] → s.memRefusal b true = none → s.stored u b data →
        (u.qmapOk = false → ∃ t : State, Sys2Proof.Machine.exec (.load h w0 w1 data) s = .next t ∧ s.answers t h 0x20 stBadParam [] ∧ s.tilesKept t) ∧
        (u.qmapOk = true → ∃ t : State, Sys2Proof.Machine.exec (.load h w0 w1 data) s = .next t ∧
          (ackReq h = true → s.answers t h 0x20 stOk []) ∧ s.stored t b data ∧ ∀ e, t.eng e = s.eng e)) ∧
      (∀ b, wfld w0 31 24 = 3 → targets = [b] → s.memRefusal b true = none →
        ∃ t : State, Sys2Proof.Machine.exec (.load h w0 w1 data) s = .next t ∧ (ackReq h = true → s.answers t h 0x20 stOk []) ∧ s.sameMem t ∧ (∀ e, t.eng e = s.eng e) ∧
          t.hem.frameQ = s.hem.frameQ ++ (List.range (data.length / 8)).flatMap (fun i => let d := fun j => data.getD (8 * i + j) 0
            [FrameOp.pair false (d 0) (d 1), .word 8 (d 2), .word 0xC (d 3 &&& 0x103), .pair true (d 4) (d 5)].map (fun op =>
              { block := s.pin + 4, frame := w1.toNat / 32 + i, cls := clsHost, op })))))

/-- ENUMERATE and ASSIGN_ADDRESS give addresses; PATCH_LOAD, PATCH_APPLY and PATCH_ACTIVATE load, check and turn on a patch; TEST_UNLOCK checks its token. (R291, R293, R301, R302, R303, R374, R376, R377, R378, R379, R419) -/
def Obligations.AddressesPatchesAndUnlock : Prop :=
  (∀ (s : State) (h : Hdr) (w0 : W32), s.takes h 0x10 false →
    let next := wfld w0 7 0
    let keep := s.pinned && w0.getLsbD 8
    (512 ≤ w0.toNat → ∃ t : State, Sys2Proof.Machine.exec (.enumerate h w0) s = .next t ∧ s.refused t h 0x10 stBadParam) ∧
    (w0.toNat < 512 → ∃ t : State, Sys2Proof.Machine.exec (.enumerate h w0) s = .next t ∧ s.tilesKept t ∧
      (let addr : Byte := if keep then s.unitAddr else if next ≤ 254 then BitVec.ofNat 8 next else 0
       t.unitAddr = addr ∧
        s.answers t h 0x10 (if keep ∨ next ≤ 254 then stOk else stRange) (serialWords ++
          [mkWord [(0, addr.toNat), (8, b2n s.pinned), (9, b2n s.isHead), (10, b2n (!s.mgmtLink false))]])) ∧
      s.enumSent t h w0 (if keep then next else if next ≤ 254 then next + 1 else next))) ∧
  (∀ (s : State) (h : Hdr) (w0 w1 w2 : W32), s.takes h 0x11 false → let a := wfld w2 7 0
    let pin := w2.getLsbD 8
    ([w0, w1] ≠ serialWords → ∃ t : State, Sys2Proof.Machine.exec (.assignAddress h w0 w1 w2) s = .next t ∧ t.sent = s.sent ∧
      t = { s with cmd := t.cmd } ∧ t.cmd.queue.length ≤ s.cmd.queue.length) ∧
    ([w0, w1] = serialWords → 512 ≤ w2.toNat → ∃ t : State, Sys2Proof.Machine.exec (.assignAddress h w0 w1 w2) s = .next t ∧ s.refused t h 0x11 stBadParam) ∧
    ([w0, w1] = serialWords → w2.toNat < 512 → a = 255 ∨ (a = 0 ∧ pin = false) →
      ∃ t : State, Sys2Proof.Machine.exec (.assignAddress h w0 w1 w2) s = .next t ∧ s.refused t h 0x11 stRange) ∧
    ([w0, w1] = serialWords → w2.toNat < 512 → 1 ≤ a → a ≤ 254 → pin = false →
      ∃ t : State, Sys2Proof.Machine.exec (.assignAddress h w0 w1 w2) s = .next t ∧ t.unitAddr = BitVec.ofNat 8 a ∧ (ackReq h = true → s.answers t h 0x11 stOk []) ∧
        t.nv = s.nv ∧ s.tilesKept t) ∧
    ([w0, w1] = serialWords → w2.toNat < 512 → a ≤ 254 → pin = true →
      (s.cmd.ci ≠ none → ∃ t : State, Sys2Proof.Machine.exec (.assignAddress h w0 w1 w2) s = .next t ∧ s.refused t h 0x11 stBusy) ∧
      (s.cmd.ci = none → ∃ t : State, Sys2Proof.Machine.exec (.assignAddress h w0 w1 w2) s = .next t ∧ s.longStarted t .ci h 0x11 ∧
        t.unitAddr = BitVec.ofNat 8 a ∧ s.tilesKept t ∧
        t.nv = { s.nv with jobs := s.nv.jobs ++ [{ page := pgAddr, data := [], vals := [BitVec.ofNat 32 a], h := some h, op := 0x11 }] }))) ∧
  (∀ (s : State) (h : Hdr) (w0 w1 : W32) (data : List Byte), let c := ctlOf w0
    let off := w1.toNat
    s.takes h 0x40 (c == .fm) →
    (2 ≤ w0.toNat → ∃ t : State, Sys2Proof.Machine.exec (.patchLoad h w0 w1 data) s = .next t ∧ s.refused t h 0x40 stBadParam) ∧
    (w0.toNat < 2 → off % 4 ≠ 0 ∨ data.length % 4 ≠ 0 → ∃ t : State, Sys2Proof.Machine.exec (.patchLoad h w0 w1 data) s = .next t ∧ s.refused t h 0x40 stMisaligned) ∧
    (w0.toNat < 2 → off % 4 = 0 → data.length % 4 = 0 →
      (2304 < off + data.length → ∃ t : State, Sys2Proof.Machine.exec (.patchLoad h w0 w1 data) s = .next t ∧ s.refused t h 0x40 stRange) ∧
      (off + data.length ≤ 2304 → s.applying c = true → ∃ t : State, Sys2Proof.Machine.exec (.patchLoad h w0 w1 data) s = .next t ∧ s.refused t h 0x40 stBusy) ∧
      (off + data.length ≤ 2304 → s.applying c = false → ∃ t : State, Sys2Proof.Machine.exec (.patchLoad h w0 w1 data) s = .next t ∧
        (ackReq h = true → s.answers t h 0x40 stOk []) ∧ t.bit (ctrlAddr c 8) 4 = true ∧ t.bank c = s.bank c ∧ s.tilesKept t ∧
        (∀ i < data.length, t.bankByte c (!s.bank c) (off + i) = data.getD i 0) ∧
        ∀ d b i, i < 2304 → (d ≠ c ∨ b = s.bank c ∨ i < off ∨ off + data.length ≤ i) → t.bankByte d b i = s.bankByte d b i))) ∧
  (∀ (s : State) (h : Hdr) (w0 w1 : W32) (sig : List W32), let c := ctlOf w0
    s.takes h 0x41 (c == .fm) →
    (s.applyOk w0 w1 sig = false → ∃ t : State, Sys2Proof.Machine.exec (.patchApply h w0 w1 sig) s = .next t ∧ s.refused t h 0x41 stBadParam) ∧
    (s.applyOk w0 w1 sig = true → s.long c ≠ none → ∃ t : State, Sys2Proof.Machine.exec (.patchApply h w0 w1 sig) s = .next t ∧ s.refused t h 0x41 stBusy) ∧
    (s.applyOk w0 w1 sig = true → s.long c = none → ∃ t : State, Sys2Proof.Machine.exec (.patchApply h w0 w1 sig) s = .next t ∧ s.longStarted t c h 0x41 ∧
      t.banks = s.banks ∧ t.bank c = s.bank c ∧ s.tilesKept t)) ∧
  (∀ (s : State) (c : Ctl),
    (s.long c = none ∨ s.ctlAlive c = false → Sys2Proof.Machine.exec (.patchActivate c) s = .next s) ∧
    (∀ l, s.long c = some l → l.op = 0x41 → l.answered = false → s.ctlAlive c = true →
      let b := if l.arg.getLsbD 1 then s.bank c else !s.bank c
      ∃ t : State, Sys2Proof.Machine.exec (.patchActivate c) s = .next t ∧ t.long c = none ∧ t.banks = s.banks ∧ s.tilesKept t ∧
        (l.sig = [] → t.ctlMode c = 0 ∧ t.bit (ctrlAddr c 8) 4 = false ∧ t.reg (ctrlAddr c 4) = 0 ∧ t.bank c = s.bank c ∧ (ackReq l.h = true → s.answers t l.h 0x41 stOk [])) ∧
        (l.sig ≠ [] → match s.imageStatus c (s.image c b) l.sig with
          | some st => t.bit (ctrlFlags c).addr 3 = true ∧ t.bank c = s.bank c ∧ t.ctlMode c = s.ctlMode c ∧
              (st ≠ stOk → s.answers t l.h 0x41 st [])
          | none => t.bank c = b ∧ t.ctlMode c = 1 ∧ t.bit (ctrlAddr c 8) 4 = false ∧ t.reg (ctrlAddr c 4) = BitVec.ofNat 32 (imgWord (s.image c b) 0xC) ∧
              t.bit (ctrlFlags c).addr 2 = true ∧ (ackReq l.h = true → s.answers t l.h 0x41 stOk []) ∧
              ∀ m < 32, t.reg (ctrlAddr c (0x80 + 4 * m)) = BitVec.ofNat 32 (imgWord (s.image c b) (0x880 + 4 * m))))) ∧
  (∀ (s : State) (h : Hdr) (ws : List W32), s.takes h 0x78 false →
    ∃ t : State, Sys2Proof.Machine.exec (.testUnlock h ws) s = .next t ∧ t.reg 0x0009000C = Config.freeWord s.free ∧ s.tilesKept t ∧
      match s.tokenStatus ws with
      | some st => t.bit bhFlags.addr 1 = true ∧ t.reg aBhStatus = s.reg aBhStatus ∧ (st ≠ stOk → st ≠ stPending → s.answers t h 0x78 st [])
      | none => t.reg aBhStatus = s.reg aBhStatus ||| (ws.getD 0 0 &&& 3) ∧ t.reg 0x00090010 = ws.getD 4 0 ∧ t.bit bhFlags.addr 0 = true ∧
          (ackReq h = true → s.answers t h 0x78 stOk []))

/-- INTERRUPT waits for the safe point, SAFE_POINT serves or aborts, LONG_ABORT asks, WATCHDOG and MACHINE_CHECK restart or halt the controller. (R366, R367, R368, R369, R370, R371, R373, R374, R380) -/
def Obligations.ControllersServeAbortAndRestart : Prop :=
  (∀ (s : State) (c : Ctl) (gap : Nat) (v : W32), let runs := s.ctlAlive c && (s.long c).isSome
    (runs = false → Sys2Proof.Machine.exec (.interrupt c) s = .next s ∧ Sys2Proof.Machine.exec (.safePoint c gap) s = .next s) ∧
    (runs = true → Sys2Proof.Machine.exec (.interrupt c) s = .next (s.setCtl c { s.ctl c with ints := (s.ctl c).ints + 1 })) ∧
    (runs = true → (s.ctl c).abort = false → ∃ t : State, Sys2Proof.Machine.exec (.safePoint c gap) s = .next t ∧ t.ctl c = { s.ctl c with ints := 0 } ∧
      (t.reg (ctrlAddr c 0x24)).toNat = max (s.reg (ctrlAddr c 0x24)).toNat (min gap 4000) ∧
      s.sameRegs t [ctrlAddr c 0x24] ∧ t = { s with regs := t.regs, ci := t.ci, fm := t.fm }) ∧
    (∀ l, runs = true → s.long c = some l → (s.ctl c).abort = true → ∃ t : State, Sys2Proof.Machine.exec (.safePoint c gap) s = .next t ∧
      t.long c = none ∧ (t.ctl c).abort = false ∧ t.bit (ctrlFlags c).addr 4 = true ∧ t.fld (ctrlAddr c 0x20) 7 0 = l.op.toNat ∧
      t.fld (ctrlAddr c 0x20) 31 16 = l.h.seq.toNat ∧ (t.fld (ctrlAddr c 0x20) 9 8 = 1 ∨ t.fld (ctrlAddr c 0x20) 9 8 = 2) ∧
      (l.answered = false → s.answers t l.h l.op.toNat stInternal [])) ∧
    (s.ctlAlive c = false ∨ s.long c = none ∨ v.getLsbD 0 = false → Sys2Proof.Machine.exec (.longAbort c v) s = .next s) ∧
    (runs = true → v.getLsbD 0 = true → Sys2Proof.Machine.exec (.longAbort c v) s = .next (s.setCtl c { s.ctl c with abort := true }))) ∧
  (∀ (s : State) (c : Ctl) (cause : Fin 16) (space : Bool) (word : BitVec 3) (addr : BitVec 14) (op : Byte), let k := cause.val
    let safe := s.ctlMode c == 2
    let e := Sys2Proof.Machine.exec (.machineCheck c cause space word addr op) s
    (s.ctlAlive c = false ∨ k = 0 ∨ 6 < k ∨ (k = 6 ∧ safe = false) → e = .next s) ∧
    (s.ctlAlive c = true → 1 ≤ k → k ≤ 6 → (k = 6 → safe = true) → ∃ t : State, e = .next t ∧
      t.reg (ctrlAddr c 0x10) = mcLog k space word.toNat addr.toNat op.toNat ∧ t.bit (ctrlFlags c).addr 0 = true ∧
      (t.reg (ctrlAddr c 0x18)).toNat = min 0xFFFFFFFF ((s.reg (ctrlAddr c 0x18)).toNat + 1) ∧ t.long c = none ∧ t.banks = s.banks ∧ t.bank c = s.bank c ∧
      (safe = true → t.ctlMode c = 4 ∧ t.bit (ctrlFlags c).addr 5 = true) ∧
      (safe = false → t.ctlMode c = 2 ∧ t.reg (ctrlAddr c 4) = 0 ∧ t.bit (ctrlFlags c).addr 1 = true ∧
        ∀ l, s.long c = some l → l.answered = false → s.answers t l.h l.op.toNat stMachineCheck []))) ∧
  (∀ (s : State) (c : Ctl), let safe := s.ctlMode c == 2
    (s.ctlAlive c = false ∨ s.long c = none → Sys2Proof.Machine.exec (.watchdog c) s = .next s) ∧
    (∀ l, s.ctlAlive c = true → s.long c = some l → ∃ t : State, Sys2Proof.Machine.exec (.watchdog c) s = .next t ∧ t.fld (ctrlAddr c 0x10) 31 28 = 5 ∧
      t.fld (ctrlAddr c 0x10) 7 0 = l.op.toNat ∧ t.reg (ctrlAddr c 0x14) = l.h.seq.setWidth 32 ∧ t.bit (ctrlFlags c).addr 0 = true ∧ t.long c = none ∧
      t.banks = s.banks ∧ t.ctlMode c = (if safe then 4 else 2) ∧
      (safe = false → l.answered = false → s.answers t l.h l.op.toNat stMachineCheck [])))

/-- CALIBRATE and SELF_TEST are checked and begin their routines, SELF_TEST_DONE ends one; NV_WRITE queues, NV_READ reads, a page program ends. (R142, R290, R291, R294, R387, R401, R412, R413, R414, R415, R417, R421) -/
def Obligations.CalibrationsTestsAndTheStore : Prop :=
  (∀ (s : State) (h : Hdr) (w0 : W32) (c : Instr),
    c = .calibrateReadout h w0 ∨ c = .calibrateFlux h w0 ∨ c = .calibrateHostHk h w0 ∨ c = .calibrateFieldHk h w0 →
    let kind := wfld w0 7 0
    let tiles := yokeMaskTiles (kind + 1) (wfld w0 11 8)
    (3 < kind → s.takes h 0x30 false → ∃ t : State, Sys2Proof.Machine.exec c s = .next t ∧ s.refused t h 0x30 stBadParam) ∧
    (kind ≤ 1 → s.takes h 0x30 true →
      (4096 ≤ w0.toNat → ∃ t : State, Sys2Proof.Machine.exec c s = .next t ∧ s.refused t h 0x30 stBadParam) ∧
      (w0.toNat < 4096 → s.refPresent = false ∨ tiles.any s.tileBusy = true ∨ s.cmd.fm ≠ none →
        ∃ t : State, Sys2Proof.Machine.exec c s = .next t ∧ s.refused t h 0x30 stBusy) ∧
      (w0.toNat < 4096 → s.refPresent = true → tiles.any s.tileBusy = false → s.cmd.fm = none →
        (tiles = [] → ∃ t : State, Sys2Proof.Machine.exec c s = .next t ∧ (ackReq h = true → s.answers t h 0x30 stOk []) ∧ t.cmd.fm = none ∧ s.tilesKept t) ∧
        (tiles ≠ [] → ∃ t : State, Sys2Proof.Machine.exec c s = .next t ∧ s.longStarted t .fm h 0x30 ∧ t.cmd.fm.map (·.tiles) = some tiles ∧ s.tilesKept t ∧
          t.hem.requests = s.hem.requests ++ tiles.map (fun n => { kind := .tile n true, arrival := s.pin, use := none, eng := engOfTile n 0 })))) ∧
    (2 ≤ kind → kind ≤ 3 → let d : Side := if kind = 2 then .host else .field
      s.takes h 0x30 (kind == 3) →
      (4096 ≤ w0.toNat → ∃ t : State, Sys2Proof.Machine.exec c s = .next t ∧ s.refused t h 0x30 stBadParam) ∧
      (w0.toNat < 4096 → (kind = 3 ∧ s.refPresent = false) ∨ s.long (hkCtl d) ≠ none →
        ∃ t : State, Sys2Proof.Machine.exec c s = .next t ∧ s.refused t h 0x30 stBusy) ∧
      (w0.toNat < 4096 → (kind = 3 → s.refPresent = true) → s.long (hkCtl d) = none →
        ∃ t : State, Sys2Proof.Machine.exec c s = .next t ∧ s.longStarted t (hkCtl d) h 0x30 ∧ (t.hk d).cal = true ∧ s.tilesKept t ∧
          (s.bit (aHkStatus d) 0 = false → (s.hk d).inj = none → t.bit (aHkStatus d) 1 = true)))) ∧
  (∀ (s : State) (h : Hdr) (w0 : W32) (c : Instr),
    c = .canarySweep h w0 ∨ c = .sensorCheck h w0 ∨ c = .nvVerify h w0 ∨ c = .memBist h w0 ∨ c = .converterLoop h w0 ∨ c = .engineCheck h w0 ∨ c = .hostMem h w0 →
    let test := wfld w0 15 0
    let yokes := wfld w0 19 16
    (testKind test = none → s.takes h 0x31 false → ∃ t : State, Sys2Proof.Machine.exec c s = .next t ∧ s.refused t h 0x31 stBadParam) ∧
    (∀ k byYoke, testKind test = some (k, byYoke) → s.takes h 0x31 (k == .fm) →
      (0x100000 ≤ w0.toNat ∨ byYoke ≠ (yokes != 0) → ∃ t : State, Sys2Proof.Machine.exec c s = .next t ∧ s.refused t h 0x31 stBadParam) ∧
      (w0.toNat < 0x100000 → byYoke = (yokes != 0) → s.testBusy k test yokes = true ∨ s.long k ≠ none →
        ∃ t : State, Sys2Proof.Machine.exec c s = .next t ∧ s.refused t h 0x31 stBusy) ∧
      (w0.toNat < 0x100000 → byYoke = (yokes != 0) → s.testBusy k test yokes = false → s.long k = none →
        ∃ t : State, Sys2Proof.Machine.exec c s = .next t ∧ s.longStarted t k h 0x31 ∧ t.runningTest k = some (test, yokes) ∧ s.sameMem t ∧
          (test ≠ 0x11 → s.tilesKept t)))) ∧
  (∀ (s : State) (c : Ctl) (fail : Option W32),
    (s.runningTest c = none → Sys2Proof.Machine.exec (.selfTestDone c fail) s = .next s) ∧
    (∀ l, s.long c = some l → l.op = 0x31 → l.answered = false → ∃ t : State, Sys2Proof.Machine.exec (.selfTestDone c fail) s = .next t ∧
      t.long c = none ∧ s.sameMem t ∧ (match fail with
      | some d => s.answers t l.h 0x31 stOk [1, d] ∧ t.bit bhFlags.addr 3 = true
      | none => s.answers t l.h 0x31 stOk [0, Config.freeWord s.free]))) ∧
  (∀ (s : State) (h : Hdr) (w0 : W32) (data : List Byte), s.takes h 0x50 false → let e := Sys2Proof.Machine.exec (.nvWrite h w0 data) s
    (data.length ≠ 4096 → ∃ t : State, e = .next t ∧ s.refused t h 0x50 stBadParam) ∧
    (data.length = 4096 → w0.toNat < 256 ∨ 8191 < w0.toNat → ∃ t : State, e = .next t ∧ s.refused t h 0x50 stRange) ∧
    (data.length = 4096 → 256 ≤ w0.toNat → w0.toNat ≤ 8191 → s.cmd.ci ≠ none → ∃ t : State, e = .next t ∧ s.refused t h 0x50 stBusy) ∧
    (data.length = 4096 → 256 ≤ w0.toNat → w0.toNat ≤ 8191 → s.cmd.ci = none → ∃ t : State, e = .next t ∧ s.longStarted t .ci h 0x50 ∧ s.tilesKept t ∧
      t.nv = { s.nv with jobs := s.nv.jobs ++ [{ page := w0.toNat, data, vals := [], h := some h, op := 0x50 }] })) ∧
  (∀ (s : State) (h : Hdr) (w0 w1 w2 : W32), s.takes h 0x51 false → let e := Sys2Proof.Machine.exec (.nvRead h w0 w1 w2) s
    let off := w1.toNat
    let len := w2.toNat
    (off % 4 ≠ 0 ∨ len % 4 ≠ 0 → ∃ t : State, e = .next t ∧ s.refused t h 0x51 stMisaligned) ∧
    (off % 4 = 0 → len = 0 → ∃ t : State, e = .next t ∧ s.refused t h 0x51 stBadParam) ∧
    (off % 4 = 0 → len % 4 = 0 → len ≠ 0 → 4096 < off + len ∨ 8191 < w0.toNat → ∃ t : State, e = .next t ∧ s.refused t h 0x51 stRange) ∧
    (off % 4 = 0 → len % 4 = 0 → len ≠ 0 → off + len ≤ 4096 → w0.toNat ≤ 8191 →
      (s.nvCopy w0.toNat = none → ∃ t : State, e = .next t ∧ s.refused t h 0x51 stInternal ∧ t.bit nvFlags.addr 1 = true) ∧
      (∀ x, s.nvCopy w0.toNat = some x → ∃ t : State, e = .next t ∧ s.tilesKept t ∧ t.nv = s.nv ∧
        s.answers t h 0x51 stOk (beWords (len / 4) ((List.range len).map (fun i => NvCopy.byte x w0.toNat (off + i))))))) ∧
  (∀ (s : State) (fails : Nat),
    (s.nv.jobs = [] ∨ s.hostAlive = false → Sys2Proof.Machine.exec (.nvProgramDone fails) s = .next s) ∧
    (∀ j js l, s.nv.jobs = j :: js → s.hostAlive = true → s.bit aHhStatus 24 = false → s.cmd.ci = some l → l.answered = false →
      let p := s.nvPage j.page
      let b := p.writesB
      ∃ t : State, Sys2Proof.Machine.exec (.nvProgramDone fails) s = .next t ∧ t.nv.jobs = js ∧ s.tilesKept t ∧ (∀ q, q ≠ j.page → t.nvPage q = s.nvPage q) ∧
        (if b then (t.nvPage j.page).a = p.a else (t.nvPage j.page).b = p.b) ∧
        (let ok := decide (fails < 2) || decide (s.spares ≠ 0)
         let fresh := if b then (t.nvPage j.page).b else (t.nvPage j.page).a
         (ok = true → fresh.valid = true ∧ fresh.data = j.data ∧ fresh.vals = j.vals ∧ fresh.seq = (if b then p.a else p.b).seq + 1) ∧
         (2 ≤ fails → s.spares ≠ 0 → t.spares = s.spares - 1) ∧
         (fails < 2 → t.spares = s.spares) ∧
         (ok = false → fresh.valid = false ∧ t.bit nvFlags.addr 0 = true) ∧
         (j.h = some l.h → t.cmd.ci = none ∧ (ok = true → ackReq l.h = true → s.answers t l.h l.op.toNat stOk []) ∧
           (ok = false → s.answers t l.h l.op.toNat stInternal [])) ∧
         (j.h ≠ some l.h → t.cmd.ci = some l))))

/-- PAIR_JOIN begins a join, the last HELLO ends it in the state of its role or with its cause; time-outs, retries and retraining; PAIR_SPLIT and SPLIT end it. (R340, R341, R342, R343, R344, R347, R355, R361) -/
def Obligations.PairingJoinsAndSplits : Prop :=
  (∀ (s : State) (h : Hdr) (w0 : W32), s.takes h 0x60 true → let role := wfld w0 2 0
    (∀ st, s.joinRefusal w0 = some st → st ≠ stOk → ∃ t : State, Sys2Proof.Machine.exec (.pairJoin h w0) s = .next t ∧ s.answers t h 0x60 st [] ∧ s.tilesKept t ∧
      t.pair = s.pair) ∧
    (s.joinRefusal w0 = none → s.cmd.fm ≠ none → ∃ t : State, Sys2Proof.Machine.exec (.pairJoin h w0) s = .next t ∧ s.answers t h 0x60 stBusy [] ∧
      s.tilesKept t ∧ t.pair = s.pair) ∧
    (s.joinRefusal w0 = none → s.cmd.fm = none → ∃ t : State, Sys2Proof.Machine.exec (.pairJoin h w0) s = .next t ∧ s.longStarted t .fm h 0x60 ∧
      t.pair.joining = true ∧ t.pair.role = role ∧ t.pair.waitSeams = roleSeams role ∧ t.pair.helloOk = [] ∧ t.fld aPairCtrl 3 1 = role ∧
      t.bit aPairCtrl 0 = (w0.getLsbD 8 || s.bit aPairCtrl 0) ∧ t.pairState = s.pairState ∧ s.tilesKept t ∧
      ∀ p ∈ roleSeams role, t.bit (linkAddr p 0) 0 = true ∧ t.linkSt p = (if s.linkUp p then 5 else 1))) ∧
  (∀ (s : State) (p : LPort) (m : HelloMsg), let role := s.pair.role
    let mine := s.pair.joining && decide (p ∈ s.pair.waitSeams)
    let e := Sys2Proof.Machine.exec (.hello p m) s
    let all := s.pair.waitSeams.all (fun q => decide (q = p ∨ q ∈ s.pair.helloOk))
    let joint := if p = .seamB then m.state.val == 0 else s.pair.joint
    let st := if role = 0 then 1 else if role = 1 then 2 else if roleActive role then 3 else if joint then 4 else 5
    (mine = false → e = .next s) ∧
    (mine = true → roleMate p role ≠ some m.role.val → ∃ t : State, e = .next t ∧ s.joinFailed t 3 stBadParam) ∧
    (mine = true → roleMate p role = some m.role.val → 1 < m.skew.natAbs → ∃ t : State, e = .next t ∧ s.joinFailed t 4 stRange) ∧
    (mine = true → roleMate p role = some m.role.val → m.skew.natAbs ≤ 1 →
      (all = false → ∃ t : State, e = .next t ∧ p ∈ t.pair.helloOk ∧ t.pair.joining = true ∧ t.pairState = s.pairState ∧
        t.reg 0x10010108 = BitVec.ofInt 32 m.skew ∧ s.sameRegs t [0x10010108] ∧ (∀ e, t.eng e = s.eng e) ∧ s.sameMem t) ∧
      (all = true → roleActive role = true → s.pins.interlock = false → ∃ t : State, e = .next t ∧ s.joinFailed t 5 stBusy) ∧
      (all = true → role < 8 → roleActive role = false ∨ s.pins.interlock = true → ∃ t : State, e = .next t ∧ t.pairState = st ∧ t.pair.joining = false ∧
        t.fld aPairStatus 27 24 = 0 ∧ t.fld aPairStatus 4 3 = roleSide role ∧ t.twin = roleTwin role ∧ t.redundant = decide (2 ≤ role) ∧
        (st = 3 → t.drives = true ∧ t.pair.unmuted = true ∧ t.pins.interlock = false) ∧ (st = 5 → s.linkUp .seamB = true → s.sentSeam t true 0x25) ∧
        s.endsPairing t 0x60 stOk [BitVec.ofNat 32 st] ∧ (∀ e, t.eng e = s.eng e) ∧ s.sameMem t))) ∧
  (∀ s : State, let waits := s.pair.joining && s.pair.waitSeams.any (fun p => s.linkUp p && !decide (p ∈ s.pair.helloOk))
    let role := s.fld aPairCtrl 3 1
    let again := s.fieldAlive && s.bit aPairCtrl 0 && !s.pair.joining && !s.anyActive &&
      ((s.pairState == 0 && s.fld aPairStatus 27 24 != 0) || s.rejoins role)
    (waits = false → Sys2Proof.Machine.exec .helloTimeout s = .next s) ∧
    (waits = true → ∃ t : State, Sys2Proof.Machine.exec .helloTimeout s = .next t ∧ s.joinFailed t 2 stInternal) ∧
    (again = false → Sys2Proof.Machine.exec .autoJoinRetry s = .next s) ∧
    (again = true → ∃ t : State, Sys2Proof.Machine.exec .autoJoinRetry s = .next t ∧ t.pair.joining = true ∧ t.pair.role = role ∧
      t.pair.waitSeams = roleSeams role ∧ s.tilesKept t) ∧
    (s.pairState ≠ 3 ∨ s.linkSt .seamB ≠ 0 → Sys2Proof.Machine.exec .seamBRetrain s = .next s) ∧
    (s.pairState = 3 → s.linkSt .seamB = 0 → ∃ t : State, Sys2Proof.Machine.exec .seamBRetrain s = .next t ∧ t.linkSt .seamB = 1 ∧
      t.bit (linkAddr .seamB 0) 0 = true ∧ s.tilesKept t)) ∧
  (∀ (s : State) (h : Hdr), s.takes h 0x61 true →
    (∀ st, s.splitRefusal = some st → st ≠ stOk → ∃ t : State, Sys2Proof.Machine.exec (.pairSplit h) s = .next t ∧ s.answers t h 0x61 st [] ∧ s.tilesKept t ∧
      t.pair = s.pair ∧ t.pairState = s.pairState) ∧
    (s.splitRefusal = none → ∃ t : State, Sys2Proof.Machine.exec (.pairSplit h) s = .next t ∧ s.answers t h 0x61 stOk [0] ∧ t.pairState = 0 ∧
      t.hem.config = 0 ∧ t.fld aPairStatus 4 3 = 0 ∧ t.linkSt .seamA = 0 ∧ t.linkSt .seamB = 0 ∧ t.pair.joining = false ∧ t.pair.hand = none ∧
      (s.linkUp .seamB = true → s.sentSeam t true 0x0E) ∧
      (4 ≤ s.pairState → s.pins.pairPresent = true → s.pins.interlock = true → t.drives = true))) ∧
  (∀ s : State, let st := s.pairState
    (st < 4 ∨ st = 7 → Sys2Proof.Machine.exec .split s = .next s) ∧
    (st = 4 ∨ st = 5 ∨ st = 6 → ∃ t : State, Sys2Proof.Machine.exec .split s = .next t ∧ t.fellTo 7 6 ∧ s.endsPairing t 0x63 stInternal [] ∧
      (∀ e, t.eng e = s.eng e) ∧ s.sameMem t))

/-- HEARTBEAT_SEND, HEARTBEAT and HEARTBEAT_LOST keep the partner's state; digests are compared, asked for and located; RELAY joins its parts. (R345, R349, R350, R351, R355, R361) -/
def Obligations.HeartbeatsDigestsAndRelayCross : Prop :=
  (∀ (s : State) (p : LPort) (m : HeartbeatMsg), let up := isSeam p && s.linkUp p
    (up = false → Sys2Proof.Machine.exec (.heartbeatSend p) s = .next s ∧ Sys2Proof.Machine.exec (.heartbeat p m) s = .next s) ∧
    (up = true → ∃ t : State, ∃ l, Sys2Proof.Machine.exec (.heartbeatSend p) s = .next t ∧ s.portKept t p ∧
      t.sent = s.sent ++ l ++ [.seam (p == .seamB) 7 [s.pairState, s.twinRole, s.healthy.toNat, s.storm.toNat, s.drives.toNat, s.pin.toNat]] ∧
      (p ≠ .seamB ∨ s.paired = false → l = [] ∧ t.pair = s.pair) ∧
      (p = .seamB → s.paired = true → t.pair = { s.pair with digested := s.pin64 } ∧ l.length = min 64 (s.pin64 - s.pair.digested).toNat ∧
        ∀ i < l.length, let b := (s.pin64 - BitVec.ofNat 64 (l.length - i)).toNat
          l[i]? = some (.seam true 0x20 (b % 2 ^ 32 :: (List.range 4).map (fun y => (s.yokeDigest y b).toNat))))) ∧
    (up = true → ∃ t : State, Sys2Proof.Machine.exec (.heartbeat p m) s = .next t ∧ tabFind t.pair.hbSeen (lportKey p) = some m ∧
      t.pairState = s.pairState ∧ t.sent = s.sent ∧ (∀ e, t.eng e = s.eng e) ∧ s.sameMem t ∧ s.sameRegs t [aPairStatus] ∧
      (p = s.partnerSeam → t.bit aPairStatus 8 = true) ∧ (p ≠ s.partnerSeam → s.sameRegs t []) ∧
      (p = .seamB → m.interlockOut = true → t.pins.interlock = false) ∧ (p ≠ .seamB ∨ m.interlockOut = false → t.pins = s.pins) ∧
      (p = .seamB → t.pair.hbLost = none)) ∧
    (let t := Sys2Proof.Machine.exec (.heartbeatLost p) s
     ∃ u, t = .next u ∧ (p = s.partnerSeam → u.bit aPairStatus 8 = false) ∧ u.pairState = s.pairState ∧ (∀ e, u.eng e = s.eng e) ∧ s.sameMem u ∧
      (p = .seamB → s.pairState = 4 → s.pins.interlock = false → u.bit pairFlags.addr 12 = true) ∧
      (p = .seamB → u.pair.hbLost = some (s.pair.hbLost.getD s.pin)) ∧
      (p ≠ .seamB ∨ s.pairState ≠ 4 → s.sameRegs u [aPairStatus] ∧ u.sent = s.sent))) ∧
  (∀ (s : State) (block : W32) (d : List W32) (yoke : Fin 4) (first : Fin 112),
    let may := s.linkUp .seamB && s.paired && s.keepsDigest block
    (may = false → Sys2Proof.Machine.exec (.digest block d) s = .next s) ∧
    (may = true → match s.digestDiffers block d with
      | none => Sys2Proof.Machine.exec (.digest block d) s = .next s
      | some y => ∃ t : State, Sys2Proof.Machine.exec (.digest block d) s = .next t ∧ (∀ e, t.eng e = s.eng e) ∧ s.sameMem t ∧
        (t.reg 0x10020024).toNat = min 0xFFFFFFFF ((s.reg 0x10020024).toNat + 1) ∧ t.bit pairFlags.addr 10 = true ∧
        (s.bit pairFlags.addr 10 = false → t.reg 0x1002001C = block ∧ t.reg 0x10020020 = BitVec.ofNat 32 y.val ∧ s.sentSeam t true 0x21) ∧
        (s.bit pairFlags.addr 10 = true → t.reg 0x1002001C = s.reg 0x1002001C ∧ t.reg 0x10020020 = s.reg 0x10020020) ∧
        (s.pairState = 4 → t.fellTo 6 1) ∧ (s.pairState ≠ 4 → t.pairState = s.pairState)) ∧
    (s.linkUp .seamB = false ∨ s.pairState < 3 → Sys2Proof.Machine.exec .digestGap s = .next s) ∧
    (s.linkUp .seamB = true → 3 ≤ s.pairState → ∃ t : State, Sys2Proof.Machine.exec .digestGap s = .next t ∧ t.bit pairFlags.addr 11 = true ∧
      t.pairState = s.pairState ∧ s.tilesKept t) ∧
    (s.keepsDigest block = false ∨ s.linkUp .seamB = false → Sys2Proof.Machine.exec (.digestReq block yoke) s = .next s) ∧
    (s.keepsDigest block = true → s.linkUp .seamB = true → ∃ t : State, ∃ l, Sys2Proof.Machine.exec (.digestReq block yoke) s = .next t ∧
      t.sent = s.sent ++ l ∧ l.length = 23 ∧ (∀ o ∈ l, ∃ f, o = Out.seam true 0x22 f) ∧ t.pair = s.pair ∧ s.portKept t .seamB) ∧
    (let asked := s.bit 0x10020008 10 && s.reg 0x1002001C == block && s.fld 0x10020020 1 0 == yoke.val
     let seen := s.bit 0x10020020 9
     (asked = false ∨ s.keepsDigest block = false → Sys2Proof.Machine.exec (.digestDetail block yoke first d) s = .next s) ∧
     (asked = true → s.keepsDigest block = true →
       match d.zipIdx.find? (fun x => first.val + x.2 < 112 && x.1 != s.portDigest (yokePort yoke.val (first.val + x.2)) (s.block64 block).toNat) with
       | none => Sys2Proof.Machine.exec (.digestDetail block yoke first d) s = .next s
       | some x => ∃ t : State, Sys2Proof.Machine.exec (.digestDetail block yoke first d) s = .next t ∧ s.onlyReg t 0x10020020 ∧ t.bit 0x10020020 9 = true ∧
          t.fld 0x10020020 8 2 = (if seen then min (s.fld 0x10020020 8 2) (first.val + x.2) else first.val + x.2)))) ∧
  (∀ (s : State) (part : Nat) (last : Bool) (data : List Byte), let bs := (if part = 0 then [] else s.pair.relay) ++ data
    let op := (relayedPkt bs).2.1
    let joined : State := { s with pair := { s.pair with relay := if last then [] else bs } }
    let runs := op == 0x21 || ((op == 0x22 || op == 0x23) && s.pairState != 5)
    ((s.shadow || s.follow) = false → Sys2Proof.Machine.exec (.relay part last data) s = .next s) ∧
    ((s.shadow || s.follow) = true → last = false ∨ runs = false → Sys2Proof.Machine.exec (.relay part last data) s = .next joined) ∧
    ((s.shadow || s.follow) = true → last = true → runs = true → ∃ t : State, Sys2Proof.Machine.exec (.relay part last data) s = .next t ∧
      (op = 0x21 → t = joined.startRelayed (relayedPkt bs).1 (relayedPkt bs).2.2) ∧
      (op ≠ 0x21 → t = joined.stopRelayed (relayedPkt bs).1 op (relayedPkt bs).2.2)))

/-- Release causes, PAIR_HANDOVER and its retry begin a handover; recipients accept or refuse; at its block control passes; a claim is passed on. (R349, R351, R352, R353, R356, R357, R361) -/
def Obligations.ControlIsGivenUp : Prop :=
  (∀ (s : State) (cause : Fin 10), let c := cause.val
    let now := decide (s.pairState = 3) && ((decide (c = 6) && s.fieldShut) || decide (c = 7))
    (s.mayGive c = false → now = false → Sys2Proof.Machine.exec (.releaseCause cause) s = .next s) ∧
    (now = true → ∃ t : State, Sys2Proof.Machine.exec (.releaseCause cause) s = .next t ∧ t.gaveUp 4 ∧ (s.linkUp .seamB = true → s.sentSeam t true 0x08)) ∧
    (s.mayGive c = true → (s.twin && s.follow) = false → ∃ t : State, Sys2Proof.Machine.exec (.releaseCause cause) s = .next t ∧ s.handBegun t s.handEarliest c false) ∧
    (s.mayGive c = true → (s.twin && s.follow) = true → ∃ t : State, Sys2Proof.Machine.exec (.releaseCause cause) s = .next t ∧ t.pair = { s.pair with lastCause := c } ∧
      (s.linkUp .seamA = true → t.sent = s.sent ++ [.seam false 0x0B [c, 0]]) ∧ s.portKept t .seamA)) ∧
  (∀ s : State, let c := s.pair.lastCause
    (s.mayGive c = false → Sys2Proof.Machine.exec .handoverRetry s = .next s) ∧
    (s.mayGive c = true → (s.twin && s.follow) = false → ∃ t : State, Sys2Proof.Machine.exec .handoverRetry s = .next t ∧ s.handBegun t s.handEarliest c false) ∧
    (s.mayGive c = true → (s.twin && s.follow) = true → ∃ t : State, Sys2Proof.Machine.exec .handoverRetry s = .next t ∧
      (s.linkUp .seamA = true → t.sent = s.sent ++ [.seam false 0x0B [c, 0]]) ∧ s.portKept t .seamA)) ∧
  (∀ (s : State) (h : Hdr) (w0 : W32), s.takes h 0x62 true → let e := Sys2Proof.Machine.exec (.pairHandover h w0) s
    let at_ := if w0 = 0 then s.handEarliest else w0
    (∀ st, s.handRefusal w0 = some st → st ≠ stOk → ∃ t : State, e = .next t ∧ s.answers t h 0x62 st [] ∧ s.tilesKept t ∧ t.pair = s.pair) ∧
    (s.handRefusal w0 = none → s.cmd.fm ≠ none → ∃ t : State, e = .next t ∧ s.answers t h 0x62 stBusy [] ∧ s.tilesKept t ∧ t.pair = s.pair) ∧
    (s.handRefusal w0 = none → s.cmd.fm = none → s.linkUp .seamB = true → ∃ t : State, e = .next t ∧ s.longStarted t .fm h 0x62 ∧ s.handBegun t at_ 5 true) ∧
    (s.handRefusal w0 = none → s.cmd.fm = none → s.linkUp .seamB = false → ∃ t : State, e = .next t ∧ t.pair.hand = none ∧ t.bit pairFlags.addr 6 = true ∧
      s.answers t h 0x62 stInternal [] ∧ t.cmd.fm = none ∧ t.pairState = s.pairState)) ∧
  (∀ (s : State) (seq : Byte) (h : W32) (cause : Fin 16), let takes := s.pairState == 4 || (s.pairState == 3 && s.twin && s.follow)
    let e := Sys2Proof.Machine.exec (.handover seq h cause) s
    let back := s.handBack cause.val
    (takes = false → e = .next s) ∧
    (takes = true → ∃ t : State, e = .next t ∧ t.pairState = s.pairState ∧ (∀ e, t.eng e = s.eng e) ∧ s.sameMem t ∧
      (s.linkUp (if back then .seamB else .seamA) = true → s.sentSeam t back 0x0A) ∧
      (s.acceptsHand h = true → t.pair.hand = some { h, cause := cause.val, acks := [], seq, giving := s.pairState == 3, host := false }) ∧
      (s.acceptsHand h = false → t.pair = s.pair))) ∧
  (∀ (s : State) (p : LPort) (seq : Byte) (accept : Bool), let e := Sys2Proof.Machine.exec (.handoverAck p seq accept) s
    (s.pair.hand = none → e = .next s ∧ Sys2Proof.Machine.exec .handoverAckTimeout s = .next s ∧ Sys2Proof.Machine.exec .handoverBlock s = .next s) ∧
    (∀ x, s.pair.hand = some x →
      (x.seq ≠ seq ∨ (s.pairState = 3 ∧ p ∉ x.acks) → e = .next s) ∧
      (x.seq = seq → s.pairState = 3 → p ∈ x.acks → accept = true →
        e = .next { s with pair := { s.pair with hand := some { x with acks := x.acks.erase p } } }) ∧
      (x.seq = seq → s.pairState = 3 → p ∈ x.acks → accept = false → ∃ t : State, e = .next t ∧ s.handRefused t x.host) ∧
      (x.seq = seq → s.pairState = 4 → s.twin = true → s.linkUp (if p = .seamA then .seamB else .seamA) = true → ∃ t : State, e = .next t ∧
        s.sentSeam t (p == .seamA) 0x0A ∧ t.pair = s.pair) ∧
      (s.pairState ≠ 3 ∨ x.acks = [] → Sys2Proof.Machine.exec .handoverAckTimeout s = .next s) ∧
      (s.pairState = 3 → x.acks ≠ [] → ∃ t : State, Sys2Proof.Machine.exec .handoverAckTimeout s = .next t ∧ s.handRefused t x.host))) ∧
  (∀ (s : State) (x : Handing), s.pair.hand = some x →
    (x.acks ≠ [] → Sys2Proof.Machine.exec .handoverBlock s = .next s) ∧
    (x.acks = [] → ∃ t : State, Sys2Proof.Machine.exec .handoverBlock s = .next t ∧ t.pair.hand = none ∧ t.reg aHandBlock = x.h ∧
      (t.reg 0x10020014).toNat = min 0xFFFFFFFF ((s.reg 0x10020014).toNat + 1) ∧ t.bit pairFlags.addr 5 = true ∧
      (x.giving = true → t.pair.unmuted = false ∧ t.drives = false ∧ t.bit pairFlags.addr 4 = true ∧
        (x.cause = 5 → t.pairState = 4) ∧ (x.cause ≠ 5 → t.fellTo 6 4) ∧ (x.host = true → s.endsPairing t 0x62 stOk [x.h])) ∧
      (x.giving = false → s.pairState = 4 → t.pairState = 3 ∧ t.pair.unmuted = true ∧ t.drives = true))) ∧
  (∀ (s : State) (cause : Fin 16) (origin : Fin 4) (b : W32), let may := s.pairState == 3 && s.twin && !s.follow && s.pair.hand.isNone
    (may = false → Sys2Proof.Machine.exec (.handoverReq cause origin) s = .next s) ∧
    (may = true → ∃ t : State, Sys2Proof.Machine.exec (.handoverReq cause origin) s = .next t ∧
      t.pair.hand = some (Handing.mk s.handEarliest cause.val (if origin = 0 then [.seamB, .seamB, .seamA] else if origin = 1 then [.seamB] else [.seamA, .seamA])
        (s.pair.seq + 1) (decide (origin.val ≤ 1)) false) ∧
      (origin.val ≤ 1 → s.linkUp .seamB = true → s.sentSeam t true 0x09) ∧ (2 ≤ origin.val → s.linkUp .seamA = true → s.sentSeam t false 0x09) ∧
      t.pairState = s.pairState) ∧
    (s.twin = false ∨ s.pairState ≠ 4 → Sys2Proof.Machine.exec (.claimed b) s = .next s) ∧
    (s.twin = true → s.pairState = 4 → s.linkUp (if s.follow then .seamA else .seamB) = true → ∃ t : State, Sys2Proof.Machine.exec (.claimed b) s = .next t ∧
      t.sent = s.sent ++ [.seam (!s.follow) 0x0B [9, if s.follow then 2 else 1]] ∧ t.pair = s.pair))

/-- RELEASE and INTERLOCK_HIGH let a standby claim, CLAIM_UNMUTE ends a claim; PAIR_RESYNC and its messages copy the active's state. (R351, R354, R355, R358, R359, R361) -/
def Obligations.ControlIsTakenAndStateCopied : Prop :=
  (∀ (s : State) (cause : Fin 16) (b : W32), let claims := s.pairState == 4 && decide (2 ≤ s.pair.highs) && s.healthy && s.pair.claimAt.isNone &&
      (match s.pair.highAt with | some x => decide ((bdiff s.pin x).natAbs ≤ 40) | none => false)
    ∃ t : State, Sys2Proof.Machine.exec (.release cause b) s = .next t ∧ t.pair.released = some s.pin ∧ t.pair.lowFrom = some s.pin ∧ t.pairState = s.pairState ∧
      (claims = true → t.drives = true ∧ t.pair.claimAt = some s.pin) ∧ (s.pairState ≠ 4 → t = { s with pair := t.pair }) ∧
      (∀ e, t.eng e = s.eng e) ∧ s.sameMem t) ∧
  (∀ s : State,
    (s.pins.pairPresent = false → Sys2Proof.Machine.exec .interlockHigh s = .next s) ∧
    (s.pins.pairPresent = true → s.pair.claimAt.isSome = true → ∃ t : State, Sys2Proof.Machine.exec .interlockHigh s = .next t ∧ t.pins.interlock = true ∧
      t.pair = s.pair ∧ s.sameRegs t []) ∧
    (s.pins.pairPresent = true → s.pair.claimAt = none → s.drives = true → ∃ t : State, Sys2Proof.Machine.exec .interlockHigh s = .next t ∧ t.gaveUp 7 ∧
      t.pair.highs = 1 ∧ t.pins.interlock = true) ∧
    (∀ x r, s.pins.pairPresent = true → s.pair.claimAt = none → s.drives = false → s.pairState = 4 → 1 ≤ s.pair.highs → s.healthy = true →
      s.pair.highAt = some x → s.pair.released = some r → (bdiff r x).natAbs ≤ 40 → ∃ t : State, Sys2Proof.Machine.exec .interlockHigh s = .next t ∧
      t.drives = true ∧ t.pair.claimAt = some t.pin ∧ t.pairState = 4) ∧
    (s.pins.pairPresent = true → s.pair.claimAt = none → s.drives = false → s.pairState ≠ 4 → ∃ t : State, Sys2Proof.Machine.exec .interlockHigh s = .next t ∧
      t.pins.interlock = true ∧ t.pair.highs = s.pair.highs + 1 ∧ t.pairState = s.pairState ∧
      (s.pairState = 6 → s.linkUp .seamB = false → s.fld aPairStatus 31 28 = 2 → t.bit pairFlags.addr 8 = true))) ∧
  (∀ (s : State) (low : Bool),
    (s.pair.claimAt = none → Sys2Proof.Machine.exec (.claimUnmute low) s = .next s) ∧
    (∀ b, s.pair.claimAt = some b → low = false → ∃ t : State, Sys2Proof.Machine.exec (.claimUnmute low) s = .next t ∧ t.fellTo 7 5 ∧ t.drives = false ∧
      t.pair.claimAt = none ∧ t.pins.interlock = true) ∧
    (∀ b, s.pair.claimAt = some b → low = true → ∃ t : State, Sys2Proof.Machine.exec (.claimUnmute low) s = .next t ∧ t.pair.unmuted = true ∧
      t.pair.claimAt = none ∧ t.pins.interlock = false ∧ t.drives = s.drives ∧
      (s.pairState ≠ 4 → t.pairState = s.pairState ∧ s.sameRegs t []) ∧
      (s.pairState = 4 → t.pairState = 3 ∧ t.reg aHandBlock = b ∧ t.bit pairFlags.addr 3 = true ∧
        (t.reg 0x10020018).toNat = min 0xFFFFFFFF ((s.reg 0x10020018).toNat + 1)))) ∧
  (∀ s : State, let up := s.linkUp .seamB
    let may := s.pair.lowFrom.isSome && s.pairState == 4 && !s.pins.interlock && s.pair.claimAt.isNone && (!up || s.pair.released.isSome)
    (may = false → Sys2Proof.Machine.exec .interlockLowTimeout s = .next s) ∧
    (may = true → ∃ t : State, Sys2Proof.Machine.exec .interlockLowTimeout s = .next t ∧ (up = true → t.fellTo 7 7 ∧ t.bit pairFlags.addr 8 = true) ∧
      (up = false → t.fellTo 6 2 ∧ t.bit pairFlags.addr 0 = true) ∧ t.pair.lowFrom = none ∧ (∀ e, t.eng e = s.eng e) ∧ s.sameMem t)) ∧
  (∀ (s : State) (h : Hdr), s.takes h 0x63 true → let loaded := s.bit aAlign 0
    (∀ st, s.resyncRefusal = some st → st ≠ stOk → ∃ t : State, Sys2Proof.Machine.exec (.pairResync h) s = .next t ∧ s.answers t h 0x63 st [] ∧ s.tilesKept t ∧
      t.pair = s.pair ∧ t.pairState = s.pairState) ∧
    (s.resyncRefusal = none → ∃ t : State, Sys2Proof.Machine.exec (.pairResync h) s = .next t ∧
      if loaded = true ∧ 1 < (Config.freeWord s.free).toInt.natAbs then
        s.answers t h 0x63 stRange [] ∧ s.tilesKept t ∧ t.pair = s.pair ∧ t.pairState = s.pairState
      else s.longStarted t .fm h 0x63 ∧ t.pairState = 5 ∧ t.pair.unmuted = false ∧ (loaded = true → s.sentSeam t true 0x25) ∧
        (loaded = false → t.bit aAlign 3 = true))) ∧
  (∀ (s : State) (addr v : W32) (data : List W32), let a := addr.toNat
    (s.pairState ≠ 5 → Sys2Proof.Machine.exec (.resyncData addr data) s = .next s) ∧
    (s.pairState = 5 → isCopied a = false → Sys2Proof.Machine.exec (.resyncData addr [v]) s = .next s) ∧
    (s.pairState = 5 → isCopied a = true →
      (∀ m, locate a = .mem m → ∃ t : State, Sys2Proof.Machine.exec (.resyncData addr [v]) s = .next t ∧ t = { s with mem := t.mem, synth := t.synth, mend := t.mend } ∧ t.word a = v &&& m ∧
        ∀ b, b < a ∨ a + 4 ≤ b → t.byte b = s.byte b) ∧
      (∀ m r, locate a = .reg .rw m r → ∃ t : State, Sys2Proof.Machine.exec (.resyncData addr [v]) s = .next t ∧
        t = { s with regs := t.regs, synth := t.synth, mend := t.mend } ∧ s.sameRegs t [a] ∧ t.reg a = v &&& m) ∧
      (∀ m r, locate a = .reg .rws m r → ∃ t : State, Sys2Proof.Machine.exec (.resyncData addr [v]) s = .next t ∧ t = { s with regs := t.regs, work := t.work, synth := t.synth } ∧
        s.sameRegs t [a] ∧ t.reg a = v &&& m ∧ t.workReg a = v &&& m)) ∧
    (∀ t, s.pairState = 5 → a + 4 * data.length + 4 ≤ 2 ^ 32 → Sys2Proof.Machine.exec (.resyncData addr data) s = .next t → t.pairState = 5 →
      Sys2Proof.Machine.exec (.resyncData addr (data ++ [v])) s = Sys2Proof.Machine.exec (.resyncData (addr + BitVec.ofNat 32 (4 * data.length)) [v]) t)) ∧
  (∀ (s : State) (kind : Fin 16) (v : W32), let k := kind.val
    let e := Sys2Proof.Machine.exec (.resyncCtrl kind v) s
    (s.pairState ≠ 3 → s.pairState ≠ 5 → e = .next s) ∧
    (s.pairState = 3 → k ≠ 0 → k ≠ 4 → e = .next s) ∧
    (s.pairState = 3 → k = 0 → ∃ t : State, e = .next t ∧ t.pair = { s.pair with copying := true, copied := false, dirty := [], todo := copiedPages } ∧
      s.onlyReg { t with pair := s.pair } 0x10020028) ∧
    (s.pairState = 3 → k = 4 → e = .next { s with pair := { s.pair with copying := false, copied := false, dirty := [], todo := [] } }) ∧
    (s.pairState = 5 → k = 0 ∨ 4 < k → e = .next s) ∧
    (s.pairState = 5 → k = 1 ∨ k = 2 → ∃ t : State, e = .next t ∧ s.onlyReg t 0x10020028 ∧ t.reg 0x10020028 = v) ∧
    (s.pairState = 5 → k = 3 → ∃ t : State, e = .next t ∧ t.pair.copied = true ∧ t.reg 0x10020028 = 0 ∧ t.pairState = 5 ∧ s.endsPairing t 0x63 stOk []) ∧
    (s.pairState = 5 → k = 4 → ∃ t : State, e = .next t ∧ t.fellTo 6 8 ∧ s.endsPairing t 0x63 stInternal [])) ∧
  (∀ s : State, let runs := s.pairState == 3 && s.pair.copying
    (runs = false → Sys2Proof.Machine.exec .resyncPassEnd s = .next s) ∧
    (runs = true → ∃ t : State, Sys2Proof.Machine.exec .resyncPassEnd s = .next t ∧ (s.linkUp .seamB = true → s.sentSeam t true 0x25) ∧
      (∀ e, t.eng e = s.eng e) ∧ s.sameMem t ∧ t.pairState = 3 ∧
      (s.pair.dirty = [] → t.pair.todo = [] ∧ t.pair.copied = true ∧ t.reg 0x10020028 = 0) ∧
      (s.pair.dirty ≠ [] → t.pair.todo = s.pair.dirty ∧ t.pair.dirty = [] ∧
        t.reg 0x10020028 = BitVec.ofNat 32 (4 * s.pair.dirty.length + 0x80000000))))

/-- Sensors read, fail and raise levels; bands change at their block; shutdowns and yoke faults take work and ports away; the core voltage follows. (R381, R382, R383, R385, R388, R391, R392, R394, R397, R398, R408, R479) -/
def Obligations.SensorsThrottleAndShutDown : Prop :=
  (∀ (s : State) (x : Sensor) (v diff : Int), let k := sensorKey x
    let live := s.sensorAlive k && !s.sensorFailed k
    let held := !s.sensorAlive k && decide (k < 64) && s.pins.fieldPower && !s.pins.fieldHot.isEmpty
    (held = true → ∃ t : State, Sys2Proof.Machine.exec (.sensorConversion x v) s = .next t ∧ t = { s with pins := { s.pins with fieldHot := t.pins.fieldHot } } ∧
      (k ∈ t.pins.fieldHot ↔ 1600 < v ∧ v ≤ 2400) ∧ ∀ j, j ≠ k → (j ∈ t.pins.fieldHot ↔ j ∈ s.pins.fieldHot)) ∧
    (live = false → (held = false → Sys2Proof.Machine.exec (.sensorConversion x v) s = .next s) ∧ Sys2Proof.Machine.exec (.sensorReferenceCheck x diff) s = .next s ∧
      Sys2Proof.Machine.exec (.sensorTimeout x) s = .next s) ∧
    (live = true → (∃ t : State, Sys2Proof.Machine.exec (.sensorTimeout x) s = .next t ∧ s.sensorLost t k) ∧
      (v < -640 ∨ 2400 < v → ∃ t : State, Sys2Proof.Machine.exec (.sensorConversion x v) s = .next t ∧ s.sensorLost t k) ∧
      (80 < diff.natAbs → ∃ t : State, Sys2Proof.Machine.exec (.sensorReferenceCheck x diff) s = .next t ∧ s.sensorLost t k) ∧
      (diff.natAbs ≤ 80 → Sys2Proof.Machine.exec (.sensorReferenceCheck x diff) s = .next s)) ∧
    (live = true → k < 64 → -640 ≤ v → v ≤ 2400 → ∃ t : State, Sys2Proof.Machine.exec (.sensorConversion x v) s = .next t ∧ t.temp k = v ∧
      k ∈ t.thermal.scanned ∧ (∀ j < 64, j ∈ t.thermal.scanned → t.temp j ≤ sfld (t.reg 0x1005000C) 16) ∧
      (1792 ≤ v → t.bit fhFlags.addr 2 = true ∧ t.pair.healthLost = true) ∧ (∀ e, t.eng e = s.eng e) ∧ s.sameMem t)) ∧
  (∀ (s : State) (y : Fin 4), let m := s.yokeMax y
    let old := s.yokeLevel y
    let pace := s.yokePaceReg y
    let runs := s.fieldAlive && s.firstScan
    let level := max (s.fld (yokeAddr y 0) 2 0) (if 1600 ≤ m ∧ old < 4 then old + 1
      else if m ≤ 1552 ∧ 0 < old ∧ ¬(old = 4 ∧ 1 < pace) then old - 1 else old)
    (runs = false → Sys2Proof.Machine.exec (.throttleStep y) s = .next s) ∧
    (runs = true → ∃ t : State, Sys2Proof.Machine.exec (.throttleStep y) s = .next t ∧ t.yokeLevel y = level ∧
      (old < level → t.bit (yokeFlags y).addr 0 = true ∧ (old = 0 → t.bit fhFlags.addr 4 = true)) ∧
      (1600 ≤ m → old = 4 → level = 4 → pace < 8 → t.yokePaceReg y = pace + 1) ∧
      (m ≤ 1552 → old = 4 → 1 < pace → level = 4 → t.yokePaceReg y = pace - 1) ∧ (∀ e, t.eng e = s.eng e))) ∧
  (∀ (s : State) (y : Fin 4),
    (tabFind s.thermal.bandAt y = none → Sys2Proof.Machine.exec (.bandChange y) s = .next s) ∧
    (∀ b fixed, tabFind s.thermal.bandAt y = some (b, fixed) →
      let held := !s.clk.run || (!fixed && s.engines.any (fun p => p.2.inShot && yokeOfEng p.1 == y.val))
      (held = true → Sys2Proof.Machine.exec (.bandChange y) s = .next s) ∧
      (held = false → ∃ t : State, Sys2Proof.Machine.exec (.bandChange y) s = .next t ∧ t.yokeBand y = s.bandSeen y ∧ tabFind t.thermal.bandAt y = none ∧
        (s.bandSeen y ≠ s.yokeBand y → t.bit (yokeFlags y).addr 1 = true ∧ t.hem.band.toNat = ((List.range 4).map t.yokeBand).foldl max 0) ∧
        (∀ e, t.eng e = s.eng e) ∧ s.sameMem t))) ∧
  (∀ (s : State) (cause : Fin 8), let holds := s.fieldAlive && !s.fieldShut && s.shutCond cause
    (holds = false → Sys2Proof.Machine.exec (.fieldShutdown cause) s = .next s) ∧
    (holds = true → ∃ t : State, Sys2Proof.Machine.exec (.fieldShutdown cause) s = .next t ∧ t.fieldShut = true ∧ t.fld aFhStatus 6 4 = cause.val ∧
      t.bit fhFlags.addr 0 = true ∧ (cause = 3 → t.bit fhFlags.addr 6 = true) ∧ (∀ e, ∀ w ∈ (t.eng e).work, t.workDone w = true) ∧ t.chans = [] ∧
      (∀ p < 448, t.bit (portAddr p 4) 2 = false) ∧ (s.pairState = 3 → t.gaveUp 4))) ∧
  (∀ (s : State) (y : Fin 4) (rail : Bool), let due := s.fieldAlive && !s.bit aFhStatus (8 + y.val)
    (due = false → Sys2Proof.Machine.exec (.yokeFault y rail) s = .next s) ∧
    (due = true → ∃ t : State, Sys2Proof.Machine.exec (.yokeFault y rail) s = .next t ∧ t.bit aFhStatus (8 + y.val) = true ∧ t.bit fhFlags.addr 5 = true ∧
      t.bit (yokeFlags y).addr 2 = true ∧ (∀ p ∈ (yokeTiles y).flatMap tilePorts, t.bit (portAddr p 0) 0 = false ∧ t.bit (portAddr p 4) 0 = false) ∧
      (rail = true → t.bit fhFlags.addr 6 = true ∧ (s.pairState = 3 → t.gaveUp 4)))) ∧
  (∀ s : State, let due := s.hostAlive && (s.validAbove hostSensors 1840 || decide (2 ≤ s.failedOf hostSensors))
    let now := s.validAbove hostSensors 2000 || s.nv.jobs.isEmpty
    (due = false → Sys2Proof.Machine.exec .hostShutdown s = .next s) ∧
    (due = true → now = true → ∃ t : State, Sys2Proof.Machine.exec .hostShutdown s = .next t ∧ t.pins.hostShut = true ∧ t.bit hhFlags.addr 2 = true ∧
      (∀ k, t.linkSt (.hl k) = 0) ∧ t.nv.jobs = [] ∧ ∀ e, t.eng e = s.eng e) ∧
    (due = true → now = false → Sys2Proof.Machine.exec .hostShutdown s = .next (s.setBit aHhStatus 24 true))) ∧
  (∀ (s : State) (vout st : BitVec 16) (busOk : Bool), let runs := s.fieldAlive && s.bit aAvCtrl 0 && decide (s.ctlMode .fm < 3)
    let e := Sys2Proof.Machine.exec (.avAdjust vout st busOk) s
    (runs = false → e = .next s) ∧
    (runs = true → busOk = false → ∃ t : State, e = .next t ∧ t.bit fhFlags.addr 9 = true ∧ t.avSteps = s.avSteps ∧ t.sent = s.sent ∧ s.tilesKept t) ∧
    (runs = true → busOk = true → ∃ t : State, e = .next t ∧ t.reg 0x10050028 = st ++ vout ∧ t.thermal.avOff = s.voutOff vout ∧ s.tilesKept t ∧
      (st ≠ 0 → t.bit fhFlags.addr 11 = true) ∧ (s.voutOff vout = true → s.thermal.avOff = true → t.bit fhFlags.addr 10 = true) ∧
      (s.marginShort = false → t.avSteps = s.avSteps ∧ t.sent = s.sent) ∧
      (s.marginShort = true → s.avSteps < 20 → t.avSteps = s.avSteps + 1 ∧ ∃ w : BitVec 16,
        t.sent = s.sent ++ [.pmbus (s.fld aAvCtrl 9 3) 0x21 w (s.bit aAvCtrl 1) (s.bit aAvCtrl 2)] ∧
        (let n : Int := t.avTenths * 2 ^ (-s.avExp).toNat
         let m : Int := 10000 * 2 ^ s.avExp.toNat
         n / m ≤ 65534 → w.toNat = n / m ∨ (n % m ≠ 0 ∧ w.toNat = n / m + 1))) ∧
      (s.marginShort = true → 20 ≤ s.avSteps → t.bit aAvStatus 5 = true ∧ t.bit fhFlags.addr 8 = true ∧ t.avSteps = s.avSteps))) ∧
  (∀ (s : State) (margins : List (Fin 96 × Int)), let runs := s.fieldAlive && s.clk.run && !s.fieldShut
    (runs = false → Sys2Proof.Machine.exec (.canaryMeasurement margins) s = .next s) ∧
    (runs = true → ∃ t : State, Sys2Proof.Machine.exec (.canaryMeasurement margins) s = .next t ∧ s.tilesKept t ∧
      (∀ (n : Fin 96) (m : Int) (before : List (Fin 96 × Int)), margins = before ++ [(n, m)] → t.reg (aCanary n) = BitVec.ofNat 32 (tempField m)) ∧
      (∀ x ∈ margins, x.2 < 0 → t.bit canaryFlags.addr 0 = true)))

/-- Housekeeping conversions, injections and calibrations, the wear estimate and its saving, the relocking of test access. (R399, R400, R401, R405, R409, R410, R413, R420) -/
def Obligations.HousekeepingWearAndTestAccess : Prop :=
  (∀ (s : State) (d : Side) (raw : Int), let x := s.hk d
    let runs := s.sideAlive d && !s.bit (aHkStatus d) 1 && s.bit (aHkStatus d) 0
    let e := Sys2Proof.Machine.exec (.hkConversion d raw) s
    (runs = false → e = .next s) ∧
    (∀ c, runs = true → x.injNow = true → x.inj = some c → ∃ t : State, ∃ v, e = .next t ∧ s.hkValue d raw v ∧ (t.hk d).inj = none ∧
      t.reg (hkAddr d 0xC) = BitVec.ofNat 32 (tempField v + c * 0x10000 + 0x80000000) ∧ t.bit (aHkStatus d) 2 = false ∧ s.tilesKept t) ∧
    (∀ c rest, runs = true → x.injNow = false ∨ x.inj = none → x.left = c :: rest → c < 128 → ∃ t : State, ∃ v, e = .next t ∧ s.hkValue d raw v ∧ s.tilesKept t ∧
      t.reg (hkAddr d (0x100 + 4 * c)) = BitVec.ofNat 32 (tempField v + 0x10000 + (s.fld (aHkStatus d) 31 16 % 256) * 0x1000000) ∧
      t.fld (aHkStatus d) 31 16 = (if rest = [] then (s.fld (aHkStatus d) 31 16 + 1) % 65536 else s.fld (aHkStatus d) 31 16)) ∧
    (runs = true → x.injNow = false ∨ x.inj = none → x.left = [] → ∃ t : State, e = .next t ∧ s.sameRegs t [aHkStatus d] ∧ s.tilesKept t)) ∧
  (∀ (s : State) (d : Side), let may := s.sideAlive d && s.bit (hkAddr d 0) 0 && !s.bit (aHkStatus d) 1
    let idle := !s.bit (aHkStatus d) 0
    let follows := (s.hk d).injNow && (s.hk d).left.isEmpty
    let e := Sys2Proof.Machine.exec (.hkIntervalEnd d) s
    (may = false ∨ (idle = false ∧ follows = false) → e = .next s) ∧
    (may = true → idle = true → s.hkMask d = [] → ∃ t : State, e = .next t ∧ t.bit (aHkStatus d) 0 = false ∧ s.sameRegs t [aHkStatus d]) ∧
    (∀ c cs, may = true → idle = true → s.hkMask d = c :: cs → ∃ t : State, e = .next t ∧ t.bit (aHkStatus d) 0 = true ∧ t.fld (aHkStatus d) 10 4 = c ∧
      t.hk d = { s.hk d with left := c :: cs, scanning := true } ∧ s.sameRegs t [aHkStatus d]) ∧
    (may = true → idle = false → follows = true → e = .next (s.setHk d { s.hk d with left := s.hkMask d, scanning := true }))) ∧
  (∀ (s : State) (d : Side) (v : W32), let e := Sys2Proof.Machine.exec (.hkInject d v) s
    let c := wfld v 6 0
    (s.sideAlive d = false ∨ v.getLsbD 31 = false ∨ (s.hk d).inj.isSome = true → e = .next s) ∧
    (s.sideAlive d = true → v.getLsbD 31 = true → (s.hk d).inj = none → ∃ t : State, e = .next t ∧ t.bit (aHkStatus d) 2 = true ∧ t.bit (hkAddr d 0xC) 31 = false ∧
      (t.hk d).inj = some c ∧ (s.bit (aHkStatus d) 0 = false → (t.hk d).injNow = true ∧ t.fld (aHkStatus d) 10 4 = c ∧ t.bit (aHkStatus d) 0 = true) ∧
      s.sameRegs t [aHkStatus d, hkAddr d 0xC] ∧ s.tilesKept t)) ∧
  (∀ (s : State) (d : Side) (off gain : Int), let fits := decide (-32768 ≤ off ∧ off < 32768 ∧ -131072 ≤ gain ∧ gain < 131072)
    let runs := s.sideAlive d && s.bit (aHkStatus d) 1
    let e := Sys2Proof.Machine.exec (.hkCalDone d off gain) s
    (runs = false → e = .next s) ∧
    (∀ l, runs = true → s.long (hkCtl d) = some l → l.answered = false → ∃ t : State, e = .next t ∧ t.bit (aHkStatus d) 1 = false ∧ t.long (hkCtl d) = none ∧
      (t.hk d).cal = false ∧ s.tilesKept t ∧
      (fits = true → t.reg (hkAddr d 0x10) = (BitVec.ofInt 16 off).setWidth 32 ∧ t.reg (hkAddr d 0x14) = (BitVec.ofInt 18 gain).setWidth 32 ∧
        (s.hostAlive = true → t.nv.jobs.length = s.nv.jobs.length + 1) ∧ (ackReq l.h = true → s.answers t l.h l.op.toNat stOk [])) ∧
      (fits = false → t.reg (hkAddr d 0x10) = s.reg (hkAddr d 0x10) ∧ t.reg (hkAddr d 0x14) = s.reg (hkAddr d 0x14) ∧ t.nv = s.nv ∧
        s.answers t l.h l.op.toNat stInternal []))) ∧
  (∀ (s : State) (canary trim em nv : Nat) (early : Bool),
    (s.hostAlive = false → Sys2Proof.Machine.exec (.wearEstimate canary trim em nv early) s = .next s ∧ Sys2Proof.Machine.exec .wearSave s = .next s) ∧
    (s.hostAlive = true → ∃ t : State, Sys2Proof.Machine.exec (.wearEstimate canary trim em nv early) s = .next t ∧ s.tilesKept t ∧
      t.reg (aMech 3) = BitVec.ofNat 32 (min nv 65535) ∧ t.bit aWear 18 = early ∧ t.bit aWear 19 = !s.hostUp ∧
      (s.hostUp = true → t.reg (aMech 0) = BitVec.ofNat 32 (min canary 65535) ∧ t.reg (aMech 1) = BitVec.ofNat 32 (min trim 65535) ∧
        t.reg (aMech 2) = BitVec.ofNat 32 (min em 65535) ∧
        t.fld aWear 15 0 = min (min (min canary trim) (min em nv)) 65535 ∧
        (t.reg (aMech (t.fld aWear 17 16))).toNat = t.fld aWear 15 0) ∧
      (s.hostUp = false → (∀ k < 3, t.reg (aMech k) = s.reg (aMech k)) ∧ t.bit wearFlags.addr 2 = true)) ∧
    (s.hostAlive = true → ∃ t : State, Sys2Proof.Machine.exec .wearSave s = .next t ∧ s.sameRegs t [aNvStatus] ∧ s.tilesKept t ∧
      t.nv = { s.nv with jobs := s.nv.jobs ++ [NvJob.mk pgWear [] (s.reg 0x00080218 :: (List.range 4).map (fun k => s.reg (aMech k))) none 0] })) ∧
  (∀ (s : State) (d : Side) (v : W32), let e := Sys2Proof.Machine.exec (.bhLock v) s
    (s.bit aBhStatus (bhBit d) = false → Sys2Proof.Machine.exec (.unlockExpiry d) s = .next s) ∧
    (s.bit aBhStatus (bhBit d) = true → ∃ t : State, Sys2Proof.Machine.exec (.unlockExpiry d) s = .next t ∧ t.relocked d ∧
      (∀ o, o ≠ d → t.bit aBhStatus (bhBit o) = s.bit aBhStatus (bhBit o) ∧ ∀ i < 8, t.reg (aSel o i) = s.reg (aSel o i)) ∧
      (∀ e, t.eng e = s.eng e) ∧ s.sameMem t) ∧
    (s.hostAlive = false ∨ v.getLsbD 0 = false → e = .next s) ∧
    (s.hostAlive = true → v.getLsbD 0 = true → ∃ t : State, e = .next t ∧ (∀ o, s.bit aBhStatus (bhBit o) = true → t.relocked o) ∧
      (∀ o, t.bit aBhStatus (bhBit o) = false) ∧ (∀ e, t.eng e = s.eng e) ∧ s.sameMem t))

/-- A valid host sensor reading of 112 degC or more sets HOST_HOT, a lower one does not, and no host sensor moves a throttle level. (R393) -/
def Obligations.HostHotIsSetAndNothingThrottled : Prop :=
  ∀ (s : State) (k : Fin 8) (v : Int),
    (∀ c : Instr, c = .sensorConversion (.host k) v ∨ c = .sensorReferenceCheck (.host k) v ∨ c = .sensorTimeout (.host k) →
      ∃ t : State, Sys2Proof.Machine.exec c s = .next t ∧ ∀ y < 4, t.yokeLevel y = s.yokeLevel y ∧ t.yokePaceReg y = s.yokePaceReg y) ∧
    (s.pins.hostOn = true → s.pins.hostPower = true → s.sensorFailed (64 + k.val) = false → -40 * 16 ≤ v → v ≤ 150 * 16 →
      ∃ t : State, Sys2Proof.Machine.exec (.sensorConversion (.host k) v) s = .next t ∧ t.temp (64 + k.val) = v ∧
        (112 * 16 ≤ v → t.bit hhFlags.addr 1 = true) ∧ (v < 112 * 16 → t.bit hhFlags.addr 1 = s.bit hhFlags.addr 1))

/-- WEAR_2Y and WEAR_6M are set by the first estimate after a host reset at or below their days, once, and raise source 1334. (R411) -/
def Obligations.WearWarningsOncePerReset : Prop :=
  ∀ (s : State) (canary trim em nv : Nat) (early : Bool),
    (s.pins.hostPower = true → s.hostHot = false → ∃ t : State, Sys2Proof.Machine.exec .hostResetN s = .next t ∧ t.wear.said2y = false ∧ t.wear.said6m = false) ∧
    (s.hostAlive = true → ∃ t : State, Sys2Proof.Machine.exec (.wearEstimate canary trim em nv early) s = .next t ∧
      (let n := t.fld aWear 15 0
       let two := decide (n ≤ 730) && !s.wear.said2y
       let six := decide (n ≤ 183) && !s.wear.said6m
       t.bit wearFlags.addr 0 = (two || s.bit wearFlags.addr 0) ∧ t.bit wearFlags.addr 1 = (six || s.bit wearFlags.addr 1) ∧
       t.wear.said2y = (two || s.wear.said2y) ∧ t.wear.said6m = (six || s.wear.said6m) ∧
       ((two && !s.bit wearFlags.addr 0) = true ∨ (six && !s.bit wearFlags.addr 1) = true → t.bit (aPend (1334 / 32)) (1334 % 32) = true)))

/-- Supplies, reset pins and the RESET command: what each side loses and keeps, the cause it records, when a RESET takes effect. (R373, R391, R394, R416, R425, R426, R427, R428, R429, R434) -/
def Obligations.ResetsClearTheirSide : Prop :=
  (∀ (s : State) (d : Side), let powered := if d = .host then s.pins.hostPower else s.pins.fieldPower
    (powered = true → Sys2Proof.Machine.exec (.supplyGood d) s = .next s) ∧
    (powered = false → ∃ t : State, Sys2Proof.Machine.exec (.supplyGood d) s = .next t ∧ s.onlyReg { t with pins := s.pins } (bootAddr d 8) ∧ t.reg (bootAddr d 8) = 0 ∧
      t.pins = (if d = .host then { s.pins with hostPower := true, hostOn := true } else { s.pins with fieldPower := true, fieldOn := true, fieldHot := [] })) ∧
    (powered = false → Sys2Proof.Machine.exec (.supplyLoss d) s = .next s)) ∧
  (∀ s : State, let hostCause := fun (c : Nat) => if s.pins.hostShut then 3 else c
    let fieldCause := fun (c : Nat) => if s.bit aFhStatus 0 then 3 else c
    (s.pins.hostPower = true → (∃ t : State, Sys2Proof.Machine.exec (.supplyLoss .host) s = .next t ∧ t.pins.hostPower = false ∧ t.hostCleared (hostCause 0) 0 ∧ s.hostKept t)) ∧
    (s.pins.hostPower = true → s.hostHot = false →
      ∃ t : State, Sys2Proof.Machine.exec .hostResetN s = .next t ∧ t.pins.hostPower = true ∧ t.hostCleared (hostCause 1) 0 ∧ s.hostKept t ∧ t.nv.jobs = []) ∧
    (s.pins.hostPower = false ∨ s.hostHot = true → Sys2Proof.Machine.exec .hostResetN s = .next s) ∧
    (s.pins.fieldPower = true → (∃ t : State, Sys2Proof.Machine.exec (.supplyLoss .field) s = .next t ∧ t.pins.fieldPower = false ∧ t.fieldCleared (fieldCause 0) 0 ∧
        t.cmd.queue = s.cmd.queue ∧ t.clk.image = s.clk.image) ∧
      ∃ t : State, Sys2Proof.Machine.exec .fieldResetN s = .next t ∧ t.pins.fieldPower = true ∧ t.fieldCleared (fieldCause 1) 0 ∧
        t.cmd.queue = s.cmd.queue ∧ t.clk.image = s.clk.image ∧ t.pins.hostPower = s.pins.hostPower) ∧
    (s.pins.fieldPower = false → Sys2Proof.Machine.exec .fieldResetN s = .next s)) ∧
  (∀ (s : State) (h : Hdr) (w0 : W32), s.hostAlive = true → s.hostReady = true ∨ s.ctlMode .ci = 4 → s.cached h = none → s.gate h 0x7F false = none →
    let e := Sys2Proof.Machine.exec (.reset h w0) s
    (3 ≤ w0.toNat → ∃ t : State, e = .next t ∧ s.refused t h 0x7F stBadParam ∧ t.cmd.resetPend = s.cmd.resetPend) ∧
    (w0.toNat = 1 ∨ w0.toNat = 2 → s.hostUp = false → ∃ t : State, e = .next t ∧ s.refused t h 0x7F stInternal ∧ t.cmd.resetPend = s.cmd.resetPend) ∧
    (w0.toNat < 3 → w0 = 0 ∨ s.hostUp = true → ∃ t : State, e = .next t ∧ (ackReq h = true → s.answers t h 0x7F stOk []) ∧
      t.cmd.resetPend = some (w0.setWidth 2, h.seq) ∧ s.tilesKept t)) ∧
  (∀ s : State,
    (s.cmd.resetPend = none → Sys2Proof.Machine.exec .resetEffect s = .next s) ∧
    (∀ scope seq, s.cmd.resetPend = some (scope, seq) →
      (scope ≠ 1 → s.nv.jobs ≠ [] → Sys2Proof.Machine.exec .resetEffect s = .next { s with nv := { s.nv with jobs := s.nv.jobs.take 1 } }) ∧
      (scope = 1 → ∃ t : State, Sys2Proof.Machine.exec .resetEffect s = .next t ∧ t.cmd.resetPend = none ∧ t.cmd.queue = s.cmd.queue ∧
        (s.cmd.fm = none → t.fieldCleared (if s.bit aFhStatus 0 then 3 else 2) seq)) ∧
      (scope = 0 → s.nv.jobs = [] → ∃ t : State, Sys2Proof.Machine.exec .resetEffect s = .next t ∧ t.cmd.resetPend = none ∧
        t.hostCleared (if s.pins.hostShut then 3 else 2) seq ∧ (s.cmd.ci = none → s.hostKept t)) ∧
      (scope = 2 → s.nv.jobs = [] → s.cmd.ci = none → s.cmd.fm = none → ∃ t : State, Sys2Proof.Machine.exec .resetEffect s = .next t ∧ t.cmd.resetPend = none ∧
        t.hostCleared (if s.pins.hostShut then 3 else 2) seq ∧ (∀ e, t.eng e = Engine.reset) ∧ t.pairState = 0 ∧ t.clk.devtime = 0 ∧
        t.reg (bootAddr .field 8) = causeWord (if s.bit aFhStatus 0 then 3 else 2) seq)))

/-- The host side boots from its store and restores patches; the field side loads its trims, waits for the reference, locks, clears and powers its tiles. (R386, R397, R415, R429, R430, R431, R432, R433, R434, R435, R440) -/
def Obligations.BothSidesBoot : Prop :=
  (∀ s : State, let may := s.pins.hostPower && !s.pins.hostShut && !s.hostReady
    let addr := ((s.nvVals pgAddr).getD []).getD 0 0
    (may = false → Sys2Proof.Machine.exec .hostBoot s = .next s) ∧
    (may = true → ∃ t : State, Sys2Proof.Machine.exec .hostBoot s = .next t ∧ t.hostReady = true ∧ t.pins.hostOn = true ∧ (∀ k, t.linkSt (.hl k) = 1) ∧
      t.bit aHostBoot 1 = true ∧ t.unitAddr = BitVec.ofNat 8 (wfld addr 7 0) ∧ t.pinned = (addr != 0) ∧
      (unitPages.any (fun p => (s.nvCopy p).isNone) = true → t.bit (bootFlags .host).addr 2 = true) ∧
      (s.bootPage = none → t.bit (bootFlags .host).addr 0 = true ∧ t.bit aHostBoot 5 = true) ∧
      (∀ pg, s.bootPage = some pg → t.bit aHostBoot 2 = true ∧ (bootFlag pg 1 = false → t.bit aHostBoot 5 = true)) ∧
      (∀ e, t.eng e = s.eng e) ∧ s.sameMem t ∧ ∀ a, 0x20000000 ≤ a → t.reg a = s.reg a)) ∧
  (∀ s : State, let may := s.hostAlive && s.hostReady && s.hostUp && s.fieldAlive && s.lining.fmDue
    (may = false → Sys2Proof.Machine.exec .fmPatchRestore s = .next s) ∧
    (may = true → s.bootPage = none ∨ (∃ pg, s.bootPage = some pg ∧ bootFlag pg 1 = false) →
      Sys2Proof.Machine.exec .fmPatchRestore s = .next { s with lining := { s.lining with fmDue := false } }) ∧
    (∀ pg, may = true → s.bootPage = some pg → bootFlag pg 1 = true → ∃ t : State, Sys2Proof.Machine.exec .fmPatchRestore s = .next t ∧ t.lining.fmDue = false ∧
      t.bit aHostBoot 5 = true ∧ s.tilesKept t ∧
      (let data := ((s.nvCopy 258).map (·.data)).getD []
       let bad := (s.nvCopy 258).isNone || (s.imageStatus .fm (data.take 0x900) (beWords 16 ((data.drop 0x900).take 64))).isSome
       t.bit aHostBoot 4 = !bad ∧ (bad = true → t.bit (ctrlFlags .fm).addr 3 = true ∧ t.bit (bootFlags .host).addr 1 = true ∧ t.bank .fm = s.bank .fm) ∧
       (bad = false → t.ctlMode .fm = 1 ∧ t.bank .fm = !s.bank .fm ∧ t.bit (ctrlFlags .fm).addr 2 = true)))) ∧
  (∀ s : State, let may := s.pins.fieldPower && s.pins.fieldHot.isEmpty && !s.bit aFieldBoot 5
    (may = false → Sys2Proof.Machine.exec .fieldResetRelease s = .next s) ∧
    (may = true → ∃ t : State, Sys2Proof.Machine.exec .fieldResetRelease s = .next t ∧ t.pins.fieldOn = true ∧ t.bit aFieldBoot 5 = true ∧
      (∀ n < 48, ∀ x ∈ tileTrims n, t.reg x.1 = BitVec.ofInt 32 (s.trimEntry 3 x.1) &&& BitVec.ofNat 32 (2 ^ x.2 - 1)) ∧
      t.avSteps = (((s.nvVals pgSteps).getD []).getD 0 0).toNat % 32 ∧ (s.trimsBad = true → t.bit (bootFlags .field).addr 1 = true) ∧
      t.bit aFieldBoot 6 = (s.bit aFieldBoot 6 || (s.bit aFieldBoot 1 && s.bit aFieldBoot 2 && s.bit aFieldBoot 3 && s.bit aFieldBoot 4)) ∧
      (∀ e, t.eng e = s.eng e) ∧ s.sameMem t)) ∧
  (∀ s : State,
    (s.fieldAlive = false → Sys2Proof.Machine.exec .refclkValid s = .next s ∧ Sys2Proof.Machine.exec .refLost s = .next s ∧ Sys2Proof.Machine.exec .pllLock s = .next s ∧
      Sys2Proof.Machine.exec .memClearDone s = .next s) ∧
    (s.fieldAlive = true → ∃ t : State, Sys2Proof.Machine.exec .refclkValid s = .next t ∧ s.onlyReg t aFieldBoot ∧ t.refPresent = true) ∧
    (s.fieldAlive = true → s.pllLocked = false → ∃ t : State, Sys2Proof.Machine.exec .refLost s = .next t ∧ s.onlyReg t aFieldBoot ∧ t.refPresent = false) ∧
    (s.fieldAlive = true → s.pllLocked = true → let hot := if s.fieldShut then fieldSensors.filter (fun k => s.validAbove [k] 1601) else []
      ∃ t : State, Sys2Proof.Machine.exec .refLost s = .next t ∧ t.pins.fieldHot = hot ∧ t.refPresent = false ∧ t.pllLocked = false ∧
      t.bit (bootFlags .field).addr 0 = true ∧ t.reg (bootAddr .field 8) = causeWord 4 0 ∧ t.pins.fieldOn = hot.isEmpty ∧ t.bit aFieldBoot 5 = hot.isEmpty ∧
      t.clk.devtime = 0 ∧ t.clk.run = false ∧ (∀ e, t.eng e = Engine.reset) ∧ t.pairState = 0 ∧ t.cmd.queue = s.cmd.queue) ∧
    (s.refPresent = false ∨ s.pllLocked = true → Sys2Proof.Machine.exec .pllLock s = .next s) ∧
    (s.fieldAlive = true → s.refPresent = true → s.pllLocked = false → ∃ t : State, Sys2Proof.Machine.exec .pllLock s = .next t ∧ t.pllLocked = true ∧
      t.clk.run = true ∧ t.clk.devtime = s.clk.devtime ∧ s.tilesKept t ∧ t.hem.requests = s.hem.requests ++
        (List.range 48).map (fun n => { kind := .tile n false, arrival := s.pin, use := none, eng := engOfTile n 0 }) ∧
      t.bit aFieldBoot 6 = (s.bit aFieldBoot 6 || (s.bit aFieldBoot 2 && s.bit aFieldBoot 3 && s.bit aFieldBoot 4 && s.bit aFieldBoot 5))) ∧
    (s.fieldAlive = true → ∃ t : State, Sys2Proof.Machine.exec .memClearDone s = .next t ∧ t.memCleared = true ∧ s.sameRegs t [aFieldBoot, 0x1000010C] ∧
      (∀ e, t.eng e = s.eng e) ∧ s.sameMem t ∧
      t.bit aFieldBoot 6 = (s.bit aFieldBoot 6 || (s.bit aFieldBoot 1 && s.bit aFieldBoot 3 && s.bit aFieldBoot 4 && s.bit aFieldBoot 5)))) ∧
  (∀ (s : State) (n : Tile),
    (tabFind s.hem.tileWait n = none → Sys2Proof.Machine.exec (.tilePowerUpDone n) s = .next s) ∧
    (∀ b, tabFind s.hem.tileWait n = some b → ∃ t : State, Sys2Proof.Machine.exec (.tilePowerUpDone n) s = .next t ∧ tabFind t.hem.tileWait n = none ∧
      s.sameRegs t [aFieldBoot, 0x1000010C] ∧ (∀ e, t.eng e = s.eng e) ∧ s.sameMem t ∧
      (t.tilesDue = false → t.bit aFieldBoot 3 = true ∧
        t.bit aFieldBoot 6 = (s.bit aFieldBoot 6 || (s.bit aFieldBoot 1 && s.bit aFieldBoot 2 && s.bit aFieldBoot 4 && s.bit aFieldBoot 5))) ∧
      (t.tilesDue = true → s.sameRegs t [])))
end

