-- ==== Sys2Proof/Laws/State.lean ====
section
/-! SUPPORT. What each named update of State leaves unchanged: one lemma per field and update, all by rfl. -/

namespace Sys2Proof.Machine

@[simp] theorem State.setReg_pending (s : State) (a : Nat) (v : W32) : (s.setReg a v).pending = s.pending := rfl
@[simp] theorem State.setReg_work (s : State) (a : Nat) (v : W32) : (s.setReg a v).work = s.work := rfl
@[simp] theorem State.setReg_mem (s : State) (a : Nat) (v : W32) : (s.setReg a v).mem = s.mem := rfl
@[simp] theorem State.setReg_clk (s : State) (a : Nat) (v : W32) : (s.setReg a v).clk = s.clk := rfl
@[simp] theorem State.setReg_hem (s : State) (a : Nat) (v : W32) : (s.setReg a v).hem = s.hem := rfl
@[simp] theorem State.setReg_synth (s : State) (a : Nat) (v : W32) : (s.setReg a v).synth = s.synth := rfl
@[simp] theorem State.setReg_engines (s : State) (a : Nat) (v : W32) : (s.setReg a v).engines = s.engines := rfl
@[simp] theorem State.setReg_sets (s : State) (a : Nat) (v : W32) : (s.setReg a v).sets = s.sets := rfl
@[simp] theorem State.setReg_syncs (s : State) (a : Nat) (v : W32) : (s.setReg a v).syncs = s.syncs := rfl
@[simp] theorem State.setReg_nextSet (s : State) (a : Nat) (v : W32) : (s.setReg a v).nextSet = s.nextSet := rfl
@[simp] theorem State.setReg_frameAux (s : State) (a : Nat) (v : W32) : (s.setReg a v).frameAux = s.frameAux := rfl
@[simp] theorem State.setReg_chans (s : State) (a : Nat) (v : W32) : (s.setReg a v).chans = s.chans := rfl
@[simp] theorem State.setReg_onet (s : State) (a : Nat) (v : W32) : (s.setReg a v).onet = s.onet := rfl
@[simp] theorem State.setReg_mend (s : State) (a : Nat) (v : W32) : (s.setReg a v).mend = s.mend := rfl
@[simp] theorem State.setReg_dma (s : State) (a : Nat) (v : W32) : (s.setReg a v).dma = s.dma := rfl
@[simp] theorem State.setReg_pockets (s : State) (a : Nat) (v : W32) : (s.setReg a v).pockets = s.pockets := rfl
@[simp] theorem State.setReg_links (s : State) (a : Nat) (v : W32) : (s.setReg a v).links = s.links := rfl
@[simp] theorem State.setReg_cmd (s : State) (a : Nat) (v : W32) : (s.setReg a v).cmd = s.cmd := rfl
@[simp] theorem State.setReg_evt (s : State) (a : Nat) (v : W32) : (s.setReg a v).evt = s.evt := rfl
@[simp] theorem State.setReg_lining (s : State) (a : Nat) (v : W32) : (s.setReg a v).lining = s.lining := rfl
@[simp] theorem State.setReg_thermal (s : State) (a : Nat) (v : W32) : (s.setReg a v).thermal = s.thermal := rfl
@[simp] theorem State.setReg_hkHost (s : State) (a : Nat) (v : W32) : (s.setReg a v).hkHost = s.hkHost := rfl
@[simp] theorem State.setReg_hkField (s : State) (a : Nat) (v : W32) : (s.setReg a v).hkField = s.hkField := rfl
@[simp] theorem State.setReg_wear (s : State) (a : Nat) (v : W32) : (s.setReg a v).wear = s.wear := rfl
@[simp] theorem State.setReg_time (s : State) (a : Nat) (v : W32) : (s.setReg a v).time = s.time := rfl
@[simp] theorem State.setReg_pair (s : State) (a : Nat) (v : W32) : (s.setReg a v).pair = s.pair := rfl
@[simp] theorem State.setReg_ci (s : State) (a : Nat) (v : W32) : (s.setReg a v).ci = s.ci := rfl
@[simp] theorem State.setReg_fm (s : State) (a : Nat) (v : W32) : (s.setReg a v).fm = s.fm := rfl
@[simp] theorem State.setReg_banks (s : State) (a : Nat) (v : W32) : (s.setReg a v).banks = s.banks := rfl
@[simp] theorem State.setReg_nv (s : State) (a : Nat) (v : W32) : (s.setReg a v).nv = s.nv := rfl
@[simp] theorem State.setReg_pins (s : State) (a : Nat) (v : W32) : (s.setReg a v).pins = s.pins := rfl
@[simp] theorem State.setReg_sent (s : State) (a : Nat) (v : W32) : (s.setReg a v).sent = s.sent := rfl
@[simp] theorem State.setReg_free (s : State) (a : Nat) (v : W32) : (s.setReg a v).free = s.free := rfl

@[simp] theorem State.setWork_pending (s : State) (a : Nat) (v : W32) : (s.setWork a v).pending = s.pending := rfl
@[simp] theorem State.setWork_regs (s : State) (a : Nat) (v : W32) : (s.setWork a v).regs = s.regs := rfl
@[simp] theorem State.setWork_mem (s : State) (a : Nat) (v : W32) : (s.setWork a v).mem = s.mem := rfl
@[simp] theorem State.setWork_clk (s : State) (a : Nat) (v : W32) : (s.setWork a v).clk = s.clk := rfl
@[simp] theorem State.setWork_hem (s : State) (a : Nat) (v : W32) : (s.setWork a v).hem = s.hem := rfl
@[simp] theorem State.setWork_synth (s : State) (a : Nat) (v : W32) : (s.setWork a v).synth = s.synth := rfl
@[simp] theorem State.setWork_engines (s : State) (a : Nat) (v : W32) : (s.setWork a v).engines = s.engines := rfl
@[simp] theorem State.setWork_sets (s : State) (a : Nat) (v : W32) : (s.setWork a v).sets = s.sets := rfl
@[simp] theorem State.setWork_syncs (s : State) (a : Nat) (v : W32) : (s.setWork a v).syncs = s.syncs := rfl
@[simp] theorem State.setWork_nextSet (s : State) (a : Nat) (v : W32) : (s.setWork a v).nextSet = s.nextSet := rfl
@[simp] theorem State.setWork_frameAux (s : State) (a : Nat) (v : W32) : (s.setWork a v).frameAux = s.frameAux := rfl
@[simp] theorem State.setWork_chans (s : State) (a : Nat) (v : W32) : (s.setWork a v).chans = s.chans := rfl
@[simp] theorem State.setWork_onet (s : State) (a : Nat) (v : W32) : (s.setWork a v).onet = s.onet := rfl
@[simp] theorem State.setWork_mend (s : State) (a : Nat) (v : W32) : (s.setWork a v).mend = s.mend := rfl
@[simp] theorem State.setWork_dma (s : State) (a : Nat) (v : W32) : (s.setWork a v).dma = s.dma := rfl
@[simp] theorem State.setWork_pockets (s : State) (a : Nat) (v : W32) : (s.setWork a v).pockets = s.pockets := rfl
@[simp] theorem State.setWork_links (s : State) (a : Nat) (v : W32) : (s.setWork a v).links = s.links := rfl
@[simp] theorem State.setWork_cmd (s : State) (a : Nat) (v : W32) : (s.setWork a v).cmd = s.cmd := rfl
@[simp] theorem State.setWork_evt (s : State) (a : Nat) (v : W32) : (s.setWork a v).evt = s.evt := rfl
@[simp] theorem State.setWork_lining (s : State) (a : Nat) (v : W32) : (s.setWork a v).lining = s.lining := rfl
@[simp] theorem State.setWork_thermal (s : State) (a : Nat) (v : W32) : (s.setWork a v).thermal = s.thermal := rfl
@[simp] theorem State.setWork_hkHost (s : State) (a : Nat) (v : W32) : (s.setWork a v).hkHost = s.hkHost := rfl
@[simp] theorem State.setWork_hkField (s : State) (a : Nat) (v : W32) : (s.setWork a v).hkField = s.hkField := rfl
@[simp] theorem State.setWork_wear (s : State) (a : Nat) (v : W32) : (s.setWork a v).wear = s.wear := rfl
@[simp] theorem State.setWork_time (s : State) (a : Nat) (v : W32) : (s.setWork a v).time = s.time := rfl
@[simp] theorem State.setWork_pair (s : State) (a : Nat) (v : W32) : (s.setWork a v).pair = s.pair := rfl
@[simp] theorem State.setWork_ci (s : State) (a : Nat) (v : W32) : (s.setWork a v).ci = s.ci := rfl
@[simp] theorem State.setWork_fm (s : State) (a : Nat) (v : W32) : (s.setWork a v).fm = s.fm := rfl
@[simp] theorem State.setWork_banks (s : State) (a : Nat) (v : W32) : (s.setWork a v).banks = s.banks := rfl
@[simp] theorem State.setWork_nv (s : State) (a : Nat) (v : W32) : (s.setWork a v).nv = s.nv := rfl
@[simp] theorem State.setWork_pins (s : State) (a : Nat) (v : W32) : (s.setWork a v).pins = s.pins := rfl
@[simp] theorem State.setWork_sent (s : State) (a : Nat) (v : W32) : (s.setWork a v).sent = s.sent := rfl
@[simp] theorem State.setWork_free (s : State) (a : Nat) (v : W32) : (s.setWork a v).free = s.free := rfl

@[simp] theorem State.setFld_pending (s : State) (a hi lo n : Nat) : (s.setFld a hi lo n).pending = s.pending := rfl
@[simp] theorem State.setFld_work (s : State) (a hi lo n : Nat) : (s.setFld a hi lo n).work = s.work := rfl
@[simp] theorem State.setFld_mem (s : State) (a hi lo n : Nat) : (s.setFld a hi lo n).mem = s.mem := rfl
@[simp] theorem State.setFld_clk (s : State) (a hi lo n : Nat) : (s.setFld a hi lo n).clk = s.clk := rfl
@[simp] theorem State.setFld_hem (s : State) (a hi lo n : Nat) : (s.setFld a hi lo n).hem = s.hem := rfl
@[simp] theorem State.setFld_synth (s : State) (a hi lo n : Nat) : (s.setFld a hi lo n).synth = s.synth := rfl
@[simp] theorem State.setFld_engines (s : State) (a hi lo n : Nat) : (s.setFld a hi lo n).engines = s.engines := rfl
@[simp] theorem State.setFld_sets (s : State) (a hi lo n : Nat) : (s.setFld a hi lo n).sets = s.sets := rfl
@[simp] theorem State.setFld_syncs (s : State) (a hi lo n : Nat) : (s.setFld a hi lo n).syncs = s.syncs := rfl
@[simp] theorem State.setFld_nextSet (s : State) (a hi lo n : Nat) : (s.setFld a hi lo n).nextSet = s.nextSet := rfl
@[simp] theorem State.setFld_frameAux (s : State) (a hi lo n : Nat) : (s.setFld a hi lo n).frameAux = s.frameAux := rfl
@[simp] theorem State.setFld_chans (s : State) (a hi lo n : Nat) : (s.setFld a hi lo n).chans = s.chans := rfl
@[simp] theorem State.setFld_onet (s : State) (a hi lo n : Nat) : (s.setFld a hi lo n).onet = s.onet := rfl
@[simp] theorem State.setFld_mend (s : State) (a hi lo n : Nat) : (s.setFld a hi lo n).mend = s.mend := rfl
@[simp] theorem State.setFld_dma (s : State) (a hi lo n : Nat) : (s.setFld a hi lo n).dma = s.dma := rfl
@[simp] theorem State.setFld_pockets (s : State) (a hi lo n : Nat) : (s.setFld a hi lo n).pockets = s.pockets := rfl
@[simp] theorem State.setFld_links (s : State) (a hi lo n : Nat) : (s.setFld a hi lo n).links = s.links := rfl
@[simp] theorem State.setFld_cmd (s : State) (a hi lo n : Nat) : (s.setFld a hi lo n).cmd = s.cmd := rfl
@[simp] theorem State.setFld_evt (s : State) (a hi lo n : Nat) : (s.setFld a hi lo n).evt = s.evt := rfl
@[simp] theorem State.setFld_lining (s : State) (a hi lo n : Nat) : (s.setFld a hi lo n).lining = s.lining := rfl
@[simp] theorem State.setFld_thermal (s : State) (a hi lo n : Nat) : (s.setFld a hi lo n).thermal = s.thermal := rfl
@[simp] theorem State.setFld_hkHost (s : State) (a hi lo n : Nat) : (s.setFld a hi lo n).hkHost = s.hkHost := rfl
@[simp] theorem State.setFld_hkField (s : State) (a hi lo n : Nat) : (s.setFld a hi lo n).hkField = s.hkField := rfl
@[simp] theorem State.setFld_wear (s : State) (a hi lo n : Nat) : (s.setFld a hi lo n).wear = s.wear := rfl
@[simp] theorem State.setFld_time (s : State) (a hi lo n : Nat) : (s.setFld a hi lo n).time = s.time := rfl
@[simp] theorem State.setFld_pair (s : State) (a hi lo n : Nat) : (s.setFld a hi lo n).pair = s.pair := rfl
@[simp] theorem State.setFld_ci (s : State) (a hi lo n : Nat) : (s.setFld a hi lo n).ci = s.ci := rfl
@[simp] theorem State.setFld_fm (s : State) (a hi lo n : Nat) : (s.setFld a hi lo n).fm = s.fm := rfl
@[simp] theorem State.setFld_banks (s : State) (a hi lo n : Nat) : (s.setFld a hi lo n).banks = s.banks := rfl
@[simp] theorem State.setFld_nv (s : State) (a hi lo n : Nat) : (s.setFld a hi lo n).nv = s.nv := rfl
@[simp] theorem State.setFld_pins (s : State) (a hi lo n : Nat) : (s.setFld a hi lo n).pins = s.pins := rfl
@[simp] theorem State.setFld_sent (s : State) (a hi lo n : Nat) : (s.setFld a hi lo n).sent = s.sent := rfl
@[simp] theorem State.setFld_free (s : State) (a hi lo n : Nat) : (s.setFld a hi lo n).free = s.free := rfl

@[simp] theorem State.setBit_pending (s : State) (a b : Nat) (v : Bool) : (s.setBit a b v).pending = s.pending := rfl
@[simp] theorem State.setBit_work (s : State) (a b : Nat) (v : Bool) : (s.setBit a b v).work = s.work := rfl
@[simp] theorem State.setBit_mem (s : State) (a b : Nat) (v : Bool) : (s.setBit a b v).mem = s.mem := rfl
@[simp] theorem State.setBit_clk (s : State) (a b : Nat) (v : Bool) : (s.setBit a b v).clk = s.clk := rfl
@[simp] theorem State.setBit_hem (s : State) (a b : Nat) (v : Bool) : (s.setBit a b v).hem = s.hem := rfl
@[simp] theorem State.setBit_synth (s : State) (a b : Nat) (v : Bool) : (s.setBit a b v).synth = s.synth := rfl
@[simp] theorem State.setBit_engines (s : State) (a b : Nat) (v : Bool) : (s.setBit a b v).engines = s.engines := rfl
@[simp] theorem State.setBit_sets (s : State) (a b : Nat) (v : Bool) : (s.setBit a b v).sets = s.sets := rfl
@[simp] theorem State.setBit_syncs (s : State) (a b : Nat) (v : Bool) : (s.setBit a b v).syncs = s.syncs := rfl
@[simp] theorem State.setBit_nextSet (s : State) (a b : Nat) (v : Bool) : (s.setBit a b v).nextSet = s.nextSet := rfl
@[simp] theorem State.setBit_frameAux (s : State) (a b : Nat) (v : Bool) : (s.setBit a b v).frameAux = s.frameAux := rfl
@[simp] theorem State.setBit_chans (s : State) (a b : Nat) (v : Bool) : (s.setBit a b v).chans = s.chans := rfl
@[simp] theorem State.setBit_onet (s : State) (a b : Nat) (v : Bool) : (s.setBit a b v).onet = s.onet := rfl
@[simp] theorem State.setBit_mend (s : State) (a b : Nat) (v : Bool) : (s.setBit a b v).mend = s.mend := rfl
@[simp] theorem State.setBit_dma (s : State) (a b : Nat) (v : Bool) : (s.setBit a b v).dma = s.dma := rfl
@[simp] theorem State.setBit_pockets (s : State) (a b : Nat) (v : Bool) : (s.setBit a b v).pockets = s.pockets := rfl
@[simp] theorem State.setBit_links (s : State) (a b : Nat) (v : Bool) : (s.setBit a b v).links = s.links := rfl
@[simp] theorem State.setBit_cmd (s : State) (a b : Nat) (v : Bool) : (s.setBit a b v).cmd = s.cmd := rfl
@[simp] theorem State.setBit_evt (s : State) (a b : Nat) (v : Bool) : (s.setBit a b v).evt = s.evt := rfl
@[simp] theorem State.setBit_lining (s : State) (a b : Nat) (v : Bool) : (s.setBit a b v).lining = s.lining := rfl
@[simp] theorem State.setBit_thermal (s : State) (a b : Nat) (v : Bool) : (s.setBit a b v).thermal = s.thermal := rfl
@[simp] theorem State.setBit_hkHost (s : State) (a b : Nat) (v : Bool) : (s.setBit a b v).hkHost = s.hkHost := rfl
@[simp] theorem State.setBit_hkField (s : State) (a b : Nat) (v : Bool) : (s.setBit a b v).hkField = s.hkField := rfl
@[simp] theorem State.setBit_wear (s : State) (a b : Nat) (v : Bool) : (s.setBit a b v).wear = s.wear := rfl
@[simp] theorem State.setBit_time (s : State) (a b : Nat) (v : Bool) : (s.setBit a b v).time = s.time := rfl
@[simp] theorem State.setBit_pair (s : State) (a b : Nat) (v : Bool) : (s.setBit a b v).pair = s.pair := rfl
@[simp] theorem State.setBit_ci (s : State) (a b : Nat) (v : Bool) : (s.setBit a b v).ci = s.ci := rfl
@[simp] theorem State.setBit_fm (s : State) (a b : Nat) (v : Bool) : (s.setBit a b v).fm = s.fm := rfl
@[simp] theorem State.setBit_banks (s : State) (a b : Nat) (v : Bool) : (s.setBit a b v).banks = s.banks := rfl
@[simp] theorem State.setBit_nv (s : State) (a b : Nat) (v : Bool) : (s.setBit a b v).nv = s.nv := rfl
@[simp] theorem State.setBit_pins (s : State) (a b : Nat) (v : Bool) : (s.setBit a b v).pins = s.pins := rfl
@[simp] theorem State.setBit_sent (s : State) (a b : Nat) (v : Bool) : (s.setBit a b v).sent = s.sent := rfl
@[simp] theorem State.setBit_free (s : State) (a b : Nat) (v : Bool) : (s.setBit a b v).free = s.free := rfl

@[simp] theorem State.addSat_pending (s : State) (a n : Nat) : (s.addSat a n).pending = s.pending := rfl
@[simp] theorem State.addSat_work (s : State) (a n : Nat) : (s.addSat a n).work = s.work := rfl
@[simp] theorem State.addSat_mem (s : State) (a n : Nat) : (s.addSat a n).mem = s.mem := rfl
@[simp] theorem State.addSat_clk (s : State) (a n : Nat) : (s.addSat a n).clk = s.clk := rfl
@[simp] theorem State.addSat_hem (s : State) (a n : Nat) : (s.addSat a n).hem = s.hem := rfl
@[simp] theorem State.addSat_synth (s : State) (a n : Nat) : (s.addSat a n).synth = s.synth := rfl
@[simp] theorem State.addSat_engines (s : State) (a n : Nat) : (s.addSat a n).engines = s.engines := rfl
@[simp] theorem State.addSat_sets (s : State) (a n : Nat) : (s.addSat a n).sets = s.sets := rfl
@[simp] theorem State.addSat_syncs (s : State) (a n : Nat) : (s.addSat a n).syncs = s.syncs := rfl
@[simp] theorem State.addSat_nextSet (s : State) (a n : Nat) : (s.addSat a n).nextSet = s.nextSet := rfl
@[simp] theorem State.addSat_frameAux (s : State) (a n : Nat) : (s.addSat a n).frameAux = s.frameAux := rfl
@[simp] theorem State.addSat_chans (s : State) (a n : Nat) : (s.addSat a n).chans = s.chans := rfl
@[simp] theorem State.addSat_onet (s : State) (a n : Nat) : (s.addSat a n).onet = s.onet := rfl
@[simp] theorem State.addSat_mend (s : State) (a n : Nat) : (s.addSat a n).mend = s.mend := rfl
@[simp] theorem State.addSat_dma (s : State) (a n : Nat) : (s.addSat a n).dma = s.dma := rfl
@[simp] theorem State.addSat_pockets (s : State) (a n : Nat) : (s.addSat a n).pockets = s.pockets := rfl
@[simp] theorem State.addSat_links (s : State) (a n : Nat) : (s.addSat a n).links = s.links := rfl
@[simp] theorem State.addSat_cmd (s : State) (a n : Nat) : (s.addSat a n).cmd = s.cmd := rfl
@[simp] theorem State.addSat_evt (s : State) (a n : Nat) : (s.addSat a n).evt = s.evt := rfl
@[simp] theorem State.addSat_lining (s : State) (a n : Nat) : (s.addSat a n).lining = s.lining := rfl
@[simp] theorem State.addSat_thermal (s : State) (a n : Nat) : (s.addSat a n).thermal = s.thermal := rfl
@[simp] theorem State.addSat_hkHost (s : State) (a n : Nat) : (s.addSat a n).hkHost = s.hkHost := rfl
@[simp] theorem State.addSat_hkField (s : State) (a n : Nat) : (s.addSat a n).hkField = s.hkField := rfl
@[simp] theorem State.addSat_wear (s : State) (a n : Nat) : (s.addSat a n).wear = s.wear := rfl
@[simp] theorem State.addSat_time (s : State) (a n : Nat) : (s.addSat a n).time = s.time := rfl
@[simp] theorem State.addSat_pair (s : State) (a n : Nat) : (s.addSat a n).pair = s.pair := rfl
@[simp] theorem State.addSat_ci (s : State) (a n : Nat) : (s.addSat a n).ci = s.ci := rfl
@[simp] theorem State.addSat_fm (s : State) (a n : Nat) : (s.addSat a n).fm = s.fm := rfl
@[simp] theorem State.addSat_banks (s : State) (a n : Nat) : (s.addSat a n).banks = s.banks := rfl
@[simp] theorem State.addSat_nv (s : State) (a n : Nat) : (s.addSat a n).nv = s.nv := rfl
@[simp] theorem State.addSat_pins (s : State) (a n : Nat) : (s.addSat a n).pins = s.pins := rfl
@[simp] theorem State.addSat_sent (s : State) (a n : Nat) : (s.addSat a n).sent = s.sent := rfl
@[simp] theorem State.addSat_free (s : State) (a n : Nat) : (s.addSat a n).free = s.free := rfl

@[simp] theorem State.setByte_pending (s : State) (a : Nat) (v : Byte) : (s.setByte a v).pending = s.pending := rfl
@[simp] theorem State.setByte_regs (s : State) (a : Nat) (v : Byte) : (s.setByte a v).regs = s.regs := rfl
@[simp] theorem State.setByte_work (s : State) (a : Nat) (v : Byte) : (s.setByte a v).work = s.work := rfl
@[simp] theorem State.setByte_clk (s : State) (a : Nat) (v : Byte) : (s.setByte a v).clk = s.clk := rfl
@[simp] theorem State.setByte_hem (s : State) (a : Nat) (v : Byte) : (s.setByte a v).hem = s.hem := rfl
@[simp] theorem State.setByte_synth (s : State) (a : Nat) (v : Byte) : (s.setByte a v).synth = s.synth := rfl
@[simp] theorem State.setByte_engines (s : State) (a : Nat) (v : Byte) : (s.setByte a v).engines = s.engines := rfl
@[simp] theorem State.setByte_sets (s : State) (a : Nat) (v : Byte) : (s.setByte a v).sets = s.sets := rfl
@[simp] theorem State.setByte_syncs (s : State) (a : Nat) (v : Byte) : (s.setByte a v).syncs = s.syncs := rfl
@[simp] theorem State.setByte_nextSet (s : State) (a : Nat) (v : Byte) : (s.setByte a v).nextSet = s.nextSet := rfl
@[simp] theorem State.setByte_frameAux (s : State) (a : Nat) (v : Byte) : (s.setByte a v).frameAux = s.frameAux := rfl
@[simp] theorem State.setByte_chans (s : State) (a : Nat) (v : Byte) : (s.setByte a v).chans = s.chans := rfl
@[simp] theorem State.setByte_onet (s : State) (a : Nat) (v : Byte) : (s.setByte a v).onet = s.onet := rfl
@[simp] theorem State.setByte_mend (s : State) (a : Nat) (v : Byte) : (s.setByte a v).mend = s.mend := rfl
@[simp] theorem State.setByte_dma (s : State) (a : Nat) (v : Byte) : (s.setByte a v).dma = s.dma := rfl
@[simp] theorem State.setByte_pockets (s : State) (a : Nat) (v : Byte) : (s.setByte a v).pockets = s.pockets := rfl
@[simp] theorem State.setByte_links (s : State) (a : Nat) (v : Byte) : (s.setByte a v).links = s.links := rfl
@[simp] theorem State.setByte_cmd (s : State) (a : Nat) (v : Byte) : (s.setByte a v).cmd = s.cmd := rfl
@[simp] theorem State.setByte_evt (s : State) (a : Nat) (v : Byte) : (s.setByte a v).evt = s.evt := rfl
@[simp] theorem State.setByte_lining (s : State) (a : Nat) (v : Byte) : (s.setByte a v).lining = s.lining := rfl
@[simp] theorem State.setByte_thermal (s : State) (a : Nat) (v : Byte) : (s.setByte a v).thermal = s.thermal := rfl
@[simp] theorem State.setByte_hkHost (s : State) (a : Nat) (v : Byte) : (s.setByte a v).hkHost = s.hkHost := rfl
@[simp] theorem State.setByte_hkField (s : State) (a : Nat) (v : Byte) : (s.setByte a v).hkField = s.hkField := rfl
@[simp] theorem State.setByte_wear (s : State) (a : Nat) (v : Byte) : (s.setByte a v).wear = s.wear := rfl
@[simp] theorem State.setByte_time (s : State) (a : Nat) (v : Byte) : (s.setByte a v).time = s.time := rfl
@[simp] theorem State.setByte_pair (s : State) (a : Nat) (v : Byte) : (s.setByte a v).pair = s.pair := rfl
@[simp] theorem State.setByte_ci (s : State) (a : Nat) (v : Byte) : (s.setByte a v).ci = s.ci := rfl
@[simp] theorem State.setByte_fm (s : State) (a : Nat) (v : Byte) : (s.setByte a v).fm = s.fm := rfl
@[simp] theorem State.setByte_banks (s : State) (a : Nat) (v : Byte) : (s.setByte a v).banks = s.banks := rfl
@[simp] theorem State.setByte_nv (s : State) (a : Nat) (v : Byte) : (s.setByte a v).nv = s.nv := rfl
@[simp] theorem State.setByte_pins (s : State) (a : Nat) (v : Byte) : (s.setByte a v).pins = s.pins := rfl
@[simp] theorem State.setByte_sent (s : State) (a : Nat) (v : Byte) : (s.setByte a v).sent = s.sent := rfl
@[simp] theorem State.setByte_free (s : State) (a : Nat) (v : Byte) : (s.setByte a v).free = s.free := rfl

@[simp] theorem State.setWord_pending (s : State) (a : Nat) (v : W32) : (s.setWord a v).pending = s.pending := rfl
@[simp] theorem State.setWord_regs (s : State) (a : Nat) (v : W32) : (s.setWord a v).regs = s.regs := rfl
@[simp] theorem State.setWord_work (s : State) (a : Nat) (v : W32) : (s.setWord a v).work = s.work := rfl
@[simp] theorem State.setWord_clk (s : State) (a : Nat) (v : W32) : (s.setWord a v).clk = s.clk := rfl
@[simp] theorem State.setWord_hem (s : State) (a : Nat) (v : W32) : (s.setWord a v).hem = s.hem := rfl
@[simp] theorem State.setWord_synth (s : State) (a : Nat) (v : W32) : (s.setWord a v).synth = s.synth := rfl
@[simp] theorem State.setWord_engines (s : State) (a : Nat) (v : W32) : (s.setWord a v).engines = s.engines := rfl
@[simp] theorem State.setWord_sets (s : State) (a : Nat) (v : W32) : (s.setWord a v).sets = s.sets := rfl
@[simp] theorem State.setWord_syncs (s : State) (a : Nat) (v : W32) : (s.setWord a v).syncs = s.syncs := rfl
@[simp] theorem State.setWord_nextSet (s : State) (a : Nat) (v : W32) : (s.setWord a v).nextSet = s.nextSet := rfl
@[simp] theorem State.setWord_frameAux (s : State) (a : Nat) (v : W32) : (s.setWord a v).frameAux = s.frameAux := rfl
@[simp] theorem State.setWord_chans (s : State) (a : Nat) (v : W32) : (s.setWord a v).chans = s.chans := rfl
@[simp] theorem State.setWord_onet (s : State) (a : Nat) (v : W32) : (s.setWord a v).onet = s.onet := rfl
@[simp] theorem State.setWord_mend (s : State) (a : Nat) (v : W32) : (s.setWord a v).mend = s.mend := rfl
@[simp] theorem State.setWord_dma (s : State) (a : Nat) (v : W32) : (s.setWord a v).dma = s.dma := rfl
@[simp] theorem State.setWord_pockets (s : State) (a : Nat) (v : W32) : (s.setWord a v).pockets = s.pockets := rfl
@[simp] theorem State.setWord_links (s : State) (a : Nat) (v : W32) : (s.setWord a v).links = s.links := rfl
@[simp] theorem State.setWord_cmd (s : State) (a : Nat) (v : W32) : (s.setWord a v).cmd = s.cmd := rfl
@[simp] theorem State.setWord_evt (s : State) (a : Nat) (v : W32) : (s.setWord a v).evt = s.evt := rfl
@[simp] theorem State.setWord_lining (s : State) (a : Nat) (v : W32) : (s.setWord a v).lining = s.lining := rfl
@[simp] theorem State.setWord_thermal (s : State) (a : Nat) (v : W32) : (s.setWord a v).thermal = s.thermal := rfl
@[simp] theorem State.setWord_hkHost (s : State) (a : Nat) (v : W32) : (s.setWord a v).hkHost = s.hkHost := rfl
@[simp] theorem State.setWord_hkField (s : State) (a : Nat) (v : W32) : (s.setWord a v).hkField = s.hkField := rfl
@[simp] theorem State.setWord_wear (s : State) (a : Nat) (v : W32) : (s.setWord a v).wear = s.wear := rfl
@[simp] theorem State.setWord_time (s : State) (a : Nat) (v : W32) : (s.setWord a v).time = s.time := rfl
@[simp] theorem State.setWord_pair (s : State) (a : Nat) (v : W32) : (s.setWord a v).pair = s.pair := rfl
@[simp] theorem State.setWord_ci (s : State) (a : Nat) (v : W32) : (s.setWord a v).ci = s.ci := rfl
@[simp] theorem State.setWord_fm (s : State) (a : Nat) (v : W32) : (s.setWord a v).fm = s.fm := rfl
@[simp] theorem State.setWord_banks (s : State) (a : Nat) (v : W32) : (s.setWord a v).banks = s.banks := rfl
@[simp] theorem State.setWord_nv (s : State) (a : Nat) (v : W32) : (s.setWord a v).nv = s.nv := rfl
@[simp] theorem State.setWord_pins (s : State) (a : Nat) (v : W32) : (s.setWord a v).pins = s.pins := rfl
@[simp] theorem State.setWord_sent (s : State) (a : Nat) (v : W32) : (s.setWord a v).sent = s.sent := rfl
@[simp] theorem State.setWord_free (s : State) (a : Nat) (v : W32) : (s.setWord a v).free = s.free := rfl

@[simp] theorem State.setEng_pending (s : State) (e : Nat) (x : Engine) : (s.setEng e x).pending = s.pending := rfl
@[simp] theorem State.setEng_regs (s : State) (e : Nat) (x : Engine) : (s.setEng e x).regs = s.regs := rfl
@[simp] theorem State.setEng_work (s : State) (e : Nat) (x : Engine) : (s.setEng e x).work = s.work := rfl
@[simp] theorem State.setEng_mem (s : State) (e : Nat) (x : Engine) : (s.setEng e x).mem = s.mem := rfl
@[simp] theorem State.setEng_clk (s : State) (e : Nat) (x : Engine) : (s.setEng e x).clk = s.clk := rfl
@[simp] theorem State.setEng_hem (s : State) (e : Nat) (x : Engine) : (s.setEng e x).hem = s.hem := rfl
@[simp] theorem State.setEng_synth (s : State) (e : Nat) (x : Engine) : (s.setEng e x).synth = s.synth := rfl
@[simp] theorem State.setEng_sets (s : State) (e : Nat) (x : Engine) : (s.setEng e x).sets = s.sets := rfl
@[simp] theorem State.setEng_syncs (s : State) (e : Nat) (x : Engine) : (s.setEng e x).syncs = s.syncs := rfl
@[simp] theorem State.setEng_nextSet (s : State) (e : Nat) (x : Engine) : (s.setEng e x).nextSet = s.nextSet := rfl
@[simp] theorem State.setEng_frameAux (s : State) (e : Nat) (x : Engine) : (s.setEng e x).frameAux = s.frameAux := rfl
@[simp] theorem State.setEng_chans (s : State) (e : Nat) (x : Engine) : (s.setEng e x).chans = s.chans := rfl
@[simp] theorem State.setEng_onet (s : State) (e : Nat) (x : Engine) : (s.setEng e x).onet = s.onet := rfl
@[simp] theorem State.setEng_mend (s : State) (e : Nat) (x : Engine) : (s.setEng e x).mend = s.mend := rfl
@[simp] theorem State.setEng_dma (s : State) (e : Nat) (x : Engine) : (s.setEng e x).dma = s.dma := rfl
@[simp] theorem State.setEng_pockets (s : State) (e : Nat) (x : Engine) : (s.setEng e x).pockets = s.pockets := rfl
@[simp] theorem State.setEng_links (s : State) (e : Nat) (x : Engine) : (s.setEng e x).links = s.links := rfl
@[simp] theorem State.setEng_cmd (s : State) (e : Nat) (x : Engine) : (s.setEng e x).cmd = s.cmd := rfl
@[simp] theorem State.setEng_evt (s : State) (e : Nat) (x : Engine) : (s.setEng e x).evt = s.evt := rfl
@[simp] theorem State.setEng_lining (s : State) (e : Nat) (x : Engine) : (s.setEng e x).lining = s.lining := rfl
@[simp] theorem State.setEng_thermal (s : State) (e : Nat) (x : Engine) : (s.setEng e x).thermal = s.thermal := rfl
@[simp] theorem State.setEng_hkHost (s : State) (e : Nat) (x : Engine) : (s.setEng e x).hkHost = s.hkHost := rfl
@[simp] theorem State.setEng_hkField (s : State) (e : Nat) (x : Engine) : (s.setEng e x).hkField = s.hkField := rfl
@[simp] theorem State.setEng_wear (s : State) (e : Nat) (x : Engine) : (s.setEng e x).wear = s.wear := rfl
@[simp] theorem State.setEng_time (s : State) (e : Nat) (x : Engine) : (s.setEng e x).time = s.time := rfl
@[simp] theorem State.setEng_pair (s : State) (e : Nat) (x : Engine) : (s.setEng e x).pair = s.pair := rfl
@[simp] theorem State.setEng_ci (s : State) (e : Nat) (x : Engine) : (s.setEng e x).ci = s.ci := rfl
@[simp] theorem State.setEng_fm (s : State) (e : Nat) (x : Engine) : (s.setEng e x).fm = s.fm := rfl
@[simp] theorem State.setEng_banks (s : State) (e : Nat) (x : Engine) : (s.setEng e x).banks = s.banks := rfl
@[simp] theorem State.setEng_nv (s : State) (e : Nat) (x : Engine) : (s.setEng e x).nv = s.nv := rfl
@[simp] theorem State.setEng_pins (s : State) (e : Nat) (x : Engine) : (s.setEng e x).pins = s.pins := rfl
@[simp] theorem State.setEng_sent (s : State) (e : Nat) (x : Engine) : (s.setEng e x).sent = s.sent := rfl
@[simp] theorem State.setEng_free (s : State) (e : Nat) (x : Engine) : (s.setEng e x).free = s.free := rfl

@[simp] theorem State.setCtxs_pending (s : State) (c : Nat) (l : List Ctx) : (s.setCtxs c l).pending = s.pending := rfl
@[simp] theorem State.setCtxs_regs (s : State) (c : Nat) (l : List Ctx) : (s.setCtxs c l).regs = s.regs := rfl
@[simp] theorem State.setCtxs_work (s : State) (c : Nat) (l : List Ctx) : (s.setCtxs c l).work = s.work := rfl
@[simp] theorem State.setCtxs_mem (s : State) (c : Nat) (l : List Ctx) : (s.setCtxs c l).mem = s.mem := rfl
@[simp] theorem State.setCtxs_clk (s : State) (c : Nat) (l : List Ctx) : (s.setCtxs c l).clk = s.clk := rfl
@[simp] theorem State.setCtxs_hem (s : State) (c : Nat) (l : List Ctx) : (s.setCtxs c l).hem = s.hem := rfl
@[simp] theorem State.setCtxs_synth (s : State) (c : Nat) (l : List Ctx) : (s.setCtxs c l).synth = s.synth := rfl
@[simp] theorem State.setCtxs_engines (s : State) (c : Nat) (l : List Ctx) : (s.setCtxs c l).engines = s.engines := rfl
@[simp] theorem State.setCtxs_sets (s : State) (c : Nat) (l : List Ctx) : (s.setCtxs c l).sets = s.sets := rfl
@[simp] theorem State.setCtxs_syncs (s : State) (c : Nat) (l : List Ctx) : (s.setCtxs c l).syncs = s.syncs := rfl
@[simp] theorem State.setCtxs_nextSet (s : State) (c : Nat) (l : List Ctx) : (s.setCtxs c l).nextSet = s.nextSet := rfl
@[simp] theorem State.setCtxs_frameAux (s : State) (c : Nat) (l : List Ctx) : (s.setCtxs c l).frameAux = s.frameAux := rfl
@[simp] theorem State.setCtxs_onet (s : State) (c : Nat) (l : List Ctx) : (s.setCtxs c l).onet = s.onet := rfl
@[simp] theorem State.setCtxs_mend (s : State) (c : Nat) (l : List Ctx) : (s.setCtxs c l).mend = s.mend := rfl
@[simp] theorem State.setCtxs_dma (s : State) (c : Nat) (l : List Ctx) : (s.setCtxs c l).dma = s.dma := rfl
@[simp] theorem State.setCtxs_pockets (s : State) (c : Nat) (l : List Ctx) : (s.setCtxs c l).pockets = s.pockets := rfl
@[simp] theorem State.setCtxs_links (s : State) (c : Nat) (l : List Ctx) : (s.setCtxs c l).links = s.links := rfl
@[simp] theorem State.setCtxs_cmd (s : State) (c : Nat) (l : List Ctx) : (s.setCtxs c l).cmd = s.cmd := rfl
@[simp] theorem State.setCtxs_evt (s : State) (c : Nat) (l : List Ctx) : (s.setCtxs c l).evt = s.evt := rfl
@[simp] theorem State.setCtxs_lining (s : State) (c : Nat) (l : List Ctx) : (s.setCtxs c l).lining = s.lining := rfl
@[simp] theorem State.setCtxs_thermal (s : State) (c : Nat) (l : List Ctx) : (s.setCtxs c l).thermal = s.thermal := rfl
@[simp] theorem State.setCtxs_hkHost (s : State) (c : Nat) (l : List Ctx) : (s.setCtxs c l).hkHost = s.hkHost := rfl
@[simp] theorem State.setCtxs_hkField (s : State) (c : Nat) (l : List Ctx) : (s.setCtxs c l).hkField = s.hkField := rfl
@[simp] theorem State.setCtxs_wear (s : State) (c : Nat) (l : List Ctx) : (s.setCtxs c l).wear = s.wear := rfl
@[simp] theorem State.setCtxs_time (s : State) (c : Nat) (l : List Ctx) : (s.setCtxs c l).time = s.time := rfl
@[simp] theorem State.setCtxs_pair (s : State) (c : Nat) (l : List Ctx) : (s.setCtxs c l).pair = s.pair := rfl
@[simp] theorem State.setCtxs_ci (s : State) (c : Nat) (l : List Ctx) : (s.setCtxs c l).ci = s.ci := rfl
@[simp] theorem State.setCtxs_fm (s : State) (c : Nat) (l : List Ctx) : (s.setCtxs c l).fm = s.fm := rfl
@[simp] theorem State.setCtxs_banks (s : State) (c : Nat) (l : List Ctx) : (s.setCtxs c l).banks = s.banks := rfl
@[simp] theorem State.setCtxs_nv (s : State) (c : Nat) (l : List Ctx) : (s.setCtxs c l).nv = s.nv := rfl
@[simp] theorem State.setCtxs_pins (s : State) (c : Nat) (l : List Ctx) : (s.setCtxs c l).pins = s.pins := rfl
@[simp] theorem State.setCtxs_sent (s : State) (c : Nat) (l : List Ctx) : (s.setCtxs c l).sent = s.sent := rfl
@[simp] theorem State.setCtxs_free (s : State) (c : Nat) (l : List Ctx) : (s.setCtxs c l).free = s.free := rfl

@[simp] theorem State.setFaux_pending (s : State) (n : Nat) (x : FrameAux) : (s.setFaux n x).pending = s.pending := rfl
@[simp] theorem State.setFaux_regs (s : State) (n : Nat) (x : FrameAux) : (s.setFaux n x).regs = s.regs := rfl
@[simp] theorem State.setFaux_work (s : State) (n : Nat) (x : FrameAux) : (s.setFaux n x).work = s.work := rfl
@[simp] theorem State.setFaux_mem (s : State) (n : Nat) (x : FrameAux) : (s.setFaux n x).mem = s.mem := rfl
@[simp] theorem State.setFaux_clk (s : State) (n : Nat) (x : FrameAux) : (s.setFaux n x).clk = s.clk := rfl
@[simp] theorem State.setFaux_hem (s : State) (n : Nat) (x : FrameAux) : (s.setFaux n x).hem = s.hem := rfl
@[simp] theorem State.setFaux_synth (s : State) (n : Nat) (x : FrameAux) : (s.setFaux n x).synth = s.synth := rfl
@[simp] theorem State.setFaux_engines (s : State) (n : Nat) (x : FrameAux) : (s.setFaux n x).engines = s.engines := rfl
@[simp] theorem State.setFaux_sets (s : State) (n : Nat) (x : FrameAux) : (s.setFaux n x).sets = s.sets := rfl
@[simp] theorem State.setFaux_syncs (s : State) (n : Nat) (x : FrameAux) : (s.setFaux n x).syncs = s.syncs := rfl
@[simp] theorem State.setFaux_nextSet (s : State) (n : Nat) (x : FrameAux) : (s.setFaux n x).nextSet = s.nextSet := rfl
@[simp] theorem State.setFaux_chans (s : State) (n : Nat) (x : FrameAux) : (s.setFaux n x).chans = s.chans := rfl
@[simp] theorem State.setFaux_onet (s : State) (n : Nat) (x : FrameAux) : (s.setFaux n x).onet = s.onet := rfl
@[simp] theorem State.setFaux_mend (s : State) (n : Nat) (x : FrameAux) : (s.setFaux n x).mend = s.mend := rfl
@[simp] theorem State.setFaux_dma (s : State) (n : Nat) (x : FrameAux) : (s.setFaux n x).dma = s.dma := rfl
@[simp] theorem State.setFaux_pockets (s : State) (n : Nat) (x : FrameAux) : (s.setFaux n x).pockets = s.pockets := rfl
@[simp] theorem State.setFaux_links (s : State) (n : Nat) (x : FrameAux) : (s.setFaux n x).links = s.links := rfl
@[simp] theorem State.setFaux_cmd (s : State) (n : Nat) (x : FrameAux) : (s.setFaux n x).cmd = s.cmd := rfl
@[simp] theorem State.setFaux_evt (s : State) (n : Nat) (x : FrameAux) : (s.setFaux n x).evt = s.evt := rfl
@[simp] theorem State.setFaux_lining (s : State) (n : Nat) (x : FrameAux) : (s.setFaux n x).lining = s.lining := rfl
@[simp] theorem State.setFaux_thermal (s : State) (n : Nat) (x : FrameAux) : (s.setFaux n x).thermal = s.thermal := rfl
@[simp] theorem State.setFaux_hkHost (s : State) (n : Nat) (x : FrameAux) : (s.setFaux n x).hkHost = s.hkHost := rfl
@[simp] theorem State.setFaux_hkField (s : State) (n : Nat) (x : FrameAux) : (s.setFaux n x).hkField = s.hkField := rfl
@[simp] theorem State.setFaux_wear (s : State) (n : Nat) (x : FrameAux) : (s.setFaux n x).wear = s.wear := rfl
@[simp] theorem State.setFaux_time (s : State) (n : Nat) (x : FrameAux) : (s.setFaux n x).time = s.time := rfl
@[simp] theorem State.setFaux_pair (s : State) (n : Nat) (x : FrameAux) : (s.setFaux n x).pair = s.pair := rfl
@[simp] theorem State.setFaux_ci (s : State) (n : Nat) (x : FrameAux) : (s.setFaux n x).ci = s.ci := rfl
@[simp] theorem State.setFaux_fm (s : State) (n : Nat) (x : FrameAux) : (s.setFaux n x).fm = s.fm := rfl
@[simp] theorem State.setFaux_banks (s : State) (n : Nat) (x : FrameAux) : (s.setFaux n x).banks = s.banks := rfl
@[simp] theorem State.setFaux_nv (s : State) (n : Nat) (x : FrameAux) : (s.setFaux n x).nv = s.nv := rfl
@[simp] theorem State.setFaux_pins (s : State) (n : Nat) (x : FrameAux) : (s.setFaux n x).pins = s.pins := rfl
@[simp] theorem State.setFaux_sent (s : State) (n : Nat) (x : FrameAux) : (s.setFaux n x).sent = s.sent := rfl
@[simp] theorem State.setFaux_free (s : State) (n : Nat) (x : FrameAux) : (s.setFaux n x).free = s.free := rfl

@[simp] theorem State.setPocket_pending (s : State) (k : Nat) (x : Pocket) : (s.setPocket k x).pending = s.pending := rfl
@[simp] theorem State.setPocket_regs (s : State) (k : Nat) (x : Pocket) : (s.setPocket k x).regs = s.regs := rfl
@[simp] theorem State.setPocket_work (s : State) (k : Nat) (x : Pocket) : (s.setPocket k x).work = s.work := rfl
@[simp] theorem State.setPocket_mem (s : State) (k : Nat) (x : Pocket) : (s.setPocket k x).mem = s.mem := rfl
@[simp] theorem State.setPocket_clk (s : State) (k : Nat) (x : Pocket) : (s.setPocket k x).clk = s.clk := rfl
@[simp] theorem State.setPocket_hem (s : State) (k : Nat) (x : Pocket) : (s.setPocket k x).hem = s.hem := rfl
@[simp] theorem State.setPocket_synth (s : State) (k : Nat) (x : Pocket) : (s.setPocket k x).synth = s.synth := rfl
@[simp] theorem State.setPocket_engines (s : State) (k : Nat) (x : Pocket) : (s.setPocket k x).engines = s.engines := rfl
@[simp] theorem State.setPocket_sets (s : State) (k : Nat) (x : Pocket) : (s.setPocket k x).sets = s.sets := rfl
@[simp] theorem State.setPocket_syncs (s : State) (k : Nat) (x : Pocket) : (s.setPocket k x).syncs = s.syncs := rfl
@[simp] theorem State.setPocket_nextSet (s : State) (k : Nat) (x : Pocket) : (s.setPocket k x).nextSet = s.nextSet := rfl
@[simp] theorem State.setPocket_frameAux (s : State) (k : Nat) (x : Pocket) : (s.setPocket k x).frameAux = s.frameAux := rfl
@[simp] theorem State.setPocket_chans (s : State) (k : Nat) (x : Pocket) : (s.setPocket k x).chans = s.chans := rfl
@[simp] theorem State.setPocket_onet (s : State) (k : Nat) (x : Pocket) : (s.setPocket k x).onet = s.onet := rfl
@[simp] theorem State.setPocket_mend (s : State) (k : Nat) (x : Pocket) : (s.setPocket k x).mend = s.mend := rfl
@[simp] theorem State.setPocket_dma (s : State) (k : Nat) (x : Pocket) : (s.setPocket k x).dma = s.dma := rfl
@[simp] theorem State.setPocket_links (s : State) (k : Nat) (x : Pocket) : (s.setPocket k x).links = s.links := rfl
@[simp] theorem State.setPocket_cmd (s : State) (k : Nat) (x : Pocket) : (s.setPocket k x).cmd = s.cmd := rfl
@[simp] theorem State.setPocket_evt (s : State) (k : Nat) (x : Pocket) : (s.setPocket k x).evt = s.evt := rfl
@[simp] theorem State.setPocket_lining (s : State) (k : Nat) (x : Pocket) : (s.setPocket k x).lining = s.lining := rfl
@[simp] theorem State.setPocket_thermal (s : State) (k : Nat) (x : Pocket) : (s.setPocket k x).thermal = s.thermal := rfl
@[simp] theorem State.setPocket_hkHost (s : State) (k : Nat) (x : Pocket) : (s.setPocket k x).hkHost = s.hkHost := rfl
@[simp] theorem State.setPocket_hkField (s : State) (k : Nat) (x : Pocket) : (s.setPocket k x).hkField = s.hkField := rfl
@[simp] theorem State.setPocket_wear (s : State) (k : Nat) (x : Pocket) : (s.setPocket k x).wear = s.wear := rfl
@[simp] theorem State.setPocket_time (s : State) (k : Nat) (x : Pocket) : (s.setPocket k x).time = s.time := rfl
@[simp] theorem State.setPocket_pair (s : State) (k : Nat) (x : Pocket) : (s.setPocket k x).pair = s.pair := rfl
@[simp] theorem State.setPocket_ci (s : State) (k : Nat) (x : Pocket) : (s.setPocket k x).ci = s.ci := rfl
@[simp] theorem State.setPocket_fm (s : State) (k : Nat) (x : Pocket) : (s.setPocket k x).fm = s.fm := rfl
@[simp] theorem State.setPocket_banks (s : State) (k : Nat) (x : Pocket) : (s.setPocket k x).banks = s.banks := rfl
@[simp] theorem State.setPocket_nv (s : State) (k : Nat) (x : Pocket) : (s.setPocket k x).nv = s.nv := rfl
@[simp] theorem State.setPocket_pins (s : State) (k : Nat) (x : Pocket) : (s.setPocket k x).pins = s.pins := rfl
@[simp] theorem State.setPocket_sent (s : State) (k : Nat) (x : Pocket) : (s.setPocket k x).sent = s.sent := rfl
@[simp] theorem State.setPocket_free (s : State) (k : Nat) (x : Pocket) : (s.setPocket k x).free = s.free := rfl

@[simp] theorem State.setLink_pending (s : State) (p : LPort) (x : Link) : (s.setLink p x).pending = s.pending := rfl
@[simp] theorem State.setLink_regs (s : State) (p : LPort) (x : Link) : (s.setLink p x).regs = s.regs := rfl
@[simp] theorem State.setLink_work (s : State) (p : LPort) (x : Link) : (s.setLink p x).work = s.work := rfl
@[simp] theorem State.setLink_mem (s : State) (p : LPort) (x : Link) : (s.setLink p x).mem = s.mem := rfl
@[simp] theorem State.setLink_clk (s : State) (p : LPort) (x : Link) : (s.setLink p x).clk = s.clk := rfl
@[simp] theorem State.setLink_hem (s : State) (p : LPort) (x : Link) : (s.setLink p x).hem = s.hem := rfl
@[simp] theorem State.setLink_synth (s : State) (p : LPort) (x : Link) : (s.setLink p x).synth = s.synth := rfl
@[simp] theorem State.setLink_engines (s : State) (p : LPort) (x : Link) : (s.setLink p x).engines = s.engines := rfl
@[simp] theorem State.setLink_sets (s : State) (p : LPort) (x : Link) : (s.setLink p x).sets = s.sets := rfl
@[simp] theorem State.setLink_syncs (s : State) (p : LPort) (x : Link) : (s.setLink p x).syncs = s.syncs := rfl
@[simp] theorem State.setLink_nextSet (s : State) (p : LPort) (x : Link) : (s.setLink p x).nextSet = s.nextSet := rfl
@[simp] theorem State.setLink_frameAux (s : State) (p : LPort) (x : Link) : (s.setLink p x).frameAux = s.frameAux := rfl
@[simp] theorem State.setLink_chans (s : State) (p : LPort) (x : Link) : (s.setLink p x).chans = s.chans := rfl
@[simp] theorem State.setLink_onet (s : State) (p : LPort) (x : Link) : (s.setLink p x).onet = s.onet := rfl
@[simp] theorem State.setLink_mend (s : State) (p : LPort) (x : Link) : (s.setLink p x).mend = s.mend := rfl
@[simp] theorem State.setLink_dma (s : State) (p : LPort) (x : Link) : (s.setLink p x).dma = s.dma := rfl
@[simp] theorem State.setLink_pockets (s : State) (p : LPort) (x : Link) : (s.setLink p x).pockets = s.pockets := rfl
@[simp] theorem State.setLink_cmd (s : State) (p : LPort) (x : Link) : (s.setLink p x).cmd = s.cmd := rfl
@[simp] theorem State.setLink_evt (s : State) (p : LPort) (x : Link) : (s.setLink p x).evt = s.evt := rfl
@[simp] theorem State.setLink_lining (s : State) (p : LPort) (x : Link) : (s.setLink p x).lining = s.lining := rfl
@[simp] theorem State.setLink_thermal (s : State) (p : LPort) (x : Link) : (s.setLink p x).thermal = s.thermal := rfl
@[simp] theorem State.setLink_hkHost (s : State) (p : LPort) (x : Link) : (s.setLink p x).hkHost = s.hkHost := rfl
@[simp] theorem State.setLink_hkField (s : State) (p : LPort) (x : Link) : (s.setLink p x).hkField = s.hkField := rfl
@[simp] theorem State.setLink_wear (s : State) (p : LPort) (x : Link) : (s.setLink p x).wear = s.wear := rfl
@[simp] theorem State.setLink_time (s : State) (p : LPort) (x : Link) : (s.setLink p x).time = s.time := rfl
@[simp] theorem State.setLink_pair (s : State) (p : LPort) (x : Link) : (s.setLink p x).pair = s.pair := rfl
@[simp] theorem State.setLink_ci (s : State) (p : LPort) (x : Link) : (s.setLink p x).ci = s.ci := rfl
@[simp] theorem State.setLink_fm (s : State) (p : LPort) (x : Link) : (s.setLink p x).fm = s.fm := rfl
@[simp] theorem State.setLink_banks (s : State) (p : LPort) (x : Link) : (s.setLink p x).banks = s.banks := rfl
@[simp] theorem State.setLink_nv (s : State) (p : LPort) (x : Link) : (s.setLink p x).nv = s.nv := rfl
@[simp] theorem State.setLink_pins (s : State) (p : LPort) (x : Link) : (s.setLink p x).pins = s.pins := rfl
@[simp] theorem State.setLink_sent (s : State) (p : LPort) (x : Link) : (s.setLink p x).sent = s.sent := rfl
@[simp] theorem State.setLink_free (s : State) (p : LPort) (x : Link) : (s.setLink p x).free = s.free := rfl

@[simp] theorem State.setDma_pending (s : State) (n : Nat) (x : Dma) : (s.setDma n x).pending = s.pending := rfl
@[simp] theorem State.setDma_regs (s : State) (n : Nat) (x : Dma) : (s.setDma n x).regs = s.regs := rfl
@[simp] theorem State.setDma_work (s : State) (n : Nat) (x : Dma) : (s.setDma n x).work = s.work := rfl
@[simp] theorem State.setDma_mem (s : State) (n : Nat) (x : Dma) : (s.setDma n x).mem = s.mem := rfl
@[simp] theorem State.setDma_clk (s : State) (n : Nat) (x : Dma) : (s.setDma n x).clk = s.clk := rfl
@[simp] theorem State.setDma_hem (s : State) (n : Nat) (x : Dma) : (s.setDma n x).hem = s.hem := rfl
@[simp] theorem State.setDma_synth (s : State) (n : Nat) (x : Dma) : (s.setDma n x).synth = s.synth := rfl
@[simp] theorem State.setDma_engines (s : State) (n : Nat) (x : Dma) : (s.setDma n x).engines = s.engines := rfl
@[simp] theorem State.setDma_sets (s : State) (n : Nat) (x : Dma) : (s.setDma n x).sets = s.sets := rfl
@[simp] theorem State.setDma_syncs (s : State) (n : Nat) (x : Dma) : (s.setDma n x).syncs = s.syncs := rfl
@[simp] theorem State.setDma_nextSet (s : State) (n : Nat) (x : Dma) : (s.setDma n x).nextSet = s.nextSet := rfl
@[simp] theorem State.setDma_frameAux (s : State) (n : Nat) (x : Dma) : (s.setDma n x).frameAux = s.frameAux := rfl
@[simp] theorem State.setDma_chans (s : State) (n : Nat) (x : Dma) : (s.setDma n x).chans = s.chans := rfl
@[simp] theorem State.setDma_onet (s : State) (n : Nat) (x : Dma) : (s.setDma n x).onet = s.onet := rfl
@[simp] theorem State.setDma_mend (s : State) (n : Nat) (x : Dma) : (s.setDma n x).mend = s.mend := rfl
@[simp] theorem State.setDma_pockets (s : State) (n : Nat) (x : Dma) : (s.setDma n x).pockets = s.pockets := rfl
@[simp] theorem State.setDma_links (s : State) (n : Nat) (x : Dma) : (s.setDma n x).links = s.links := rfl
@[simp] theorem State.setDma_cmd (s : State) (n : Nat) (x : Dma) : (s.setDma n x).cmd = s.cmd := rfl
@[simp] theorem State.setDma_evt (s : State) (n : Nat) (x : Dma) : (s.setDma n x).evt = s.evt := rfl
@[simp] theorem State.setDma_lining (s : State) (n : Nat) (x : Dma) : (s.setDma n x).lining = s.lining := rfl
@[simp] theorem State.setDma_thermal (s : State) (n : Nat) (x : Dma) : (s.setDma n x).thermal = s.thermal := rfl
@[simp] theorem State.setDma_hkHost (s : State) (n : Nat) (x : Dma) : (s.setDma n x).hkHost = s.hkHost := rfl
@[simp] theorem State.setDma_hkField (s : State) (n : Nat) (x : Dma) : (s.setDma n x).hkField = s.hkField := rfl
@[simp] theorem State.setDma_wear (s : State) (n : Nat) (x : Dma) : (s.setDma n x).wear = s.wear := rfl
@[simp] theorem State.setDma_time (s : State) (n : Nat) (x : Dma) : (s.setDma n x).time = s.time := rfl
@[simp] theorem State.setDma_pair (s : State) (n : Nat) (x : Dma) : (s.setDma n x).pair = s.pair := rfl
@[simp] theorem State.setDma_ci (s : State) (n : Nat) (x : Dma) : (s.setDma n x).ci = s.ci := rfl
@[simp] theorem State.setDma_fm (s : State) (n : Nat) (x : Dma) : (s.setDma n x).fm = s.fm := rfl
@[simp] theorem State.setDma_banks (s : State) (n : Nat) (x : Dma) : (s.setDma n x).banks = s.banks := rfl
@[simp] theorem State.setDma_nv (s : State) (n : Nat) (x : Dma) : (s.setDma n x).nv = s.nv := rfl
@[simp] theorem State.setDma_pins (s : State) (n : Nat) (x : Dma) : (s.setDma n x).pins = s.pins := rfl
@[simp] theorem State.setDma_sent (s : State) (n : Nat) (x : Dma) : (s.setDma n x).sent = s.sent := rfl
@[simp] theorem State.setDma_free (s : State) (n : Nat) (x : Dma) : (s.setDma n x).free = s.free := rfl

@[simp] theorem State.tickBlock_pending (s : State) : (s.tickBlock).pending = s.pending := rfl
@[simp] theorem State.tickBlock_regs (s : State) : (s.tickBlock).regs = s.regs := rfl
@[simp] theorem State.tickBlock_work (s : State) : (s.tickBlock).work = s.work := rfl
@[simp] theorem State.tickBlock_mem (s : State) : (s.tickBlock).mem = s.mem := rfl
@[simp] theorem State.tickBlock_hem (s : State) : (s.tickBlock).hem = s.hem := rfl
@[simp] theorem State.tickBlock_synth (s : State) : (s.tickBlock).synth = s.synth := rfl
@[simp] theorem State.tickBlock_engines (s : State) : (s.tickBlock).engines = s.engines := rfl
@[simp] theorem State.tickBlock_sets (s : State) : (s.tickBlock).sets = s.sets := rfl
@[simp] theorem State.tickBlock_syncs (s : State) : (s.tickBlock).syncs = s.syncs := rfl
@[simp] theorem State.tickBlock_nextSet (s : State) : (s.tickBlock).nextSet = s.nextSet := rfl
@[simp] theorem State.tickBlock_frameAux (s : State) : (s.tickBlock).frameAux = s.frameAux := rfl
@[simp] theorem State.tickBlock_chans (s : State) : (s.tickBlock).chans = s.chans := rfl
@[simp] theorem State.tickBlock_onet (s : State) : (s.tickBlock).onet = s.onet := rfl
@[simp] theorem State.tickBlock_mend (s : State) : (s.tickBlock).mend = s.mend := rfl
@[simp] theorem State.tickBlock_dma (s : State) : (s.tickBlock).dma = s.dma := rfl
@[simp] theorem State.tickBlock_pockets (s : State) : (s.tickBlock).pockets = s.pockets := rfl
@[simp] theorem State.tickBlock_links (s : State) : (s.tickBlock).links = s.links := rfl
@[simp] theorem State.tickBlock_cmd (s : State) : (s.tickBlock).cmd = s.cmd := rfl
@[simp] theorem State.tickBlock_evt (s : State) : (s.tickBlock).evt = s.evt := rfl
@[simp] theorem State.tickBlock_lining (s : State) : (s.tickBlock).lining = s.lining := rfl
@[simp] theorem State.tickBlock_thermal (s : State) : (s.tickBlock).thermal = s.thermal := rfl
@[simp] theorem State.tickBlock_hkHost (s : State) : (s.tickBlock).hkHost = s.hkHost := rfl
@[simp] theorem State.tickBlock_hkField (s : State) : (s.tickBlock).hkField = s.hkField := rfl
@[simp] theorem State.tickBlock_wear (s : State) : (s.tickBlock).wear = s.wear := rfl
@[simp] theorem State.tickBlock_time (s : State) : (s.tickBlock).time = s.time := rfl
@[simp] theorem State.tickBlock_pair (s : State) : (s.tickBlock).pair = s.pair := rfl
@[simp] theorem State.tickBlock_ci (s : State) : (s.tickBlock).ci = s.ci := rfl
@[simp] theorem State.tickBlock_fm (s : State) : (s.tickBlock).fm = s.fm := rfl
@[simp] theorem State.tickBlock_banks (s : State) : (s.tickBlock).banks = s.banks := rfl
@[simp] theorem State.tickBlock_nv (s : State) : (s.tickBlock).nv = s.nv := rfl
@[simp] theorem State.tickBlock_pins (s : State) : (s.tickBlock).pins = s.pins := rfl
@[simp] theorem State.tickBlock_sent (s : State) : (s.tickBlock).sent = s.sent := rfl
@[simp] theorem State.tickBlock_free (s : State) : (s.tickBlock).free = s.free := rfl

@[simp] theorem State.logPast_pending (s : State) (b : W64) (k : PastKind) (a : Nat) (old : W32) : (s.logPast b k a old).pending = s.pending := rfl
@[simp] theorem State.logPast_regs (s : State) (b : W64) (k : PastKind) (a : Nat) (old : W32) : (s.logPast b k a old).regs = s.regs := rfl
@[simp] theorem State.logPast_work (s : State) (b : W64) (k : PastKind) (a : Nat) (old : W32) : (s.logPast b k a old).work = s.work := rfl
@[simp] theorem State.logPast_mem (s : State) (b : W64) (k : PastKind) (a : Nat) (old : W32) : (s.logPast b k a old).mem = s.mem := rfl
@[simp] theorem State.logPast_clk (s : State) (b : W64) (k : PastKind) (a : Nat) (old : W32) : (s.logPast b k a old).clk = s.clk := rfl
@[simp] theorem State.logPast_hem (s : State) (b : W64) (k : PastKind) (a : Nat) (old : W32) : (s.logPast b k a old).hem = s.hem := rfl
@[simp] theorem State.logPast_engines (s : State) (b : W64) (k : PastKind) (a : Nat) (old : W32) : (s.logPast b k a old).engines = s.engines := rfl
@[simp] theorem State.logPast_sets (s : State) (b : W64) (k : PastKind) (a : Nat) (old : W32) : (s.logPast b k a old).sets = s.sets := rfl
@[simp] theorem State.logPast_syncs (s : State) (b : W64) (k : PastKind) (a : Nat) (old : W32) : (s.logPast b k a old).syncs = s.syncs := rfl
@[simp] theorem State.logPast_nextSet (s : State) (b : W64) (k : PastKind) (a : Nat) (old : W32) : (s.logPast b k a old).nextSet = s.nextSet := rfl
@[simp] theorem State.logPast_frameAux (s : State) (b : W64) (k : PastKind) (a : Nat) (old : W32) : (s.logPast b k a old).frameAux = s.frameAux := rfl
@[simp] theorem State.logPast_chans (s : State) (b : W64) (k : PastKind) (a : Nat) (old : W32) : (s.logPast b k a old).chans = s.chans := rfl
@[simp] theorem State.logPast_onet (s : State) (b : W64) (k : PastKind) (a : Nat) (old : W32) : (s.logPast b k a old).onet = s.onet := rfl
@[simp] theorem State.logPast_mend (s : State) (b : W64) (k : PastKind) (a : Nat) (old : W32) : (s.logPast b k a old).mend = s.mend := rfl
@[simp] theorem State.logPast_dma (s : State) (b : W64) (k : PastKind) (a : Nat) (old : W32) : (s.logPast b k a old).dma = s.dma := rfl
@[simp] theorem State.logPast_pockets (s : State) (b : W64) (k : PastKind) (a : Nat) (old : W32) : (s.logPast b k a old).pockets = s.pockets := rfl
@[simp] theorem State.logPast_links (s : State) (b : W64) (k : PastKind) (a : Nat) (old : W32) : (s.logPast b k a old).links = s.links := rfl
@[simp] theorem State.logPast_cmd (s : State) (b : W64) (k : PastKind) (a : Nat) (old : W32) : (s.logPast b k a old).cmd = s.cmd := rfl
@[simp] theorem State.logPast_evt (s : State) (b : W64) (k : PastKind) (a : Nat) (old : W32) : (s.logPast b k a old).evt = s.evt := rfl
@[simp] theorem State.logPast_lining (s : State) (b : W64) (k : PastKind) (a : Nat) (old : W32) : (s.logPast b k a old).lining = s.lining := rfl
@[simp] theorem State.logPast_thermal (s : State) (b : W64) (k : PastKind) (a : Nat) (old : W32) : (s.logPast b k a old).thermal = s.thermal := rfl
@[simp] theorem State.logPast_hkHost (s : State) (b : W64) (k : PastKind) (a : Nat) (old : W32) : (s.logPast b k a old).hkHost = s.hkHost := rfl
@[simp] theorem State.logPast_hkField (s : State) (b : W64) (k : PastKind) (a : Nat) (old : W32) : (s.logPast b k a old).hkField = s.hkField := rfl
@[simp] theorem State.logPast_wear (s : State) (b : W64) (k : PastKind) (a : Nat) (old : W32) : (s.logPast b k a old).wear = s.wear := rfl
@[simp] theorem State.logPast_time (s : State) (b : W64) (k : PastKind) (a : Nat) (old : W32) : (s.logPast b k a old).time = s.time := rfl
@[simp] theorem State.logPast_pair (s : State) (b : W64) (k : PastKind) (a : Nat) (old : W32) : (s.logPast b k a old).pair = s.pair := rfl
@[simp] theorem State.logPast_ci (s : State) (b : W64) (k : PastKind) (a : Nat) (old : W32) : (s.logPast b k a old).ci = s.ci := rfl
@[simp] theorem State.logPast_fm (s : State) (b : W64) (k : PastKind) (a : Nat) (old : W32) : (s.logPast b k a old).fm = s.fm := rfl
@[simp] theorem State.logPast_banks (s : State) (b : W64) (k : PastKind) (a : Nat) (old : W32) : (s.logPast b k a old).banks = s.banks := rfl
@[simp] theorem State.logPast_nv (s : State) (b : W64) (k : PastKind) (a : Nat) (old : W32) : (s.logPast b k a old).nv = s.nv := rfl
@[simp] theorem State.logPast_pins (s : State) (b : W64) (k : PastKind) (a : Nat) (old : W32) : (s.logPast b k a old).pins = s.pins := rfl
@[simp] theorem State.logPast_sent (s : State) (b : W64) (k : PastKind) (a : Nat) (old : W32) : (s.logPast b k a old).sent = s.sent := rfl
@[simp] theorem State.logPast_free (s : State) (b : W64) (k : PastKind) (a : Nat) (old : W32) : (s.logPast b k a old).free = s.free := rfl

@[simp] theorem State.draw_pending (s : State) : (s.draw).pending = s.pending := rfl
@[simp] theorem State.draw_regs (s : State) : (s.draw).regs = s.regs := rfl
@[simp] theorem State.draw_work (s : State) : (s.draw).work = s.work := rfl
@[simp] theorem State.draw_mem (s : State) : (s.draw).mem = s.mem := rfl
@[simp] theorem State.draw_clk (s : State) : (s.draw).clk = s.clk := rfl
@[simp] theorem State.draw_hem (s : State) : (s.draw).hem = s.hem := rfl
@[simp] theorem State.draw_synth (s : State) : (s.draw).synth = s.synth := rfl
@[simp] theorem State.draw_engines (s : State) : (s.draw).engines = s.engines := rfl
@[simp] theorem State.draw_sets (s : State) : (s.draw).sets = s.sets := rfl
@[simp] theorem State.draw_syncs (s : State) : (s.draw).syncs = s.syncs := rfl
@[simp] theorem State.draw_nextSet (s : State) : (s.draw).nextSet = s.nextSet := rfl
@[simp] theorem State.draw_frameAux (s : State) : (s.draw).frameAux = s.frameAux := rfl
@[simp] theorem State.draw_chans (s : State) : (s.draw).chans = s.chans := rfl
@[simp] theorem State.draw_onet (s : State) : (s.draw).onet = s.onet := rfl
@[simp] theorem State.draw_mend (s : State) : (s.draw).mend = s.mend := rfl
@[simp] theorem State.draw_dma (s : State) : (s.draw).dma = s.dma := rfl
@[simp] theorem State.draw_pockets (s : State) : (s.draw).pockets = s.pockets := rfl
@[simp] theorem State.draw_links (s : State) : (s.draw).links = s.links := rfl
@[simp] theorem State.draw_cmd (s : State) : (s.draw).cmd = s.cmd := rfl
@[simp] theorem State.draw_evt (s : State) : (s.draw).evt = s.evt := rfl
@[simp] theorem State.draw_lining (s : State) : (s.draw).lining = s.lining := rfl
@[simp] theorem State.draw_thermal (s : State) : (s.draw).thermal = s.thermal := rfl
@[simp] theorem State.draw_hkHost (s : State) : (s.draw).hkHost = s.hkHost := rfl
@[simp] theorem State.draw_hkField (s : State) : (s.draw).hkField = s.hkField := rfl
@[simp] theorem State.draw_wear (s : State) : (s.draw).wear = s.wear := rfl
@[simp] theorem State.draw_time (s : State) : (s.draw).time = s.time := rfl
@[simp] theorem State.draw_pair (s : State) : (s.draw).pair = s.pair := rfl
@[simp] theorem State.draw_ci (s : State) : (s.draw).ci = s.ci := rfl
@[simp] theorem State.draw_fm (s : State) : (s.draw).fm = s.fm := rfl
@[simp] theorem State.draw_banks (s : State) : (s.draw).banks = s.banks := rfl
@[simp] theorem State.draw_nv (s : State) : (s.draw).nv = s.nv := rfl
@[simp] theorem State.draw_pins (s : State) : (s.draw).pins = s.pins := rfl
@[simp] theorem State.draw_sent (s : State) : (s.draw).sent = s.sent := rfl

end Sys2Proof.Machine
end

