-- ==== Sys2Proof/Laws/Tab.lean ====
section
/-! SUPPORT. Sparse tables: what a write leaves to read, and that a write keeps the canonical form. -/

namespace Sys2Proof.Machine

variable {α : Type}

theorem tabFind_tabIns (k k' : Nat) (v : α) (t : Tab α) :
    tabFind (tabIns k v t) k' = if k' = k then some v else tabFind t k' := by
  induction t with
  | nil => simp [tabIns, tabFind]
  | cons p t ih =>
    obtain ⟨k₀, v₀⟩ := p
    simp only [tabIns]
    split
    · simp [tabFind]
    · split
      · subst_vars
        simp only [tabFind]
        split <;> simp_all
      · simp only [tabFind, ih]
        split <;> split <;> simp_all

theorem tabFind_tabDel (k k' : Nat) (t : Tab α) :
    tabFind (tabDel k t) k' = if k' = k then none else tabFind t k' := by
  induction t with
  | nil => simp [tabDel, tabFind]
  | cons p t ih =>
    obtain ⟨k₀, v₀⟩ := p
    simp only [tabDel]
    split
    · simp only [ih, tabFind]
      split <;> simp_all
    · simp only [tabFind, ih]
      split <;> split <;> simp_all

/-- Reading a table after a write: the written key holds the value, every other key what it held. -/
theorem tabGet_tabSet [DecidableEq α] (d : Nat → α) (t : Tab α) (k k' : Nat) (v : α) :
    tabGet (d k') (tabSet (d k) t k v) k' = if k' = k then v else tabGet (d k') t k' := by
  unfold tabGet tabSet
  split
  · rw [tabFind_tabDel]; split <;> simp_all
  · rw [tabFind_tabIns]; split <;> simp_all

theorem tabGet_tabSet_const [DecidableEq α] (d : α) (t : Tab α) (k k' : Nat) (v : α) :
    tabGet d (tabSet d t k v) k' = if k' = k then v else tabGet d t k' :=
  tabGet_tabSet (fun _ => d) t k k' v

theorem tabWfFrom_none [DecidableEq α] (d : Nat → α) (t : Tab α) (lo : Option Nat)
    (h : tabWfFrom d lo t = true) : tabWfFrom d none t = true := by
  cases t with
  | nil => simp [tabWfFrom]
  | cons p t => obtain ⟨k, v⟩ := p; simp [tabWfFrom] at h ⊢; exact ⟨h.1.2, h.2⟩

theorem tabWfFrom_lower [DecidableEq α] (d : Nat → α) (t : Tab α) (lo hi : Nat) (hl : lo < hi)
    (h : tabWfFrom d (some hi) t = true) : tabWfFrom d (some lo) t = true := by
  cases t with
  | nil => simp [tabWfFrom]
  | cons p t =>
    obtain ⟨k, v⟩ := p
    simp only [tabWfFrom, Bool.and_eq_true, decide_eq_true_eq] at h ⊢
    exact ⟨⟨by omega, h.1.2⟩, h.2⟩

theorem tabWfFrom_tabDel [DecidableEq α] (d : Nat → α) (k : Nat) (t : Tab α) (lo : Option Nat)
    (h : tabWfFrom d lo t = true) : tabWfFrom d lo (tabDel k t) = true := by
  induction t generalizing lo with
  | nil => simpa [tabDel] using h
  | cons p t ih =>
    obtain ⟨k₀, v₀⟩ := p
    simp only [tabWfFrom, Bool.and_eq_true, decide_eq_true_eq] at h
    simp only [tabDel]
    split
    · cases lo with
      | none => exact tabWfFrom_none d _ _ (ih _ h.2)
      | some b =>
        have hb : b < k₀ := by simpa using h.1.1
        exact ih _ (tabWfFrom_lower d t b k₀ hb h.2)
    · simp only [tabWfFrom, Bool.and_eq_true, decide_eq_true_eq]
      exact ⟨h.1, ih _ h.2⟩

theorem tabWfFrom_tabIns [DecidableEq α] (d : Nat → α) (k : Nat) (v : α) (t : Tab α) (lo : Option Nat)
    (hv : v ≠ d k) (hlo : ∀ b, lo = some b → b < k)
    (h : tabWfFrom d lo t = true) : tabWfFrom d lo (tabIns k v t) = true := by
  induction t generalizing lo with
  | nil => cases lo <;> simp_all [tabIns, tabWfFrom]
  | cons p t ih =>
    obtain ⟨k₀, v₀⟩ := p
    simp only [tabWfFrom, Bool.and_eq_true, decide_eq_true_eq] at h
    simp only [tabIns]
    split
    · rename_i hk
      cases lo <;> simp_all [tabWfFrom]
    · split
      · subst_vars
        cases lo <;> simp_all [tabWfFrom]
      · simp only [tabWfFrom, Bool.and_eq_true, decide_eq_true_eq]
        exact ⟨h.1, ih _ (by intro b hb; cases hb; omega) h.2⟩

/-- A table write keeps the canonical form. -/
theorem tabWf_tabSet [DecidableEq α] (d : Nat → α) (t : Tab α) (k : Nat) (v : α) (h : tabWf d t = true) :
    tabWf d (tabSet (d k) t k v) = true := by
  unfold tabWf tabSet at *
  split
  · exact tabWfFrom_tabDel d k t none h
  · rename_i hv
    exact tabWfFrom_tabIns d k v t none hv (by simp) h

end Sys2Proof.Machine
end

