-- ==== Sys2Proof/Laws/Regs.lean ====
section
/-! SUPPORT. Registers, working copies, memory bytes and numbered objects: reading after a write; fields of a word; and
that the writes keep the canonical form. -/

namespace Sys2Proof.Machine

theorem State.reg_setReg (s : State) (a a' : Nat) (v : W32) :
    (s.setReg a v).reg a' = if a' = a then v else s.reg a' := tabGet_tabSet regReset s.regs a a' v

theorem State.workReg_setWork (s : State) (a a' : Nat) (v : W32) :
    (s.setWork a v).workReg a' = if a' = a then v else s.workReg a' := tabGet_tabSet regReset s.work a a' v

theorem State.byte_setByte (s : State) (a a' : Nat) (v : Byte) :
    (s.setByte a v).byte a' = if a' = a then v else s.byte a' := tabGet_tabSet memReset s.mem a a' v

theorem State.eng_setEng (s : State) (e e' : Nat) (x : Engine) :
    (s.setEng e x).eng e' = if e' = e then x else s.eng e' := tabGet_tabSet_const _ _ _ _ _

theorem State.ctxs_setCtxs (s : State) (c c' : Nat) (l : List Ctx) :
    (s.setCtxs c l).ctxs c' = if c' = c then l else s.ctxs c' := tabGet_tabSet_const _ _ _ _ _

theorem State.faux_setFaux (s : State) (n n' : Nat) (x : FrameAux) :
    (s.setFaux n x).faux n' = if n' = n then x else s.faux n' := tabGet_tabSet_const _ _ _ _ _

theorem State.pocket_setPocket (s : State) (k k' : Nat) (x : Pocket) :
    (s.setPocket k x).pocket k' = if k' = k then x else s.pocket k' := tabGet_tabSet_const _ _ _ _ _

theorem State.link_setLink (s : State) (p p' : LPort) (x : Link) :
    (s.setLink p x).link p' = if lportKey p' = lportKey p then x else s.link p' := tabGet_tabSet_const _ _ _ _ _

theorem State.dmaCh_setDma (s : State) (n n' : Nat) (x : Dma) :
    (s.setDma n x).dmaCh n' = if n' = n then x else s.dmaCh n' := tabGet_tabSet_const _ _ _ _ _

theorem lportKey_inj (p q : LPort) : lportKey p = lportKey q ↔ p = q := by
  cases p <;> cases q <;> simp [lportKey] <;> omega

/-! ## A register reads as before after an update of another field -/

theorem State.reg_of_regs {s t : State} (h : s.regs = t.regs) (a : Nat) : s.reg a = t.reg a := by
  simp [State.reg, h]

theorem State.byte_of_mem {s t : State} (h : s.mem = t.mem) (a : Nat) : s.byte a = t.byte a := by
  simp [State.byte, h]

/-! ## Fields of a word -/

theorem getLsbD_putFld (v : W32) (hi lo n i : Nat) (hi' : i < 32) :
    (putFld v hi lo n).getLsbD i = if lo ≤ i ∧ i ≤ hi then n.testBit (i - lo) else v.getLsbD i := by
  have e : ∀ k m : Nat, (k * 2 ^ lo).testBit i = (decide (lo ≤ i) && k.testBit (i - lo)) := by
    intro k _
    rw [Nat.mul_comm, Nat.testBit_two_pow_mul]
  unfold putFld
  simp only [BitVec.getLsbD_or, BitVec.getLsbD_and, BitVec.getLsbD_not, BitVec.getLsbD_ofNat, e _ 0,
    Nat.testBit_two_pow_sub_one]
  by_cases h1 : lo ≤ i <;> by_cases h2 : i ≤ hi
  · have : i - lo < hi + 1 - lo := by omega
    simp [h1, h2, hi', this]
  · have : ¬ i - lo < hi + 1 - lo := by omega
    simp [h1, h2, hi', this]
  · simp [h1, hi']
  · simp [h1, hi']

theorem wfld_testBit (v : W32) (hi lo j : Nat) (hl : lo ≤ hi) :
    (wfld v hi lo).testBit j = (decide (j ≤ hi - lo) && v.getLsbD (lo + j)) := by
  unfold wfld
  rw [Nat.testBit_mod_two_pow, Nat.testBit_div_two_pow, ← BitVec.testBit_toNat, Nat.add_comm j lo]
  congr 1
  simp; omega

/-- A field reads as written. -/
theorem wfld_putFld (v : W32) (hi lo n : Nat) (hh : hi < 32) (hl : lo ≤ hi) :
    wfld (putFld v hi lo n) hi lo = n % 2 ^ (hi + 1 - lo) := by
  apply Nat.eq_of_testBit_eq
  intro j
  rw [wfld_testBit _ _ _ _ hl, Nat.testBit_mod_two_pow]
  by_cases h : j ≤ hi - lo
  · rw [getLsbD_putFld _ _ _ _ _ (by omega)]
    have h1 : lo ≤ lo + j ∧ lo + j ≤ hi := by omega
    have h2 : j < hi + 1 - lo := by omega
    simp [h, h1, h2]
  · have h2 : ¬ j < hi + 1 - lo := by omega
    simp [h, h2]

/-- A field disjoint from the one written reads as before. -/
theorem wfld_putFld_other (v : W32) (hi lo n hi' lo' : Nat) (hh' : hi' < 32)
    (hl' : lo' ≤ hi') (hd : hi' < lo ∨ hi < lo') :
    wfld (putFld v hi lo n) hi' lo' = wfld v hi' lo' := by
  apply Nat.eq_of_testBit_eq
  intro j
  rw [wfld_testBit _ _ _ _ hl', wfld_testBit _ _ _ _ hl']
  by_cases h : j ≤ hi' - lo'
  · rw [getLsbD_putFld _ _ _ _ _ (by omega)]
    have h1 : ¬ (lo ≤ lo' + j ∧ lo' + j ≤ hi) := by omega
    simp [h1]
  · simp [h]

theorem State.reg_setFld (s : State) (a hi lo n a' : Nat) :
    (s.setFld a hi lo n).reg a' = if a' = a then putFld (s.reg a) hi lo n else s.reg a' := State.reg_setReg _ _ _ _

/-- Writing a field: that field reads as written, every field of another register as before. -/
theorem State.fld_setFld (s : State) (a hi lo n : Nat) (hh : hi < 32) (hl : lo ≤ hi) :
    (s.setFld a hi lo n).fld a hi lo = n % 2 ^ (hi + 1 - lo) := by
  simp [State.fld, State.reg_setFld, wfld_putFld _ _ _ _ hh hl]

theorem State.fld_setFld_reg (s : State) (a hi lo n a' hi' lo' : Nat) (h : a' ≠ a) :
    (s.setFld a hi lo n).fld a' hi' lo' = s.fld a' hi' lo' := by
  simp [State.fld, State.reg_setFld, h]

theorem State.fld_setFld_other (s : State) (a hi lo n hi' lo' : Nat) (hh' : hi' < 32)
    (hl' : lo' ≤ hi') (hd : hi' < lo ∨ hi < lo') :
    (s.setFld a hi lo n).fld a hi' lo' = s.fld a hi' lo' := by
  simp [State.fld, State.reg_setFld, wfld_putFld_other _ _ _ _ _ _ hh' hl' hd]

theorem State.bit_setFld (s : State) (a hi lo n a' b : Nat) (hb : b < 32) :
    (s.setFld a hi lo n).bit a' b =
      if a' = a ∧ lo ≤ b ∧ b ≤ hi then n.testBit (b - lo) else s.bit a' b := by
  unfold State.bit
  rw [State.reg_setFld]
  by_cases h : a' = a
  · subst h
    simp [getLsbD_putFld _ _ _ _ _ hb]
  · simp [h]

theorem State.bit_setBit (s : State) (a b : Nat) (v : Bool) (a' b' : Nat) (hb' : b' < 32) :
    (s.setBit a b v).bit a' b' = if a' = a ∧ b' = b then v else s.bit a' b' := by
  unfold State.setBit
  rw [State.bit_setFld _ _ _ _ _ _ _ hb']
  by_cases h : a' = a ∧ b' = b
  · obtain ⟨rfl, rfl⟩ := h
    cases v <;> simp
  · have : ¬ (a' = a ∧ b ≤ b' ∧ b' ≤ b) := by intro g; exact h ⟨g.1, by omega⟩
    simp [h, this]

theorem State.reg_setBit (s : State) (a b : Nat) (v : Bool) (a' : Nat) (h : a' ≠ a) :
    (s.setBit a b v).reg a' = s.reg a' := by
  simp [State.setBit, State.reg_setFld, h]

theorem State.reg_addSat (s : State) (a n a' : Nat) :
    (s.addSat a n).reg a' = if a' = a then BitVec.ofNat 32 (min 0xFFFFFFFF ((s.reg a).toNat + n)) else s.reg a' :=
  State.reg_setReg _ _ _ _

/-- A saturating counter goes up by n, to 0xFFFF_FFFF at most. -/
theorem State.addSat_toNat (s : State) (a n : Nat) :
    ((s.addSat a n).reg a).toNat = min 0xFFFFFFFF ((s.reg a).toNat + n) := by
  rw [State.reg_addSat]
  simp

/-! ## The canonical form -/

theorem State.wf_iff (s : State) :
    s.wf = true ↔ tabWf memReset s.mem = true ∧ tabWf regReset s.regs = true ∧ tabWf regReset s.work = true ∧
      keysRise s.engines = true := by
  simp [State.wf, regsWf, Memory.wf, and_assoc]

theorem State.wf_of_tables {s t : State} (hm : t.mem = s.mem) (hr : t.regs = s.regs) (hw : t.work = s.work)
    (he : t.engines = s.engines) (h : s.wf = true) : t.wf = true := by
  rw [State.wf_iff] at *; rw [hm, hr, hw, he]; exact h

theorem State.wf_setReg (s : State) (a : Nat) (v : W32) (h : s.wf = true) : (s.setReg a v).wf = true := by
  rw [State.wf_iff] at *
  exact ⟨h.1, tabWf_tabSet _ _ _ _ h.2.1, h.2.2⟩

theorem State.wf_setWork (s : State) (a : Nat) (v : W32) (h : s.wf = true) : (s.setWork a v).wf = true := by
  rw [State.wf_iff] at *
  exact ⟨h.1, h.2.1, tabWf_tabSet _ _ _ _ h.2.2.1, h.2.2.2⟩

theorem State.wf_setByte (s : State) (a : Nat) (v : Byte) (h : s.wf = true) : (s.setByte a v).wf = true := by
  rw [State.wf_iff] at *
  exact ⟨tabWf_tabSet _ _ _ _ h.1, h.2⟩

theorem State.wf_setFld (s : State) (a hi lo n : Nat) (h : s.wf = true) : (s.setFld a hi lo n).wf = true :=
  State.wf_setReg _ _ _ h

theorem State.wf_setBit (s : State) (a b : Nat) (v : Bool) (h : s.wf = true) : (s.setBit a b v).wf = true :=
  State.wf_setReg _ _ _ h

theorem State.wf_addSat (s : State) (a n : Nat) (h : s.wf = true) : (s.addSat a n).wf = true :=
  State.wf_setReg _ _ _ h

theorem State.wf_setWord (s : State) (a : Nat) (v : W32) (h : s.wf = true) : (s.setWord a v).wf = true :=
  State.wf_setByte _ _ _ (State.wf_setByte _ _ _ (State.wf_setByte _ _ _ (State.wf_setByte _ _ _ h)))

theorem State.wf_setBytes (bs : List Byte) (s : State) (a : Nat) (h : s.wf = true) : (s.setBytes a bs).wf = true := by
  induction bs generalizing s a with
  | nil => exact h
  | cons b bs ih => exact ih _ _ (State.wf_setByte _ _ _ h)

theorem bytes_append (v : BitVec (8 + (8 + (8 + 8)))) :
    (v >>> 24).setWidth 8 ++ ((v >>> 16).setWidth 8 ++ ((v >>> 8).setWidth 8 ++ v.setWidth 8)) = v := by
  ext i hi
  simp only [BitVec.getElem_append, BitVec.getElem_setWidth, BitVec.getLsbD_ushiftRight]
  have get : ∀ j, j = i → v.getLsbD j = v[i] := by rintro j rfl; exact BitVec.getLsbD_eq_getElem hi
  (repeat' split) <;> first | rfl | (apply get; omega)

/-- A word reads back as written. -/
theorem State.word_setWord (s : State) (a : Nat) (v : W32) : (s.setWord a v).word a = v := by
  have h : (s.setWord a v).word a =
      (v >>> 24).setWidth 8 ++ ((v >>> 16).setWidth 8 ++ ((v >>> 8).setWidth 8 ++ v.setWidth 8)) := by
    simp only [State.word, State.setWord, State.byte_setByte]
    simp
  rw [h]
  exact bytes_append v

end Sys2Proof.Machine
end

