-- ==== Sys2Proof/Laws/Emit.lean ====
section
/-! SUPPORT. What sending, raising an event, setting a flag, answering a command and holding a controller's routine can
change: one lemma for each of these operations, which says all of it. -/

namespace Sys2Proof.Machine

/-- The registers that the ways out of the unit keep: command counters, link and frame counters, event registers. -/
def emitReg (a : Nat) : Bool :=
  decide (a ∈ [0x00010008, 0x0001000C, 0x00010018, 0x00030004, 0x00031004, 0x00032004, 0x00033004, 0x00040024, 0x00040034,
    0x10028004, 0x10029004]) || (decide (0x00060000 ≤ a) && decide (a < 0x00060400))

/-- t comes from s by what goes out of the unit and by writes to the registers of a list: no engine, memory, port, pin or
store changes, what was sent stays sent, and the canonical form is kept. -/
structure Emits (l : List Nat) (s t : State) : Prop where
  frame : t = { s with regs := t.regs, links := t.links, cmd := t.cmd, evt := t.evt, sent := t.sent }
  regs : ∀ a, a ∉ l → emitReg a = false → t.reg a = s.reg a
  sent : ∃ m, t.sent = s.sent ++ m
  wf : s.wf = true → t.wf = true

theorem Emits.refl (l : List Nat) (s : State) : Emits l s s :=
  ⟨rfl, fun _ _ _ => rfl, ⟨[], by simp⟩, id⟩

theorem Emits.trans {l : List Nat} {s t u : State} (h : Emits l s t) (k : Emits l t u) : Emits l s u := by
  refine ⟨?_, fun a ha he => (k.regs a ha he).trans (h.regs a ha he), ?_, fun w => k.wf (h.wf w)⟩
  · have e := k.frame
    rw [h.frame] at e
    exact e
  · obtain ⟨m, hm⟩ := h.sent
    obtain ⟨n, hn⟩ := k.sent
    exact ⟨m ++ n, by rw [hn, hm, List.append_assoc]⟩

theorem Emits.mono {l l' : List Nat} {s t : State} (h : Emits l s t) (hl : ∀ a ∈ l, a ∈ l' ∨ emitReg a = true) : Emits l' s t :=
  ⟨h.frame, fun a ha he => h.regs a (fun m => by rcases hl a m with q | q <;> simp_all) he, h.sent, h.wf⟩

/-- A register of the list, or one that the ways out keep, is written. -/
theorem Emits.setReg (l : List Nat) (s : State) (a : Nat) (v : W32) (h : a ∈ l ∨ emitReg a = true) : Emits l s (s.setReg a v) := by
  refine ⟨rfl, fun b hb he => ?_, ⟨[], by simp [State.setReg]⟩, State.wf_setReg s a v⟩
  rw [State.reg_setReg]
  split
  · subst b; rcases h with h | h <;> simp_all
  · rfl

theorem Emits.setFld (l : List Nat) (s : State) (a hi lo n : Nat) (h : a ∈ l ∨ emitReg a = true) :
    Emits l s (s.setFld a hi lo n) := Emits.setReg l s a _ h

theorem Emits.addSat (l : List Nat) (s : State) (a n : Nat) (h : a ∈ l ∨ emitReg a = true) : Emits l s (s.addSat a n) :=
  Emits.setReg l s a _ h

/-- An update of the command unit, the ports, the event path or what was sent. -/
theorem Emits.other (l : List Nat) (s t : State) (h : t = { s with links := t.links, cmd := t.cmd, evt := t.evt, sent := t.sent })
    (hm : ∃ m, t.sent = s.sent ++ m) : Emits l s t := by
  have hr : t.regs = s.regs := by rw [h]
  have hw : t.work = s.work := by rw [h]
  have he : t.engines = s.engines := by rw [h]
  have hmem : t.mem = s.mem := by rw [h]
  refine ⟨?_, fun a _ _ => State.reg_of_regs hr a, hm, State.wf_of_tables hmem hr hw he⟩
  rw [hr]; exact h

theorem emitReg_link (p : LPort) : emitReg (linkAddr p 4) = true := by
  cases p with
  | hl k => revert k; decide
  | seamA => decide
  | seamB => decide

theorem emitReg_pend (src : Nat) (h : src < 1344) : emitReg (aPend (src / 32)) = true := by
  have : src / 32 < 42 := by omega
  unfold emitReg aPend
  rw [Bool.or_eq_true, Bool.and_eq_true]
  exact .inr ⟨decide_eq_true (by omega), decide_eq_true (by omega)⟩

/-! ## Sending -/

theorem State.transmit_emits (s : State) (o : Out) : Emits [] s (s.transmit o) := by
  unfold State.transmit
  dsimp only
  split
  · exact Emits.refl _ _
  · rename_i p t _
    have key : ∀ u : State, Emits [] s u → Emits [] s (if u.linkUp p then (u.setFld (linkAddr p 4) 6 5 0).setLink p
        (Link.pump { u.link p with wait := insTx t (u.link p).wait }) else u) := by
      intro u hu
      split
      · refine (hu.trans (Emits.setFld [] u _ 6 5 0 (.inr (emitReg_link p)))).trans (Emits.other _ _ _ rfl ⟨[], ?_⟩)
        simp [State.setLink]
      · exact hu
    apply key
    split
    · exact Emits.other _ _ _ rfl ⟨[], by simp⟩
    · exact Emits.other _ _ _ rfl ⟨[], by simp⟩
    · exact Emits.refl _ _

theorem State.transmit_sent (s : State) (o : Out) : (s.transmit o).sent = s.sent := by
  unfold State.transmit
  dsimp only
  split
  · rfl
  · split <;> split <;> simp

/-- Sending notes the transaction and changes nothing but the ways out. -/
theorem State.send_emits (s : State) (o : Out) : Emits [] s (s.send o) := by
  unfold State.send
  dsimp only
  split
  · rename_i p hp
    have hreg : emitReg (0x00040024 + 0x10 * p) = true := by
      unfold mgmtTx at hp
      split at hp
      · split at hp <;> simp at hp <;> subst hp <;> decide
      · split at hp <;> simp at hp; subst hp; decide
      · split at hp <;> simp at hp <;> subst hp <;> decide
      · split at hp <;> simp at hp <;> subst hp <;> decide
      · simp at hp
    refine ((Emits.addSat [] s _ 1 (.inr hreg)).trans (Emits.other _ _ _ rfl ⟨[o], ?_⟩)).trans (State.transmit_emits _ o)
    simp
  · exact (Emits.other [] s { s with sent := s.sent ++ [o] } rfl ⟨[o], rfl⟩).trans (State.transmit_emits _ o)

/-- What is sent stands last. -/
theorem State.send_sent (s : State) (o : Out) : (s.send o).sent = s.sent ++ [o] := by
  unfold State.send
  dsimp only
  rw [State.transmit_sent]
  split <;> simp

theorem State.sendResult_emits (s : State) (o : Out) : Emits [] s (s.sendResult o) := by
  unfold State.sendResult
  split
  · exact State.send_emits s o
  · exact Emits.other _ _ _ rfl ⟨[], by simp⟩

/-! ## Events and flags -/

theorem State.setPend_emits (s : State) (src : Nat) (h : src < 1344) : Emits [] s (s.setPend src) :=
  Emits.setReg _ _ _ _ (.inr (emitReg_pend src h))

theorem State.sendNotice_emits (s : State) (n : Notice) : Emits [] s (s.sendNotice n) := by
  have last : ∀ u : State, Emits [] s u → Emits [] s (if (u.bit 0x00060000 2 && u.bit 0x00040004 0) = true then
      u.send (.notice (some (u.hostMac, u.ownMac)) (noticeWords n (s.fld aNseq 15 0))) else u) := by
    intro u hu
    split
    · exact hu.trans (State.send_emits _ _)
    · exact hu
  unfold State.sendNotice
  dsimp only
  apply last
  have h0 : Emits [] s (s.setFld aNseq 15 0 ((s.fld aNseq 15 0 + 1) % 0x10000)) := Emits.setFld _ _ _ _ _ _ (.inr (by decide))
  split
  · exact h0
  · split
    · refine h0.trans (((Emits.addSat [] _ aEvtLost 1 (.inr (by decide))).trans (Emits.other _ _ _ rfl ⟨[], ?_⟩)).trans
        (State.setPend_emits _ 1336 (by decide)))
      simp
    · exact h0.trans (State.sendResult_emits _ _)

theorem State.lostNotice_emits (s : State) : Emits [] s s.lostNotice := by
  unfold State.lostNotice
  dsimp only
  split
  · exact Emits.refl _ _
  · have h0 : Emits [] s { s with evt := { s.evt with lostCount := tabSet 0 s.evt.lostCount 1336 0 } } :=
      Emits.other _ _ _ rfl ⟨[], by simp⟩
    split
    · exact h0.trans (State.sendNotice_emits _ _)
    · exact h0

theorem State.hostRaise_emits (s : State) (n : Notice) (h : n.source < 1344) : Emits [] s (s.hostRaise n) := by
  unfold State.hostRaise
  dsimp only
  have h0 := State.setPend_emits s n.source h
  split
  · exact (h0.trans (State.lostNotice_emits _)).trans (State.sendNotice_emits _ _)
  · exact h0

theorem State.fieldRaise_emits (s : State) (n : Notice) : Emits [] s (s.fieldRaise n) := by
  unfold State.fieldRaise
  split <;> exact Emits.other _ _ _ rfl ⟨[], by simp⟩

/-- Raising an event source changes nothing but the ways out. -/
theorem State.raise_emits (s : State) (source reg bit index : Nat) (detail : BitVec 16) (h : source < 1344) :
    Emits [] s (s.raise source reg bit index detail) := by
  unfold State.raise
  split
  · exact State.fieldRaise_emits _ _
  · exact State.hostRaise_emits _ _ h

/-- Setting a flag changes its register and the ways out. -/
theorem State.flagD_emits (s : State) (f : FlagReg) (b : Nat) (d : BitVec 16) (h : f.source < 1344) :
    Emits [f.addr] s (s.flagD f b d) := by
  unfold State.flagD
  split
  · exact Emits.refl _ _
  · exact (Emits.setReg [f.addr] s f.addr _ (.inl (by simp))).trans ((State.raise_emits _ _ _ _ _ _ h).mono (by simp))

theorem State.flag_emits (s : State) (f : FlagReg) (b : Nat) (h : f.source < 1344) : Emits [f.addr] s (s.flag f b) :=
  State.flagD_emits s f b 0 h

theorem State.flags_emits (bs : List Nat) (s : State) (f : FlagReg) (h : f.source < 1344) : Emits [f.addr] s (s.flags f bs) := by
  induction bs generalizing s with
  | nil => exact Emits.refl _ _
  | cons b bs ih => exact (State.flag_emits s f b h).trans (ih _)

/-- A flag's own register after it is set. -/
theorem State.flag_reg (s : State) (f : FlagReg) (b : Nat) (hs : f.source < 1344) (hb : b < 32) (he : emitReg f.addr = false) :
    (s.flag f b).reg f.addr = s.reg f.addr ||| (1#32 <<< b) := by
  unfold State.flag State.flagD
  split
  · rename_i h
    unfold State.bit at h
    apply BitVec.eq_of_getLsbD_eq
    intro i hi
    simp only [BitVec.getLsbD_or, BitVec.getLsbD_shiftLeft, BitVec.getLsbD_one]
    by_cases hib : i = b
    · subst hib; simp [h]
    · by_cases h2 : i < b
      · simp [h2]
      · have : i - b ≠ 0 := by omega
        simp [this]
  · rw [(State.raise_emits _ _ _ _ _ _ hs).regs f.addr (by simp) he, State.reg_setReg]
    simp

/-! ## Replies -/

theorem State.sendReply_emits (s : State) (h : Hdr) (r : Reply) : Emits [] s (s.sendReply h r) := by
  unfold State.sendReply
  split
  · exact Emits.refl _ _
  · exact State.send_emits _ _

theorem State.countError_emits (s : State) (h : Hdr) (op : Nat) (st : Byte) : Emits [] s (s.countError h op st) := by
  unfold State.countError
  dsimp only
  split
  · exact Emits.refl _ _
  · exact ((Emits.addSat [] s aCmdErrCount 1 (.inr (by decide))).trans (Emits.setReg [] _ aCmdLastErr _ (.inr (by decide)))).trans
      (State.raise_emits _ _ _ _ _ _ (by decide))

theorem State.cachePut_emits (s : State) (h : Hdr) (r : Option Reply) : Emits [] s (s.cachePut h r) :=
  Emits.other _ _ _ rfl ⟨[], by simp [State.cachePut]⟩

theorem State.dequeue_emits (s : State) (h : Hdr) : Emits [] s (s.dequeue h) :=
  Emits.other _ _ _ rfl ⟨[], by simp [State.dequeue]⟩

/-- Ending a command's execution changes nothing but the ways out. -/
theorem State.finish_emits (s : State) (h : Hdr) (op : Nat) (st : Byte) (ps : List W32) : Emits [] s (s.finish h op st ps) := by
  unfold State.finish
  exact ((((State.dequeue_emits s h).trans (Emits.addSat [] _ aCmdCount 1 (.inr (by decide)))).trans (State.cachePut_emits _ _ _)).trans
    (State.countError_emits _ _ _ _)).trans (State.sendReply_emits _ _ _)

theorem State.finalReply_emits (s : State) (h : Hdr) (op : Nat) (st : Byte) (ps : List W32) :
    Emits [] s (s.finalReply h op st ps) := by
  unfold State.finalReply
  exact ((State.cachePut_emits s h _).trans (State.countError_emits _ _ _ _)).trans (State.sendReply_emits _ _ _)

theorem State.hold_emits (s : State) (h : Hdr) : Emits [] s (s.hold h) := by
  unfold State.hold
  exact ((State.dequeue_emits s h).trans (Emits.addSat [] _ aCmdCount 1 (.inr (by decide)))).trans (State.cachePut_emits _ _ _)

theorem State.resend_emits (s : State) (h : Hdr) (op : Nat) (c : Cached) : Emits [] s (s.resend h op c) := by
  unfold State.resend
  split <;> exact (State.dequeue_emits s h).trans (State.sendReply_emits _ _ _)

/-- A command that the CI does not take, or refuses before its own checks, changes nothing but the ways out. -/
theorem State.runCmd_cases (s : State) (h : Hdr) (op : Nat) (field : Bool) (body : State → State) (addr : W32) :
    s.runCmd h op field body addr = body s ∨ Emits [] s (s.runCmd h op field body addr) := by
  unfold State.runCmd
  split
  · exact .inr (Emits.refl _ _)
  · split
    · exact .inr (State.finish_emits _ _ _ _ _)
    · split
      · exact .inr (State.resend_emits _ _ _ _)
      · exact .inr (State.finish_emits _ _ _ _ _)
      · exact .inl rfl

/-- A command that the CI takes runs its own part. -/
theorem State.runCmd_taken (s : State) (h : Hdr) (op : Nat) (field : Bool) (body : State → State) (addr : W32)
    (ha : s.hostAlive = true) (hr : s.hostReady = true) (ht : s.myTurn h = true) (hc : s.ctlMode .ci ≠ 4) (hn : s.cached h = none)
    (hg : s.gate h op field addr = none) : s.runCmd h op field body addr = body s := by
  simp [State.runCmd, ha, hr, ht, hc, hn, hg]

/-! ## A controller's routine -/

theorem State.setLong_emits (s : State) (c : Ctl) (x : Option Long) : Emits [ctrlAddr c 8] s (s.setLong c x) := by
  unfold State.setLong
  refine Emits.trans (Emits.other _ s _ rfl ⟨[], ?_⟩) (Emits.setFld _ _ _ _ _ _ (.inl (by simp)))
  simp

theorem State.endLong_emits (s : State) (c : Ctl) (st : Byte) (ps : List W32) : Emits [ctrlAddr c 8] s (s.endLong c st ps) := by
  unfold State.endLong
  split
  · split
    · exact State.setLong_emits _ _ _
    · exact (State.setLong_emits _ _ _).trans ((State.finalReply_emits _ _ _ _ _).mono (by simp))
  · exact Emits.refl _ _

/-- A long command begins with a change of the ways out, then runs its own part; a busy controller refuses it. -/
theorem State.startLong_cases (s : State) (c : Ctl) (h : Hdr) (op : Nat) (arg : W32) (tiles : List Nat) (body : State → State) :
    Emits [] s (s.startLong c h op arg tiles body) ∨
      ∃ t, Emits [ctrlAddr c 8] s t ∧ s.startLong c h op arg tiles body = body t := by
  unfold State.startLong
  split
  · exact .inl (State.finish_emits _ _ _ _ _)
  · exact .inr ⟨_, ((State.finish_emits _ _ _ _ _).mono (by simp)).trans (State.setLong_emits _ _ _), rfl⟩

/-! ## What an operation over a list keeps -/

/-- A relation that every pass of a loop keeps holds after the loop. -/
theorem foldS_rel {α : Type} (r : State → State → Prop) (hr : ∀ s, r s s) (ht : ∀ s t u, r s t → r t u → r s u)
    (f : α → State → State) (l : List α) (hf : ∀ x ∈ l, ∀ s, r s (f x s)) (s : State) : r s (foldS l f s) := by
  induction l generalizing s with
  | nil => exact hr s
  | cons x l ih =>
    exact ht _ _ _ (hf x (by simp) s) (ih (fun y hy => hf y (by simp [hy])) (f x s))

/-- Time moves on to a block: the clocks alone change, and only where the block lies ahead. -/
theorem State.advanceTo_frame (s : State) (b : W32) : s.advanceTo b = { s with clk := (s.advanceTo b).clk } := by
  unfold State.advanceTo
  dsimp only
  split <;> rfl

theorem State.advanceTo_reg (s : State) (b : W32) (a : Nat) : (s.advanceTo b).reg a = s.reg a := by
  rw [State.advanceTo_frame]; rfl

/-- The same to a 64-bit block. -/
theorem State.advance64_frame (s : State) (b : W64) : s.advance64 b = { s with clk := (s.advance64 b).clk } := by
  unfold State.advance64
  dsimp only
  split <;> rfl

theorem State.advance64_reg (s : State) (b : W64) (a : Nat) : (s.advance64 b).reg a = s.reg a := by
  rw [State.advance64_frame]; rfl

/-- What a register was before the pin block is remembered: the log of earlier values alone changes (R137, R238). -/
theorem State.remember_frame (s : State) (a : Nat) : s.remember a = { s with synth := (s.remember a).synth } := by
  unfold State.remember
  split <;> rfl

/-- A table word written again holds no error: Mender's list of bad words alone changes (R194). -/
theorem State.heal_frame (s : State) (a : Nat) : s.heal a = { s with mend := (s.heal a).mend } := by
  unfold State.heal
  split <;> rfl

theorem State.heal_bad (s : State) (a n : Nat) (h : tableWord a = some n) : n ∉ (s.heal a).mend.bad := by
  simp [State.heal, h]

/-- A copied range's write is noted for the copy: the list of dirty pages alone changes. -/
theorem State.touch_frame (s : State) (a : Nat) : s.touch a = { s with pair := (s.touch a).pair } := by
  unfold State.touch
  split <;> rfl

end Sys2Proof.Machine
end

