-- ==== Sys2Proof/Laws/Engine.lean ====
section
/-! SUPPORT. What the shared operations of the engines can do: one lemma for each, which the statements about engine
instructions cite in place of its definition. -/

namespace Sys2Proof.Machine

/-! ## One engine -/

theorem State.eng_modEng (s : State) (e e' : Nat) (f : Engine → Engine) :
    (s.modEng e f).eng e' = if e' = e then f (s.eng e) else s.eng e' := State.eng_setEng s e e' _

theorem State.modEng_frame (s : State) (e : Nat) (f : Engine → Engine) :
    s.modEng e f = { s with engines := (s.modEng e f).engines } := rfl

@[simp] theorem State.modEng_reg (s : State) (e : Nat) (f : Engine → Engine) (a : Nat) : (s.modEng e f).reg a = s.reg a := rfl

@[simp] theorem State.modEng_byte (s : State) (e : Nat) (f : Engine → Engine) (a : Nat) : (s.modEng e f).byte a = s.byte a := rfl

theorem State.eng_setSt (s : State) (e e' : Nat) (st : EngSt) (c : Nat) :
    (s.setSt e st c).eng e' = if e' = e then { s.eng e with st := st, cause := c } else s.eng e' := State.eng_modEng s e e' _

theorem Emits.eng {l : List Nat} {s t : State} (h : Emits l s t) (e : Nat) : t.eng e = s.eng e := by rw [h.frame]; rfl

theorem Emits.byte {l : List Nat} {s t : State} (h : Emits l s t) (a : Nat) : t.byte a = s.byte a := by rw [h.frame]; rfl

/-! ## Windows and removed descriptors -/

/-- The windows of an ACQUIRE end; nothing but the channels' contexts changes. -/
theorem State.killWindows_frame (s : State) (e : Nat) (d : Desc) (c : Nat) :
    s.killWindows e d c = { s with chans := (s.killWindows e d c).chans } := by
  unfold State.killWindows
  split
  · exact foldS_rel (fun s t => t = { s with chans := t.chans }) (fun _ => rfl)
      (fun s t u h k => by rw [h] at k; exact k) _ _ (fun _ _ _ => rfl) _
  · rfl

theorem State.lapseArm_frame (s : State) (e : Nat) (d : Desc) :
    s.lapseArm e d = { s with engines := (s.lapseArm e d).engines } := by
  unfold State.lapseArm
  split <;> rfl

/-- A descriptor that was never accepted goes: contexts and the engine's live arms alone change. -/
theorem State.dropOffer_frame (s : State) (e : Nat) (d : Desc) (c : Nat) :
    s.dropOffer e d c = { s with engines := (s.dropOffer e d c).engines, chans := (s.dropOffer e d c).chans } := by
  unfold State.dropOffer
  have h := State.lapseArm_frame (s.killWindows e d c) e d
  have k := State.killWindows_frame s e d c
  generalize (s.killWindows e d c).lapseArm e d = u at h ⊢
  rw [k] at h
  rw [h]

theorem State.addSat_twice_frame (s : State) (a b m n : Nat) :
    (s.addSat a m).addSat b n = { s with regs := ((s.addSat a m).addSat b n).regs } := rfl

theorem State.countDiscard_frame (s : State) (e : Nat) : s.countDiscard e = { s with regs := (s.countDiscard e).regs } :=
  State.addSat_twice_frame s (hemAddr e 0x20) aDiscardTotal 1 1

theorem State.countDiscard_reg (s : State) (e a : Nat) (h : a ≠ hemAddr e 0x20) (k : a ≠ aDiscardTotal) :
    (s.countDiscard e).reg a = s.reg a := by
  unfold State.countDiscard
  rw [State.reg_addSat, if_neg k, State.reg_addSat, if_neg h]

/-- An accepted descriptor is dropped: its two counters, contexts and the engine change. -/
theorem State.dropWork_frame (s : State) (e : Nat) (w : Work) : s.dropWork e w =
    { s with regs := (s.dropWork e w).regs, engines := (s.dropWork e w).engines, chans := (s.dropWork e w).chans } := by
  unfold State.dropWork
  have h := State.dropOffer_frame (s.countDiscard e) e w.d 1
  generalize (s.countDiscard e).dropOffer e w.d 1 = u at h ⊢
  rw [h, State.countDiscard_frame]

theorem State.dropWhere_frame (s : State) (e : Nat) (p : Work → Bool) : s.dropWhere e p =
    { s with regs := (s.dropWhere e p).regs, engines := (s.dropWhere e p).engines, chans := (s.dropWhere e p).chans } := by
  unfold State.dropWhere
  dsimp only
  have h := foldS_rel (fun s t => t = { s with regs := t.regs, engines := t.engines, chans := t.chans }) (fun _ => rfl)
    (fun s t u h k => by rw [h] at k; exact k) (fun w s => s.dropWork e w) ((s.eng e).work.filter (fun w => !s.workDone w && p w))
    (fun w _ s => State.dropWork_frame s e w) (s.modEng e (fun x => { x with work := x.work.filter (fun w => !(!s.workDone w && p w)) }))
  rw [h]
  rfl

theorem State.cutAt_frame (s : State) (e : Nat) (p : Work → Bool) (x : Tm) :
    s.cutAt e p x = { s with engines := (s.cutAt e p x).engines } := rfl

/-! ## Leaving a START set -/

theorem State.modSet_frame (s : State) (id : Nat) (f : StartSet → StartSet) : s.modSet id f = { s with sets := (s.modSet id f).sets } := rfl

theorem State.dropPledgeWait_frame (s : State) (e : Nat) : s.dropPledgeWait e =
    { s with engines := (s.dropPledgeWait e).engines, chans := (s.dropPledgeWait e).chans } := by
  unfold State.dropPledgeWait
  split
  · rename_i d _
    have h := State.dropOffer_frame s e d.1 1
    generalize s.dropOffer e d.1 1 = u at h ⊢
    rw [State.modEng_frame]
    rw [h]
  · rfl

/-- That an engine reported or left is noted in the engines alone. -/
theorem State.noteGone_frame (s : State) (o : Nat) : s.noteGone o = { s with engines := (s.noteGone o).engines } :=
  foldS_rel (fun s t => t = { s with engines := t.engines }) (fun _ => rfl) (fun s t u h k => by rw [h] at k; exact k)
    _ _ (fun _ _ _ => rfl) s

theorem State.leaveSet_frame (s : State) (e : Nat) (b : Bool) : s.leaveSet e b =
    { s with sets := (s.leaveSet e b).sets, engines := (s.leaveSet e b).engines, chans := (s.leaveSet e b).chans } := by
  unfold State.leaveSet
  split
  · rfl
  · rename_i id _
    dsimp only
    generalize hu : (s.modSet id _).noteGone e = u
    have h : u = { s with sets := u.sets, engines := u.engines } := by rw [← hu, State.noteGone_frame]; rfl
    have k := State.dropPledgeWait_frame u e
    split
    · rw [k, h]
    · generalize u.dropPledgeWait e = v at k ⊢
      rw [State.modEng_frame, k, h]

/-- ENG_ILLEGAL or ENG_STACK: the engine is in FAULT at the same PC, with its flag set. -/
theorem State.engFault_st (s : State) (e b : Nat) (he : e < 1280) :
    ((s.engFault e b).eng e).st = .fault ∧ ((s.engFault e b).eng e).cause = 0 := by
  unfold State.engFault
  have h := State.flag_emits ((((s.leaveSet e false).setSt e .fault).modEng e (fun x => { x with arm := none }))) (engFlags e) b
    (by show e < 1344; omega)
  rw [h.eng, State.eng_modEng, if_pos rfl, State.eng_setSt, if_pos rfl]
  exact ⟨rfl, rfl⟩

/-! ## Executing an instruction -/

/-- An engine at the named instruction runs its body, and then what follows any event of an engine. -/
theorem State.runOp_executes (s : State) (op : Nat) (e : Eng) (body : W64 → State → State) (hop : op ≤ 0x15)
    (hg : (s.eng e).goEnd = false) (hc : (s.eng e).canRun = true) (hp : (s.eng e).pledgeWait = none)
    (ho : opcodeOf (s.fetch e) = op) : s.runOp op e body = .next (body (s.fetch e) s).serveRuns := by
  have h : ¬ 0x15 < op := by omega
  simp [State.runOp, hg, hc, hp, h, ho]

/-- An engine that cannot execute is left as it is. -/
theorem State.runOp_idle (s : State) (op : Nat) (e : Eng) (body : W64 → State → State)
    (h : (s.eng e).goEnd = true ∨ (s.eng e).canRun = false) : s.runOp op e body = .next s := by
  unfold State.runOp
  dsimp only
  rw [if_pos]
  rcases h with h | h <;> simp [h]

/-- Another instruction at the PC: nothing happens. -/
theorem State.runOp_other (s : State) (op : Nat) (e : Eng) (body : W64 → State → State)
    (hk : opcodeOf (s.fetch e) ≤ 0x15) (ho : opcodeOf (s.fetch e) ≠ op) : s.runOp op e body = .next s := by
  have h : ¬ 0x15 < opcodeOf (s.fetch e) := by omega
  unfold State.runOp
  dsimp only
  rw [if_neg h, if_pos ho, ite_self]

/-- A reserved opcode raises ENG_ILLEGAL. -/
theorem State.runOp_reserved (s : State) (op : Nat) (e : Eng) (body : W64 → State → State)
    (hg : (s.eng e).goEnd = false) (hc : (s.eng e).canRun = true) (hp : (s.eng e).pledgeWait = none)
    (hk : 0x15 < opcodeOf (s.fetch e)) : s.runOp op e body = .next (s.engFault e 0).serveRuns := by
  simp [State.runOp, hg, hc, hp, hk]

/-- Every instruction answers a next state. -/
theorem State.runOp_next (s : State) (op : Nat) (e : Eng) (body : W64 → State → State) : ∃ t, s.runOp op e body = .next t := by
  unfold State.runOp
  dsimp only
  split
  · exact ⟨_, rfl⟩
  · split
    · exact ⟨_, rfl⟩
    · split <;> exact ⟨_, rfl⟩

theorem State.withForm_some {α : Type} (s : State) (e : Nat) (x : α) (body : α → State → State) :
    s.withForm e (some x) body = body x s := rfl

theorem State.withForm_none {α : Type} (s : State) (e : Nat) (body : α → State → State) :
    s.withForm e none body = s.engFault e 0 := rfl

/-- An offer finds no earlier one waiting: it stands as the engine's offer, and the engine goes on. -/
theorem State.offerDesc_free (s : State) (e : Nat) (d : Desc) (f : State → State) (h : (s.eng e).offer = none) :
    s.offerDesc e d f = (f (s.modEng e (fun x => { x with offer := some { d, slot := false, stream := false } }))).advance e := by
  simp [State.offerDesc, h]

/-- With an earlier offer unanswered the engine waits. -/
theorem State.offerDesc_busy (s : State) (e : Nat) (d : Desc) (f : State → State) (h : (s.eng e).offer.isSome = true) :
    s.offerDesc e d f = s.setSt e .waiting 1 := by
  simp [State.offerDesc, h]

end Sys2Proof.Machine
end

