-- ==== Sys2Proof/Machine/Micro.lean ====
section
/-! DEFINITION. The microinstructions of a controller (R362-R366): fields, fetch through the match registers, nanoword
selection, and the sequencer with the microstack and the register file that State holds. The ROMs and the dispatch table are
opaque constants of Config, for the spec gives their sizes only; so which microinstructions a routine runs no definition says, and
a command's effect is the one its rules give (log entry 108). -/

namespace Sys2Proof.Machine

/-- A microaddress: bit 14 is patch space (R364). -/
abbrev Uaddr := BitVec 15

/-- SEQ_OP, SEL and NANO of a microword (R363). -/
def useqOp (w : BitVec 16) : Nat := (w.extractLsb' 13 3).toNat
/-- SEL of a microword (R363). -/
def uSel (w : BitVec 16) : Nat := (w.extractLsb' 10 3).toNat
/-- NANO of a microword (R363). -/
def uNano (w : BitVec 16) : Nat := (w.extractLsb' 0 10).toNat

/-- A nanoword's fields (R364). -/
structure Nanoword where
  next : Uaddr
  aluOp : BitVec 4
  srcA : BitVec 7
  srcB : BitVec 7
  dest : BitVec 7
  imm : W32
  unitOp : BitVec 4
  unit : BitVec 6
  addrReg : BitVec 7
  dataReg : BitVec 7
  intMask : Bool
deriving DecidableEq, Repr

/-- The fields of 192 bits (R364). -/
def nanoword (w : BitVec 192) : Nanoword :=
  { next := w.extractLsb' 177 15, aluOp := w.extractLsb' 173 4, srcA := w.extractLsb' 166 7, srcB := w.extractLsb' 159 7
    dest := w.extractLsb' 152 7, imm := w.extractLsb' 120 32, unitOp := w.extractLsb' 116 4, unit := w.extractLsb' 110 6
    addrReg := w.extractLsb' 103 7, dataReg := w.extractLsb' 96 7, intMask := w.getLsbD 0 }

/-- A patch microword of the active bank (R375). -/
def State.patchMicro (s : State) (c : Ctl) (n : Nat) : BitVec 16 :=
  s.bankByte c (s.bank c) (0x81 + 2 * n) ++ s.bankByte c (s.bank c) (0x80 + 2 * n)

/-- A patch nanoword of the active bank, bits [7:0] first (R375). -/
def State.patchNano (s : State) (c : Ctl) (n : Nat) : BitVec 192 :=
  (List.range 24).foldl (fun v k => v ||| (s.bankByte c (s.bank c) (0x280 + 24 * n + k)).setWidth 192 <<< (8 * k)) 0

/-- Match register m of the active bank (R365). -/
def State.matchReg (s : State) (c : Ctl) (m : Nat) : W32 :=
  BitVec.ofNat 32 (imgWord (s.image c (s.bank c)) (0x880 + 4 * m))

/-- The patch address that redirects a ROM microaddress, if a patch is in force and an enabled match register names it. -/
def State.redirect (s : State) (c : Ctl) (a : BitVec 14) : Option Byte :=
  if s.ctlMode c ≠ 1 then none
  else ((List.range 32).map (s.matchReg c)).findSome? (fun (m : W32) =>
    if m.getLsbD 31 && m.extractLsb' 16 14 == a then some (m.extractLsb' 0 8) else none)

/-- The microword fetched at a microaddress and whether it came from patch space (R365); none is the machine check of a
fetch from patch space in safe mode (R370 cause 6). -/
def State.microFetch (s : State) (c : Ctl) (a : Uaddr) : Option (BitVec 16 × Bool) :=
  if a.getLsbD 14 then
    if s.ctlMode c = 2 then none else some (s.patchMicro c (a.extractLsb' 0 8).toNat, true)
  else
    match s.redirect c (a.extractLsb' 0 14) with
    | some p => some (s.patchMicro c p.toNat, true)
    | none => some (Config.romMicro (c == .fm) (a.extractLsb' 0 14), false)

/-- The nanoword that a microword names (R365). -/
def State.nanoFetch (s : State) (c : Ctl) (w : BitVec 16) (patch : Bool) : Nanoword :=
  nanoword (if patch && decide (0x3C0 ≤ uNano w) then s.patchNano c (uNano w - 0x3C0)
    else Config.romNano (c == .fm) (uNano w))

/-- What the sequencer does after a microinstruction: go on at an address with a microstack, end the routine, or take a
machine check with a cause. -/
inductive MicroSeq where
  | go (a : Uaddr) (stack : List Uaddr) (safe : Bool)
  | done
  | check (cause : Nat)
deriving DecidableEq, Repr

/-- The sequencer (R363), for the conditions SEL may name, the opcode being served and the microstack, newest first: `safe`
marks a safe point, which SAFE is in a privileged routine only. -/
def State.microSeq (s : State) (c : Ctl) (a : Uaddr) (stack : List Uaddr) (cond : Nat → Bool) (opcode : Byte)
    (privileged : Bool) : MicroSeq :=
  match s.microFetch c a with
  | none => .check 6
  | some (w, patch) =>
    let next := (s.nanoFetch c w patch).next
    match useqOp w with
    | 0 => .go (a + 1) stack false
    | 1 => .go next stack false
    | 2 => .go (if cond (uSel w) then next else a + 1) stack false
    | 3 => if 8 ≤ stack.length then .check 4 else .go next ((a + 1) :: stack) false
    | 4 => match stack with
      | r :: rest => .go r rest false
      | [] => .check 4
    | 5 => .go (Config.dispatch (c == .fm) (uSel w) opcode) stack false
    | 6 => .go (a + 1) stack privileged
    | _ => .done

/-- A scratch register, or what a port of the controller's units shows there (R364): a port's value is free. -/
def State.microReg (s : State) (c : Ctl) (r : BitVec 7) : W32 :=
  if r.toNat < 64 then tabGet 0 (s.ctl c).scratch r.toNat else Config.freeWord s.free

/-- SRC_B of a nanoword: a register, or the immediate (R364). -/
def State.microB (s : State) (c : Ctl) (n : Nanoword) : W32 := if n.srcB = 127 then n.imm else s.microReg c n.srcB

/-- DEST of a nanoword takes the result of its ALU_OP (R364); a number from 64 is a port, outside the register file. -/
def State.microDest (s : State) (c : Ctl) (n : Nanoword) : State :=
  if n.dest.toNat < 64 then
    let v := Config.alu n.aluOp (s.microReg c n.srcA) (s.microB c n)
    s.setCtl c { s.ctl c with scratch := tabSet 0 (s.ctl c).scratch n.dest.toNat v }
  else s

/-- A microinstruction (R363-R365, R371 step 1): the register file and the microstack after it; one that takes a machine check does
not execute. -/
def State.microStep (s : State) (c : Ctl) (a : Uaddr) (cond : Nat → Bool) (opcode : Byte) (privileged : Bool) :
    MicroSeq × State :=
  match s.microSeq c a (s.ctl c).stack cond opcode privileged, s.microFetch c a with
  | .check k, _ => (.check k, s)
  | r, none => (r, s)
  | r, some (w, patch) =>
    let t := s.microDest c (s.nanoFetch c w patch)
    match r with
    | .go b st safe => (.go b st safe, t.setCtl c { t.ctl c with stack := st })
    | .done => (.done, t)
    | .check k => (.check k, s)

/-- Whether interrupts are sampled at the boundary after a microinstruction (R366, R367): at each boundary of an ordinary
routine unless INT_MASK is set, only at safe points of a privileged one. -/
def intSampled (n : Nanoword) (privileged safe : Bool) : Bool := if privileged then safe else !n.intMask

end Sys2Proof.Machine
end

