-- ==== Sys2Proof/Laws/Micro.lean ====
section
/-! SUPPORT. What a step of the microsequencer can do to its microstack (R362, R363). -/

namespace Sys2Proof.Machine

/-- The microstack never holds more than eight addresses (R362). -/
theorem microSeq_stack {s : State} {c : Ctl} {a b : Uaddr} {st st' : List Uaddr} {cond : Nat → Bool} {op : Byte}
    {pr safe : Bool} (h : s.microSeq c a st cond op pr = .go b st' safe) (hs : st.length ≤ 8) : st'.length ≤ 8 := by
  unfold State.microSeq at h
  split at h
  · cases h
  · dsimp only at h
    split at h
    · cases h; exact hs
    · cases h; exact hs
    · cases h; exact hs
    · split at h
      · cases h
      · cases h; simp only [List.length_cons]; omega
    · split at h
      · cases h; simp only [List.length_cons] at hs; omega
      · cases h
    · cases h; exact hs
    · cases h; exact hs
    · cases h

/-- A microinstruction that goes on leaves a microstack of at most eight addresses (R362). -/
theorem microStep_stack {s t : State} {c : Ctl} {a b : Uaddr} {st : List Uaddr} {cond : Nat → Bool} {op : Byte} {pr safe : Bool}
    (h : s.microStep c a cond op pr = (.go b st safe, t)) (hs : (s.ctl c).stack.length ≤ 8) : (t.ctl c).stack.length ≤ 8 := by
  unfold State.microStep at h
  split at h
  · cases h
  · obtain ⟨-, rfl⟩ := Prod.mk.inj h
    exact hs
  · split at h
    · cases h
      have := microSeq_stack (by assumption) hs
      cases c <;> simpa [State.ctl, State.setCtl] using this
    · cases h
    · cases h

/-- In safe mode no match register acts: a ROM address fetches ROM (R371, R365). -/
theorem microFetch_safe {s : State} {c : Ctl} (a : BitVec 14) (h : s.ctlMode c = 2) :
    s.microFetch c (a.setWidth 15) = some (Config.romMicro (c == .fm) a, false) := by
  have e' : (a.setWidth 15).extractLsb' 0 14 = a := by
    ext i hi
    simp only [BitVec.getElem_extractLsb', BitVec.getLsbD_setWidth, Nat.zero_add]
    rw [BitVec.getLsbD_eq_getElem hi]; simp; omega
  simp [State.microFetch, State.redirect, h, e']

end Sys2Proof.Machine
end

