-- ==== Sys2Proof/WellFormed.lean ====
section
/-! DEFINITION. Which commands are well formed: what a command can carry by the sizes the spec gives its packet, message
or measurement. A refusal that the spec gives a status is no matter of form. -/

namespace Sys2Proof

/-- A packet's parameters fit PARAM_LEN (R281). -/
def fits (words : Nat) : Bool := words ≤ 2048

/-- Every element of a list passes a check and no two agree under a key. -/
def distinctBy {α : Type} (key : α → Nat) (l : List α) : Bool := (l.map key).Nodup

/-- A LEN field of a memory transaction (R264): 32 to max bytes. -/
def memLen (n max : Nat) : Bool := 32 ≤ n && n ≤ max

/-- A measured set of slice fits names each slice of each port once (R143). -/
def sliceFitsOk (l : List SliceFit) : Bool :=
  l.length == 68 && distinctBy (fun f => f.port.val * 17 + f.slice.val) l

/-- A measured set of flux fits names each mode and range of each port once (R387). -/
def fluxFitsOk (l : List FluxFit) : Bool :=
  l.length == 64 && distinctBy (fun f => f.port.val * 4 + f.r.val) l

/-- Whether a command is well formed. -/
def Instr.wf (i : Instr) : Bool :=
  match i with
  | .ping _ ws => fits ws.length
  | .read _ _ => true
  | .write _ _ _ => true
  | .readBlock _ _ _ => true
  | .writeBlock _ _ ws => fits (1 + ws.length)
  | .modify _ _ _ _ => true
  | .enumerate _ _ => true
  | .assignAddress _ _ _ _ => true
  | .load _ _ _ data => fits (2 + data.length)
  | .start _ _ _ _ _ set => fits (4 + set.length)
  | .stop _ _ set => fits (1 + set.length)
  | .abort _ _ _ set => fits (2 + set.length)
  | .calibrateReadout _ _ => true
  | .calibrateFlux _ _ => true
  | .calibrateHostHk _ _ => true
  | .calibrateFieldHk _ _ => true
  | .canarySweep _ _ => true
  | .sensorCheck _ _ => true
  | .nvVerify _ _ => true
  | .memBist _ _ => true
  | .converterLoop _ _ => true
  | .engineCheck _ _ => true
  | .hostMem _ _ => true
  | .selfTestDone _ _ => true
  | .patchLoad _ _ _ data => data.length % 4 == 0 && fits (2 + data.length / 4)
  | .patchApply _ _ _ sig => fits (2 + sig.length)
  | .patchActivate _ => true
  | .nvWrite _ _ data => data.length % 4 == 0 && fits (1 + data.length / 4)
  | .nvRead _ _ _ _ => true
  | .nvProgramDone _ => true
  | .pairJoin _ _ => true
  | .pairSplit _ => true
  | .pairHandover _ _ => true
  | .pairResync _ => true
  | .timeSet _ _ _ _ _ => true
  | .timeStep _ _ _ => true
  | .timeAlignSource _ _ => true
  | .timeAlignFollowSync _ _ => true
  | .timeAlignFollowSeam _ _ => true
  | .testUnlock _ ws => fits ws.length
  | .reset _ _ => true
  | .resetEffect => true
  | .halt _ => true
  | .nop _ => true
  | .play _ => true
  | .playStream _ => true
  | .wait _ => true
  | .waitUntil _ => true
  | .setFreq _ => true
  | .shiftPhase _ => true
  | .setPhase _ => true
  | .framePauli _ => true
  | .acquire _ => true
  | .publish _ => true
  | .branch _ => true
  | .loop _ => true
  | .call _ => true
  | .ret _ => true
  | .mark _ => true
  | .sync _ => true
  | .commit _ => true
  | .armJump _ => true
  | .counter _ => true
  | .shotEnd _ => true
  | .shotRendezvousComplete _ => true
  | .syncComplete _ _ _ => true
  | .syncTimeout _ _ _ => true
  | .hemAdmit _ => true
  | .descriptorDequeue _ => true
  | .segmentStart _ => true
  | .markOutPulse _ => true
  | .frameUpdate => true
  | .windowOpen _ => true
  | .outcomeRelease _ given => (given.getD []).length ≤ 2048
  | .slotEntryArrival _ _ => true
  | .trigInEdge _ _ => true
  | .engineDisable _ _ => true
  | .removalEffect => true
  | .engineReenable _ _ => true
  | .engineReenableEffect _ => true
  | .leadClr _ _ => true
  | .portEnable _ _ => true
  | .portEnableEffect _ => true
  | .portDisable _ _ => true
  | .portCommit _ _ => true
  | .tileCommit _ _ => true
  | .commitApply => true
  | .fluxCfgWrite _ _ => true
  | .rangeClampStart _ => true
  | .rangeClampRelease _ => true
  | .governorRequest => true
  | .governorGrant => true
  | .portWakeReady _ => true
  | .portDoze _ => true
  | .streamCfgWrite _ _ => true
  | .streamRequest _ => true
  | .streamRefill _ => true
  | .adcEnable _ _ => true
  | .adcPortReady _ => true
  | .readoutCalTileDone _ fits => sliceFitsOk fits
  | .rotationStep _ _ _ => true
  | .rotStalled _ => true
  | .fluxCalTileDone _ fits => fluxFitsOk fits
  | .hkCalDone _ _ _ => true
  | .pledge _ _ => true
  | .outcome _ _ => true
  | .remoteDeadline => true
  | .mirrorDeadline => true
  | .report _ m => m.paceGap < 2 ^ 24 && m.leadReq ≤ 40
  | .complete _ => true
  | .trig _ _ => true
  | .menderEnable _ => true
  | .menderCheckDone => true
  | .menderInput => true
  | .emptyRoundClose => true
  | .menderCommit => true
  | .mendXchg m => m.edges.all (fun x => decide (x.2.1 < 1024) && decide (x.2.2 < 1024))
  | .seamLostExchange => true
  | .observablePublish => true
  | .menderFrameUpdate => true
  | .menderScrub bad => bad.all (fun n => decide (n < 131072 + 8192))
  | .dmaRun _ _ => true
  | .dmaKick _ _ => true
  | .dmaBytesComplete _ units => units ≤ 134217727
  | .readData _ _ st data => decide (st.toNat ≤ 1) && decide (data.length ≤ 1024)
  | .writeAck _ _ st => decide (st.toNat ≤ 1)
  | .memReadTimeout _ _ => true
  | .arm _ _ => true
  | .disarm _ _ => true
  | .force _ _ => true
  | .triggerDecision _ => true
  | .captureComplete _ => true
  | .rearmEnd _ => true
  | .pocketData _ => true
  | .pocketOverflow _ => true
  | .liningFrameReceive _ _ _ => true
  | .liningHeartbeat _ => true
  | .liningDown _ => true
  | .liningTrainingAttempt _ => true
  | .liningUp => true
  | .registerAccess _ => true
  | .bulkLoad _ _ => true
  | .outcomeAndResultRecord => true
  | .eventNotice => true
  | .timeBeacon => true
  | .flitReceive _ _ => true
  | .nak _ _ => true
  | .nakRepeat _ => true
  | .credit _ _ _ _ => true
  | .creditSend _ => true
  | .command _ packet => 20 ≤ packet.length && packet.length ≤ 8212
  | .train _ _ => true
  | .trainingPhasePass _ => true
  | .trainingPhaseTimeout _ _ _ => true
  | .hostLinkRetrainTimer _ => true
  | .clockLaneLost _ => true
  | .silence _ => true
  | .laneDrift _ => true
  | .retrain _ _ => true
  | .loopback _ _ => true
  | .sleep _ => true
  | .quietEntry _ => true
  | .dormantEntry _ => true
  | .linkWake _ _ => true
  | .mgmtFrameReceive _ f => f.payload.length ≤ f.len
  | .mgmtLinkChange _ _ => true
  | .commandPacket _ _ bytes => bytes.length ≤ 9216
  | .registerWrite _ _ => true
  | .readClear _ => true
  | .devtimeLoRead => true
  | .netNowLoRead => true
  | .frameFreqLoRead _ _ => true
  | .frameFreqLoWrite _ _ _ => true
  | .frameFreqHiWrite _ _ _ => true
  | .timeProbe _ _ => true
  | .imageLost => true
  | .beaconSend => true
  | .mappingValidFrom _ => true
  | .announce _ _ => true
  | .ptpSync _ _ => true
  | .followUp _ _ => true
  | .delayReq _ _ => true
  | .delayResp _ _ _ => true
  | .holdover => true
  | .tcUnmatchedTimeout _ _ _ => true
  | .alignmentWordSend => true
  | .alignmentSourceEnd => true
  | .alignmentWordReceive _ _ => true
  | .seamTimeProbe _ => true
  | .alignTimeout _ => true
  | .hello _ _ => true
  | .helloTimeout => true
  | .autoJoinRetry => true
  | .seamBRetrain => true
  | .heartbeatSend _ => true
  | .heartbeat _ _ => true
  | .heartbeatLost _ => true
  | .digest _ d => d.length == 4
  | .digestGap => true
  | .digestReq _ _ => true
  | .digestDetail _ _ _ ds => ds.length ≤ 112
  | .relay _ _ data => data.length ≤ 8212
  | .releaseCause _ => true
  | .release _ _ => true
  | .handover _ _ _ => true
  | .handoverAck _ _ _ => true
  | .handoverAckTimeout => true
  | .handoverBlock => true
  | .handoverReq _ _ => true
  | .claimed _ => true
  | .interlockHigh => true
  | .claimUnmute _ => true
  | .split => true
  | .resyncData _ _ => true
  | .resyncCtrl _ _ => true
  | .resyncPassEnd => true
  | .interrupt _ => true
  | .safePoint _ _ => true
  | .longAbort _ _ => true
  | .watchdog _ => true
  | .machineCheck _ _ _ _ _ _ => true
  | .sensorConversion _ _ => true
  | .sensorReferenceCheck _ _ => true
  | .sensorTimeout _ => true
  | .throttleStep _ => true
  | .bandChange _ => true
  | .fieldShutdown _ => true
  | .yokeFault _ _ => true
  | .hostShutdown => true
  | .avAdjust _ _ _ => true
  | .hkConversion _ _ => true
  | .hkIntervalEnd _ => true
  | .hkInject _ _ => true
  | .canaryMeasurement margins => distinctBy (fun m => m.1.val) margins
  | .wearEstimate _ _ _ _ _ => true
  | .wearSave => true
  | .unlockExpiry _ => true
  | .bhLock _ => true
  | .supplyGood _ => true
  | .supplyLoss _ => true
  | .hostResetN => true
  | .fieldResetN => true
  | .hostBoot => true
  | .fmPatchRestore => true
  | .refclkValid => true
  | .refLost => true
  | .pllLock => true
  | .memClearDone => true
  | .adcOverRange _ _ => true
  | .inServiceSliceFailure _ _ => true
  | .handoverRetry => true
  | .interlockLowTimeout => true
  | .fieldResetRelease => true
  | .tilePowerUpDone _ => true

end Sys2Proof
end

