-- ==== Sys2Proof/Laws/PerInstr.lean ====
section
/-! SUPPORT. A law of every command as syntax: the parameter words of a well-formed packet fit PARAM_LEN (R281). -/

namespace Sys2Proof.Laws.PacketFits

/-- The parameter words that a command's packet carries (R281, R294); 0 for what is no packet. -/
def words : Instr → Nat
  | .ping _ ws => ws.length
  | .read _ _ => 1
  | .write _ _ _ => 2
  | .readBlock _ _ _ => 2
  | .writeBlock _ _ ws => 1 + ws.length
  | .modify _ _ _ _ => 3
  | .enumerate _ _ => 1
  | .assignAddress _ _ _ _ => 3
  | .load _ _ _ ws => 2 + ws.length
  | .start _ _ _ _ _ ws => 4 + ws.length
  | .stop _ _ ws => 1 + ws.length
  | .abort _ _ _ ws => 2 + ws.length
  | .calibrateReadout _ _ => 1
  | .calibrateFlux _ _ => 1
  | .calibrateHostHk _ _ => 1
  | .calibrateFieldHk _ _ => 1
  | .canarySweep _ _ => 1
  | .sensorCheck _ _ => 1
  | .nvVerify _ _ => 1
  | .memBist _ _ => 1
  | .converterLoop _ _ => 1
  | .engineCheck _ _ => 1
  | .hostMem _ _ => 1
  | .patchLoad _ _ _ ws => 2 + ws.length / 4
  | .patchApply _ _ _ ws => 2 + ws.length
  | .nvWrite _ _ ws => 1 + ws.length / 4
  | .nvRead _ _ _ _ => 3
  | .pairJoin _ _ => 1
  | .pairHandover _ _ => 1
  | .timeSet _ _ _ _ _ => 4
  | .timeStep _ _ _ => 2
  | .timeAlignSource _ _ => 1
  | .timeAlignFollowSync _ _ => 1
  | .timeAlignFollowSeam _ _ => 1
  | .testUnlock _ ws => ws.length
  | .reset _ _ => 1
  | _ => 0

/-- A well-formed command's packet carries at most 2048 parameter words. -/
def Statement (i : Instr) : Prop := i.wf = true → words i ≤ 2048

theorem ping (h : Hdr) (ws : List W32) : Statement (.ping h ws) := by simp [Statement, words, Instr.wf, fits]
theorem read (h : Hdr) (addr : W32) : Statement (.read h addr) := fun _ => Nat.le_of_ble_eq_true rfl
theorem write (h : Hdr) (addr : W32) (v : W32) : Statement (.write h addr v) := fun _ => Nat.le_of_ble_eq_true rfl
theorem readBlock (h : Hdr) (addr : W32) (count : W32) : Statement (.readBlock h addr count) := fun _ => Nat.le_of_ble_eq_true rfl
theorem writeBlock (h : Hdr) (addr : W32) (ws : List W32) : Statement (.writeBlock h addr ws) := by simp [Statement, words, Instr.wf, fits]
theorem modify (h : Hdr) (addr : W32) (mask : W32) (v : W32) : Statement (.modify h addr mask v) := fun _ => Nat.le_of_ble_eq_true rfl
theorem enumerate (h : Hdr) (w0 : W32) : Statement (.enumerate h w0) := fun _ => Nat.le_of_ble_eq_true rfl
theorem assignAddress (h : Hdr) (w0 : W32) (w1 : W32) (w2 : W32) : Statement (.assignAddress h w0 w1 w2) := fun _ => Nat.le_of_ble_eq_true rfl
theorem load (h : Hdr) (w0 : W32) (w1 : W32) (data : List W32) : Statement (.load h w0 w1 data) := by simp [Statement, words, Instr.wf, fits]
theorem start (h : Hdr) (w0 : W32) (w1 : W32) (w2 : W32) (w3 : W32) (set : List W32) : Statement (.start h w0 w1 w2 w3 set) := by simp [Statement, words, Instr.wf, fits]
theorem stop (h : Hdr) (w0 : W32) (set : List W32) : Statement (.stop h w0 set) := by simp [Statement, words, Instr.wf, fits]
theorem abort (h : Hdr) (w0 : W32) (w1 : W32) (set : List W32) : Statement (.abort h w0 w1 set) := by simp [Statement, words, Instr.wf, fits]
theorem calibrateReadout (h : Hdr) (w0 : W32) : Statement (.calibrateReadout h w0) := fun _ => Nat.le_of_ble_eq_true rfl
theorem calibrateFlux (h : Hdr) (w0 : W32) : Statement (.calibrateFlux h w0) := fun _ => Nat.le_of_ble_eq_true rfl
theorem calibrateHostHk (h : Hdr) (w0 : W32) : Statement (.calibrateHostHk h w0) := fun _ => Nat.le_of_ble_eq_true rfl
theorem calibrateFieldHk (h : Hdr) (w0 : W32) : Statement (.calibrateFieldHk h w0) := fun _ => Nat.le_of_ble_eq_true rfl
theorem canarySweep (h : Hdr) (w0 : W32) : Statement (.canarySweep h w0) := fun _ => Nat.le_of_ble_eq_true rfl
theorem sensorCheck (h : Hdr) (w0 : W32) : Statement (.sensorCheck h w0) := fun _ => Nat.le_of_ble_eq_true rfl
theorem nvVerify (h : Hdr) (w0 : W32) : Statement (.nvVerify h w0) := fun _ => Nat.le_of_ble_eq_true rfl
theorem memBist (h : Hdr) (w0 : W32) : Statement (.memBist h w0) := fun _ => Nat.le_of_ble_eq_true rfl
theorem converterLoop (h : Hdr) (w0 : W32) : Statement (.converterLoop h w0) := fun _ => Nat.le_of_ble_eq_true rfl
theorem engineCheck (h : Hdr) (w0 : W32) : Statement (.engineCheck h w0) := fun _ => Nat.le_of_ble_eq_true rfl
theorem hostMem (h : Hdr) (w0 : W32) : Statement (.hostMem h w0) := fun _ => Nat.le_of_ble_eq_true rfl
theorem selfTestDone (c : Ctl) (fail : Option W32) : Statement (.selfTestDone c fail) := fun _ => Nat.le_of_ble_eq_true rfl
theorem patchLoad (h : Hdr) (w0 : W32) (w1 : W32) (data : List Byte) : Statement (.patchLoad h w0 w1 data) := by simp [Statement, words, Instr.wf, fits]
theorem patchApply (h : Hdr) (w0 : W32) (w1 : W32) (sig : List W32) : Statement (.patchApply h w0 w1 sig) := by simp [Statement, words, Instr.wf, fits]
theorem patchActivate (c : Ctl) : Statement (.patchActivate c) := fun _ => Nat.le_of_ble_eq_true rfl
theorem nvWrite (h : Hdr) (w0 : W32) (data : List Byte) : Statement (.nvWrite h w0 data) := by simp [Statement, words, Instr.wf, fits]
theorem nvRead (h : Hdr) (w0 : W32) (w1 : W32) (w2 : W32) : Statement (.nvRead h w0 w1 w2) := fun _ => Nat.le_of_ble_eq_true rfl
theorem nvProgramDone (verifyFails : Nat) : Statement (.nvProgramDone verifyFails) := fun _ => Nat.le_of_ble_eq_true rfl
theorem pairJoin (h : Hdr) (w0 : W32) : Statement (.pairJoin h w0) := fun _ => Nat.le_of_ble_eq_true rfl
theorem pairSplit (h : Hdr) : Statement (.pairSplit h) := fun _ => Nat.le_of_ble_eq_true rfl
theorem pairHandover (h : Hdr) (w0 : W32) : Statement (.pairHandover h w0) := fun _ => Nat.le_of_ble_eq_true rfl
theorem pairResync (h : Hdr) : Statement (.pairResync h) := fun _ => Nat.le_of_ble_eq_true rfl
theorem timeSet (h : Hdr) (w0 : W32) (w1 : W32) (w2 : W32) (w3 : W32) : Statement (.timeSet h w0 w1 w2 w3) := fun _ => Nat.le_of_ble_eq_true rfl
theorem timeStep (h : Hdr) (w0 : W32) (w1 : W32) : Statement (.timeStep h w0 w1) := fun _ => Nat.le_of_ble_eq_true rfl
theorem timeAlignSource (h : Hdr) (w0 : W32) : Statement (.timeAlignSource h w0) := fun _ => Nat.le_of_ble_eq_true rfl
theorem timeAlignFollowSync (h : Hdr) (w0 : W32) : Statement (.timeAlignFollowSync h w0) := fun _ => Nat.le_of_ble_eq_true rfl
theorem timeAlignFollowSeam (h : Hdr) (w0 : W32) : Statement (.timeAlignFollowSeam h w0) := fun _ => Nat.le_of_ble_eq_true rfl
theorem testUnlock (h : Hdr) (ws : List W32) : Statement (.testUnlock h ws) := by simp [Statement, words, Instr.wf, fits]
theorem reset (h : Hdr) (w0 : W32) : Statement (.reset h w0) := fun _ => Nat.le_of_ble_eq_true rfl
theorem resetEffect : Statement (.resetEffect) := fun _ => Nat.le_of_ble_eq_true rfl
theorem halt (e : Eng) : Statement (.halt e) := fun _ => Nat.le_of_ble_eq_true rfl
theorem nop (e : Eng) : Statement (.nop e) := fun _ => Nat.le_of_ble_eq_true rfl
theorem play (e : Eng) : Statement (.play e) := fun _ => Nat.le_of_ble_eq_true rfl
theorem playStream (e : Eng) : Statement (.playStream e) := fun _ => Nat.le_of_ble_eq_true rfl
theorem wait (e : Eng) : Statement (.wait e) := fun _ => Nat.le_of_ble_eq_true rfl
theorem waitUntil (e : Eng) : Statement (.waitUntil e) := fun _ => Nat.le_of_ble_eq_true rfl
theorem setFreq (e : Eng) : Statement (.setFreq e) := fun _ => Nat.le_of_ble_eq_true rfl
theorem shiftPhase (e : Eng) : Statement (.shiftPhase e) := fun _ => Nat.le_of_ble_eq_true rfl
theorem setPhase (e : Eng) : Statement (.setPhase e) := fun _ => Nat.le_of_ble_eq_true rfl
theorem framePauli (e : Eng) : Statement (.framePauli e) := fun _ => Nat.le_of_ble_eq_true rfl
theorem acquire (e : Eng) : Statement (.acquire e) := fun _ => Nat.le_of_ble_eq_true rfl
theorem publish (e : Eng) : Statement (.publish e) := fun _ => Nat.le_of_ble_eq_true rfl
theorem branch (e : Eng) : Statement (.branch e) := fun _ => Nat.le_of_ble_eq_true rfl
theorem loop (e : Eng) : Statement (.loop e) := fun _ => Nat.le_of_ble_eq_true rfl
theorem call (e : Eng) : Statement (.call e) := fun _ => Nat.le_of_ble_eq_true rfl
theorem ret (e : Eng) : Statement (.ret e) := fun _ => Nat.le_of_ble_eq_true rfl
theorem mark (e : Eng) : Statement (.mark e) := fun _ => Nat.le_of_ble_eq_true rfl
theorem sync (e : Eng) : Statement (.sync e) := fun _ => Nat.le_of_ble_eq_true rfl
theorem commit (e : Eng) : Statement (.commit e) := fun _ => Nat.le_of_ble_eq_true rfl
theorem armJump (e : Eng) : Statement (.armJump e) := fun _ => Nat.le_of_ble_eq_true rfl
theorem counter (e : Eng) : Statement (.counter e) := fun _ => Nat.le_of_ble_eq_true rfl
theorem shotEnd (e : Eng) : Statement (.shotEnd e) := fun _ => Nat.le_of_ble_eq_true rfl
theorem shotRendezvousComplete (set : Nat) : Statement (.shotRendezvousComplete set) := fun _ => Nat.le_of_ble_eq_true rfl
theorem syncComplete (set : Nat) (group : Fin 64) (inst : Nat) : Statement (.syncComplete set group inst) := fun _ => Nat.le_of_ble_eq_true rfl
theorem syncTimeout (set : Nat) (group : Fin 64) (inst : Nat) : Statement (.syncTimeout set group inst) := fun _ => Nat.le_of_ble_eq_true rfl
theorem hemAdmit (e : Eng) : Statement (.hemAdmit e) := fun _ => Nat.le_of_ble_eq_true rfl
theorem descriptorDequeue (e : Eng) : Statement (.descriptorDequeue e) := fun _ => Nat.le_of_ble_eq_true rfl
theorem segmentStart (e : Eng) : Statement (.segmentStart e) := fun _ => Nat.le_of_ble_eq_true rfl
theorem markOutPulse (e : Eng) : Statement (.markOutPulse e) := fun _ => Nat.le_of_ble_eq_true rfl
theorem frameUpdate : Statement (.frameUpdate) := fun _ => Nat.le_of_ble_eq_true rfl
theorem windowOpen (c : Chan) : Statement (.windowOpen c) := fun _ => Nat.le_of_ble_eq_true rfl
theorem outcomeRelease (c : Chan) (given : Option (List (BitVec 16 × BitVec 16))) : Statement (.outcomeRelease c given) := fun _ => Nat.le_of_ble_eq_true rfl
theorem slotEntryArrival (e : Eng) (slot : Fin 16) : Statement (.slotEntryArrival e slot) := fun _ => Nat.le_of_ble_eq_true rfl
theorem trigInEdge (pin : Fin 8) (tick : BitVec 6) : Statement (.trigInEdge pin tick) := fun _ => Nat.le_of_ble_eq_true rfl
theorem engineDisable (e : Eng) (v : W32) : Statement (.engineDisable e v) := fun _ => Nat.le_of_ble_eq_true rfl
theorem removalEffect : Statement (.removalEffect) := fun _ => Nat.le_of_ble_eq_true rfl
theorem engineReenable (e : Eng) (v : W32) : Statement (.engineReenable e v) := fun _ => Nat.le_of_ble_eq_true rfl
theorem engineReenableEffect (e : Eng) : Statement (.engineReenableEffect e) := fun _ => Nat.le_of_ble_eq_true rfl
theorem leadClr (e : Eng) (v : W32) : Statement (.leadClr e v) := fun _ => Nat.le_of_ble_eq_true rfl
theorem portEnable (p : OPort) (v : W32) : Statement (.portEnable p v) := fun _ => Nat.le_of_ble_eq_true rfl
theorem portEnableEffect (p : OPort) : Statement (.portEnableEffect p) := fun _ => Nat.le_of_ble_eq_true rfl
theorem portDisable (p : OPort) (v : W32) : Statement (.portDisable p v) := fun _ => Nat.le_of_ble_eq_true rfl
theorem portCommit (p : OPort) (block : W32) : Statement (.portCommit p block) := fun _ => Nat.le_of_ble_eq_true rfl
theorem tileCommit (t : Tile) (block : W32) : Statement (.tileCommit t block) := fun _ => Nat.le_of_ble_eq_true rfl
theorem commitApply : Statement (.commitApply) := fun _ => Nat.le_of_ble_eq_true rfl
theorem fluxCfgWrite (f : Fin 256) (v : W32) : Statement (.fluxCfgWrite f v) := fun _ => Nat.le_of_ble_eq_true rfl
theorem rangeClampStart (f : Fin 256) : Statement (.rangeClampStart f) := fun _ => Nat.le_of_ble_eq_true rfl
theorem rangeClampRelease (f : Fin 256) : Statement (.rangeClampRelease f) := fun _ => Nat.le_of_ble_eq_true rfl
theorem governorRequest : Statement (.governorRequest) := fun _ => Nat.le_of_ble_eq_true rfl
theorem governorGrant : Statement (.governorGrant) := fun _ => Nat.le_of_ble_eq_true rfl
theorem portWakeReady (p : OPort) : Statement (.portWakeReady p) := fun _ => Nat.le_of_ble_eq_true rfl
theorem portDoze (p : OPort) : Statement (.portDoze p) := fun _ => Nat.le_of_ble_eq_true rfl
theorem streamCfgWrite (e : Eng) (v : W32) : Statement (.streamCfgWrite e v) := fun _ => Nat.le_of_ble_eq_true rfl
theorem streamRequest (e : Eng) : Statement (.streamRequest e) := fun _ => Nat.le_of_ble_eq_true rfl
theorem streamRefill (e : Eng) : Statement (.streamRefill e) := fun _ => Nat.le_of_ble_eq_true rfl
theorem adcEnable (l : Feed) (v : W32) : Statement (.adcEnable l v) := fun _ => Nat.le_of_ble_eq_true rfl
theorem adcPortReady (l : Feed) : Statement (.adcPortReady l) := fun _ => Nat.le_of_ble_eq_true rfl
theorem readoutCalTileDone (k : Fin 16) (fits : List SliceFit) : Statement (.readoutCalTileDone k fits) := fun _ => Nat.le_of_ble_eq_true rfl
theorem rotationStep (l : Feed) (converged : Bool) (fit : SliceFit) : Statement (.rotationStep l converged fit) := fun _ => Nat.le_of_ble_eq_true rfl
theorem rotStalled (l : Feed) : Statement (.rotStalled l) := fun _ => Nat.le_of_ble_eq_true rfl
theorem fluxCalTileDone (m : Fin 16) (fits : List FluxFit) : Statement (.fluxCalTileDone m fits) := fun _ => Nat.le_of_ble_eq_true rfl
theorem hkCalDone (s : Side) (offset : Int) (gain : Int) : Statement (.hkCalDone s offset gain) := fun _ => Nat.le_of_ble_eq_true rfl
theorem pledge (source : BitVec 11) (stamp : W32) : Statement (.pledge source stamp) := fun _ => Nat.le_of_ble_eq_true rfl
theorem outcome (b : Bool) (o : SeamOutcome) : Statement (.outcome b o) := fun _ => Nat.le_of_ble_eq_true rfl
theorem remoteDeadline : Statement (.remoteDeadline) := fun _ => Nat.le_of_ble_eq_true rfl
theorem mirrorDeadline : Statement (.mirrorDeadline) := fun _ => Nat.le_of_ble_eq_true rfl
theorem report (b : Bool) (m : ReportMsg) : Statement (.report b m) := fun _ => Nat.le_of_ble_eq_true rfl
theorem complete (m : CompleteMsg) : Statement (.complete m) := fun _ => Nat.le_of_ble_eq_true rfl
theorem trig (pin : Fin 8) (stamp : W64) : Statement (.trig pin stamp) := fun _ => Nat.le_of_ble_eq_true rfl
theorem menderEnable (v : W32) : Statement (.menderEnable v) := fun _ => Nat.le_of_ble_eq_true rfl
theorem menderCheckDone : Statement (.menderCheckDone) := fun _ => Nat.le_of_ble_eq_true rfl
theorem menderInput : Statement (.menderInput) := fun _ => Nat.le_of_ble_eq_true rfl
theorem emptyRoundClose : Statement (.emptyRoundClose) := fun _ => Nat.le_of_ble_eq_true rfl
theorem menderCommit : Statement (.menderCommit) := fun _ => Nat.le_of_ble_eq_true rfl
theorem mendXchg (m : XchgMsg) : Statement (.mendXchg m) := fun _ => Nat.le_of_ble_eq_true rfl
theorem seamLostExchange : Statement (.seamLostExchange) := fun _ => Nat.le_of_ble_eq_true rfl
theorem observablePublish : Statement (.observablePublish) := fun _ => Nat.le_of_ble_eq_true rfl
theorem menderFrameUpdate : Statement (.menderFrameUpdate) := fun _ => Nat.le_of_ble_eq_true rfl
theorem menderScrub (bad : List Nat) : Statement (.menderScrub bad) := fun _ => Nat.le_of_ble_eq_true rfl
theorem dmaRun (n : Fin 32) (v : W32) : Statement (.dmaRun n v) := fun _ => Nat.le_of_ble_eq_true rfl
theorem dmaKick (n : Fin 32) (v : W32) : Statement (.dmaKick n v) := fun _ => Nat.le_of_ble_eq_true rfl
theorem dmaBytesComplete (n : Fin 32) (units : Nat) : Statement (.dmaBytesComplete n units) := fun _ => Nat.le_of_ble_eq_true rfl
theorem readData (k : Fin 4) (tag : Byte) (status : BitVec 3) (data : List Byte) : Statement (.readData k tag status data) := fun _ => Nat.le_of_ble_eq_true rfl
theorem writeAck (k : Fin 4) (tag : Byte) (status : BitVec 3) : Statement (.writeAck k tag status) := fun _ => Nat.le_of_ble_eq_true rfl
theorem memReadTimeout (k : Fin 4) (tag : Byte) : Statement (.memReadTimeout k tag) := fun _ => Nat.le_of_ble_eq_true rfl
theorem arm (k : Fin 16) (v : W32) : Statement (.arm k v) := fun _ => Nat.le_of_ble_eq_true rfl
theorem disarm (k : Fin 16) (v : W32) : Statement (.disarm k v) := fun _ => Nat.le_of_ble_eq_true rfl
theorem force (k : Fin 16) (v : W32) : Statement (.force k v) := fun _ => Nat.le_of_ble_eq_true rfl
theorem triggerDecision (k : Fin 16) : Statement (.triggerDecision k) := fun _ => Nat.le_of_ble_eq_true rfl
theorem captureComplete (k : Fin 16) : Statement (.captureComplete k) := fun _ => Nat.le_of_ble_eq_true rfl
theorem rearmEnd (k : Fin 16) : Statement (.rearmEnd k) := fun _ => Nat.le_of_ble_eq_true rfl
theorem pocketData (k : Fin 16) : Statement (.pocketData k) := fun _ => Nat.le_of_ble_eq_true rfl
theorem pocketOverflow (k : Fin 16) : Statement (.pocketOverflow k) := fun _ => Nat.le_of_ble_eq_true rfl
theorem liningFrameReceive (rx : Side) (ok : Bool) (lane : Fin 64) : Statement (.liningFrameReceive rx ok lane) := fun _ => Nat.le_of_ble_eq_true rfl
theorem liningHeartbeat (s : Side) : Statement (.liningHeartbeat s) := fun _ => Nat.le_of_ble_eq_true rfl
theorem liningDown (s : Side) : Statement (.liningDown s) := fun _ => Nat.le_of_ble_eq_true rfl
theorem liningTrainingAttempt (s : Side) : Statement (.liningTrainingAttempt s) := fun _ => Nat.le_of_ble_eq_true rfl
theorem liningUp : Statement (.liningUp) := fun _ => Nat.le_of_ble_eq_true rfl
theorem registerAccess (a : Access) : Statement (.registerAccess a) := fun _ => Nat.le_of_ble_eq_true rfl
theorem bulkLoad (addr : W32) (data : List W32) : Statement (.bulkLoad addr data) := fun _ => Nat.le_of_ble_eq_true rfl
theorem outcomeAndResultRecord : Statement (.outcomeAndResultRecord) := fun _ => Nat.le_of_ble_eq_true rfl
theorem eventNotice : Statement (.eventNotice) := fun _ => Nat.le_of_ble_eq_true rfl
theorem timeBeacon : Statement (.timeBeacon) := fun _ => Nat.le_of_ble_eq_true rfl
theorem flitReceive (p : LPort) (f : Flit) : Statement (.flitReceive p f) := fun _ => Nat.le_of_ble_eq_true rfl
theorem nak (p : LPort) (seq : BitVec 7) : Statement (.nak p seq) := fun _ => Nat.le_of_ble_eq_true rfl
theorem nakRepeat (p : LPort) : Statement (.nakRepeat p) := fun _ => Nat.le_of_ble_eq_true rfl
theorem credit (p : LPort) (c0 : BitVec 12) (c1 : BitVec 12) (c2 : BitVec 12) : Statement (.credit p c0 c1 c2) := fun _ => Nat.le_of_ble_eq_true rfl
theorem creditSend (p : LPort) : Statement (.creditSend p) := fun _ => Nat.le_of_ble_eq_true rfl
theorem command (k : Fin 4) (packet : List Byte) : Statement (.command k packet) := fun _ => Nat.le_of_ble_eq_true rfl
theorem train (p : LPort) (m : TrainMsg) : Statement (.train p m) := fun _ => Nat.le_of_ble_eq_true rfl
theorem trainingPhasePass (p : LPort) : Statement (.trainingPhasePass p) := fun _ => Nat.le_of_ble_eq_true rfl
theorem trainingPhaseTimeout (p : LPort) (cause : Fin 3) (lanes : BitVec 9) : Statement (.trainingPhaseTimeout p cause lanes) := fun _ => Nat.le_of_ble_eq_true rfl
theorem hostLinkRetrainTimer (k : Fin 4) : Statement (.hostLinkRetrainTimer k) := fun _ => Nat.le_of_ble_eq_true rfl
theorem clockLaneLost (p : LPort) : Statement (.clockLaneLost p) := fun _ => Nat.le_of_ble_eq_true rfl
theorem silence (p : LPort) : Statement (.silence p) := fun _ => Nat.le_of_ble_eq_true rfl
theorem laneDrift (p : LPort) : Statement (.laneDrift p) := fun _ => Nat.le_of_ble_eq_true rfl
theorem retrain (p : LPort) (v : W32) : Statement (.retrain p v) := fun _ => Nat.le_of_ble_eq_true rfl
theorem loopback (p : LPort) (v : W32) : Statement (.loopback p v) := fun _ => Nat.le_of_ble_eq_true rfl
theorem sleep (p : LPort) : Statement (.sleep p) := fun _ => Nat.le_of_ble_eq_true rfl
theorem quietEntry (k : Fin 4) : Statement (.quietEntry k) := fun _ => Nat.le_of_ble_eq_true rfl
theorem dormantEntry (k : Fin 4) : Statement (.dormantEntry k) := fun _ => Nat.le_of_ble_eq_true rfl
theorem linkWake (k : Fin 4) (tx : Bool) : Statement (.linkWake k tx) := fun _ => Nat.le_of_ble_eq_true rfl
theorem mgmtFrameReceive (up : Bool) (f : Frame) : Statement (.mgmtFrameReceive up f) := fun _ => Nat.le_of_ble_eq_true rfl
theorem mgmtLinkChange (up : Bool) (link : Bool) : Statement (.mgmtLinkChange up link) := fun _ => Nat.le_of_ble_eq_true rfl
theorem commandPacket (port : CPort) (mac : BitVec 48) (bytes : List Byte) : Statement (.commandPacket port mac bytes) := fun _ => Nat.le_of_ble_eq_true rfl
theorem registerWrite (addr : W32) (v : W32) : Statement (.registerWrite addr v) := fun _ => Nat.le_of_ble_eq_true rfl
theorem readClear (addr : W32) : Statement (.readClear addr) := fun _ => Nat.le_of_ble_eq_true rfl
theorem devtimeLoRead : Statement (.devtimeLoRead) := fun _ => Nat.le_of_ble_eq_true rfl
theorem netNowLoRead : Statement (.netNowLoRead) := fun _ => Nat.le_of_ble_eq_true rfl
theorem frameFreqLoRead (f : Fin 4096) (anchor : Bool) : Statement (.frameFreqLoRead f anchor) := fun _ => Nat.le_of_ble_eq_true rfl
theorem frameFreqLoWrite (f : Fin 4096) (anchor : Bool) (v : W32) : Statement (.frameFreqLoWrite f anchor v) := fun _ => Nat.le_of_ble_eq_true rfl
theorem frameFreqHiWrite (f : Fin 4096) (anchor : Bool) (v : W32) : Statement (.frameFreqHiWrite f anchor v) := fun _ => Nat.le_of_ble_eq_true rfl
theorem timeProbe (sent : W64) (reply : W64) : Statement (.timeProbe sent reply) := fun _ => Nat.le_of_ble_eq_true rfl
theorem imageLost : Statement (.imageLost) := fun _ => Nat.le_of_ble_eq_true rfl
theorem beaconSend : Statement (.beaconSend) := fun _ => Nat.le_of_ble_eq_true rfl
theorem mappingValidFrom (s : Side) : Statement (.mappingValidFrom s) := fun _ => Nat.le_of_ble_eq_true rfl
theorem announce (up : Bool) (m : AnnounceMsg) : Statement (.announce up m) := fun _ => Nat.le_of_ble_eq_true rfl
theorem ptpSync (up : Bool) (m : PtpMsg) : Statement (.ptpSync up m) := fun _ => Nat.le_of_ble_eq_true rfl
theorem followUp (up : Bool) (m : PtpMsg) : Statement (.followUp up m) := fun _ => Nat.le_of_ble_eq_true rfl
theorem delayReq (up : Bool) (m : PtpMsg) : Statement (.delayReq up m) := fun _ => Nat.le_of_ble_eq_true rfl
theorem delayResp (up : Bool) (m : PtpMsg) (freq : Int) : Statement (.delayResp up m freq) := fun _ => Nat.le_of_ble_eq_true rfl
theorem holdover : Statement (.holdover) := fun _ => Nat.le_of_ble_eq_true rfl
theorem tcUnmatchedTimeout (up : Bool) (ident : Nat) (seq : BitVec 16) : Statement (.tcUnmatchedTimeout up ident seq) := fun _ => Nat.le_of_ble_eq_true rfl
theorem alignmentWordSend : Statement (.alignmentWordSend) := fun _ => Nat.le_of_ble_eq_true rfl
theorem alignmentSourceEnd : Statement (.alignmentSourceEnd) := fun _ => Nat.le_of_ble_eq_true rfl
theorem alignmentWordReceive (bits : BitVec 80) (edge : W64) : Statement (.alignmentWordReceive bits edge) := fun _ => Nat.le_of_ble_eq_true rfl
theorem seamTimeProbe (probes : List (Nat × Int)) : Statement (.seamTimeProbe probes) := fun _ => Nat.le_of_ble_eq_true rfl
theorem alignTimeout (checkFailed : Bool) : Statement (.alignTimeout checkFailed) := fun _ => Nat.le_of_ble_eq_true rfl
theorem hello (p : LPort) (m : HelloMsg) : Statement (.hello p m) := fun _ => Nat.le_of_ble_eq_true rfl
theorem helloTimeout : Statement (.helloTimeout) := fun _ => Nat.le_of_ble_eq_true rfl
theorem autoJoinRetry : Statement (.autoJoinRetry) := fun _ => Nat.le_of_ble_eq_true rfl
theorem seamBRetrain : Statement (.seamBRetrain) := fun _ => Nat.le_of_ble_eq_true rfl
theorem heartbeatSend (p : LPort) : Statement (.heartbeatSend p) := fun _ => Nat.le_of_ble_eq_true rfl
theorem heartbeat (p : LPort) (m : HeartbeatMsg) : Statement (.heartbeat p m) := fun _ => Nat.le_of_ble_eq_true rfl
theorem heartbeatLost (p : LPort) : Statement (.heartbeatLost p) := fun _ => Nat.le_of_ble_eq_true rfl
theorem digest (block : W32) (d : List W32) : Statement (.digest block d) := fun _ => Nat.le_of_ble_eq_true rfl
theorem digestGap : Statement (.digestGap) := fun _ => Nat.le_of_ble_eq_true rfl
theorem digestReq (block : W32) (yoke : Fin 4) : Statement (.digestReq block yoke) := fun _ => Nat.le_of_ble_eq_true rfl
theorem digestDetail (block : W32) (yoke : Fin 4) (first : Fin 112) (ds : List W32) : Statement (.digestDetail block yoke first ds) := fun _ => Nat.le_of_ble_eq_true rfl
theorem relay (part : Nat) (last : Bool) (data : List Byte) : Statement (.relay part last data) := fun _ => Nat.le_of_ble_eq_true rfl
theorem releaseCause (cause : Fin 10) : Statement (.releaseCause cause) := fun _ => Nat.le_of_ble_eq_true rfl
theorem release (cause : Fin 16) (block : W32) : Statement (.release cause block) := fun _ => Nat.le_of_ble_eq_true rfl
theorem handover (seq : Byte) (h : W32) (cause : Fin 16) : Statement (.handover seq h cause) := fun _ => Nat.le_of_ble_eq_true rfl
theorem handoverAck (p : LPort) (seq : Byte) (accept : Bool) : Statement (.handoverAck p seq accept) := fun _ => Nat.le_of_ble_eq_true rfl
theorem handoverAckTimeout : Statement (.handoverAckTimeout) := fun _ => Nat.le_of_ble_eq_true rfl
theorem handoverBlock : Statement (.handoverBlock) := fun _ => Nat.le_of_ble_eq_true rfl
theorem handoverReq (cause : Fin 16) (origin : Fin 4) : Statement (.handoverReq cause origin) := fun _ => Nat.le_of_ble_eq_true rfl
theorem claimed (block : W32) : Statement (.claimed block) := fun _ => Nat.le_of_ble_eq_true rfl
theorem interlockHigh : Statement (.interlockHigh) := fun _ => Nat.le_of_ble_eq_true rfl
theorem claimUnmute (lineLow : Bool) : Statement (.claimUnmute lineLow) := fun _ => Nat.le_of_ble_eq_true rfl
theorem split : Statement (.split) := fun _ => Nat.le_of_ble_eq_true rfl
theorem resyncData (addr : W32) (data : List W32) : Statement (.resyncData addr data) := fun _ => Nat.le_of_ble_eq_true rfl
theorem resyncCtrl (kind : Fin 16) (value : W32) : Statement (.resyncCtrl kind value) := fun _ => Nat.le_of_ble_eq_true rfl
theorem resyncPassEnd : Statement (.resyncPassEnd) := fun _ => Nat.le_of_ble_eq_true rfl
theorem interrupt (c : Ctl) : Statement (.interrupt c) := fun _ => Nat.le_of_ble_eq_true rfl
theorem safePoint (c : Ctl) (gapNs : Nat) : Statement (.safePoint c gapNs) := fun _ => Nat.le_of_ble_eq_true rfl
theorem longAbort (c : Ctl) (v : W32) : Statement (.longAbort c v) := fun _ => Nat.le_of_ble_eq_true rfl
theorem watchdog (c : Ctl) : Statement (.watchdog c) := fun _ => Nat.le_of_ble_eq_true rfl
theorem machineCheck (c : Ctl) (cause : Fin 16) (patchSpace : Bool) (word : BitVec 3) (addr : BitVec 14) (opcode : Byte) : Statement (.machineCheck c cause patchSpace word addr opcode) := fun _ => Nat.le_of_ble_eq_true rfl
theorem sensorConversion (s : Sensor) (reading : Int) : Statement (.sensorConversion s reading) := fun _ => Nat.le_of_ble_eq_true rfl
theorem sensorReferenceCheck (s : Sensor) (diff : Int) : Statement (.sensorReferenceCheck s diff) := fun _ => Nat.le_of_ble_eq_true rfl
theorem sensorTimeout (s : Sensor) : Statement (.sensorTimeout s) := fun _ => Nat.le_of_ble_eq_true rfl
theorem throttleStep (y : Fin 4) : Statement (.throttleStep y) := fun _ => Nat.le_of_ble_eq_true rfl
theorem bandChange (y : Fin 4) : Statement (.bandChange y) := fun _ => Nat.le_of_ble_eq_true rfl
theorem fieldShutdown (cause : Fin 8) : Statement (.fieldShutdown cause) := fun _ => Nat.le_of_ble_eq_true rfl
theorem yokeFault (y : Fin 4) (rail : Bool) : Statement (.yokeFault y rail) := fun _ => Nat.le_of_ble_eq_true rfl
theorem hostShutdown : Statement (.hostShutdown) := fun _ => Nat.le_of_ble_eq_true rfl
theorem avAdjust (readVout : BitVec 16) (status : BitVec 16) (busOk : Bool) : Statement (.avAdjust readVout status busOk) := fun _ => Nat.le_of_ble_eq_true rfl
theorem hkConversion (s : Side) (raw : Int) : Statement (.hkConversion s raw) := fun _ => Nat.le_of_ble_eq_true rfl
theorem hkIntervalEnd (s : Side) : Statement (.hkIntervalEnd s) := fun _ => Nat.le_of_ble_eq_true rfl
theorem hkInject (s : Side) (v : W32) : Statement (.hkInject s v) := fun _ => Nat.le_of_ble_eq_true rfl
theorem canaryMeasurement (margins : List (Fin 96 × Int)) : Statement (.canaryMeasurement margins) := fun _ => Nat.le_of_ble_eq_true rfl
theorem wearEstimate (canary : Nat) (trim : Nat) (em : Nat) (nv : Nat) (early : Bool) : Statement (.wearEstimate canary trim em nv early) := fun _ => Nat.le_of_ble_eq_true rfl
theorem wearSave : Statement (.wearSave) := fun _ => Nat.le_of_ble_eq_true rfl
theorem unlockExpiry (s : Side) : Statement (.unlockExpiry s) := fun _ => Nat.le_of_ble_eq_true rfl
theorem bhLock (v : W32) : Statement (.bhLock v) := fun _ => Nat.le_of_ble_eq_true rfl
theorem supplyGood (s : Side) : Statement (.supplyGood s) := fun _ => Nat.le_of_ble_eq_true rfl
theorem supplyLoss (s : Side) : Statement (.supplyLoss s) := fun _ => Nat.le_of_ble_eq_true rfl
theorem hostResetN : Statement (.hostResetN) := fun _ => Nat.le_of_ble_eq_true rfl
theorem fieldResetN : Statement (.fieldResetN) := fun _ => Nat.le_of_ble_eq_true rfl
theorem hostBoot : Statement (.hostBoot) := fun _ => Nat.le_of_ble_eq_true rfl
theorem fmPatchRestore : Statement (.fmPatchRestore) := fun _ => Nat.le_of_ble_eq_true rfl
theorem refclkValid : Statement (.refclkValid) := fun _ => Nat.le_of_ble_eq_true rfl
theorem refLost : Statement (.refLost) := fun _ => Nat.le_of_ble_eq_true rfl
theorem pllLock : Statement (.pllLock) := fun _ => Nat.le_of_ble_eq_true rfl
theorem memClearDone : Statement (.memClearDone) := fun _ => Nat.le_of_ble_eq_true rfl
theorem adcOverRange (l : Feed) (m : Fin 32) : Statement (.adcOverRange l m) := fun _ => Nat.le_of_ble_eq_true rfl
theorem inServiceSliceFailure (l : Feed) (slice : Fin 17) : Statement (.inServiceSliceFailure l slice) := fun _ => Nat.le_of_ble_eq_true rfl
theorem handoverRetry : Statement (.handoverRetry) := fun _ => Nat.le_of_ble_eq_true rfl
theorem interlockLowTimeout : Statement (.interlockLowTimeout) := fun _ => Nat.le_of_ble_eq_true rfl
theorem fieldResetRelease : Statement (.fieldResetRelease) := fun _ => Nat.le_of_ble_eq_true rfl
theorem tilePowerUpDone (t : Tile) : Statement (.tilePowerUpDone t) := fun _ => Nat.le_of_ble_eq_true rfl

end Sys2Proof.Laws.PacketFits
end

