-- ==== Sys2Proof/Laws/Synth.lean ====
section
/-! SUPPORT. Facts about the output chain of a port (R121-R126). -/

namespace Sys2Proof.Machine

/-- A saturated code lies within the limit (R122). -/
theorem saturate_within (limit : Nat) (x : Int) :
    -(limit : Int) ≤ (saturate limit x).1 ∧ (saturate limit x).1 ≤ limit := by
  unfold saturate; split
  · simp only; omega
  · split <;> simp only <;> omega

/-- A code within the limit passes unchanged and is not counted (R122). -/
theorem saturate_of_within {limit : Nat} {x : Int} (h : -(limit : Int) ≤ x) (h' : x ≤ limit) :
    saturate limit x = (x, false) := by
  unfold saturate; rw [if_neg (by omega), if_neg (by omega)]

/-- A stage whose amplitude is 0 passes its input unchanged (R125). -/
theorem expStage_zero (alpha st x : Rat) : (expStage 0 alpha st x).1 = x := by simp [expStage]

/-- An RF port none of whose engines has a segment within 32 ticks puts out zero (R121). -/
theorem rfSum_silent {s : State} {p : Nat} {t : Int}
    (h : ∀ i, i < (engsOfPort p).length → s.heardAt (port0Eng p + i) t = []) : s.rfSum p t = 0 := by
  have hz : (List.range (engsOfPort p).length).map (fun i => s.toneAt p i t)
      = List.replicate (engsOfPort p).length 0 := by
    refine List.eq_replicate_iff.mpr ⟨by simp, fun x hx => ?_⟩
    obtain ⟨i, hi, rfl⟩ := List.mem_map.mp hx
    simp [State.toneAt, h i (List.mem_range.mp hi)]
  rw [State.rfSum, hz]; simp

end Sys2Proof.Machine
end

