-- ==== Sys2Proof/Tests/Slice0.lean ====
section
/-! SUPPORT. The model's own tests: an ill-formed command for each check of WellFormed, single steps whose results the
spec gives, and a state and operands that meet the hypotheses of each statement. -/

set_option Elab.async false

namespace Sys2Proof.Machine


/-- The state that exec answers, where it answers a next state. -/
def nextOf (c : Instr) (s : State) : State := match exec c s with | .next t => t | _ => s
/-- A state in which engine 0 runs the instruction word w at PC 0. -/
def prog (w : W64) (x : Engine := { Engine.reset with st := .running }) (e : Nat := 0) : State :=
  (State.reset.setWord (tileBase (tileOfEng e) + 0x100000) (w.setWidth 32)).setWord (tileBase (tileOfEng e) + 0x100004)
    ((w >>> 32).setWidth 32) |>.setEng e x

/-- A unit whose CI serves commands: HOST_READY, Lining up, reference present, address 1. -/
def ready : State :=
  (((State.reset.setReg 0x00010100 1).setReg 0x00010200 1).setReg 0x10000100 1).setReg 0x00040004 0x100
/-- A command header of VERSION 2 that asks for a reply. -/
def hdr : Hdr := { port := .hl 0, mac := 0, ver := 2, dest := 1, flags := 2, seq := 7, tag := 9, crc := 5 }

/-! ## Ill-formed commands: one for each check of WellFormed -/

theorem test_wf_refuses_long_packets :
    [Instr.ping hdr (List.replicate 2049 0), .writeBlock hdr 0 (List.replicate 2048 0), .load hdr 0 0 (List.replicate 2047 0),
     .start hdr 0 0 0 0 (List.replicate 2045 0), .stop hdr 0 (List.replicate 2048 0), .abort hdr 0 0 (List.replicate 2047 0),
     .patchLoad hdr 0 0 (List.replicate 8188 0), .patchApply hdr 0 0 (List.replicate 2047 0), .nvWrite hdr 0 (List.replicate 8192 0),
     .testUnlock hdr (List.replicate 2049 0)].all (fun i => !i.wf) = true := by decide +kernel
theorem test_wf_refuses_part_words :
    [Instr.patchLoad hdr 0 0 [1], .nvWrite hdr 0 [1, 2]].all (fun i => !i.wf) = true := by decide +kernel
theorem test_wf_refuses_long_data :
    [Instr.outcomeRelease 0 (some (List.replicate 2049 (0, 0))), .dmaBytesComplete 0 134217728,
     .readData 0 0 2 [], .readData 0 0 0 (List.replicate 1025 0), .writeAck 0 0 2, .command 0 (List.replicate 19 0),
     .command 0 (List.replicate 8213 0), .commandPacket .mgmtUp 0 (List.replicate 9217 0), .relay 0 true (List.replicate 8213 0),
     .mgmtFrameReceive true { dst := 0, src := 0, etherType := 0, len := 1, fcsOk := true, payload := [1, 2] },
     .digest 0 [], .digestDetail 0 0 0 (List.replicate 113 0)].all (fun i => !i.wf) = true := by decide +kernel
theorem test_wf_refuses_wide_fields :
    [Instr.report false { sync := false, group := 0, inst := 0, shotNo := 0, cMax := 0, offset := 0, paceGap := 2 ^ 24, leadReq := 0, left := false },
     .report false { sync := false, group := 0, inst := 0, shotNo := 0, cMax := 0, offset := 0, paceGap := 0, leadReq := 41, left := false },
     .mendXchg { round := 0, ovf := 0, obs := 0, edges := [(0, 1024, 0)] }, .mendXchg { round := 0, ovf := 0, obs := 0, edges := [(0, 0, 1024)] },
     .menderScrub [139264]].all (fun i => !i.wf) = true := by decide +kernel
theorem test_wf_refuses_repeats :
    [Instr.readoutCalTileDone 0 (List.replicate 68 { port := 0, slice := 0, offset := 0, gain := 0, skew := 0, bw := 0, residualOk := true }),
     .readoutCalTileDone 0 [], .fluxCalTileDone 0 (List.replicate 64 { port := 0, r := 0, offset := 0, gain := 0 }), .fluxCalTileDone 0 [],
     .canaryMeasurement [(3, 0), (3, 1)]].all (fun i => !i.wf) = true := by decide +kernel
theorem test_wf_accepts : [Instr.ping hdr [], .digest 0 [1, 2, 3, 4], .command 0 (List.replicate 20 0), .nop 0].all Instr.wf = true := by
  decide +kernel

/-! ## Results that the spec gives -/

/-- Engine 37 is tone 1 of drive port 9 in drive tile 1; engine 549 lies in read-out tile 17 (the worked example after R13). -/
theorem test_location_of_qubit_37 : portOfEng 37 = 9 ∧ tileOfEng 37 = 1 ∧ tileOfEng 549 = 17 ∧ tileBase 1 = 0x21000000 ∧
    tileBase 17 = 0x31000000 ∧ frameAddr 37 0 = 0x110004A0 := by decide
/-- The schedule block counter wraps (the worked example after R39). -/
theorem test_block_difference : bdiff 0x00000040 0xFFFFFF00 = 320 ∧ bdiff 0xFFFFFFF0 0x00000010 = -32 := by decide
/-- The two words that the active-reset example encodes. -/
theorem test_words_of_the_active_reset :
    decPlay 0x080200010FFFE000 = some { env := 0x100, len := 8, amp := 0x7FFF, sel := 0, armed := false } ∧ opcodeOf 0x080200010FFFE000 = 0x02 ∧
    decBranch 0x308203A000000008 =
      some { cond := 2, target := 0x203, neg := true, absentAct := 1, slot := 0, ctr := 0, cmp := 0, imm := 0, keep := false, trig := 0, state := 1 } ∧ opcodeOf 0x308203A000000008 = 0x0C := by decide
/-- The weight set entry of the discriminator's worked example. -/
def entry37 : List W32 := [0x01402800, 0x21, 0x999A4CCD, 0x000186A0, 0x4E20, 0x7FFF, 0x00061A80, 0x4E20]
/-- I = 240,000 and Q = -96,000 give |1>, certain, with d0 = 120,800 and d1 = -160,008 (the worked example after R168). -/
theorem test_discriminator : discriminate entry37 240000 (-96000) = { raw := 1, uncertain := false, d0 := 120800, d1 := -160008 } := by decide
/-- The outcome of that window: RAW_VALUE 1. -/
def outcome37 (v : BitVec 2) (flip : Bool) : WinOut :=
  { value := v, raw := 1, uncertain := false, absent := none, flipped := flip, sat := false, short := false, i := 0, q := 0, d0 := 0, d1 := 0 }
/-- Word 0 of its record, and with a pending Pauli X. -/
theorem test_record_word : State.reset.outWord0 1 37 (outcome37 1 false) = 0x10944AA0 ∧ State.reset.outWord0 1 37 (outcome37 0 true) = 0x10944A24 := by
  decide +kernel
/-- Frame 37 at 5.0 GHz, with a SET_FREQ to 5.2 GHz waiting for block 1,000,003 (the worked example after R118). -/
def frame37 (reset : Bool) : State :=
  { State.reset.setReg (frameAddr 37 4) 0x3200 with
    clk := { State.reset.clk with run := true, devtime := 64000064 }
    hem := { State.reset.hem with frameQ := [{ block := 1000003, frame := 37, cls := clsHost, op := .setFreq 0x340000000000 reset }] } }
theorem test_phase_of_frame_37 : ((frame37 false).acc 37 64000064) >>> 16 = 0x80000000 := by decide +kernel
theorem test_set_freq_reset : (nextOf .frameUpdate (frame37 true)).anchor 37 = 0x3D090C0 ∧ (nextOf .frameUpdate (frame37 true)).phase 37 = 0 ∧
    ((nextOf .frameUpdate (frame37 true)).acc 37 64000272) >>> 16 = 0x40000000 := by decide +kernel
/-- The check value of CRC-32C, whose parameters R283 gives. -/
theorem test_crc32c : crc32c [0x31, 0x32, 0x33, 0x34, 0x35, 0x36, 0x37, 0x38, 0x39] = 0xE3069283 := by decide +kernel
/-- DEVTIME_LO reads the pin block and latches DEVTIME_HI (R60). -/
theorem test_devtime_latch : (nextOf .devtimeLoRead { State.reset with clk := { State.reset.clk with devtime := 0x0000000500000040 } }).clk.devHi = 5 := by
  decide
theorem test_nop : ((nextOf (.nop 0) (prog 0x0400000000000000)).eng 0).pc = 1 := by decide
theorem test_halt : ((nextOf (.halt 0) (prog 0)).eng 0).st = .halted := by decide
theorem test_decode_no_bits : decodeTableWord 32 0x0400 = none := rfl

theorem witness_EmptyQueuePassesOneBlock : State.reset.pending = [] := by decide

theorem witness_TablesStayCanonical : State.reset.wf = true ∧ goesOn State.reset := ⟨by decide, _, rfl⟩

theorem witness_EngineFlow_nop : (prog 0x0400000000000000).executes 0 0x01 0x0400000000000000 ∧
    bareOk 0x0400000000000000 = true ∧ ((prog 0x0400000000000000).eng 0).pc < 16383 := by decide
theorem witness_EngineFlow_wait : (prog 0x10000000040A0000).executes 0 0x04 0x10000000040A0000 ∧
    decWait 0x10000000040A0000 = some { blocks := 1, ticks := 0, ctr := some 1 } := by decide
theorem witness_EngineFlow_loop : (prog 0x3400070000000000).executes 0 0x0D 0x3400070000000000 ∧
    decLoop 0x3400070000000000 = some (0, 7) := by decide
theorem witness_EngineFlow_call : (prog 0x3800070000000000).executes 0 0x0E 0x3800070000000000 ∧
    decCall 0x3800070000000000 = some 7 ∧ ((prog 0x3800070000000000).eng 0).stack.length < 4 := by decide
theorem witness_EngineFlow_ret :
    (prog 0x3C00000000000000 { Engine.reset with st := .running, stack := [9] }).executes 0 0x0F 0x3C00000000000000 ∧
    ((prog 0x3C00000000000000 { Engine.reset with st := .running, stack := [9] }).eng 0).stack = [9] := by decide
theorem witness_EngineFlow_arm : (prog 0x4C00070000000000).executes 0 0x13 0x4C00070000000000 ∧
    (decArm 0x4C00070000000000).isSome = true := by decide

theorem witness_EngineDescriptor_play : (prog 0x0800000048000000).executes 0 0x02 0x0800000048000000 ∧
    decPlay 0x0800000048000000 = some { env := 0, len := 2, amp := 0x4000, sel := 0, armed := false } ∧
    ((prog 0x0800000048000000).eng 0).offer = none ∧ 0 + 2 ≤ envGranules 0 := by decide
theorem witness_EngineDescriptor_armed :
    (prog 0x0800000048000400 { Engine.reset with st := .running, arm := decArm 0x4C00070000000000 }).executes 0 0x02
      0x0800000048000400 ∧ (decPlay 0x0800000048000400).any (·.armed) = true ∧
    ((prog 0x0800000048000400 { Engine.reset with st := .running, arm := decArm 0x4C00070000000000 }).eng 0).arm.isSome = true :=
  by decide
theorem witness_EngineDescriptor_stream :
    ((prog 0x0C00000002400000).setReg (engAddr 0 0x38) 0x00020010).executes 0 0x03 0x0C00000002400000 ∧
    decStream 0x0C00000002400000 = some { len := 2, amp := 0x4000, sel := 0 } ∧
    16 * 2 ≤ 4096 * ((prog 0x0C00000002400000).setReg (engAddr 0 0x38) 0x00020010).fld (engAddr 0 0x38) 8 4 := by decide
theorem witness_EngineDescriptor_setFreq : (prog 0x1800000000000400).executes 0 0x06 0x1800000000000400 ∧
    decSetFreq 0x1800000000000400 = some (1, 0, false) := by decide
theorem witness_EngineDescriptor_shift : (prog 0x1C00000004800000).executes 0 0x07 0x1C00000004800000 ∧
    decShift 0x1C00000004800000 = some (1, 0, some 0) := by decide
theorem witness_EngineDescriptor_setPhase : (prog 0x2000000004000000).executes 0 0x08 0x2000000004000000 ∧
    decSetPhase 0x2000000004000000 = some (1, 0) := by decide
theorem witness_EngineDescriptor_pauli : (prog 0x24C0000000000000).executes 0 0x09 0x24C0000000000000 ∧
    decPauli 0x24C0000000000000 = some (0, 3, 0) := by decide
theorem witness_EngineDescriptor_mark : (prog 0x4200000500000000).executes 0 0x10 0x4200000500000000 ∧
    decMark 0x4200000500000000 = some { event := true, pin := 0, width := 0, code := 5 } := by decide
def someDesc : Desc :=
  { start := 0, tick := 0, body := .frame 0 (.setPhase 0), cond := false, remote := false, absent := false, armed := false, fbDelta := 0 }
theorem witness_EngineDescriptor_waits :
    ((prog 0x4200000500000000 { Engine.reset with
      st := .running, offer := some { d := someDesc, slot := false, stream := false } }).eng 0).offer.isSome = true := by decide
theorem witness_DecidingStamps : ((State.reset.setEng 0 { Engine.reset with decL := some 5, decR := some 9 }).eng 0).decL = some 5 ∧
    ((State.reset.setEng 0 { Engine.reset with decL := some 5, decR := some 9 }).eng 0).decR = some 9 := by decide

theorem witness_EngineControl_waitUntil : (prog 0x1400000014000000).executes 0 0x05 0x1400000014000000 ∧
    decWaitUntil 0x1400000014000000 = some (5, 0) ∧ 0 < ((5 : W32) - ((prog 0x1400000014000000).eng 0).cur.b).toInt := by decide
theorem witness_EngineControl_past :
    (prog 0x1400000014000000 { Engine.reset with st := .running, cur := { b := 6, t := 0 } }).executes 0 0x05
      0x1400000014000000 ∧ ((5 : W32) - 6).toInt < 0 := by decide
theorem witness_EngineControl_branch : (prog 0x3000070000000000).executes 0 0x0C 0x3000070000000000 ∧
    (decBranch 0x3000070000000000).any (fun b => b.cond == 0 && b.target == 7) = true ∧
    (prog 0x3180070060000000).executes 0 0x0C 0x3180070060000000 ∧
    (decBranch 0x3180070060000000).any (fun b => b.cond == 6 && b.cmp == 3) = true := by decide
/-- Engine 0 with an entry of value 1 at the head of slot 0. -/
def slotted : Engine :=
  { Engine.reset with st := .running, slots := [(0, [{ value := 1, uncertain := true, absent := false, remote := false, stamp := some 9 }])] }
theorem witness_EngineControl_slot : (prog 0x3040070000000000 slotted).executes 0 0x0C 0x3040070000000000 ∧
    (decBranch 0x3040070000000000).any (fun b => b.cond == 1) = true ∧
    (prog 0x3080070000000008 slotted).executes 0 0x0C 0x3080070000000008 ∧
    (decBranch 0x3080070000000008).any (fun b => b.cond == 2 && b.state == 1) = true ∧
    (prog 0x30C0070000000000 slotted).executes 0 0x0C 0x30C0070000000000 ∧
    (decBranch 0x30C0070000000000).any (fun b => b.cond == 3) = true ∧
    (prog 0x31C0070000000000 slotted).executes 0 0x0C 0x31C0070000000000 ∧
    (decBranch 0x31C0070000000000).any (fun b => b.cond == 7) = true ∧ ((slotted.slot 0).map (·.absent)) = [false] := by decide
theorem witness_EngineControl_counter : (prog 0x5060000000000000).executes 0 0x14 0x5060000000000000 ∧
    (decCounter 0x5060000000000000).any (fun p => p.op == 3) = true := by decide
theorem witness_EngineControl_commit : (prog 0x4801400000000000).executes 0 0x12 0x4801400000000000 ∧
    decCommit 0x4801400000000000 = some (false, 20) ∧ blt 20 4 = false ∧
    (prog 0x4800000000000000).executes 0 0x12 0x4800000000000000 ∧ decCommit 0x4800000000000000 = some (false, 0) ∧
    blt 0 4 = true := by decide
theorem witness_EngineControl_halt : (prog 0).executes 0 0x00 0 ∧ bareOk 0 = true := by decide

theorem witness_EngineMeeting_acquire :
    (prog 0x2804000010000000 { Engine.reset with st := .running } 512).executes 512 0x0A 0x2804000010000000 ∧
    decAcquire 0x2804000010000000 = some { mask := 1, offset := 0, len := 4, wset := 0 } ∧ maskChans 512 1 = [0] ∧
    (prog 0x2804000010000000 { Engine.reset with st := .running } 512).ctxHeld 0 = 0 ∧
    (prog 0x2804000010000000 { Engine.reset with st := .running } 512).twin = false := by decide
theorem witness_EngineMeeting_publish :
    ((prog 0x2C03000002000000).setReg (pubOwnerAddr 3) 0x80000000).executes 0 0x0B 0x2C03000002000000 ∧
    decPublish 0x2C03000002000000 = some (3, .value true, false) ∧
    ((prog 0x2C03000002000000).setReg (pubOwnerAddr 3) 0x80000000).fld (pubOwnerAddr 3) 10 0 = 0 := by decide
theorem witness_EngineMeeting_sync :
    ((prog 0x4410030000000000 { Engine.reset with st := .running, set := some 4 }).setReg (0x10035000 + 0xA0) 1).executes 0
      0x11 0x4410030000000000 ∧ decSync 0x4410030000000000 = some (1, 3) ∧
    ((prog 0x4410030000000000 { Engine.reset with st := .running, set := some 4 }).setReg (0x10035000 + 0xA0) 1).syncMember 1 0
      = true ∧
    ((prog 0x4410030000000000 { Engine.reset with st := .running, set := some 4 }).findSync 4 1 0).isNone = true := by decide
theorem witness_EngineMeeting_shotEnd :
    (prog 0x5400000000000000 { Engine.reset with st := .running, set := some 4 }).executes 0 0x15 0x5400000000000000 ∧
    bareOk 0x5400000000000000 = true := by decide

theorem witness_IllegalInstruction : (prog 0x5800000000000000).executes 0 0x16 0x5800000000000000 ∧
    (prog 0x0400000000000001).executes 0 0x01 0x0400000000000001 ∧ bareOk 0x0400000000000001 = false := by decide

theorem witness_EngineEventsServed : State.reset.sets = [] ∧ State.reset.syncs = [] ∧ State.reset.mend.set = none ∧
    (State.reset.eng 0).cause ≠ 2 := by decide

/-- A START set of engine 0 that has reported block 50, in its first shot. -/
def oneSet (count : W32) : StartSet :=
  { id := 0, members := [0], far := [], halted := [], reports := [(0, 50)], shotNo := 0, shotCount := count, gap := 5, s0 := 0
    shotStart := 0, stopping := false, twin := false, pair := false, mender := false, menderDone := false, partner := []
    lost := false, sentUp := false, leftUp := [] }
/-- A unit with that set and its engine waiting at the rendezvous. -/
def setState (count : W32) : State :=
  { State.reset with sets := [oneSet count] }.setEng 0 { Engine.reset with st := .waiting, cause := 4, set := some 0 }
theorem witness_Rendezvous : (setState 0).findSet 0 = some (oneSet 0) ∧ (setState 0).twin = false ∧ (setState 0).pairState = 0 ∧
    (oneSet 0).localIn = true ∧ (oneSet 0).partner = [] ∧ maxBlock ((oneSet 0).reports.map (·.2)) = some 50 ∧
    (setState 0).lastShot (oneSet 0) = false ∧ (setState 1).findSet 0 = some (oneSet 1) ∧
    (setState 1).lastShot (oneSet 1) = true := by decide

/-- An instance of group 1 at which engine 0 has arrived at block 50; engine 1 is awaited where both is true. -/
def syncState (both : Bool) : State :=
  let g : StartSet := { oneSet 0 with members := [0, 1] }
  let i : SyncInst := { set := 0, group := 1, inst := 0, arrived := [(0, 50)], offset := 3, first := 0, partner := []
                        closed := false, sentUp := false }
  (({ State.reset with sets := [g], syncs := [i] }.setEng 0 { Engine.reset with st := .waiting, cause := 3, set := some 0 }).setReg
    (0x10035000 + 0xA0) (if both then 3 else 1)).setReg 0x10034004 0x00010000
theorem witness_SyncInstance : (syncState false).findSet 0 = (syncState false).sets.head? ∧
    (syncState false).findSync 0 1 0 = (syncState false).syncs.head? ∧
    ((syncState false).syncs.zip (syncState false).sets).all (fun p => (syncState false).syncIn p.1 p.2) = true ∧
    ((syncState true).syncs.zip (syncState true).sets).all (fun p => !(syncState true).syncIn p.1 p.2) = true ∧
    (syncState true).fld 0x10034004 31 16 ≠ 0 ∧ (syncState true).pairState = 0 ∧ (syncState true).twin = false := by decide

theorem witness_Start : ready.takes hdr 0x21 true ∧ ready.pairGate hdr = none ∧ wfld 0x00050000 15 2 = 0 ∧
    ready.readSet (wfld 0x00050000 1 0) (1 :: List.replicate 39 0) (twinFlag hdr) false = some ([0], []) ∧
    ready.startBusy [0] = false ∧ (ready.setEng 0 { Engine.reset with st := .running }).startBusy [0] = true ∧
    ((5 : W32) - (ready.pin + 400)).toInt < 0 := by decide +kernel
/-- A twinset's lead that serves commands, its Mender on or off. -/
def leading (en : Bool) : State := ((ready.setPairSt 1).setFld aPairStatus 4 3 1).setReg 0x10040000 (if en then 1 else 0)
/-- A header that asks for a twinset START. -/
def twinHdr : Hdr := { hdr with flags := 0xA }
theorem witness_Start_disagree : ∃ s : State, s.takes twinHdr 0x21 true ∧ s.pairGate twinHdr = none ∧ twinFlag twinHdr = true ∧
    s.mendersAgree (Config.partnerReg s.free) = false := by
  have key : ∀ en, (leading en).mendersAgree (Config.partnerReg 1) = true → wfld (Config.partnerReg 1 0x10040000) 0 0 = en.toNat := by
    intro en h
    have h1 := (Bool.and_eq_true_iff.mp h).1
    have h2 : (leading en).fld 0x10040000 0 0 = en.toNat := by cases en <;> decide +kernel
    rw [← h2]; exact beq_iff_eq.mp h1
  by_cases h : (leading true).mendersAgree (Config.partnerReg 1) = true
  · refine ⟨leading false, by decide +kernel, by decide +kernel, by decide, ?_⟩
    rw [Bool.eq_false_iff]
    exact fun h' => absurd ((key _ h).symm.trans (key _ h')) (by decide)
  · exact ⟨leading true, by decide +kernel, by decide +kernel, by decide, Bool.eq_false_iff.mpr h⟩

theorem witness_StopAndAbort : (ready.takes hdr 0x22 true) ∧ ready.takes hdr 0x23 true ∧
    ready.readSet 0 (1 :: List.replicate 39 0) (twinFlag hdr) false = some ([0], []) ∧ ready.heldSets [0] [] = [] ∧
    ready.long .fm = none ∧ ({ ready with sets := [oneSet 0] }.heldSets [0] []) ≠ [] := by decide +kernel

/-- A state with port 0 enabled and awake, DEVTIME running, and engine 0 offering a PLAY of 2 granules at a block. -/
def offering (start : W32) (x : Engine := Engine.reset) : State :=
  (((State.reset.setReg (portAddr 0 4) 7)).setEng 0 { x with
    st := .waiting, cause := 1, offer := some { d := { someDesc with start := start, body := .play 0 2 0x4000 0 }, slot := false
                                                stream := false } })
theorem witness_Admission_off : ((offering 40).setReg (portAddr 0 4) 0).bit (portAddr 0 4) 0 = false ∧
    (((offering 40).setReg (portAddr 0 4) 0).eng 0).offer = some { d := { someDesc with start := 40, body := .play 0 2 0x4000 0 }
                                                                   slot := false, stream := false } := by decide
theorem witness_Admission_late : ((19 : W32) - ((offering 19).pin + 12)).toInt < 8 ∧ (offering 19).bit (portAddr 0 4) 0 = true := by
  decide
/-- A PLAY of 2 granules at a block. -/
def playAt (start : W32) : Desc := { someDesc with start := start, body := .play 0 2 0x4000 0 }
theorem witness_Admission_order : (offering 40 { Engine.reset with
    work := [{ d := playAt 39, stage := .playing, b64 := 39, cut := none, samples := [] }] }).outOfOrder 0 (playAt 40) = true ∧
    (offering 40 { Engine.reset with
      work := [{ d := playAt 38, stage := .playing, b64 := 38, cut := none, samples := [] }] }).outOfOrder 0 (playAt 40) = false := by
  decide +kernel
theorem witness_AdmissionAccepts : (offering 40).bit (portAddr 0 4) 2 = true ∧ (offering 40).hem.clamps = [] ∧
    8 ≤ ((40 : W32) - ((offering 40).pin + 12)).toInt ∧ 0 ≤ ((40 : W32) - (offering 40).pin).toInt ∧
    ((offering 40).eng 0).work = [] := by decide

/-- Engine 0 with one queued piece of work of a body at block 40, DEVTIME running. -/
def queued (b : Body) : State :=
  { State.reset with clk := { State.reset.clk with run := true } }.setEng 0 { Engine.reset with
    work := [{ d := { someDesc with start := 40, body := b }, stage := .queued, b64 := 40, cut := none, samples := [] }] }
theorem witness_AcceptedWork : (queued (.play 0 2 0 0)).firstWork 0 (fun w => w.stage == .queued) =
      ((queued (.play 0 2 0 0)).eng 0).work.head? ∧
    (queued (.play 0 2 0 0)).firstWork 0 (fun w => w.d.isSeg && w.stage != .playing) = ((queued (.play 0 2 0 0)).eng 0).work.head? ∧
    (queued (.mark true 0 0 5)).firstWork 0 (fun w => w.d.kind == 3) = ((queued (.mark true 0 0 5)).eng 0).work.head? ∧
    (queued (.mark false 2 3 0)).muted = false := by decide

theorem witness_FrameUpdate : (State.reset.frameHost 3 (.setPhase 7)).hem.frameQ =
      [{ block := 4, frame := 3, cls := clsHost, op := .setPhase 7 }] ∧
    (State.reset.frameHost 3 (.setPhase 7)).frameDescs = [] := by decide

/-- One entry on its way to slot 0 of engine 0, which is in the state given. -/
def arriving (x : Engine) : State :=
  { State.reset with
    clk := { State.reset.clk with run := true }
    onet := { State.reset.onet with deliv := [{ eng := 0, slot := 0, entry := absentEntry false none }] } }.setEng 0 x
/-- Engine 0 in a shot with n entries in slot 0. -/
def holding (n : Nat) : Engine :=
  { Engine.reset with st := .running, slots := if n = 0 then [] else [(0, List.replicate n (absentEntry false none))] }
theorem witness_SlotEntries : (arriving (holding 3)).onet.deliv.find? (fun d => d.eng == 0 && d.slot == 0) =
      (arriving (holding 3)).onet.deliv.head? ∧
    (holding 3).inShot = true ∧ ((holding 3).slot 0).length < 4 ∧ 4 ≤ ((holding 4).slot 0).length ∧
    Engine.reset.inShot = false ∧ (arriving (holding 3)).fieldAlive = true ∧ (arriving (holding 3)).shadow = false ∧
    ((arriving (holding 3)).eng 0).live = [] ∧ (arriving (holding 3)).wf = true := by decide

theorem witness_EngineRemoval : State.reset.bit (hemAddr 0 0) 0 = true ∧
    { State.reset with hem := { State.reset.hem with removals := [.engine 0 true 9] } }.nextRemoval = some (.engine 0 true 9) ∧
    ({ State.reset with hem := { State.reset.hem with reenables := [(0, 9)] } }.hem.reenables.find? (fun r => r.1 == 0)) = some (0, 9) ∧
    ((State.reset.setReg (hemAddr 0 0) 0).setEng 0 { Engine.reset with st := .disabled }).bit (hemAddr 0 0) 0 = false := by decide

theorem witness_PortEnable : State.reset.bit (portAddr 0 0) 0 = false ∧ (State.reset.setReg (portAddr 0 0) 1).bit (portAddr 0 0) 0 = true ∧
    ({ State.reset with hem := { State.reset.hem with enables := [(0, 9)] } }.hem.enables.find? (fun r => r.1 == 0)) = some (0, 9) ∧
    { State.reset with hem := { State.reset.hem with removals := [.port 192 9] } }.nextRemoval = some (.port 192 9) ∧
    { State.reset with hem := { State.reset.hem with removals := [.abort [0] [0] 9] } }.nextRemoval = some (.abort [0] [0] 9) ∧
    State.reset.bit (portAddr 0 4) 1 = false ∧ (State.reset.setReg (portAddr 0 4) 2).bit (portAddr 0 4) 1 = true ∧
    State.reset.waking 0 = false := by decide

theorem witness_Commits : { State.reset with hem := { State.reset.hem with commits := [{ port := 3, block := 9, late := false, eng := none }] } }.hem.shadowLog
    = [] ∧ blt 0 (State.reset.pin + 4) = true := by decide

/-- A unit with one clamp of flux port 192. -/
def clamped (started : Bool) : State :=
  { State.reset with hem := { State.reset.hem with clamps := [{ port := 192, start := 4, release := 644, started := started, wasAwake := true }] } }
/-- Engine 0 with a stream window, a mark and a burst, below its mark. -/
def streaming : State := (State.reset.setReg (engAddr 0 0x38) 0x00022410).setReg 0x10000200 1
theorem witness_FluxAndStream : (State.reset.eng 1024).active = false ∧ State.reset.holdsWork 1024 = false ∧
    (clamped true).hem.clamps.map (fun c => (c.port, c.started, c.release - c.start)) = [(192, true, 640)] ∧
    (clamped false).hem.clamps.map (·.started) = [false] ∧ State.reset.streamRefusal 0 0x00022410 = none ∧
    (State.reset.streamRefusal 0 0x00000410).isSome = true ∧ streaming.wantsBurst 0 = true ∧ streaming.fieldUp = true ∧
    streaming.pacedFor 0 = none := by decide +kernel
/-- The same with a burst in the host side's replay store, and engine 0's stream as given. -/
def refilling (x : Stream) (mark cancelled : Bool) : State :=
  { (streaming.setReg aLining 1).setEng 0 { Engine.reset with stream := x } with
    lining := { Lining.reset with store := [.refill 0 (List.replicate 48 7) mark none cancelled] } }
theorem witness_StreamRefill :
    (refilling { Stream.reset with req := true, owed := 2 } false false).hostUp = true ∧
    (refilling { Stream.reset with req := true, owed := 2 } false false).fieldUp = true ∧
    ((refilling { Stream.reset with req := true, owed := 2 } false false).eng 0).stream.req = true ∧
    ((refilling Stream.reset false true).eng 0).stream.req = false ∧
    ((refilling { Stream.reset with req := true, untilMark := true } true false).eng 0).stream.untilMark = true := by decide +kernel

theorem witness_Governor : (State.reset.govAsk (.port 3 false) (some 900) 12).hem.requests =
      [{ kind := .port 3 false, arrival := 0, use := some 900, eng := 12 }] ∧
    { State.reset with hem := { State.reset.hem with grants := [{ kind := .inport 2, g := 0, len := 400, done := false }] } }.openGrants =
      [{ kind := .inport 2, g := 0, len := 400, done := false }] ∧
    tabFind { State.reset with hem := { State.reset.hem with ready := [(3, 900)] } }.hem.ready 3 = some 900 ∧
    ((State.reset.setReg (portAddr 0 4) 7).setReg (portAddr 0 0) 3).mayDoze 0 = true ∧ State.reset.mayDoze 0 = false := by decide

/-- Flux port 192 enabled and awake with DOZE at DOZE_IDLE 1, its GAP_CODE a quarter until block 4000 or from reset on 0. -/
def dozing (loud : Bool) : State :=
  { (((State.reset.setReg (portAddr 192 4) 7).setReg (portAddr 192 0) 3).setReg 0x10050000 0x100) with
    clk := { State.reset.clk with run := true, devtime := 64 * 4000 }
    synth := { Synth.reset with
      states := [(192, [(0, 1)])]
      past := if loud then [{ block := 4000, kind := .work, addr := portAddr 192 0x20, old := 0x2000 }] else [] } }
theorem witness_Doze : (dozing true).mayDoze 192 = true ∧ (dozing false).mayDoze 192 = true ∧ tabFind (dozing true).hem.dozeFrom 192 = none ∧
    (dozing true).dozeIdle = 4000 ∧ ({ dozing false with synth := Synth.reset } : State).fluxQuiet 192 = true := by
  refine ⟨by decide +kernel, by decide +kernel, by decide, by decide +kernel, ?_⟩
  simp [State.fluxQuiet, State.fluxSample, State.codeIn, Synth.reset, tabGet, tabFind]
theorem dozing_input : (dozing true).fluxInput 192 0 = 1 / 4 := by decide +kernel
theorem dozing_stages : ((dozing true).fluxStages 192 0 FluxSt.reset (1 / 4)).outs = [32767 / 131072] := by
  have hg : fixed ((dozing true).workAt (portAddr 192 0x18) 0) 16 15 * (1 / 4) = 32767 / 131072 := by decide +kernel
  have ha : ∀ k < 4, fixed ((dozing true).workAt (portAddr 192 (0x24 + 4 * k)) 0) 18 16 = 0 := by decide +kernel
  rw [← hg]
  simp [State.fluxStages, FluxSt.reset, List.range_succ, ha 0 (by decide), ha 1 (by decide), ha 2 (by decide), ha 3 (by decide), expStage_zero]
theorem dozing_filter : (dozing true).fluxFilter 192 0 ((dozing true).fluxRun 192 0 1) = 32767 / 131072 := by
  have hr : (dozing true).fluxRun 192 0 1 = (dozing true).fluxStages 192 0 FluxSt.reset (1 / 4) := by rw [← dozing_input]; rfl
  rw [hr, State.fluxFilter, dozing_stages]; decide +kernel
theorem dozing_sample : ((dozing true).fluxSample 192 0).1 ≠ 0 := by
  have hc : (dozing true).codeIn 192 (0 / 8) = (1, 0) := by decide +kernel
  rw [State.fluxSample, hc]
  have hk : (fluxCode (32767 / 131072)).1 ≠ 0 := by
    have hf : ((32768 : Rat) * (32767 / 131072) + 1 / 2).floor = 8192 := by decide +kernel
    have hn : nearest (32768 * (32767 / 131072)) = 8192 := by rw [nearest, hf, if_neg]; norm_num
    rw [fluxCode, hn]; decide
  have h1 : (if (1, 0).1 ≠ 1 then ((0 : Int), false) else
      fluxCode ((dozing true).fluxFilter 192 (0 / 8) ((dozing true).fluxRun 192 (8 * (1, 0).2) (0 + 1 - 8 * (1, 0).2)))) =
      fluxCode ((dozing true).fluxFilter 192 0 ((dozing true).fluxRun 192 0 1)) := if_neg (by decide)
  exact fun h => hk (by rw [← dozing_filter, ← h1]; exact h)
theorem witness_Doze_loud : (dozing true).fluxQuiet 192 = false := by
  have hp : 8 * (dozing true).pin64.toNat - 1 - 31999 = 0 := by decide +kernel
  have hn : 31999 < 8 * (dozing true).dozeIdle := by decide +kernel
  rw [State.fluxQuiet, Bool.or_eq_false_iff, List.all_eq_false]
  refine ⟨by decide, 31999, List.mem_range.mpr hn, ?_⟩
  rw [hp]
  simpa only [beq_iff_eq] using dozing_sample
theorem witness_InputPorts : State.reset.bit (adcAddr 0 0) 0 = false ∧ (State.reset.setReg (adcAddr 0 0) 1).bit (adcAddr 0 0) 0 = true ∧
    tabFind { State.reset with hem := { State.reset.hem with inWait := [(0, 9)] } }.hem.inWait 0 = some 9 ∧
    State.reset.hem.adcOff = [] := by decide

/-- A window of four blocks from block 100 on channel 3, by an ACQUIRE in the pipe. -/
def aWindow (opened : Bool) : Ctx :=
  { start := 100, tick := 0, len := 4, wset := 1, shotNo := 0, eng := 512, words := [], opened, dead := none, ovr := false, flip := none }
/-- A unit whose channel 3 holds that window. -/
def windowed (opened : Bool) : State :=
  (State.reset.setCtxs 3 [aWindow opened]).setEng 512 { Engine.reset with
    work := [{ d := { start := 100, tick := 0, body := .acquire 8 1 4, cond := false, remote := false, absent := false, armed := false, fbDelta := 0 }
               stage := .pipe, b64 := 100, cut := none, samples := [] }] }
theorem witness_Windows : (windowed false).ctxAccepted (aWindow false) = true ∧ (windowed false).ctxs 3 = [aWindow false] ∧
    (windowed true).ctxs 3 = [aWindow true] ∧ (aWindow true).opened = true ∧ (windowed true).frameAll = [] ∧
    (windowed true).twin = false ∧ (windowed true).shadow = false ∧ (windowed true).pairState ≠ 3 ∧
    (windowed true).hem.adcOff = [] := by decide +kernel

/-- Input port 0 enabled with ROT_EN, READY and calibrated, its spare at 5, DIRECTION as given. -/
def rotating (up waiting : Bool) : State :=
  (State.reset.setReg (adcAddr 0 0) 3).setReg (adcAddr 0 4) (0xC5 + (if up then 0x20 else 0) + if waiting then 0x200 else 0)
def aFit : SliceFit := { port := 0, slice := 5, offset := 1, gain := -2, skew := 3, bw := -4, residualOk := true }
theorem witness_Slices : (rotating true false).rotates 0 = true ∧ (rotating true false).fld (adcAddr 0 4) 4 0 = 5 ∧
    (rotating true false).bit (adcAddr 0 4) 5 = true ∧ (rotating false true).bit (adcAddr 0 4) 5 = false ∧
    (rotating false true).bit (adcAddr 0 4) 9 = true ∧ SliceFit.inRange aFit = true ∧
    tabGet 0 { rotating true false with hem := { Hem.reset with rotBad := [(0, 2)] } }.hem.rotBad 0 = 2 ∧
    State.reset.rotates 0 = false ∧ (rotating true false).failedSlices 0 = [] ∧
    ((rotating true false).setReg (adcAddr 0 0x18) 2).failedSlices 0 = [1] ∧
    ((rotating true false).setReg (adcAddr 0 0x18) 2).bit (adcAddr 0 0x18) 3 = false := by decide +kernel

/-- A unit whose FM runs a calibration of the tiles given, each started. -/
def calibrating (tiles : List Nat) : State :=
  let s := { State.reset with hem := { Hem.reset with calRun := tiles.map (fun n => (n, 16000)) } }
  s.setLong .fm (some { op := 0x30, h := hdr, arg := 0, tiles, failed := false
                        journal := [], answered := false, sig := [] })
theorem witness_Calibration : tabFind (calibrating [16]).hem.calRun 16 = some 16000 ∧
    (calibrating [16]).cmd.fm.map (·.tiles) = some [16] ∧ (calibrating [32, 33]).cmd.fm.map (·.tiles) = some [32, 33] ∧
    tabFind (calibrating [32, 33]).hem.calRun 32 = some 16000 ∧ fitsOnce [aFit] := by
  refine ⟨by decide, by decide, by decide, by decide, ?_⟩
  simp [fitsOnce]

/-- The follow of a twinset with a twin set of engine 0 that waits at the rendezvous, or at SYNC instance 0 of group 1. -/
def followState : State :=
  let i : SyncInst := { set := 0, group := 1, inst := 0, arrived := [(0, 50)], offset := 3, first := 0, partner := []
                        closed := false, sentUp := true }
  ({ State.reset with hem := { Hem.reset with config := 1 }, sets := [{ oneSet 0 with twin := true }], syncs := [i] }.setReg aPairStatus
    0x10).setEng 0 { Engine.reset with st := .waiting, cause := 3, set := some 0 }
theorem witness_SeamReports : followState.seamSet 0 = followState.sets.head? ∧ followState.seamSet 7 = none ∧
    followState.twin = true ∧ followState.follow = true ∧ followState.pairState ≠ 3 ∧
    followState.findSet 0 = followState.sets.head? ∧ followState.findSync 0 1 0 = followState.syncs.head? ∧
    followState.findSync 0 2 0 = none ∧ (followState.eng 0).pc < 16383 := by decide

/-- A twinset lead with slot 0 of engine 0 bound to remote source 5 and that source pledged, or not. -/
def pledged (held : Bool) : State :=
  { State.reset with
    hem := { Hem.reset with config := 1 }
    clk := { State.reset.clk with run := true }
    onet := { Onet.reset with pledges := if held then [{ source := 5, stamp := 10, absentTo := [] }] else [] } }.setReg (bindAddr 0 0)
      0xC0000005
/-- A unit that shadows, with an engine in a shot. -/
def shadowing : State :=
  ({ State.reset with hem := { Hem.reset with config := 2 }, onet := { Onet.reset with due := [⟨3, 10, false, [], false, false⟩] } }.setReg aPairStatus 5).setEng 0
    { Engine.reset with st := .running }
theorem witness_Remote : (pledged true).twin = true ∧ (pledged true).shadow = false ∧ (pledged true).pairState ≠ 3 ∧
    (pledged true).boundSlots 5 true = [(0, 0)] ∧ bge (pledged true).pin ((pledged true).slotDeadline 10 (0, 0)) = false ∧
    bge (pledged false).pin ((pledged false).slotDeadline (-200) (0, 0)) = true ∧
    (pledged true).nextDeadline = some 65 ∧ (pledged true).clk.run = true ∧ (pledged false).onet.pledges = [] ∧
    shadowing.shadow = true ∧ shadowing.onet.due = [⟨3, 10, false, [], false, false⟩] ∧ shadowing.wf = true ∧
    ({ shadowing with onet := Onet.reset } : State).onet.due = [] ∧
    bge shadowing.pin (10 + BitVec.ofNat 32 shadowing.deadlineM) = false ∧
    (shadowing.eng 0).inShot = true ∧ (∀ e ∈ [0, 1, 2], (shadowing.eng e).live = []) ∧ State.reset.twin = false := by decide

/-- A unit with MEND_CTRL as given, attached to set 0 or not, a check running or not. -/
def mending (ctrl : W32) (set : Option Nat) (check : Option (W32 × Option Deferred)) : State :=
  ({ State.reset with mend := { Mend.reset with set, check } }).setReg 0x10040000 ctrl
theorem witness_MenderSwitch : (mending 0 none none).mend.check = none ∧ (mending 0 none none).bit 0x10040000 0 = false ∧
    (mending 1 (some 0) none).bit 0x10040000 0 = true ∧ (mending 1 (some 0) none).mend.set.isSome = true ∧
    (mending 0 none (some (1, none))).mend.check = some (1, none) ∧ (mending 0 none (some (1, none))).checkTables = none ∧
    (mending 1 none none).bit 0x10050004 3 = false ∧
    ackReq hdr = true := by decide +kernel

/-- Mender attached to set 0 with detector 0 bound to source 3 and active in layout 0, an outcome of that source on its way. -/
def mendingInput : State :=
  let m := { mending 1 (some 0) none with onet := { Onet.reset with mendIn := [{ source := 3, value := 1, absent := true, stamp := some 5 }] } }
  ((m.setReg aMendCfg 0x00100001).setReg (mendDetAddr 0) 0xC0000003).setReg (detIndexAddr 0 0) 0x80000000
theorem witness_MenderInputs : mendingInput.detOf 3 = some 0 ∧ mendingInput.mend.set ≠ none ∧
    mendingInput.roundOf 0 0 = some 0 ∧ mendingInput.finalMade = false ∧ mendingInput.mendRounds = 0 ∧
    blt 5 mendingInput.mend.shotStart = false ∧ (mendingInput.setReg (detIndexAddr 0 0) 0).roundOf 0 0 = none ∧
    (mending 1 (some 0) none).activeDets ((mending 1 (some 0) none).layoutOf 0) = [] ∧
    (mending 1 (some 0) none).finalMade = false ∧ mendingInput.activeDets (mendingInput.layoutOf 0) ≠ [] := by decide +kernel

/-- Mender with one close that commits, one part of an exchange out or not, in a twinset or not. -/
def committing (twin : Bool) (mine : Bool) : State :=
  { State.reset with
    hem := { Hem.reset with config := if twin then 1 else 0, frameQ := [{ block := 200, frame := 1, cls := clsMender, op := .pauli 3 0 }] }
    mend := { Mend.reset with set := some 0, closes := [{ round := 0, stamp := 9, final := true, late := false }]
                              mine := if mine then some { round := 0, ovf := 0, obs := 0, edges := [] } else none
                              pubs := [(127, 5, true, false, 9)] } }
theorem witness_MenderCommits : (committing false false).mend.closes.map ((committing false false).commits ·) = [true] ∧
    ((committing false false).setReg aMendCfg 5).mend.closes.map
      (fun c => ((committing false false).setReg aMendCfg 5).commits { c with final := false }) = [false] ∧
    ((committing true false).mend.closes.flatMap (committing true false).commitEdges) = [] ∧ (committing true false).linkUp .seamA = false ∧
    ((committing true false).setReg (linkAddr .seamA 4) 5).linkUp .seamA = true ∧ (committing true true).mend.mine ≠ none ∧
    (committing true false).twin = true ∧ (committing false false).twin = false ∧
    (committing false false).mend.pubs = [(127, 5, true, false, 9)] ∧ (committing false false).mendNext = some 200 := by decide +kernel

/-- DMA channel 0 in a state, with descriptor 0 valid or not: HOST to DEVICE program memory, 64 bytes. -/
def dmaState (st : Nat) (valid : Bool) : State :=
  let s := (State.reset.setDmaSt 0 st).setReg (dmaAddr 0 4) 4
  ((s.setWord (descAddr 0 0) (if valid then 0xC0010000 else 0x40010000)).setWord (descAddr 0 3) 0x20100000).setWord (descAddr 0 5) 64
theorem witness_DmaRun : (dmaState 0 true).outTest = false ∧ (dmaState 0 true).dmaPaced 0 = false ∧ (dmaState 0 true).dmaSt 0 = 0 ∧
    (dw ((dmaState 0 true).descWords 0) 0).getLsbD 31 = true ∧ (dw ((dmaState 3 false).descWords 0) 0).getLsbD 31 = false ∧
    dmaTest ((dmaState 0 true).descWords 0) false 0 = none ∧ (dmaState 3 false).dmaSt 0 = 3 ∧
    dmaTest (((dmaState 0 true).setWord (descAddr 0 5) 65).descWords 0) false 0 = some stMisaligned := by decide +kernel

/-- DMA channel 0 RUNNING a HOST to DEVICE descriptor of 96 bytes into program memory, with bytes staged. -/
def dmaMoving (ready : List Byte) (writes : List MemWrite) : State :=
  let s := ((((dmaState 1 true).setReg aLining 1).setReg aFieldBoot 4).setReg (linkAddr (.hl 0) 4) 5).setDma 0
    { Dma.reset with desc := [0xC0010000, 0, 0, 0x20100000, 0, 96, 0, 0], ready, writes }
  { s with dma := { s.dma with reads := [{ link := 0, tag := 3, ch := 0, addr := 0, len := 32, data := none }] } }
theorem witness_DmaMoves : (dmaMoving (List.replicate 32 7) []).dmaSt 0 = 1 ∧ (dmaMoving (List.replicate 32 7) []).dmaPath 0 = none ∧
    (dmaMoving (List.replicate 32 7) []).dmaPaced 0 = false ∧ dSrc ((dmaMoving [] []).dmaCh 0).desc = 0 ∧
    dDst ((dmaMoving [] []).dmaCh 0).desc = 1 ∧ dLen ((dmaMoving [] []).dmaCh 0).desc = 96 ∧
    (dmaMoving [] []).memRefusal 0x20100000 true = none ∧ inQmap 0x20100000 = false ∧ (∀ i < 8, inFrames (0x20100000 + 4 * i) = false) ∧
    (dmaState 1 true).dmaPath 0 ≠ none ∧ (dmaMoving [] []).dma.reads.map (·.tag) = [3] ∧
    (dmaMoving [] [{ link := 0, tag := 3, addr := 0, nth := 0, data := List.replicate 32 1 }]).dma.chans.map (·.2.writes.length) = [1] ∧
    (dmaState 0 true).dmaSt 0 ≠ 1 := by decide +kernel

/-- Pocket 0 set to capture input port 0 with FORCE enabled, in a state. -/
def pocketed (st : Nat) : State :=
  ((((State.reset.setReg (pocketAddr 0 4) 1).setReg (pocketAddr 0 0xC) 1).setReg (pocketAddr 0 0x10) 2).setReg (pocketAddr 0 0x14) 0x10).setPocketSt 0 st
theorem witness_PocketArm : (pocketed 0).armRefusal 0 false = none ∧ (pocketed 1).armRefusal 0 false = some 0x20 ∧
    (pocketed 1).pocketSt 0 = 1 ∧ (pocketed 2).pocketSt 0 = 2 ∧ (pocketed 3).pocketSt 0 = 3 ∧ (pocketed 6).pocketSt 0 = 6 ∧
    (pocketed 1).bit (pocketAddr 0 0x14) 4 = true ∧
    0 ≤ ((pocketed 1).tickOf ((pocketed 1).pin + 4) - (pocketed 1).tickOf ((pocketed 1).pocket 0).armBlock).toInt := by decide +kernel

/-- Pocket 0 idle, its window read by DMA channel 0, or not. -/
def windowReading (reads : Bool) : State :=
  let s := ((dmaState (if reads then 1 else 2) true).setDma 0 { Dma.reset with desc := [0xC0040000, 0x30C00000, 0, 0, 0, 64, 0, 0] }).setReg aLining 1
  s.setReg aFmLining 1
theorem witness_PocketData : dSrc ((windowReading true).dmaCh 0).desc = 1 ∧ (windowReading true).windowReader 0 = some 0 ∧
    (windowReading false).windowReader 0 = none ∧ (windowReading true).hostUp = true ∧ (windowReading true).fieldUp = true ∧
    (windowReading true).pocketSt 0 ≠ 5 ∧ (windowReading true).dataCrosses = true ∧
    ({ windowReading true with onet := { Onet.reset with recs := [{ yoke := none, stream := 1, seq := 0, words := [1] }] } } : State).dataCrosses = false := by
  decide +kernel

/-- Pocket 0 in a state with one FORCE candidate. -/
def pocketWith (st : Nat) (post : W32) : State :=
  let s := (pocketed st).setReg (pocketAddr 0 0xC) post
  { s with clk := { s.clk with run := true } }.setPocket 0 { Pocket.reset with cands := [{ cause := 4, p := 320 }], trigUnit := 5 }
theorem witness_PocketRuns : (pocketWith 1 1).firstCand 0 = some (5, { cause := 4, p := 320 }) ∧ (pocketWith 1 1).bit (pocketAddr 0 0x14) 0 = false ∧
    (pocketWith 2 1).unitIndex 0 5 = some 5 ∧ ((pocketWith 2 1).unitsDoneAt 0 5 1).isSome = true ∧
    ((pocketWith 3 1).setReg (pocketAddr 0 0) 0x10).bit (pocketAddr 0 0) 4 = true ∧ (pocketWith 3 1).pocketSt 0 = 3 ∧
    ((pocketWith 6 1).setReg aFmLining 1).fieldUp = true ∧ (pocketWith 5 0xFFFF).streamUp 0 = pocketWith 5 0xFFFF ∧
    (pocketWith 5 0xFFFF).pocketSt 0 = 5 ∧ (pocketWith 5 0xFFFF).fld (pocketAddr 0 0xC) 15 0 = 0xFFFF ∧
    (0x400000 - 64 - ((pocketWith 5 0xFFFF).pocket 0).fifo.length) / ((pocketWith 5 0xFFFF).pocketSrc 0).size = 65535 ∧
    (5 + 65535 + 1) * ((pocketWith 5 0xFFFF).pocketSrc 0).blocks < 2 ^ 31 ∧ 64 * 1 / ((pocketWith 2 1).pocketSrc 0).size = 1 ∧
    ((pocketWith 5 0xFFFF).unitsDoneAt 0 (5 + 65535) 1) = some 65551 := by decide +kernel

/-- A unit whose Lining is up, with the retries of lane 2 and the retired lanes of the host direction. -/
def lined (retry : Nat) (out : List Nat := []) : State :=
  { (State.reset.setReg aLining 1).setReg aFmLining 1 with lining := { Lining.reset with host := { LiningDir.reset with retry := if retry = 0 then [] else [(2, retry)], out } } }
theorem witness_Lining : (lined 0).bit (aLin .host) 0 = true ∧ (lined 3).linDir .host = { LiningDir.reset with retry := [(2, 3)] } ∧
    tabGet 0 ((lined 3).linDir .host).retry (2 : Fin 64).val + 1 = 4 ∧ tabGet 0 ((lined 2).linDir .host).retry (2 : Fin 64).val + 1 = 3 ∧
    64 - (((lined 3 (List.range' 3 55)).linDir .host).out.length + 1) = 8 ∧ 64 - (((lined 3 (List.range' 3 56)).linDir .host).out.length + 1) = 7 ∧
    (2 : Fin 64).val ∉ ((lined 3 (List.range' 3 56)).linDir .host).out ∧
    (((tabFind ({ LiningDir.reset with fails := [(2, List.replicate 16 0)] } : LiningDir).fails 2).getD []).filter
      (fun t => decide (((lined 0).sideTime .host - t).toNat < 25600000)) ++ [(lined 0).sideTime .host]).length = 17 ∧
    State.reset.bit (aLin .host) 0 = false ∧ State.reset.sideAlive .host = true ∧ (lined 0).sideAlive .field = true ∧
    ({ State.reset with pins := { State.reset.pins with hostOn := false } } : State).sideAlive .host = false ∧
    ((calibrating [16]).setReg aLining 1).hostUp = true ∧ ((calibrating [16]).cmd.fm.map (·.answered)) = some false ∧
    State.reset.hostAlive = true ∧ State.reset.fieldAlive = true ∧ (2 : Fin 64).val ∉ (lined 3).lining.host.out := by decide

/-- A unit with the Lining up, memories cleared, a record on its way, and a notice, or class C's work that has waited since block 0. -/
def crossing (notice : Bool := false) (due : Bool := false) : State :=
  { ((State.reset.setReg aLining 1).setReg aFmLining 1).setReg aFieldBoot 4 with
    clk := { State.reset.clk with devtime := if due then 25600 else 0 }
    lining := { Lining.reset with
      store := [.beacon { bseq := 1, flags := 0, validFrom := 7, netOffset := 0, netRate := 0, seconds := 0, utc := 0 }]
      classC := { since := if due then some 0 else none, sentC := 0, sentB := if due then 1 else 0 } }
    onet := { Onet.reset with recs := [{ yoke := none, stream := 1, seq := 0, words := [1, 2, 3, 4] }] }
    evt := { Evt.reset with
      way := if notice then [{ source := 5, reg := 0, bit := 0, index := 0, detail := 0, block := 0, ns := 0, lost := false }] else [] } }
theorem witness_Crossing : crossing.onet.recs.map (crossing.takesRec ·) = [true] ∧ crossing.resultLink = false ∧
    ((crossing.setReg (linkAddr (.hl 0) 4) 5).setReg 0x00034000 1).resultLink = true ∧
    (crossing.setReg aLining 0).onet.recs.map ((crossing.setReg aLining 0).takesRec ·) = [false] ∧
    crossing.onet.recs.map Rec.bytes = [16] ∧ crossing.liningUp = true ∧ crossing.hostBufFull 16 = false ∧
    crossing.noticeWaits = false ∧ crossing.recordWaits = true ∧ crossing.yieldsToC = false ∧ (crossing true).noticeWaits = true ∧
    (crossing false true).recordWaits = true ∧ (crossing false true).yieldsToC = true ∧
    (if crossing.onet.rate.1 = crossing.pin then crossing.onet.rate.2 else 0) + (16 + 15) / 16 ≤ 4 ∧
    (crossing true).evt.way.map (·.source) = [5] ∧ (crossing true).evt.lostMap = [] ∧ (nextBeacon crossing.lining.store).map (·.bseq) = some 1 ∧
    nextBeacon State.reset.lining.store = none ∧ crossing.hostUp = true ∧ crossing.fieldAlive = true ∧ crossing.fieldUp = true ∧
    bge crossing.pin 0 = true ∧ bge crossing.pin 7 = false ∧ 0 < ((1 : BitVec 16) - crossing.time.fieldMap.bseq).toInt ∧
    (crossing.ctlAlive .fm && isFieldAddr 0x20100000 && inOneRegion 0x20100000 1) = true ∧ inOneMem 0x20100000 8 = true ∧
    locate 0x20100000 = .mem 0xFFFFFFFF ∧ inFrames 0x20100000 = false ∧ crossing.memRefusal 0x20100000 true = none ∧
    crossing.memRefusal 0x20100000 false = none ∧ inQmap 0x20100000 = false := by decide +kernel

theorem witness_Registers : State.reset.sideOn 0x00034000 = true ∧
    ({ State.reset with pins := { State.reset.pins with fieldOn := false } } : State).sideOn 0x10000000 = false ∧
    locate 0x00010008 = .reg .rc 0 0 ∧ locate 0x10040014 = .reg .w1c 0xFF 0 ∧ locate 0x00010000 = .reg .rw 1 0 ∧
    State.reset.writeRefusal 0x00010000 1 = none ∧ State.reset.hostWrite 0x00010000 1 = none ∧ inFrames 0x00010000 = false ∧
    (State.reset.writeRefusal 0x10050000 0).isSome = true ∧ (State.reset.setReg aFieldBoot 4).framesOn 5 true = true ∧
    (State.reset.setReg aFieldBoot 4).framesOn 5 false = true ∧ State.reset.framesOn 5 true = false ∧ State.reset.framesOn 5 false = false ∧
    locate 0x00040004 ≠ .hole := by decide +kernel

/-- A unit with the Lining up, its servo in a state, a mapping waiting on each side or on none. -/
def timing (servo : Nat) (waits : Bool) : State :=
  let m : Mapping := { Mapping.reset with validFrom := 2000, rate := 5, bseq := 1 }
  { (lined 0).setServo servo with time := if waits then { TimeUnit.reset with hostNext := some m, fieldNext := some m, stepNext := some 7 } else TimeUnit.reset }
theorem witness_Time : (timing 1 false).hostAlive = true ∧ (timing 1 false).hostUp = true ∧ (timing 1 false).fieldUp = true ∧
    (timing 1 false).fieldAlive = true ∧ ((5 : W64) - 3).toNat ≤ 1024 ∧ 1024 < ((5000 : W64) - 3).toNat ∧ (timing 1 false).servo = 1 ∧
    (timing 3 false).servo ≠ 1 ∧ ((timing 1 true).time.hostNext.map (·.rate)) = some 5 ∧ ((timing 1 true).time.fieldNext.map (·.rate)) = some 5 ∧
    (timing 1 true).time.stepNext = some 7 ∧ (timing 1 false).time.hostNext = none ∧ State.reset.hostUp = false := by decide +kernel

/-- A unit whose ordinary clock listens on MGMT_UP in domain 0, with one entry of the transparent clock, a master or none. -/
def ptp (master : Option AnnounceMsg) (servo : Nat) : State :=
  { ((State.reset.setReg aTimeCtrl 1).setServo servo) with time := { TimeUnit.reset with master, tc := [⟨true, 5, 6, false, 70⟩, ⟨false, 5, 7, true, 80⟩] } }
def anAnnounce : AnnounceMsg := { domain := 0, gmId := 9, rank := 4, utc := 37, syncInterval := 0 }
def aPtp (seq : BitVec 16) : PtpMsg := { ident := 5, seq, domain := 0, correction := 0, oneStep := false, ingress := 0, egress := 64, origin := 0 }
theorem witness_Ptp : (ptp none 0).hostAlive = true ∧ (ptp none 0).ocPort true = true ∧ (ptp none 0).ocDomain anAnnounce.domain = true ∧
    (ptp none 0).ocPort false = false ∧ ((ptp none 0).tcFind true false (aPtp 6)).isSome = true ∧ (ptp none 0).tcFind true false (aPtp 7) = none ∧
    ((ptp none 0).tcFind (!true) true (aPtp 7)).isSome = true ∧ (ptp none 0).tcFind (!true) true (aPtp 6) = none ∧
    (ptp (some anAnnounce) 1).servo = 1 ∧ (ptp (some anAnnounce) 1).time.master.isSome = true ∧
    (({ State.reset with pins := { State.reset.pins with hostOn := false } } : State).hostAlive) = false := by decide +kernel

/-- The same with a Sync it has measured and a response's times. -/
def sampled : State :=
  let s := ptp (some anAnnounce) 1
  { s with time := { s.time with measured := 7, sample := some { ident := 5, seq := 6, t2 := 70000000, corr := 0, t1 := some 1000 } } }
theorem witness_PtpMeasure : (sampled.measure true { aPtp 6 with origin := 2000 }).any (fun x => decide (65536000 < x.2.natAbs)) = false ∧
    (sampled.measure true { aPtp 6 with origin := 900000000 }).any (fun x => decide (65536000 < x.2.natAbs)) = true ∧
    sampled.tcFind (!true) true (aPtp 6) = none ∧ sampled.servo = 1 ∧ sampled.time.measured = 7 ∧
    (ptp (some anAnnounce) 1).measure true (aPtp 6) = none := by decide +kernel
theorem witness_PtpResponse : sampled.ocResp true { aPtp 6 with ident := Config.ptpIdentity } = true ∧ sampled.ocResp false (aPtp 6) = false := by
  have h1 : sampled.ocPort true = true ∧ sampled.ocDomain (aPtp 6).domain = true ∧ sampled.time.master.isSome = true ∧ sampled.servo = 1 := by decide +kernel
  have h2 : sampled.ocPort false = false := by decide +kernel
  refine ⟨?_, by simp [State.ocResp, h2]⟩
  show (Config.ptpIdentity == Config.ptpIdentity && sampled.ocPort true && sampled.ocDomain (aPtp 6).domain && _ && _) = true
  rw [h1.1, h1.2.1, h1.2.2.1, h1.2.2.2, beq_self_eq_true]; rfl

/-- A unit that aligns in a role. -/
def aligning (role : Nat) : State :=
  { ((ready.setReg aFieldBoot 1).setReg (linkAddr .seamA 4) 5) with time := { TimeUnit.reset with align := some (role, 0) } }
theorem witness_TimeCommands : ready.takes hdr 0x70 false ∧ ready.takes hdr 0x71 false ∧ ready.takes hdr 0x72 true ∧ ready.servo ≠ 2 ∧
    (ready.setServo 2).servo = 2 ∧ (ready.setServo 2).takes hdr 0x70 false ∧ (ready.setReg aFieldBoot 1).takes hdr 0x72 true ∧
    (ready.setReg aFieldBoot 1).alignRefusal 0 = none ∧ ready.alignRefusal 4 = some stBadParam ∧ ackReq hdr = true ∧
    (aligning 0).time.align = some (0, 0) ∧ (aligning 2).linkUp (alignPort 2) = true ∧ bestProbe [(5, 3)] = some 3 ∧
    (let s : State := { aligning 0 with clk := { (aligning 0).clk with devtime := 320000 } }; s.firstWord 0 ≤ nextWord ((s.clk.devtime >>> 6).toNat + 1)) ∧
    (aligning 1).anyWork = false ∧ ((aligning 1).advanceTo 90).anyWork = false ∧
    (((aligning 1).setEng 0 ((queued (.play 0 2 0 0)).eng 0)).advanceTo 20).anyWork = true ∧ (State.reset).linkUp (alignPort 2) = false ∧
    (timing 1 true).time.stepNext = some 7 ∧ ((timing 1 true).time.hostNext.map (·.validFrom)) = some 2000 ∧ (timing 0 false).servo = 0 ∧
    State.reset.time.align = none ∧ (let bs := ofBits (true :: msbBits 58 5 ++ msbBits 16 (wordCheck (msbBits 58 5)).toNat ++ List.replicate 5 false)
      let bits : BitVec 80 := BitVec.ofNat 80 bs
      (bits.getLsbD 79 && wordCheck (wordBits bits 1 58) == BitVec.ofNat 16 (ofBits (wordBits bits 59 16))) = true) := by decide +kernel

/-- A unit whose host link 0 and seam A are UP, with a flit not acknowledged and how often it was sent again. -/
def linked (again : Nat) : State :=
  let f := mkFlit false 0 3 0 0
  ((State.reset.setReg (linkAddr (.hl 0) 4) 5).setReg (linkAddr .seamA 4) 5).setLink (.hl 0)
    { Link.reset with nextSeq := 4, replay := [{ seq := 3, flit := f, again }] }
theorem witness_LinkFlits : (linked 0).linkUp (.hl 0) = true ∧ (linked 0).linkUp .seamA = true ∧ (linked 0).linkUp .seamB = false ∧
    Flit.good (mkFlit false 0 0 3 0) = true ∧ Flit.vc (mkFlit false 0 0 3 0) ≠ 3 ∧ Flit.good (mkFlit false 0 0 3 0 |> fun f => { f with syncOk := false }) = false ∧
    Flit.seq (mkFlit false 0 0 3 0) = ((linked 0).link (.hl 0)).expSeq ∧ Flit.seq (mkFlit false 0 9 3 0) ≠ ((linked 0).link (.hl 0)).expSeq ∧
    ((linked 0).link (.hl 0)).replay.dropWhile (fun r => r.seq != 3) ≠ [] ∧ ((linked 0).link (.hl 0)).replay.dropWhile (fun r => r.seq != 4) = [] ∧
    ((linked 7).link (.hl 0)).replay.map (·.again) = [7] ∧ ((linked 6).link (.hl 0)).replay.map (·.again) = [6] ∧ ((linked 0).link (.hl 0)).wait = [] ∧
    (((linked 0).setLink (.hl 0) { Link.reset with nakWait := true }).link (.hl 0)).nakWait = true ∧
    (let s := ((linked 0).setLink (.hl 0) Link.reset).setReg (linkAddr (.hl 0) 0x10) 0x30000000; (s.linkUp (.hl 0) && s.fld (linkAddr (.hl 0) 4) 6 5 == 0 &&
      s.bit (linkAddr (.hl 0) 0x10) 28 && (s.link (.hl 0)).replay.isEmpty) = true) := by decide +kernel

/-- Host link 0 with its transmit direction asleep or not, flits and CREDIT owed, and its counts as last told. -/
def sleepy (asleep : Bool) (exp : BitVec 7) (freed : Nat) : State :=
  (State.reset.setReg (linkAddr (.hl 0) 4) (if asleep then 0x25 else 5)).setLink (.hl 0) { Link.reset with expSeq := exp, freed := (freed, 0, 0) }
/-- A control flit of a type. -/
def controlFlit (ftype : Nat) : Flit := mkFlit false (controlPayload ftype []) 0 0 3
theorem witness_LinkSleep : (sleepy true 0 0).linkUp (.hl 0) = true ∧ (sleepy true 0 0).fld (linkAddr (.hl 0) 4) 6 5 = 1 ∧
    (sleepy false 0 0).fld (linkAddr (.hl 0) 4) 6 5 = 0 ∧ (((sleepy true 31 0).link (.hl 0)).expSeq + 1 - ((sleepy true 31 0).link (.hl 0)).ackTold).toNat = 32 ∧
    (((sleepy true 30 0).link (.hl 0)).expSeq + 1 - ((sleepy true 30 0).link (.hl 0)).ackTold).toNat = 31 ∧
    ((sleepy true 0 5).link (.hl 0)).freed ≠ ((sleepy true 0 5).link (.hl 0)).credTold ∧
    ((sleepy true 3 0).link (.hl 0)).expSeq ≠ ((sleepy true 3 0).link (.hl 0)).ackTold ∧
    (let s := (sleepy true 0 0).setReg (linkAddr (.hl 0) 0x10) 0x20000000; s.bit (linkAddr (.hl 0) 0x10) 29) = true ∧
    [0, 1, 2, 3, 4, 5, 15].map (fun n => (Flit.good (controlFlit n), Flit.vc (controlFlit n), Flit.ftype (controlFlit n))) =
      [0, 1, 2, 3, 4, 5, 15].map (fun n => (true, 3, n)) ∧
    badHeader .seamA (mkFlit false 0 0 0 0) = true ∧ badHeader (.hl 0) (mkFlit true 0 0 0 0) = false ∧ (linked 0).linkUp .seamA = true := by decide +kernel

/-- A unit whose host link 0 is in a state, with the attempts and the accepted flits given. -/
def training (st : W32) (tries accepted : Nat) : State :=
  ((State.reset.setReg (linkAddr (.hl 0) 0) 1).setReg (linkAddr (.hl 0) 4) st).setLink (.hl 0) { Link.reset with tries, accepted }
/-- The same in a near-end loopback that trains itself. -/
def looping (phase accepted : Nat) : State := (training 6 0 0).setLink (.hl 0) { Link.reset with phase, accepted }
theorem witness_LinkTrains : (training 4 0 0).linkSt (.hl 0) = 4 ∧ (training 2 0 0).linkSt (.hl 0) = 2 ∧ (training 5 0 0).linkUp (.hl 0) = true ∧
    ((training 4 0 16).link (.hl 0)).accepted = 16 ∧ ((training 4 3 0).link (.hl 0)).tries = 3 ∧ kindOk (.hl 0) 0 = true ∧ kindOk (.hl 0) 1 = false ∧
    (training 0 0 0).linkEn (.hl 0) = true ∧ (training 0 0 0).hostAlive = true ∧ (training 0x85 0 0).fld (linkAddr (.hl 0) 4) 8 7 ≠ 0 ∧
    (training 0x85 0 0).linkUp (.hl 0) = true ∧ (training 4 0 0).bit (linkAddr (.hl 0) 0) 7 = false ∧ wfld 0xA 3 1 = 5 ∧ wfld 4 3 1 = 2 ∧
    ((training 4 0 0).setReg (linkAddr (.hl 0) 0) 0x81).bit (linkAddr (.hl 0) 0) 7 = true ∧
    (training 6 0 0).linkSt (.hl 0) = 6 ∧ ((looping 4 16).link (.hl 0)).phase = 4 ∧ (looping 4 16).trainPhase (.hl 0) = 4 ∧
    (looping 2 0).trainPhase (.hl 0) = 2 ∧ (training 4 0 0).prbsOn (.hl 0) = false ∧ ownNumber (.hl 0) = 0 := by decide +kernel
/-- A TRAIN flit of a kind, with the unit's own serial number. -/
def trainOf (kind : Fin 4) : TrainMsg :=
  { kind, link := 0, serial := Config.serial, credits := (295, 1, 0), pass := true, loopReq := false, lanesInOrder := true, roundTrip := 702 }
theorem witness_OwnTrain : ((training 4 0 0).setReg (linkAddr (.hl 0) 0) 0x101).ownTrain (.hl 0) (trainOf 1) = true ∧
    ((training 4 0 0).setReg (linkAddr (.hl 0) 0) 0x101).ownTrain (.hl 0) (trainOf 0) = false ∧ 350 < (trainOf 0).roundTrip / 2 ∧
    (training 4 0 0).ownTrain (.hl 0) (trainOf 1) = false := by
  have h : ((training 4 0 0).setReg (linkAddr (.hl 0) 0) 0x101).bit (linkAddr (.hl 0) 0) 8 = true ∧
    (training 4 0 0).bit (linkAddr (.hl 0) 0) 8 = false := by decide +kernel
  refine ⟨?_, ?_, by decide, ?_⟩
  · rw [State.ownTrain, h.1]; exact beq_self_eq_true _
  · rw [State.ownTrain, h.1]; rfl
  · rw [State.ownTrain, h.2]; rfl

/-- A packet with these first 12 bytes, a TAG of 0, no parameters and its CRC (R282, R283). -/
def packetOf (ver dest src op : Byte) (flags seq : BitVec 16) : List Byte := packetBytes ver dest src op seq flags 0 0 []
theorem witness_Packets : State.reset.hostAlive = true ∧ [1, 2].length < 20 ∧ paramLen (packetOf 2 1 0 1 0 9) = 0 ∧
    (packetOf 2 1 0 1 0 9).length = 20 ∧
    crc32c ((packetOf 2 1 0 1 4 9).take 16) = (parsePacket (.hl 0) 0 (packetOf 2 1 0 1 4 9)).1.crc ∧
    (parsePacket (.hl 0) 0 (packetOf 2 1 0 1 4 9)).1.flags.getLsbD 2 = true ∧
    crc32c (List.replicate 16 0) ≠ (parsePacket (.hl 0) 0 (List.replicate 20 0)).1.crc ∧
    State.reset.headerStatus (parsePacket (.hl 0) 0 (packetOf 2 1 0 1 4 9)).1 1 0 = none ∧
    (State.reset.headerStatus (parsePacket (.hl 0) 0 (packetOf 3 1 0 1 0 9)).1 1 0).isSome = true ∧
    (State.reset.cachePut (hdr) none).cached (hdr) ≠ none ∧ State.reset.cached (hdr) = none ∧
    (linked 0).linkUp (.hl 0) = true ∧ (linked 0).hostAlive = true ∧
    ((linked 0).takeAddr 7).unitAddr = 7 ∧ (State.reset.setReg aMgmtStatus 3).mgmtLink true = true ∧ State.reset.mgmtLink true = false ∧
    isEnumerate (packetOf 2 255 0 0x10 0 9) = true ∧ isEnumerate (packetOf 2 255 0 1 0 9) = false ∧
    (linked 0).replyLink (packetOf 2 0 1 1 1 9) = some 0 ∧ State.reset.replyLink [] = none := by decide +kernel

/-- A frame of an EtherType that carries a command packet to an address. -/
def frameOf' (etherType : BitVec 16) (dest op : Byte) (dst : BitVec 48) : Frame :=
  { dst, src := 3, etherType, len := 64, fcsOk := true, payload := packetOf 2 dest 0 op 0 9 }
/-- A unit whose management ports have link. -/
def chained : State := State.reset.setReg aMgmtStatus 3
theorem witness_Frames : chained.mgmtLink true = true ∧ chained.mgmtLink false = true ∧ chained.fld 0x00040000 15 0 ≠ 0x88F7 ∧
    0x600 ≤ chained.fld 0x00040000 15 0 ∧ (chained.takeAddr 7).unitAddr = 7 ∧
    ((frameOf' 0x88F7 7 1 0).payload.getD 0 0).toNat % 16 = 2 ∧
    ({ frameOf' 0 7 1 0 with payload := [12] } : Frame).payload.getD 0 0 = 12 ∧
    isEnumerate (frameOf' 0 255 0x10 0).payload = true ∧ ((frameOf' 0 255 1 0).payload.getD 1 0) = 255 ∧
    (decide (64 ≤ (frameOf' 0 7 1 0).len ∧ (frameOf' 0 7 1 0).len ≤ 9216)) = true := by decide +kernel

/-- An addressed unit that takes commands, its memories cleared and its Lining up. -/
def cleared : State := ready.setReg aFieldBoot 6
theorem witness_Commands : cleared.takes hdr 0x01 false ∧ cleared.takes hdr 0x02 true 0x20100000 ∧ cleared.takes hdr 0x04 true 0x20100000 ∧
    cleared.takes hdr 0x03 true ∧ cleared.takes hdr 0x03 false ∧ cleared.takes hdr 0x05 true ∧ cleared.takes hdr 0x06 true ∧ cleared.takes hdr 0x20 true ∧
    inOneMem 0x20100000 8 = true ∧ cleared.memRefusal 0x20100000 true = none ∧ inQmap 0x20100000 = false ∧ inFrames 0x20100000 = false ∧
    inOneRegion 0x00005000 1 = true ∧ inOneRegion 0x0F000000 1 = false ∧ locate 0x00010008 = .reg .rc 0 0 ∧ locate 0x00010000 = .reg .rw 1 0 ∧
    cleared.computed 0x00010000 = none ∧ cleared.writeRefusal 0x00010000 1 = none ∧ (cleared.hostWrite 0x00010000 1).isNone = true := by decide +kernel
theorem witness_CommandsRefused :
    (cleared.writeRefusal 0x10050000 0).isSome = true ∧ ackReq hdr = true ∧ (State.reset.memRefusal 0x20100000 true).isSome = true ∧
    loadStatus 0x00000000 0 32 = none ∧ (loadStatus 0x06000000 0 32).isSome = true ∧
    loadTiles 0 0 0 = [0] ∧ loadMem 0 0 = some (0x20100000, 0x20000) ∧ (cleared.setWord 0x10008000 0).qmapOk = true ∧
    (cleared.setWord 0x10008000 0x80000201).qmapOk = false ∧ loadStatus 0x05000000 0 16 = none ∧ loadStatus 0x03000000 32 32 = none ∧
    loadTiles 3 0 0 = [0] ∧ cleared.memRefusal 0x11000000 true = none ∧ cleared.memRefusal 0x10008000 true = none := by decide +kernel

theorem witness_AddressesAndPatches : ready.takes hdr 0x10 false ∧ ready.takes hdr 0x11 false ∧ ready.takes hdr 0x40 false ∧ ready.takes hdr 0x40 true ∧
    ready.takes hdr 0x41 true ∧ ready.takes hdr 0x78 false ∧ ready.pinned = false ∧ (ready.setBit aMgmtStatus 4 true).pinned = true ∧
    ready.mgmtLink false = false ∧ (ready.setBit aMgmtStatus 1 true).mgmtLink false = true ∧ ready.cmd.ci = none ∧ ready.applying .fm = false ∧
    ready.applyOk 0 0 [] = true ∧ ready.applyOk 2 2304 [] = false ∧ ready.long .fm = none ∧ (calibrating [16]).long .fm ≠ none ∧
    (ready.setLong .ci (some { op := 0x41, h := hdr, arg := 0, tiles := [], failed := false, journal := [], answered := false, sig := [] })).applying .ci = true ∧
    ready.ctlAlive .ci = true ∧ ackReq hdr = true := by decide +kernel
theorem witness_AssignAddress : [(Config.serial >>> 32).setWidth 32, Config.serial.setWidth 32] = serialWords ∧
    [~~~(Config.serial >>> 32).setWidth 32, Config.serial.setWidth 32] ≠ serialWords := by
  refine ⟨rfl, fun h => ?_⟩
  have h1 := List.cons.inj h
  exact absurd h1.1 (by bv_omega)

theorem witness_Controllers : (calibrating [16]).ctlAlive .fm = true ∧ ((calibrating [16]).long .fm).isSome = true ∧ ready.long .ci = none ∧
    ((calibrating [16]).ctl .fm).abort = false ∧ (((calibrating [16]).setCtl .fm { Ctrl.reset with ints := 1, abort := true }).ctl .fm).abort = true ∧
    ((calibrating [16]).cmd.fm.map (·.answered)) = some false ∧ (calibrating [16]).ctlMode .fm = 0 ∧
    ((calibrating [16]).setFld (ctrlAddr .fm 8) 2 0 2).ctlMode .fm = 2 ∧ ((calibrating [16]).setFld (ctrlAddr .fm 8) 2 0 2).ctlAlive .fm = true ∧
    (ready.setFld (ctrlAddr .ci 8) 2 0 4).ctlAlive .ci = false := by decide +kernel

/-- A unit that takes commands, whose CI programs page 300 for a command. -/
def storing : State :=
  (ready.setLong .ci (some { op := 0x50, h := hdr, arg := 300, tiles := [], failed := false, journal := [], answered := false, sig := [] })).nvPush
    { page := 300, data := [1], vals := [], h := some hdr, op := 0x50 }
theorem witness_Calibrations : ready.takes hdr 0x30 false ∧ ready.takes hdr 0x30 true ∧ ready.takes hdr 0x31 false ∧ ready.takes hdr 0x31 true ∧
    ready.refPresent = true ∧ (yokeMaskTiles 1 1).any ready.tileBusy = false ∧ yokeMaskTiles 1 1 ≠ [] ∧ yokeMaskTiles 2 0 = [] ∧
    ready.cmd.fm = none ∧ ready.long .ci = none ∧ ready.bit (aHkStatus .host) 0 = false ∧ (ready.hk .host).inj = none ∧ testKind 0x10 = some (.fm, true) ∧
    testKind 5 = none ∧ ready.testBusy .fm 0x10 1 = false ∧ ready.testBusy .ci 0x20 0 = false ∧ storing.long .ci ≠ none ∧
    ((ready.setLong .fm (some { op := 0x31, h := hdr, arg := 1, tiles := [], failed := false, journal := [], answered := false, sig := [] })).runningTest
      .fm) = some (1, 0) ∧ State.reset.testBusy .fm 1 0 = true := by decide +kernel
theorem witness_Store : ready.takes hdr 0x50 false ∧ ready.takes hdr 0x51 false ∧ (List.replicate 4096 (0 : Byte)).length = 4096 ∧
    ready.nvCopy 300 = none ∧ ((ready.setNvPage 300 { NvPage.blank with a := { NvPage.blank.a with valid := true } }).nvCopy 300).isSome = true ∧
    storing.nv.jobs.length = 1 ∧ storing.hostAlive = true ∧ storing.bit aHhStatus 24 = false ∧ storing.cmd.ci.map (·.answered) = some false ∧
    storing.spares ≠ 0 ∧ (storing.setFld aNvStatus 22 16 0).spares = 0 ∧ storing.cmd.ci.map (·.h) = some hdr := by decide +kernel

/-- A unit that takes commands, in a pair state, joining in a role over some seams. -/
def pairing (st : Nat) (role : Nat) (waits : List LPort) : State :=
  let s := ready.setPairSt st
  { s with pins := { s.pins with pairPresent := true, interlock := true }
           pair := { s.pair with joining := !waits.isEmpty, role, waitSeams := waits } }
/-- A HELLO that shows a role. -/
def helloOf (role : Fin 8) (skew : Int) : HelloMsg := { role, serial := 1, pairPresent := true, state := 0, skew, bound := [] }
theorem witness_PairJoin : (pairing 0 0 []).takes hdr 0x60 true ∧ (pairing 0 0 []).joinRefusal 2 = none ∧ ((pairing 0 0 []).joinRefusal 0).isSome = true ∧
    (pairing 0 0 []).cmd.fm = none ∧ (pairing 0 2 [.seamB]).pair.joining = true ∧ roleMate .seamB 2 = some 3 ∧ roleMate .seamB 2 ≠ some 2 ∧
    (helloOf 3 2).skew.natAbs = 2 ∧ roleActive 2 = true ∧ roleActive 3 = false ∧ (pairing 0 2 [.seamB]).pins.interlock = true ∧
    (((pairing 0 2 [.seamB]).setReg (linkAddr .seamB 4) 5).linkUp .seamB) = true ∧ (pairing 3 2 []).pairState = 3 ∧ (pairing 3 2 []).linkSt .seamB = 0 := by
  decide +kernel
theorem witness_PairSplit : (pairing 4 3 []).takes hdr 0x61 true ∧ (pairing 4 3 []).splitRefusal = none ∧ ((pairing 0 0 []).splitRefusal).isSome = true ∧
    (pairing 4 3 []).pairState = 4 ∧ (pairing 4 3 []).pins.interlock = true ∧
    (((pairing 0 2 []).setBit aPairCtrl 0 true).setFld aPairStatus 27 24 2).fld aPairStatus 27 24 = 2 ∧
    (pairing 0 2 []).fieldAlive = true ∧ (pairing 0 2 []).anyActive = false := by decide +kernel

/-- A unit in a pair state whose seams are UP. -/
def beating (st : Nat) : State := ((pairing st 3 []).setReg (linkAddr .seamA 4) 5).setReg (linkAddr .seamB 4) 5
theorem witness_Heartbeats : (beating 4).linkUp .seamB = true ∧ (beating 4).linkUp .seamA = true ∧ (pairing 4 3 []).linkUp .seamB = false ∧
    (beating 4).pairState = 4 ∧ (beating 4).keepsDigest (beating 4).pin = true ∧ (beating 4).keepsDigest ((beating 4).pin - 64) = false ∧
    (beating 4).shadow = true ∧ (pairing 0 0 []).shadow = false ∧ (pairing 0 0 []).follow = false ∧
    (({ beating 4 with pins := { (beating 4).pins with interlock := false } } : State).pins.interlock) = false ∧
    (((beating 4).setBit 0x10020008 10 true).setReg 0x1002001C 0).bit 0x10020008 10 = true ∧
    (relayedPkt (packetBytes 2 1 0 0x21 7 0 0 9 [1])).2.1 = 0x21 ∧ (relayedPkt (packetBytes 2 1 0 0x01 7 0 0 9 [1])).2.1 = 1 := by decide +kernel

/-- A digest that agrees with the unit's own, and one that differs for yoke 0. -/
def ownDigest (s : State) (block : W32) : List W32 := (List.range 4).map (fun y => s.yokeDigest y (s.block64 block).toNat)
theorem witness_Digests (s : State) (b : W32) : s.digestDiffers b (ownDigest s b) = none ∧
    (s.digestDiffers b [~~~s.yokeDigest 0 (s.block64 b).toNat, 0, 0, 0]).isSome = true := by
  have h : ∀ v : W32, (~~~v != v) = true := fun v => by simp only [bne_iff_ne]; bv_omega
  refine ⟨?_, ?_⟩
  · rw [State.digestDiffers, List.find?_eq_none]
    intro y _
    have hy : (ownDigest s b).getD y.val 0 = s.yokeDigest y.val (s.block64 b).toNat := by fin_cases y <;> rfl
    simp only [hy, bne_self_eq_false, Bool.false_eq_true, not_false_eq_true]
  · rw [State.digestDiffers, List.find?_isSome]
    exact ⟨0, List.mem_finRange _, h _⟩
theorem witness_DigestDetail (s : State) (b : W32) : (List.zipIdx [s.portDigest (yokePort 0 0) (s.block64 b).toNat]).find?
      (fun x => 0 + x.2 < 112 && x.1 != s.portDigest (yokePort 0 (0 + x.2)) (s.block64 b).toNat) = none ∧
    ((List.zipIdx [~~~s.portDigest (yokePort 0 0) (s.block64 b).toNat]).find?
      (fun x => 0 + x.2 < 112 && x.1 != s.portDigest (yokePort 0 (0 + x.2)) (s.block64 b).toNat)).isSome = true := by
  have h : ∀ v : W32, (~~~v != v) = true := fun v => by simp only [bne_iff_ne]; bv_omega
  constructor <;> simp [h]

/-- An ACTIVE unit that drives INTERLOCK, with seam B UP, and a handover in progress. -/
def handing (acks : List LPort) (giving : Bool) : State :=
  let s := (beating 3).setBit aPairStatus 7 true
  { s with pair := { s.pair with unmuted := true, hand := some { h := 100, cause := 5, acks, seq := 9, giving, host := true } } }
/-- The same without a handover, a machine check of the FM pending. -/
def releasing : State := (beating 3).setBit (ctrlFlags .fm).addr 0 true
theorem witness_GivingUp : releasing.mayGive 0 = true ∧ releasing.twin = false ∧ (beating 3).mayGive 0 = false ∧ (beating 3).pairState = 3 ∧
    (beating 3).takes hdr 0x62 true ∧ (beating 3).handRefusal 0 = none ∧ ((beating 4).handRefusal 0).isSome = true ∧ (beating 3).cmd.fm = none ∧
    (pairing 3 3 []).linkUp .seamB = false ∧ (pairing 3 3 []).handRefusal 0 = none ∧ (beating 4).acceptsHand 20 = true ∧ (beating 4).acceptsHand 2 = false ∧
    (handing [.seamB] true).pair.hand.isSome = true ∧ (beating 3).pair.hand.isNone = true ∧
    (({ releasing with hem := { releasing.hem with config := 3 } } : State).setFld aPairStatus 4 3 2).mayGive 0 = true ∧
    (({ releasing with hem := { releasing.hem with config := 3 } } : State).setFld aPairStatus 4 3 2).follow = true ∧
    (({ releasing with hem := { releasing.hem with config := 3 } } : State).setFld aPairStatus 4 3 1).twin = true ∧
    ((releasing.modPair (fun p => { p with lastCause := 0 })).mayGive 0) = true := by decide +kernel

/-- A STANDBY that saw the line high twice. -/
def claiming (at_ : Option W32) : State := { beating 4 with pair := { (beating 4).pair with highs := 2, highAt := some 0, claimAt := at_, lowFrom := some 0 } }
theorem witness_Claims : (claiming none).pairState = 4 ∧ (claiming none).healthy = true ∧ (claiming none).drives = false ∧
    ((claiming none).modPair (fun p => { p with released := some 5 })).pair.released = some 5 ∧ (bdiff 5 0).natAbs ≤ 40 ∧ (claiming none).pins.pairPresent = true ∧
    (claiming (some 3)).pair.claimAt = some 3 ∧ (handing [] true).drives = true ∧ (handing [] true).pair.claimAt = none ∧
    (pairing 6 3 []).drives = false ∧ ((pairing 6 3 []).setFld aPairStatus 31 28 2).fld aPairStatus 31 28 = 2 ∧
    ({ claiming none with pins := { (claiming none).pins with interlock := false } } : State).pins.interlock = false ∧ (claiming none).linkUp .seamB = true := by
  decide +kernel
/-- A unit in SUSPECT whose partner's heartbeat shows ACTIVE. -/
def suspect : State := { beating 6 with pair := { (beating 6).pair with hbSeen := [(5, { state := 3, twinRole := 0, health := true, storm := false, interlockOut := true, block := 0, bound := none })] } }
theorem witness_Resync : suspect.takes hdr 0x63 true ∧ suspect.resyncRefusal = none ∧ ((beating 3).resyncRefusal).isSome = true ∧ suspect.bit aAlign 0 = false ∧
    (suspect.setBit aAlign 0 true).resyncRefusal = none ∧ (pairing 5 3 []).pairState = 5 ∧ isCopied 0x20100000 = true ∧ isCopied 0x10020000 = false ∧
    ((beating 3).modPair (fun p => { p with copying := true, dirty := [0x20100] })).pair.copying = true := by decide +kernel

/-- A unit whose sensors read a temperature, all converted. -/
def heated (v : Int) : State :=
  let s := foldS (List.range 72) (fun k s => s.setReg (aTemp k) (BitVec.ofNat 32 (tempField v))) State.reset
  (({ s with thermal := { s.thermal with scanned := List.range 72 } }).noteMaxima).setBit aFieldBoot 4 true
theorem witness_Sensors : State.reset.sensorAlive 3 = true ∧ State.reset.sensorFailed 3 = false ∧ State.reset.sensorAlive 70 = true ∧
    (heated 1850).validAbove fieldSensors 1840 = true ∧ (heated 1850).fieldAlive = true ∧ (heated 1850).fieldShut = false ∧
    (heated 1850).firstScan = true ∧ (heated 1600).yokeMax 0 = 1600 ∧ (heated 1850).validAbove hostSensors 1840 = true ∧ (heated 1850).hostAlive = true ∧
    (heated 1850).validAbove hostSensors 2000 = false ∧ storing.nv.jobs.isEmpty = false ∧ (heated 1850).nv.jobs.isEmpty = true ∧
    (heated 0).bit aFhStatus 8 = false ∧ State.reset.marginShort = false ∧ ((State.reset.setReg 0x10053000 5).marginShort) = true ∧
    ((State.reset.setReg aAvCtrl 1).bit aAvCtrl 0) = true ∧ State.reset.ctlMode .fm = 0 ∧ (State.reset.setFld aAvStatus 4 0 20).avSteps = 20 ∧
    (State.reset.setBit (aTemp 3) 16 true).sensorFailed 3 = true := by decide +kernel
/-- A field side that the hub holds in reset after a shutdown, until sensor 5 cools. -/
def heldHot : State := { State.reset with pins := { State.reset.pins with fieldOn := false, fieldHot := [5] } }
theorem witness_FieldHot : heldHot.sensorAlive 5 = false ∧ heldHot.pins.fieldPower = true ∧ heldHot.pins.fieldHot.isEmpty = false ∧
    (heated 1850).validAbove [5] 1601 = true ∧ (heated 1600).validAbove [5] 1601 = false ∧ State.reset.pins.fieldHot.isEmpty = true := by decide +kernel
theorem witness_HostHeld : State.reset.hostHot = false ∧ ({ heated 1850 with pins := { State.reset.pins with hostShut := true } } : State).hostHot = true := by
  decide +kernel
theorem witness_Bands : tabFind ({ State.reset with thermal := { State.reset.thermal with bandAt := [(1, (4, false))] } } : State).thermal.bandAt 1 = some (4, false) ∧
    ({ State.reset with clk := { State.reset.clk with run := true } } : State).clk.run = true ∧ State.reset.clk.run = false ∧
    (({ storing with pair := storing.pair } : State).setReg (aTemp 64) 1850).validAbove hostSensors 1840 = false := by decide +kernel

/-- A unit whose host housekeeping ADC converts, with a request injected. -/
def hkBusy (inj : Bool) : State :=
  { State.reset.setReg (aHkStatus .host) 5 with hkHost := { HkAdc.reset with inj := if inj then some 3 else none, injNow := inj, left := [4, 5], scanning := true } }
theorem witness_Housekeeping : (hkBusy true).sideAlive .host = true ∧ (hkBusy true).bit (aHkStatus .host) 0 = true ∧ (hkBusy true).bit (aHkStatus .host) 1 = false ∧
    ((hkBusy true).hk .host).inj = some 3 ∧ ((hkBusy false).hk .host).left = [4, 5] ∧ State.reset.hkMask .host ≠ [] ∧
    ((State.reset.setReg (hkAddr .host 0) 1).bit (hkAddr .host 0) 0) = true ∧ (State.reset.bit (aHkStatus .host) 0) = false ∧
    ((storing.setReg (aHkStatus .host) 2).bit (aHkStatus .host) 1) = true ∧ (storing.long .ci).map (·.answered) = some false ∧ State.reset.hostAlive = true ∧
    State.reset.hostUp = false ∧ ready.hostUp = true ∧ (State.reset.setReg aBhStatus 3).bit aBhStatus (bhBit .host) = true ∧
    State.reset.bit aBhStatus (bhBit .field) = false := by decide +kernel
theorem witness_HkEmpty : (foldS (List.range 4) (fun i s => s.setReg (hkAddr .host (0x20 + 4 * i)) 0) State.reset).hkMask .host = [] ∧
    ({ hkBusy true with hkHost := { (hkBusy true).hkHost with left := [] } } : State).hkHost.injNow = true := by decide +kernel

theorem witness_HostHot : State.reset.pins.hostOn = true ∧ State.reset.pins.hostPower = true ∧ State.reset.sensorFailed 70 = false ∧
    (-40 * 16 : Int) ≤ 112 * 16 ∧ (112 * 16 : Int) ≤ 150 * 16 := by decide

theorem witness_WearWarnings : State.reset.pins.hostPower = true ∧ State.reset.hostAlive = true := by decide

theorem witness_Resets : State.reset.pins.hostPower = true ∧ State.reset.pins.fieldPower = true ∧
    ({ State.reset with pins := { State.reset.pins with hostPower := false, fieldPower := false } } : State).pins.hostPower = false ∧
    ready.hostAlive = true ∧ ready.hostReady = true ∧ ready.cached hdr = none ∧ ready.gate hdr 0x7F false = none ∧ ready.hostUp = true ∧
    State.reset.hostUp = false ∧ (ready.setReg aLining 0).gate hdr 0x7F false = none ∧ storing.nv.jobs ≠ [] ∧ ready.nv.jobs = [] ∧
    ready.cmd.ci = none ∧ ready.cmd.fm = none ∧
    ({ ready with cmd := { ready.cmd with resetPend := some (2, 7) } } : State).cmd.resetPend = some (2, 7) ∧ ready.cmd.resetPend = none := by decide +kernel

theorem witness_Boot : State.reset.pins.hostPower = true ∧ State.reset.pins.hostShut = false ∧ State.reset.hostReady = false ∧ ready.hostReady = true ∧
    State.reset.bootPage = none ∧ State.reset.bit aFieldBoot 5 = false ∧ State.reset.trimsBad = false ∧ (State.reset.setNvPage 8 NvPage.blank).trimsBad = true ∧ State.reset.fieldAlive = true ∧
    ready.refPresent = true ∧ ready.pllLocked = false ∧ (ready.setReg aFieldBoot 2).pllLocked = true ∧ State.reset.refPresent = false ∧
    unitPages.any (fun p => (State.reset.nvCopy p).isNone) = true ∧
    tabFind ({ State.reset with hem := { State.reset.hem with tileWait := [(3, 100)] } } : State).hem.tileWait 3 = some 100 ∧
    ({ ready with lining := { ready.lining with fmDue := true } } : State).lining.fmDue = true ∧ ready.fieldAlive = true ∧ ready.hostUp = true := by decide +kernel
/-- A unit whose boot page names an FM patch. -/
def patching : State :=
  { ready with nv := { ready.nv with pages := [(256, { NvPage.blank with a := { NvPage.blank.a with valid := true, data := [0x31, 0x42, 0x46, 0x51, 2, 0, 0, 0] } })] } }
theorem witness_BootPage : patching.bootPage.map (fun pg => bootFlag pg 1) = some true ∧ patching.bootPage.map (fun pg => bootFlag pg 0) = some false := by
  decide +kernel

end Sys2Proof.Machine
end

namespace Sys2Proof.Machine

/-! ## Register access (R6, R7, R9, R444) -/

theorem State.remember_of_not_heard (s : State) (a : Nat) (h : heard a = false) : s.remember a = s := by
  simp [State.remember, h]

theorem State.heal_of_no_table (s : State) (a : Nat) (h : tableWord a = none) : s.heal a = s := by
  simp [State.heal, h]

/-- A register set alone is one register changed, and it reads as set. -/
theorem State.onlyReg_setReg (s : State) (a : Nat) (v : W32) : s.onlyReg (s.setReg a v) a ∧ (s.setReg a v).reg a = v := by
  refine ⟨⟨rfl, fun b hb => ?_⟩, by simp [State.reg_setReg]⟩
  rw [State.reg_setReg, if_neg (by simpa using hb)]

/-- What a write of a register without a meaning of its own leaves, before the copy notes it (R7, R9). -/
def State.plainlySet (s : State) (a : Nat) (mask v : W32) : State := ((s.remember a).putReg a mask v).heal a

theorem State.plainlySet_frame (s : State) (a : Nat) (mask v : W32) : s.plainlySet a mask v =
    { s with regs := (s.plainlySet a mask v).regs, synth := (s.plainlySet a mask v).synth, mend := (s.plainlySet a mask v).mend } := by
  unfold State.plainlySet State.putReg
  rw [State.heal_frame, State.remember_frame]
  rfl

theorem State.plainlySet_reg (s : State) (a : Nat) (mask v : W32) (b : Nat) :
    (s.plainlySet a mask v).reg b = if b = a then (s.reg a &&& ~~~mask) ||| (v &&& mask) else s.reg b := by
  unfold State.plainlySet State.putReg
  rw [State.heal_frame, State.remember_frame]
  exact State.reg_setReg _ _ _ _

theorem State.plainlySet_onlyReg (s : State) (a : Nat) (mask v : W32) (hh : heard a = false) (ht : tableWord a = none) :
    s.onlyReg (s.plainlySet a mask v) a := by
  unfold State.plainlySet
  rw [State.remember_of_not_heard s a hh, State.heal_of_no_table _ a ht]
  exact (State.onlyReg_setReg s a _).1

/-- The meaning of its own that a write of a register has, where it has one. -/
def State.ownWrite (s : State) (a : Nat) (acc : Acc) (mask v : W32) : Option (Byte × State) :=
  if a < 0x10000000 then s.hostWrite a v else if a < 0x20000000 then s.fieldWrite a v else s.tileWrite a acc mask v

/-- A write of an RW, RWS or WO register that the rules of the write refuse leaves the state as it is. -/
theorem State.writeReg_refused (s : State) (a : Nat) (acc : Acc) (mask v : W32) (who : Option Deferred) (st : Byte)
    (hacc : acc = .rw ∨ acc = .rws ∨ acc = .wo) (h : s.writeRefusal a v = some st) :
    s.writeReg a acc mask v who = (.ended st, s) := by
  rcases hacc with rfl | rfl | rfl <;> simp [State.writeReg, h]

/-- One that is not refused and has no meaning of its own takes its defined bits. -/
theorem State.writeReg_plain (s : State) (a : Nat) (acc : Acc) (mask v : W32) (who : Option Deferred)
    (hacc : acc = .rw ∨ acc = .rws ∨ acc = .wo) (hr : s.writeRefusal a v = none) (hm : a ≠ aMendCtrl)
    (ho : s.ownWrite a acc mask v = none) : s.writeReg a acc mask v who = (.ended stOk, (s.plainlySet a mask v).touch a) := by
  have hb : s.writeBits a acc mask v = (stOk, s.plainlySet a mask v) := by
    show (s.ownWrite a acc mask v).getD _ = _
    rw [ho]
    rfl
  rcases hacc with rfl | rfl | rfl <;> simp [State.writeReg, hr, hm, hb]

/-! ## The rows of register access -/

theorem exec_registerWrite_unreached (s : State) (addr v : W32) (h : s.sideOn addr.toNat = false ∨ addr.toNat % 4 ≠ 0) :
    exec (.registerWrite addr v) s = .next s := by
  show execRegisterWrite addr v s = _
  rcases h with h | h <;> simp [execRegisterWrite, h]

theorem exec_readClear_unreached (s : State) (addr : W32) (h : s.sideOn addr.toNat = false ∨ addr.toNat % 4 ≠ 0) :
    exec (.readClear addr) s = .next s := by
  show execReadClear addr s = _
  rcases h with h | h <;> simp [execReadClear, h]

section
variable {s : State} {addr : W32} {acc : Acc} {mask r : W32}
  (hs : s.sideOn addr.toNat = true) (ha : addr.toNat % 4 = 0) (hl : locate addr.toNat = .reg acc mask r)
include hs ha hl

theorem exec_registerWrite_frame (v : W32) (hf : inFrames addr.toNat = true) :
    exec (.registerWrite addr v) s = .next (s.memStore addr.toNat [v]).2 := by
  show execRegisterWrite addr v s = _
  simp [execRegisterWrite, hs, ha, hl, hf]

theorem exec_registerWrite_reg (v : W32) (hf : inFrames addr.toNat = false) :
    exec (.registerWrite addr v) s = .next (s.writeReg addr.toNat acc mask v none).2 := by
  show execRegisterWrite addr v s = _
  simp [execRegisterWrite, hs, ha, hl, hf]

theorem exec_readClear_other (h : acc ≠ .rc) : exec (.readClear addr) s = .next s := by
  show execReadClear addr s = _
  cases acc <;> simp_all [execReadClear]

end

theorem exec_readClear_rc {s : State} {addr mask r : W32} (hs : s.sideOn addr.toNat = true) (ha : addr.toNat % 4 = 0)
    (hl : locate addr.toNat = .reg .rc mask r) :
    exec (.readClear addr) s = .next ((s.readLatch addr.toNat).setReg addr.toNat 0) := by
  show execReadClear addr s = _
  simp [execReadClear, hs, ha, hl, State.readReg]

/-- A frame's FRAME_PHASE word is written: the update waits for the first boundary at least 4 blocks ahead (R117). -/
theorem State.memStore_framePhase (s : State) (a : Nat) (v : W32) (hf : inFrames a = true) (hr : s.memRefusal a true = none)
    (ho : (frameOf a).2 = 8) : (s.memStore a [v]).2 = s.frameHost (frameOf a).1 (.word 8 v) := by
  have hq : inQmap a = false := by
    simp only [inFrames, inQmap, Bool.and_eq_true, decide_eq_true_eq, Bool.and_eq_false_iff, decide_eq_false_iff_not] at hf ⊢
    omega
  simp [State.memStore, hr, hq, State.memWrites, State.memWrite, hf, ho, State.frameWrite]

/-! ## The words of a frame's pairs (R477) -/

/-- Latching a pair's high word changes that frame's latch alone. -/
theorem exec_frameFreqLoRead {s : State} {f : Fin 4096} (h : s.framesOn f false = true) (anchor : Bool) :
    exec (.frameFreqLoRead f anchor) s = .next (s.setFaux f (if anchor
      then { s.faux f with ancLatch := s.reg (frameAddr f 0x14) } else { s.faux f with freqLatch := s.reg (frameAddr f 4) })) := by
  show execFrameFreqLoRead f anchor s = _
  cases anchor <;> simp [execFrameFreqLoRead, h, State.frameLoRead]

theorem exec_frameFreqLoWrite {s : State} {f : Fin 4096} (h : s.framesOn f true = true) (anchor : Bool) (v : W32) :
    exec (.frameFreqLoWrite f anchor v) s = .next (s.setFaux f (if anchor
      then { s.faux f with ancHold := some v } else { s.faux f with freqHold := some v })) := by
  show execFrameFreqLoWrite f anchor v s = _
  simp [execFrameFreqLoWrite, h, State.frameLoWrite]

/-- What the write of a pair's high word queues: the pair where its low word is held, else the high word. -/
def FrameAux.hiOp (x : FrameAux) (anchor : Bool) (v : W32) : FrameOp :=
  match if anchor then x.ancHold else x.freqHold with
  | some lo => .pair anchor lo v
  | none => if anchor then .word 0x14 v else .word 0x4 (v &&& 0xFFFF)

theorem exec_frameFreqHiWrite {s : State} {f : Fin 4096} (h : s.framesOn f true = true) (anchor : Bool) (v : W32) :
    exec (.frameFreqHiWrite f anchor v) s = .next ((s.setFaux f (if anchor
      then { s.faux f with ancHold := none } else { s.faux f with freqHold := none })).frameHost f ((s.faux f).hiOp anchor v)) := by
  show execFrameFreqHiWrite f anchor v s = _
  simp only [execFrameFreqHiWrite, h, if_true, State.frameHiWrite, FrameAux.hiOp]
  generalize (if anchor = true then (s.faux f).ancHold else (s.faux f).freqHold) = held
  cases held <;> rfl

/-- A frame's latches and holds set: that frame's alone change. -/
theorem State.setFaux_only (s : State) (n : Nat) (x : FrameAux) :
    s.setFaux n x = { s with frameAux := (s.setFaux n x).frameAux } ∧ (s.setFaux n x).faux n = x ∧
      ∀ g, g ≠ n → (s.setFaux n x).faux g = s.faux g := by
  refine ⟨rfl, by simp [State.faux_setFaux], fun g hg => by simp [State.faux_setFaux, hg]⟩

/-- A write of a register outside the frames follows its access code (R6, R7, R9). -/
theorem exec_registerWrite_access (s : State) (addr v : W32) (acc : Acc) (mask r : W32) (hs : s.sideOn addr.toNat = true)
    (ha : addr.toNat % 4 = 0) (hl : locate addr.toNat = .reg acc mask r) (hf : inFrames addr.toNat = false) :
    let a := addr.toNat
    (acc = .ro ∨ acc = .rc → exec (.registerWrite addr v) s = .next s) ∧
    (acc = .w1c → ∃ t : State, exec (.registerWrite addr v) s = .next t ∧ (s.readLatch a).onlyReg t a ∧
      t.reg a = (s.readLatch a).reg a &&& ~~~(v &&& mask)) ∧
    (acc = .rw ∨ acc = .rws ∨ acc = .wo →
      ((s.writeRefusal a v).isSome = true → exec (.registerWrite addr v) s = .next s) ∧
      (s.writeRefusal a v = none → a ≠ 0x10040000 → s.ownWrite a acc mask v = none →
        ∃ t : State, exec (.registerWrite addr v) s = .next (t.touch a) ∧
          t = { s with regs := t.regs, synth := t.synth, mend := t.mend } ∧
          (heard a = false → tableWord a = none → s.onlyReg t a) ∧ s.sameRegs t [a] ∧
          t.reg a = (s.reg a &&& ~~~mask) ||| (v &&& mask))) := by
  intro a
  rw [exec_registerWrite_reg hs ha hl v hf]
  refine ⟨?_, ?_, fun hacc => ⟨fun hr => ?_, fun hr hm ho => ?_⟩⟩
  · rintro (rfl | rfl) <;> rfl
  · rintro rfl
    exact ⟨_, rfl, State.onlyReg_setReg _ _ _⟩
  · obtain ⟨st, hst⟩ := Option.isSome_iff_exists.mp hr
    rw [State.writeReg_refused s a acc mask v none st hacc hst]
  · rw [State.writeReg_plain s a acc mask v none hacc hr hm ho]
    refine ⟨_, rfl, State.plainlySet_frame s a mask v, State.plainlySet_onlyReg s a mask v, fun b hb => ?_, ?_⟩
    · rw [State.plainlySet_reg, if_neg (by simpa using hb)]
    · rw [State.plainlySet_reg, if_pos rfl]

/-- Settles O40: each clause is read off the equation of its row at the register or frame it reaches. -/
theorem registerAccessCodes : Obligations.RegisterAccessCodes := by
  unfold Obligations.RegisterAccessCodes
  refine ⟨fun s addr v => ⟨fun h => ⟨exec_registerWrite_unreached s addr v h, exec_readClear_unreached s addr h⟩,
    fun acc mask r hs ha hl => ⟨exec_readClear_other hs ha hl, ?_, fun hf hr ho => ?_, exec_registerWrite_access s addr v acc mask r hs ha hl⟩⟩,
    fun s => ⟨rfl, rfl⟩, fun s f anchor v => ⟨?_, ?_, fun h => ?_, fun h => ?_, fun h => ?_⟩⟩
  · rintro rfl
    exact ⟨_, exec_readClear_rc hs ha hl, State.onlyReg_setReg _ _ _⟩
  · rw [exec_registerWrite_frame hs ha hl v hf, State.memStore_framePhase s _ v hf hr ho]
    rfl
  · intro h
    show execFrameFreqLoRead f anchor s = _
    simp [execFrameFreqLoRead, h]
  · intro h
    refine ⟨?_, ?_⟩
    · show execFrameFreqLoWrite f anchor v s = _
      simp [execFrameFreqLoWrite, h]
    · show execFrameFreqHiWrite f anchor v s = _
      simp [execFrameFreqHiWrite, h]
  · exact ⟨_, exec_frameFreqLoRead h anchor, State.setFaux_only s f _⟩
  · exact ⟨_, exec_frameFreqLoWrite h anchor v, State.setFaux_only s f _⟩
  · refine ⟨_, exec_frameFreqHiWrite h anchor v, rfl, (State.setFaux_only s f _).2.1, rfl⟩

end Sys2Proof.Machine

namespace Sys2Proof.Machine

/-! ## Plain words of memory (R9, R295) -/

theorem State.envLog_frame (s : State) (a : Nat) : s.envLog a = { s with synth := (s.envLog a).synth } := by
  unfold State.envLog
  split <;> rfl

/-- What a write into a plain memory can change: memory, and the logs of earlier values, bad words and dirty pages. -/
def State.memOnly (s t : State) : Prop := t = { s with mem := t.mem, synth := t.synth, mend := t.mend, pair := t.pair }

theorem State.memOnly.trans {s t u : State} (h : s.memOnly t) (k : t.memOnly u) : s.memOnly u := by
  unfold State.memOnly at *
  rw [h] at k
  exact k

theorem State.memOnly.reg {s t : State} (h : s.memOnly t) (a : Nat) : t.reg a = s.reg a := by rw [h]; rfl
theorem State.memOnly.eng {s t : State} (h : s.memOnly t) (e : Nat) : t.eng e = s.eng e := by rw [h]; rfl
theorem State.memOnly.sent {s t : State} (h : s.memOnly t) : t.sent = s.sent := by rw [h]

theorem State.memOnly_envLog (s : State) (a : Nat) : s.memOnly (s.envLog a) := by
  rw [State.envLog_frame]
  rfl

theorem State.memOnly_setByte (s : State) (a : Nat) (v : Byte) : s.memOnly (s.setByte a v) := rfl

theorem State.memOnly_setWord (s : State) (a : Nat) (v : W32) : s.memOnly (s.setWord a v) :=
  (((State.memOnly_setByte s _ _).trans (State.memOnly_setByte _ _ _)).trans (State.memOnly_setByte _ _ _)).trans
    (State.memOnly_setByte _ _ _)

theorem State.memOnly_heal (s : State) (a : Nat) : s.memOnly (s.heal a) := by
  rw [State.heal_frame]
  rfl

theorem State.memOnly_touch (s : State) (a : Nat) : s.memOnly (s.touch a) := by
  rw [State.touch_frame]
  rfl

/-- A word written outside the frames stands in memory as its layout defines it; what else changes are the logs. -/
theorem State.memWrite_plain (s : State) (a : Nat) (v : W32) (hf : inFrames a = false) :
    s.memOnly (s.memWrite a v) ∧ (s.memWrite a v).mem = (s.setWord a (v &&& memMask a)).mem := by
  have hw : s.memWrite a v = (((s.envLog a).setWord a (v &&& memMask a)).heal a).touch a := by simp [State.memWrite, hf]
  have hmem : ((s.envLog a).setWord a (v &&& memMask a)).mem = (s.setWord a (v &&& memMask a)).mem := by
    rw [State.envLog_frame]
    rfl
  rw [hw]
  refine ⟨(((State.memOnly_envLog s a).trans (State.memOnly_setWord _ a _)).trans (State.memOnly_heal _ a)).trans
    (State.memOnly_touch _ a), ?_⟩
  rw [State.touch_frame, ← hmem, State.heal_frame]

theorem State.byte_setWord_other (s : State) (a : Nat) (v : W32) (b : Nat) (h : b < a ∨ a + 4 ≤ b) :
    (s.setWord a v).byte b = s.byte b := by
  simp only [State.setWord, State.byte_setByte]
  rw [if_neg (by omega), if_neg (by omega), if_neg (by omega), if_neg (by omega)]

/-- A word reads the same where its four bytes do. -/
theorem State.word_congr {s t : State} {a : Nat} (h : ∀ b, a ≤ b → b < a + 4 → t.byte b = s.byte b) : t.word a = s.word a := by
  simp only [State.word]
  rw [h (a + 3) (by omega) (by omega), h (a + 2) (by omega) (by omega), h (a + 1) (by omega) (by omega), h a (by omega) (by omega)]

theorem State.memWrite_word (s : State) (a : Nat) (v : W32) (hf : inFrames a = false) : (s.memWrite a v).word a = v &&& memMask a := by
  have hm := (State.memWrite_plain s a v hf).2
  rw [State.word_congr (fun b _ _ => State.byte_of_mem hm b), State.word_setWord]

theorem State.memWrite_byte_other (s : State) (a : Nat) (v : W32) (hf : inFrames a = false) (b : Nat) (h : b < a ∨ a + 4 ≤ b) :
    (s.memWrite a v).byte b = s.byte b := by
  rw [State.byte_of_mem (State.memWrite_plain s a v hf).2, State.byte_setWord_other s a _ b h]

/-- Words written in ascending order outside the frames are stored, and nothing but memory and the logs changes. -/
theorem State.memWrites_stored (vs : List W32) (s : State) (a : Nat) (hf : ∀ i < vs.length, inFrames (a + 4 * i) = false) :
    s.stored (s.memWrites a vs) a vs ∧ s.memOnly (s.memWrites a vs) := by
  induction vs generalizing s a with
  | nil => exact ⟨⟨by simp, fun _ _ => rfl⟩, rfl⟩
  | cons v vs ih =>
    have hf0 : inFrames a = false := hf 0 (by simp)
    have hshift : ∀ i, a + 4 + 4 * i = a + 4 * (i + 1) := fun i => by omega
    obtain ⟨⟨hwords, hbytes⟩, honly⟩ := ih (s.memWrite a v) (a + 4) (fun i hi => by
      rw [hshift]; exact hf (i + 1) (by simpa using hi))
    refine ⟨⟨fun i hi => ?_, fun b hb => ?_⟩, (State.memWrite_plain s a v hf0).1.trans honly⟩
    · cases i with
      | zero =>
        show ((s.memWrite a v).memWrites (a + 4) vs).word a = v &&& memMask a
        rw [State.word_congr (fun b _ hb => hbytes b (.inl hb)), State.memWrite_word s a v hf0]
      | succ i =>
        have h := hwords i (by simpa using hi)
        rwa [hshift] at h
    · have hlen : (v :: vs).length = vs.length + 1 := rfl
      show ((s.memWrite a v).memWrites (a + 4) vs).byte b = s.byte b
      rw [hbytes b (by omega), State.memWrite_byte_other s a v hf0 b (by omega)]

/-- A range that takes a write as plain words takes it: the words are stored (R295). -/
theorem State.memStore_plain {s : State} {a : Nat} {vs : List W32} (h : s.plainStore a vs.length) :
    s.memStore a vs = (stOk, s.memWrites a vs) ∧ s.stored (s.memWrites a vs) a vs ∧ s.memOnly (s.memWrites a vs) := by
  obtain ⟨-, hr, hq, hf⟩ := h
  exact ⟨by simp [State.memStore, hr, hq], State.memWrites_stored vs s a hf⟩

/-! ## A pocket brought up to the pin block (R241, R243, R247) -/

/-- No engine changes, and nothing is sent. -/
structure Silent (s t : State) : Prop where
  engines : t.engines = s.engines
  sent : t.sent = s.sent

theorem Silent.refl (s : State) : Silent s s := ⟨rfl, rfl⟩

theorem Silent.trans {s t u : State} (h : Silent s t) (k : Silent t u) : Silent s u :=
  ⟨k.engines.trans h.engines, k.sent.trans h.sent⟩

theorem Silent.eng {s t : State} (h : Silent s t) (e : Nat) : t.eng e = s.eng e := by
  simp [State.eng, h.engines]

theorem Silent.setReg {s t : State} (h : Silent s t) (a : Nat) (v : W32) : Silent s (t.setReg a v) := h.trans ⟨rfl, rfl⟩
theorem Silent.setPocket {s t : State} (h : Silent s t) (k : Nat) (x : Pocket) : Silent s (t.setPocket k x) := h.trans ⟨rfl, rfl⟩

theorem State.fieldRaise_silent (s : State) (n : Notice) : Silent s (s.fieldRaise n) := by
  unfold State.fieldRaise
  split <;> exact ⟨rfl, rfl⟩

/-- Setting a flag of a field source sends nothing: its notice joins those on their way across the Lining. -/
theorem Silent.flag {s t : State} (h : Silent s t) (f : FlagReg) (b : Nat) (hf : isFieldSource f.source = true) :
    Silent s (t.flag f b) := by
  unfold State.flag State.flagD State.raise
  rw [if_pos hf]
  split
  · exact h
  · exact (h.setReg _ _).trans (State.fieldRaise_silent _ _)

theorem pocketFlags_field {k : Nat} (hk : k < 16) : isFieldSource (pocketFlags k).source = true := by
  have : 512 + 32 * k < 1280 := by omega
  simp [isFieldSource, pocketFlags, this]

theorem State.setBytes_silent (bs : List Byte) (s : State) (a : Nat) : Silent s (s.setBytes a bs) := by
  induction bs generalizing s a with
  | nil => exact Silent.refl s
  | cons b bs ih =>
    have h : Silent s (s.setByte a b) := ⟨rfl, rfl⟩
    exact h.trans (ih (s.setByte a b) (a + 1))

theorem State.writeRing_silent (s : State) (k : Nat) : Silent s (s.writeRing k) := by
  refine foldS_rel Silent Silent.refl (fun _ _ _ => Silent.trans) _ _ (fun i _ t => ?_) s
  split
  · exact State.setBytes_silent _ _ _
  · exact Silent.refl t

theorem State.streamEnd_silent (s : State) (k st : Nat) (overflow throttled : Bool) : Silent s (s.streamEnd k st overflow throttled) :=
  ((Silent.refl s).setPocket k _).setReg _ _

section
variable {k : Nat} (hk : k < 16)
include hk

theorem State.levelMiss_silent (s : State) : Silent s (s.levelMiss k) := by
  have hcount : ∀ (u : State) (n : Nat), Silent s u → Silent s (u.missCause k n) := by
    intro u n hu
    unfold State.missCause
    split
    · exact hu
    · exact ((hu.setPocket k _).setReg _ _).flag _ 2 (pocketFlags_field hk)
  exact hcount _ _ ((Silent.refl s).setPocket k _)

theorem State.streamFill_silent (fuel : Nat) (s : State) : Silent s (s.streamFill k fuel) := by
  induction fuel generalizing s with
  | zero => exact Silent.refl s
  | succ fuel ih =>
    simp only [State.streamFill]
    split
    · exact Silent.refl s
    split
    · exact Silent.refl s
    split
    · exact Silent.refl s
    split
    · exact Silent.refl s
    split
    · exact (State.streamEnd_silent s k 6 true false).flag _ 3 (pocketFlags_field hk)
    · exact ((Silent.refl s).setPocket k _).trans (ih _)

theorem State.streamUp_silent (s : State) : Silent s (s.streamUp k) := by
  have hfill := State.streamFill_silent hk (s.unitsWritten k + 1) s
  simp only [State.streamUp]
  split
  · exact (hfill.trans (State.streamEnd_silent _ k 4 false false)).flag _ 1 (pocketFlags_field hk)
  · exact hfill

/-- Bringing a pocket up to the pin block changes no engine and sends nothing. -/
theorem State.pocketSync_silent (s : State) : Silent s (s.pocketSync k) := by
  unfold State.pocketSync
  split
  · exact State.writeRing_silent s k
  · exact (State.writeRing_silent s k).trans (State.levelMiss_silent hk _)
  · exact State.levelMiss_silent hk s
  · exact State.streamUp_silent hk s
  · exact Silent.refl s

end

theorem pocketAt_lt {a k : Nat} (h : pocketAt a = some k) : k < 16 := by
  unfold pocketAt at h
  split at h
  · obtain rfl := Option.some.inj h
    omega
  · simp at h

/-- A memory word outside the frames is read: a pocket's memory is brought up to date first, another word is as it stands. -/
theorem State.memRead_word (s : State) (a : Nat) (hf : inFrames a = false) : ∃ t, s.memRead a = (t.word a, t) ∧ Silent s t ∧
    (pocketAt a = none → t = s) := by
  simp only [State.memRead, hf, Bool.false_eq_true, if_false]
  cases hp : pocketAt a with
  | none => exact ⟨s, rfl, Silent.refl s, fun _ => rfl⟩
  | some k => exact ⟨s.pocketSync k, rfl, State.pocketSync_silent (pocketAt_lt hp) s, fun h => by simp at h⟩

end Sys2Proof.Machine

namespace Sys2Proof.Machine

/-! ## A record crosses, is held or is lost (R27, R266, R310) -/

/-- A transaction enters the flit layer: the register of a serial port's status alone changes, in its power fields. -/
theorem State.transmit_reg (s : State) (o : Out) (a : Nat) (h : ∀ p, a ≠ linkAddr p 4) : (s.transmit o).reg a = s.reg a := by
  unfold State.transmit
  dsimp only
  split
  · rfl
  · rename_i p t _
    have key : ∀ u : State, u.reg a = s.reg a → (if u.linkUp p then (u.setFld (linkAddr p 4) 6 5 0).setLink p
        (Link.pump { u.link p with wait := insTx t (u.link p).wait }) else u).reg a = s.reg a := by
      intro u hu
      split
      · exact (State.reg_setFld u _ 6 5 0 a).trans ((if_neg (h p)).trans hu)
      · exact hu
    apply key
    split <;> rfl

theorem State.transmit_linkUp (s : State) (o : Out) (q : LPort) : (s.transmit o).linkUp q = s.linkUp q := by
  unfold State.transmit
  dsimp only
  split
  · rfl
  · rename_i p t _
    have key : ∀ u : State, u.linkUp q = s.linkUp q → (if u.linkUp p then (u.setFld (linkAddr p 4) 6 5 0).setLink p
        (Link.pump { u.link p with wait := insTx t (u.link p).wait }) else u).linkUp q = s.linkUp q := by
      intro u hu
      split
      · refine Eq.trans ?_ hu
        show ((u.setFld (linkAddr p 4) 6 5 0).fld (linkAddr q 4) 2 0 == 5) = (u.fld (linkAddr q 4) 2 0 == 5)
        by_cases hq : linkAddr q 4 = linkAddr p 4
        · rw [hq, State.fld_setFld_other u _ 6 5 0 2 0 (by decide) (by decide) (by decide)]
        · rw [State.fld_setFld_reg u _ 6 5 0 _ 2 0 hq]
      · exact hu
    apply key
    split <;> rfl

theorem ne_linkStatus {a : Nat} (h : a ∉ [0x00030004, 0x00031004, 0x00032004, 0x00033004, 0x10028004, 0x10029004]) (p : LPort) :
    a ≠ linkAddr p 4 := by
  rintro rfl
  revert h
  cases p with
  | hl k => revert k; decide
  | seamA => decide
  | seamB => decide

/-- Sending a record leaves whether a permitted link is up as it was. -/
theorem State.send_records_resultLink (s : State) (r : Rec) (i : Nat) : (s.send (.records r i)).resultLink = s.resultLink := by
  have hup : ∀ q, (s.send (.records r i)).linkUp q = s.linkUp q := State.transmit_linkUp { s with sent := s.sent ++ [.records r i] } _
  have hreg : (s.send (.records r i)).reg 0x00034000 = s.reg 0x00034000 :=
    State.transmit_reg { s with sent := s.sent ++ [.records r i] } _ _ (ne_linkStatus (by decide))
  simp only [State.resultLink, State.resultLinks, hup, hreg]

/-- The parts of a record over a permitted link that is up (R266). -/
theorem foldS_sendResult_up (r : Rec) (l : List Nat) (s : State) (h : s.resultLink = true) :
    (foldS l (fun i s => s.sendResult (.records r i)) s).sent = s.sent ++ l.map (Out.records r) := by
  induction l generalizing s with
  | nil => simp [foldS]
  | cons i l ih =>
    have hs : s.sendResult (.records r i) = s.send (.records r i) := by simp [State.sendResult, h]
    show (foldS l (fun i s => s.sendResult (.records r i)) (s.sendResult (.records r i))).sent = _
    rw [hs, ih _ ((State.send_records_resultLink s r i).trans h), State.send_sent]
    simp

/-- The parts of a record with no permitted link up: the host buffer takes them (R266). -/
theorem foldS_sendResult_down (r : Rec) (l : List Nat) (s : State) (h : s.resultLink = false) :
    (foldS l (fun i s => s.sendResult (.records r i)) s).cmd.hostBuf = s.cmd.hostBuf ++ l.map (Out.records r) := by
  induction l generalizing s with
  | nil => simp [foldS]
  | cons i l ih =>
    have hs : s.sendResult (.records r i) = { s with cmd := { s.cmd with hostBuf := s.cmd.hostBuf ++ [.records r i] } } := by
      simp [State.sendResult, h]
    have hl : (s.sendResult (.records r i)).resultLink = false := by rw [hs]; exact h
    show (foldS l (fun i s => s.sendResult (.records r i)) (s.sendResult (.records r i))).cmd.hostBuf = _
    rw [ih _ hl, hs]
    simp

/-- What goes out of the unit changes, and class C's account (R19). -/
theorem State.crossRec_emits (s : State) (r : Rec) : ∃ u : State, u = { s with lining := u.lining } ∧ Emits [] u (s.crossRec r) ∧
    s.crossRec r = foldS (List.range r.parts) (fun i s => s.sendResult (.records r i)) u := by
  unfold State.crossRec
  dsimp only
  refine ⟨_, ?_, foldS_rel (Emits []) (Emits.refl []) (fun _ _ _ => Emits.trans) _ _ (fun i _ u => State.sendResult_emits u _) _, rfl⟩
  split <;> rfl

/-- A record that crosses leaves the outcome network as it is (R19). -/
theorem State.crossRec_keeps (s : State) (r : Rec) : (s.crossRec r).onet = s.onet ∧ (s.crossRec r).clk = s.clk ∧
    (∀ e, (s.crossRec r).eng e = s.eng e) ∧ s.sameMem (s.crossRec r) := by
  obtain ⟨u, hu, hemit, -⟩ := State.crossRec_emits s r
  refine ⟨?_, ?_, fun e => ?_, fun a => ?_⟩
  · rw [hemit.frame, hu]
  · rw [hemit.frame, hu]
  · rw [hemit.eng, hu]; rfl
  · rw [hemit.byte, hu]; rfl

theorem State.crossRec_up (s : State) (r : Rec) (h : s.resultLink = true) :
    (s.crossRec r).sent = s.sent ++ (List.range r.parts).map (Out.records r) := by
  obtain ⟨u, hu, -, heq⟩ := State.crossRec_emits s r
  have hl : u.resultLink = true := by rw [hu]; exact h
  rw [heq, foldS_sendResult_up r _ u hl, hu]

theorem State.crossRec_down (s : State) (r : Rec) (h : s.resultLink = false) :
    (s.crossRec r).cmd.hostBuf = s.cmd.hostBuf ++ (List.range r.parts).map (Out.records r) := by
  obtain ⟨u, hu, -, heq⟩ := State.crossRec_emits s r
  have hl : u.resultLink = false := by rw [hu]; exact h
  rw [heq, foldS_sendResult_down r _ u hl, hu]

/-- A record that does not cross changes registers, the event path and what is held. -/
theorem State.holdRec_frame (s : State) (r : Rec) : s.holdRec r =
    { s with regs := (s.holdRec r).regs, evt := (s.holdRec r).evt, onet := { s.onet with held := (s.holdRec r).onet.held } } := by
  unfold State.holdRec State.loseRecord State.fieldRaise
  dsimp only
  split
  · split
    · split <;> rfl
    · rfl
  · rfl

section
variable {s : State} (r : Rec) (hheld : s.onet.held = [])
include hheld

/-- With none held before it, a record that the field results buffer has room for is held, and RESULTS_HELD follows (R27). -/
theorem State.holdRec_room (h : r.bytes ≤ 0x80000) : (s.holdRec r).onet.held = [r] ∧
    (s.holdRec r).reg aResultsHeld = BitVec.ofNat 32 r.bytes ∧ s.sameRegs (s.holdRec r) [aResultsHeld] := by
  have hold : s.holdRec r = State.setReg { s with onet := { s.onet with held := [r] } } aResultsHeld (BitVec.ofNat 32 r.bytes) := by
    simp [State.holdRec, State.heldBytes, hheld, State.noteHeld, Nat.not_lt.mpr h]
  rw [hold]
  refine ⟨rfl, by simp [State.reg_setReg], fun a ha => ?_⟩
  rw [State.reg_setReg, if_neg (by simpa using ha)]
  rfl

/-- One past its 512 KiB is lost and counted (R27). -/
theorem State.holdRec_full (h : 0x80000 < r.bytes) : (s.holdRec r).onet.held = [] ∧
    ((s.holdRec r).reg aResultsLost).toNat = min 0xFFFFFFFF ((s.reg aResultsLost).toNat + 1) ∧
    s.sameRegs (s.holdRec r) [aResultsLost] := by
  have lost : s.holdRec r = { s.addSat aResultsLost 1 with evt := (s.holdRec r).evt } := by
    unfold State.holdRec State.loseRecord State.fieldRaise
    rw [if_pos (by omega)]
    dsimp only
    split
    · split <;> rfl
    · rfl
  rw [lost]
  refine ⟨hheld, State.addSat_toNat s aResultsLost 1, fun a ha => ?_⟩
  exact (State.reg_addSat s aResultsLost 1 a).trans (if_neg (by simpa using ha))

end

/-- The field side takes a record from its queue: the clock and the block's units alone change (R162). -/
theorem State.takeUnits_frame (s : State) (r : Rec) : s.takeUnits r =
    { s with clk := (s.takeUnits r).clk, onet := { s.onet with rate := (s.takeUnits r).onet.rate } } := by
  unfold State.takeUnits
  dsimp only
  rw [State.advanceTo_frame]

/-- A record whose units the block still has takes no time. -/
theorem State.takeUnits_clk (s : State) (r : Rec) (h : (if s.onet.rate.1 = s.pin then s.onet.rate.2 else 0) + (r.bytes + 15) / 16 ≤ 4) :
    (s.takeUnits r).clk = s.clk := by
  have hahead : ((if s.onet.rate.1 = s.pin then s.onet.rate.2 else 0) + (r.bytes + 15) / 16 - 1) / 4 = 0 := by omega
  have hnow : s.advanceTo (s.pin + BitVec.ofNat 32 0) = s := by simp [State.advanceTo, bdiff]
  simp only [State.takeUnits, hahead, hnow]

/-- The state in which the next record stands before the Lining. -/
def State.nextRec (s : State) (r : Rec) (rs : List Rec) : State := State.takeUnits { s with onet := { s.onet with recs := rs } } r

theorem State.nextRec_frame (s : State) (r : Rec) (rs : List Rec) : s.nextRec r rs =
    { s with clk := (s.nextRec r rs).clk, onet := { s.onet with recs := rs, rate := (s.nextRec r rs).onet.rate } } :=
  State.takeUnits_frame _ r

theorem State.nextRec_takesRec (s : State) (r : Rec) (rs : List Rec) (x : Rec) : (s.nextRec r rs).takesRec x = s.takesRec x := by
  rw [State.nextRec_frame]
  rfl

theorem State.nextRec_clk (s : State) (r : Rec) (rs : List Rec)
    (h : (if s.onet.rate.1 = s.pin then s.onet.rate.2 else 0) + (r.bytes + 15) / 16 ≤ 4) : (s.nextRec r rs).clk = s.clk :=
  State.takeUnits_clk { s with onet := { s.onet with recs := rs } } r h

theorem exec_record_waits {s : State} (h : s.noticeWaits = true ∨ (s.recordWaits = true ∧ s.yieldsToC = true)) :
    exec .outcomeAndResultRecord s = .next s := by
  show execOutcomeAndResultRecord s = _
  unfold execOutcomeAndResultRecord
  rw [if_pos (by rcases h with h | ⟨h, k⟩ <;> simp [*])]

section
variable {s : State} (hheld : s.onet.held = []) (hn : s.noticeWaits = false) (hw : s.recordWaits = false ∨ s.yieldsToC = false)
include hheld hn hw

/-- With none held and nothing before it, the next record is the first of the queue's. -/
theorem exec_record_none (hr : s.onet.recs = []) : exec .outcomeAndResultRecord s = .next s := by
  have hdrain : s.drainHeld s.onet.held.length = s := by rw [hheld]; rfl
  show execOutcomeAndResultRecord s = _
  rcases hw with hw | hw <;> simp [execOutcomeAndResultRecord, hn, hw, hdrain, hr]

theorem exec_record_next {r : Rec} {rs : List Rec} (hr : s.onet.recs = r :: rs) : exec .outcomeAndResultRecord s =
    .next (if s.takesRec r then (s.nextRec r rs).crossRec r else (s.nextRec r rs).holdRec r) := by
  have hdrain : s.drainHeld s.onet.held.length = s := by rw [hheld]; rfl
  have hempty : (s.nextRec r rs).onet.held.isEmpty = true := by rw [State.nextRec_frame]; simp [hheld]
  have htake := State.nextRec_takesRec s r rs r
  unfold State.nextRec at *
  show execOutcomeAndResultRecord s = _
  rcases hw with hw | hw <;> simp [execOutcomeAndResultRecord, hn, hw, hdrain, hr, hempty, htake]

end

/-- A record that the host side takes goes out on a result link, or waits in the host buffer where none is up (R266). -/
theorem State.crossRec_nextRec (s : State) (r : Rec) (rs : List Rec) (hheld : s.onet.held = []) : let t := (s.nextRec r rs).crossRec r
    (t.onet.recs = rs ∧ t.onet.held = [] ∧ t.clk = (s.nextRec r rs).clk ∧ (∀ e, t.eng e = s.eng e) ∧ s.sameMem t) ∧
    (s.resultLink = true → t.sent = s.sent ++ (List.range r.parts).map (Out.records r)) ∧
    (s.resultLink = false → t.cmd.hostBuf = s.cmd.hostBuf ++ (List.range r.parts).map (Out.records r)) := by
  have hu := State.nextRec_frame s r rs
  generalize s.nextRec r rs = u at hu
  have hlink : u.resultLink = s.resultLink := by rw [hu]; rfl
  obtain ⟨hnet, hclk, heng, hmem⟩ := State.crossRec_keeps u r
  refine ⟨⟨?_, ?_, hclk, fun e => (heng e).trans ?_, fun a => (hmem a).trans ?_⟩, fun hl => ?_, fun hl => ?_⟩
  · rw [hnet, hu]
  · rw [hnet, hu, hheld]
  · rw [hu]; rfl
  · rw [hu]; rfl
  · rw [State.crossRec_up u r (hlink.trans hl), hu]
  · rw [State.crossRec_down u r (hlink.trans hl), hu]

/-- One that the host side does not take is held on the field side, or lost (R27). -/
theorem State.holdRec_nextRec (s : State) (r : Rec) (rs : List Rec) (hheld : s.onet.held = []) : let t := (s.nextRec r rs).holdRec r
    (t.onet.recs = rs ∧ t.clk = (s.nextRec r rs).clk ∧ (∀ e, t.eng e = s.eng e) ∧ s.sameMem t) ∧
    (r.bytes ≤ 0x80000 → t.onet.held = [r] ∧ t.reg aResultsHeld = BitVec.ofNat 32 r.bytes ∧ s.sameRegs t [aResultsHeld]) ∧
    (0x80000 < r.bytes → t.onet.held = [] ∧
      (t.reg aResultsLost).toNat = min 0xFFFFFFFF ((s.reg aResultsLost).toNat + 1) ∧ s.sameRegs t [aResultsLost]) := by
  have hu := State.nextRec_frame s r rs
  generalize s.nextRec r rs = u at hu
  have hnone : u.onet.held = [] := by rw [hu]; exact hheld
  have hreg : ∀ a, u.reg a = s.reg a := fun a => by rw [hu]; rfl
  have hframe := State.holdRec_frame u r
  refine ⟨⟨?_, ?_, fun e => ?_, fun a => ?_⟩, fun h => ?_, fun h => ?_⟩
  · rw [hframe, hu]
  · rw [hframe]
  · rw [hframe, hu]; rfl
  · rw [hframe, hu]; rfl
  · obtain ⟨hh, hr, hs⟩ := State.holdRec_room r hnone h
    exact ⟨hh, hr, fun a ha => (hs a ha).trans (hreg a)⟩
  · obtain ⟨hh, hr, hs⟩ := State.holdRec_full r hnone h
    exact ⟨hh, by rw [hr, hreg], fun a ha => (hs a ha).trans (hreg a)⟩

end Sys2Proof.Machine

namespace Sys2Proof.Machine

/-! ## A notice crosses (R305, R306, R308) -/

/-- A notice's way out on the host side: the notices on their way and the lost map stay, no pending bit is cleared. -/
structure Notifies (s t : State) : Prop where
  way : t.evt.way = s.evt.way
  lostMap : t.evt.lostMap = s.evt.lostMap
  pend : ∀ w b, w < 42 → s.bit (aPend w) b = true → t.bit (aPend w) b = true

theorem Notifies.refl (s : State) : Notifies s s := ⟨rfl, rfl, fun _ _ _ h => h⟩

theorem Notifies.trans {s t u : State} (h : Notifies s t) (k : Notifies t u) : Notifies s u :=
  ⟨k.way.trans h.way, k.lostMap.trans h.lostMap, fun w b hw hb => k.pend w b hw (h.pend w b hw hb)⟩

/-- A change of neither the event path nor a pending register. -/
theorem Notifies.of_same {s t : State} (he : t.evt = s.evt) (hr : ∀ w, w < 42 → t.reg (aPend w) = s.reg (aPend w)) : Notifies s t :=
  ⟨by rw [he], by rw [he], fun w b hw hb => by rw [State.bit, hr w hw]; exact hb⟩

theorem Notifies.noted (s : State) (o : Out) : Notifies s { s with sent := s.sent ++ [o] } := .of_same rfl fun _ _ => rfl

/-- The counts of notices lost are no notice. -/
theorem Notifies.lostCount (s : State) (c : Tab Nat) : Notifies s { s with evt := { s.evt with lostCount := c } } :=
  ⟨rfl, rfl, fun _ _ _ h => h⟩

theorem Notifies.setReg (s : State) (a : Nat) (v : W32) (h : a < 0x60100) : Notifies s (s.setReg a v) :=
  .of_same rfl fun w _ => by rw [State.reg_setReg, if_neg (by unfold aPend; omega)]

/-- Setting a pending bit: it is set after, and clears none. -/
theorem State.setPend_notifies (s : State) (src : Nat) : Notifies s (s.setPend src) := by
  refine ⟨rfl, rfl, fun w b _ hb => ?_⟩
  unfold State.setPend State.bit
  rw [State.reg_setReg]
  split
  · rename_i h
    rw [← h, BitVec.getLsbD_or, Bool.or_eq_true]
    exact .inl hb
  · exact hb

theorem State.setPend_bit (s : State) (src : Nat) : (s.setPend src).bit (aPend (src / 32)) (src % 32) = true := by
  have : src % 32 < 32 := Nat.mod_lt _ (by decide)
  simp [State.setPend, State.bit, State.reg_setReg, this]

theorem State.transmit_evt (s : State) (o : Out) : (s.transmit o).evt = s.evt := by
  unfold State.transmit
  dsimp only
  split
  · rfl
  · split <;> split <;> rfl

theorem aPend_ne_linkStatus {w : Nat} (hw : w < 42) (p : LPort) : aPend w ≠ linkAddr p 4 := by
  refine ne_linkStatus ?_ p
  simp only [aPend, List.mem_cons, List.not_mem_nil, or_false]
  omega

theorem State.transmit_notifies (s : State) (o : Out) : Notifies s (s.transmit o) :=
  .of_same (State.transmit_evt s o) fun _ hw => State.transmit_reg s o _ (aPend_ne_linkStatus hw)

theorem mgmtTx_lt {o : Out} {p : Nat} (h : mgmtTx o = some p) : p < 2 := by
  unfold mgmtTx at h
  split at h
  · split at h <;> simp at h <;> omega
  · split at h <;> simp at h; omega
  · split at h <;> simp at h <;> omega
  · split at h <;> simp at h <;> omega
  · simp at h

theorem State.send_notifies (s : State) (o : Out) : Notifies s (s.send o) := by
  unfold State.send
  dsimp only
  split
  · rename_i p hp
    have hp2 := mgmtTx_lt hp
    have hcount : Notifies s (s.addSat (0x00040024 + 0x10 * p) 1) := Notifies.setReg s _ _ (by omega)
    exact (hcount.trans (.noted _ o)).trans (State.transmit_notifies _ o)
  · exact (Notifies.noted s o).trans (State.transmit_notifies _ o)

theorem State.sendResult_notifies (s : State) (o : Out) : Notifies s (s.sendResult o) := by
  unfold State.sendResult
  split
  · exact State.send_notifies s o
  · exact .of_same rfl fun _ _ => rfl

theorem State.sendNotice_notifies (s : State) (n : Notice) : Notifies s (s.sendNotice n) := by
  have hframe : ∀ u : State, Notifies s u → Notifies s (if (u.bit 0x00060000 2 && u.bit 0x00040004 0) = true then
      u.send (.notice (some (u.hostMac, u.ownMac)) (noticeWords n (s.fld aNseq 15 0))) else u) := by
    intro u hu
    split
    · exact hu.trans (State.send_notifies _ _)
    · exact hu
  unfold State.sendNotice
  dsimp only
  apply hframe
  have hseq : Notifies s (s.setFld aNseq 15 0 ((s.fld aNseq 15 0 + 1) % 0x10000)) := Notifies.setReg s _ _ (by decide)
  generalize s.setFld aNseq 15 0 ((s.fld aNseq 15 0 + 1) % 0x10000) = u at hseq
  split
  · exact hseq
  · split
    · have hlost : Notifies u (u.addSat aEvtLost 1) := Notifies.setReg u _ _ (by decide)
      exact ((hseq.trans hlost).trans (.lostCount _ _)).trans (State.setPend_notifies _ 1336)
    · exact hseq.trans (State.sendResult_notifies _ _)

theorem State.lostNotice_notifies (s : State) : Notifies s s.lostNotice := by
  unfold State.lostNotice
  dsimp only
  split
  · exact Notifies.refl s
  · have hcount := Notifies.lostCount s (tabSet 0 s.evt.lostCount 1336 0)
    split
    · exact hcount.trans (State.sendNotice_notifies _ _)
    · exact hcount

/-- A notice raised on the host side sets its source's pending bit, which its ways out leave set. -/
theorem State.hostRaise_notifies (s : State) (n : Notice) (hn : n.source < 1336) : Notifies s (s.hostRaise n) ∧
    (s.hostRaise n).bit (aPend (n.source / 32)) (n.source % 32) = true := by
  have hsent : Notifies (s.setPend n.source) (s.hostRaise n) := by
    unfold State.hostRaise
    dsimp only
    split
    · exact (State.lostNotice_notifies _).trans (State.sendNotice_notifies _ n)
    · exact Notifies.refl _
  exact ⟨(State.setPend_notifies s _).trans hsent, hsent.pend _ _ (by omega) (State.setPend_bit s n.source)⟩

/-- With no lost map nothing follows the notices that flow again. -/
theorem State.flushLost_none {s : State} (h : s.evt.lostMap = []) : s.flushLost = s := by
  have hevt : ({ s.evt with lostMap := [] } : Evt) = s.evt := by rw [← h]
  simp [State.flushLost, h, hevt]

theorem exec_eventNotice_none {s : State} (h : s.evt.way = [] ∨ s.liningUp = false ∨ s.hostBufFull 16 = true) :
    exec .eventNotice s = .next s := by
  show Host.Outcome.next s.notice = .next s
  unfold State.notice
  split
  · rename_i n ns hw
    rcases h with h | h | h
    · simp [h] at hw
    · simp [h]
    · simp [h]
  · rfl

theorem exec_eventNotice_crosses {s : State} {n : Notice} {ns : List Notice} (hw : s.evt.way = n :: ns) (hm : s.evt.lostMap = [])
    (hup : s.liningUp = true) (hroom : s.hostBufFull 16 = false) (hn : n.source < 1336) :
    exec .eventNotice s = .next (State.hostRaise { s with evt := { s.evt with way := ns } } n) := by
  have hraise := (State.hostRaise_notifies { s with evt := { s.evt with way := ns } } n hn).1
  show Host.Outcome.next s.notice = _
  unfold State.notice
  rw [hw]
  simp only [hup, hroom, Bool.not_false, Bool.and_self, if_true]
  rw [State.flushLost_none (hraise.lostMap.trans hm)]

/-! ## A beacon reaches the field side (R320) -/

/-- The mapping that a beacon carries. -/
def beaconMapping (b : BeaconMsg) : Mapping :=
  { offset := b.netOffset % 2 ^ 80, rate := b.netRate, validFrom := b.validFrom, bseq := b.bseq, stepped := b.flags.getLsbD 1 }

theorem exec_timeBeacon_none {s : State}
    (h : s.fieldAlive = false ∨ s.fieldUp = false ∨ s.hostUp = false ∨ nextBeacon s.lining.store = none) :
    exec .timeBeacon s = .next s := by
  show execTimeBeacon s = _
  rcases h with h | h | h | h <;> simp [execTimeBeacon, h]

theorem exec_timeBeacon {s : State} {b : BeaconMsg} (ha : s.fieldAlive = true) (hf : s.fieldUp = true) (hh : s.hostUp = true)
    (hb : nextBeacon s.lining.store = some b) : exec .timeBeacon s =
      .next (State.takeBeacon { s with lining := { s.lining with store := s.lining.store.erase (.beacon b) } } b) := by
  show execTimeBeacon s = _
  simp [execTimeBeacon, ha, hf, hh, hb]

theorem State.takeBeacon_old {s : State} {b : BeaconMsg} (h : (b.bseq - s.time.fieldMap.bseq).toInt ≤ 0) : s.takeBeacon b = s := by
  unfold State.takeBeacon
  rw [if_pos h]

theorem State.takeBeacon_early {s : State} {b : BeaconMsg} (h : 0 < (b.bseq - s.time.fieldMap.bseq).toInt)
    (hv : bge s.pin b.validFrom = false) :
    s.takeBeacon b = { s with time := { s.time with fieldNext := some (beaconMapping b) } } := by
  unfold State.takeBeacon
  rw [if_neg (by omega), hv]
  rfl

/-- A beacon whose block has come takes effect at once, and is counted as late. -/
theorem State.takeBeacon_late {s : State} {b : BeaconMsg} (h : 0 < (b.bseq - s.time.fieldMap.bseq).toInt)
    (hv : bge s.pin b.validFrom = true) : let t := s.takeBeacon b
    t.lining = s.lining ∧ t.time.fieldMap = (beaconMapping b) ∧ t.time.fieldNext = none ∧ t.reg 0x1001010C = b.bseq.setWidth 32 ∧
      t.reg 0x10010110 = b.validFrom ∧ (t.reg 0x10010114).toNat = min 0xFFFFFFFF ((s.reg 0x10010114).toNat + 1) ∧
      s.sameRegs t [0x1001010C, 0x10010110, 0x10010114] ∧ (∀ e, t.eng e = s.eng e) ∧ s.sameMem t := by
  have htake : s.takeBeacon b = ((s.advanceTo (s.pin + 1)).addSat 0x10010114 1).fieldMapIs (beaconMapping b) := by
    unfold State.takeBeacon
    rw [if_neg (by omega), hv]
    rfl
  have hreg : ∀ a, (s.takeBeacon b).reg a = if a = 0x10010110 then b.validFrom else if a = 0x1001010C then b.bseq.setWidth 32
      else ((s.advanceTo (s.pin + 1)).addSat 0x10010114 1).reg a := by
    intro a
    rw [htake, State.fieldMapIs, State.reg_setReg, State.reg_setReg]
    rfl
  have hframe : s.takeBeacon b =
      { s with clk := (s.takeBeacon b).clk, regs := (s.takeBeacon b).regs, time := (s.takeBeacon b).time } := by
    rw [htake, State.advanceTo_frame]
    rfl
  refine ⟨by rw [hframe], by rw [htake]; rfl, by rw [htake]; rfl, by rw [hreg]; rfl, by rw [hreg]; rfl, ?_, fun a ha => ?_,
    fun e => by rw [hframe]; rfl, fun a => by rw [hframe]; rfl⟩
  · rw [hreg, if_neg (by decide), if_neg (by decide), State.addSat_toNat, State.advanceTo_reg]
  · simp only [List.mem_cons, List.not_mem_nil, or_false, not_or] at ha
    obtain ⟨hseq, hfrom, hlate⟩ := ha
    rw [hreg, if_neg hfrom, if_neg hseq, State.reg_addSat, if_neg hlate, State.advanceTo_reg]

/-! ## Register requests and bulk data (R18, R20) -/

/-- A type 1 request on one word at an address may run: the field side sees the Lining up, its FM serves, and the address names an
aligned word of its own. -/
def State.accessRuns (s : State) (a : Nat) : Bool := s.fieldUp && s.ctlAlive .fm && isFieldAddr a && a % 4 == 0 && inOneRegion a 1

theorem exec_registerAccess_refused {s : State} {addr : W32} (h : s.accessRuns addr.toNat = false) (v : W32) :
    exec (.registerAccess (.read addr)) s = .next s ∧ exec (.registerAccess (.write addr v)) s = .next s := by
  unfold State.accessRuns at h
  refine ⟨?_, ?_⟩
  · show execRegisterAccess (.read addr) s = _
    simp [execRegisterAccess, accessRange, accessCount, h]
  · show execRegisterAccess (.write addr v) s = _
    simp [execRegisterAccess, accessRange, accessCount, h]

theorem exec_registerAccess_read {s : State} {addr : W32} (h : s.accessRuns addr.toNat = true) :
    exec (.registerAccess (.read addr)) s =
      .next ((s.readWord addr.toNat).2.2.send (.lining 1 [(s.readWord addr.toNat).2.1])) := by
  unfold State.accessRuns at h
  show execRegisterAccess (.read addr) s = _
  simp [execRegisterAccess, accessRange, accessCount, h, State.access]

theorem exec_registerAccess_write {s : State} {addr : W32} (h : s.accessRuns addr.toNat = true) (v : W32) :
    exec (.registerAccess (.write addr v)) s = .next ((s.writeRange addr.toNat [v] none).2.send (.lining 1 [])) := by
  unfold State.accessRuns at h
  show execRegisterAccess (.write addr v) s = _
  simp [execRegisterAccess, accessRange, accessCount, h, State.access]

/-- A message over the Lining is noted, and nothing else changes. -/
theorem State.send_lining (s : State) (type : Nat) (ws : List W32) :
    s.send (.lining type ws) = { s with sent := s.sent ++ [.lining type ws] } := rfl

theorem State.readWord_mem {s : State} {a : Nat} {m : W32} (hl : locate a = .mem m) (hf : inFrames a = false)
    (hr : s.memRefusal a false = none) : s.readWord a = (stOk, s.memRead a) := by
  simp [State.readWord, hf, hl, hr]

/-- One word written into a memory is a write of that memory. -/
theorem State.writeRange_mem {s : State} {a : Nat} {vs : List W32} (who : Option Deferred)
    (hm : inOneMem a (4 * vs.length) = true) : (s.writeRange a vs who).2 = (s.memStore a vs).2 := by
  simp [State.writeRange, hm]

theorem exec_bulkLoad_down {s : State} (addr : W32) (data : List W32) (h : s.fieldUp = false ∨ s.fieldAlive = false) :
    exec (.bulkLoad addr data) s = .next s := by
  show execBulkLoad addr data s = _
  rcases h with h | h <;> simp [execBulkLoad, h]

theorem exec_bulkLoad {s : State} {addr : W32} {data : List W32} (hup : s.fieldUp = true) (ha : s.fieldAlive = true)
    (hf : isFieldAddr addr.toNat = true) (h4 : addr.toNat % 4 = 0) (hm : inOneMem addr.toNat (4 * data.length) = true) :
    exec (.bulkLoad addr data) s = .next (s.memStore addr.toNat data).2 := by
  show execBulkLoad addr data s = _
  simp [execBulkLoad, hup, ha, hf, h4, hm]

/-- Settles O39: each row is read off its own equation, a record's by whether the host side takes it. -/
theorem recordsNoticesBeaconsAndAccessesCross : Obligations.RecordsNoticesBeaconsAndAccessesCross := by
  unfold Obligations.RecordsNoticesBeaconsAndAccessesCross
  refine ⟨fun s => ⟨exec_record_waits, fun hheld hn hw => ⟨exec_record_none hheld hn hw, fun r rs hr => ?_⟩⟩, ?_, ?_, ?_, ?_⟩
  · refine ⟨_, exec_record_next hheld hn hw hr, ?_⟩
    cases htake : s.takesRec r with
    | true =>
      obtain ⟨⟨hrecs, hnone, hclk, heng, hmem⟩, hup, hdown⟩ := State.crossRec_nextRec s r rs hheld
      exact ⟨hrecs, heng, hmem, fun h => hclk.trans (State.nextRec_clk s r rs h), fun _ h => ⟨hup h, hnone⟩,
        fun _ h => ⟨hdown h, hnone⟩, nofun, nofun⟩
    | false =>
      obtain ⟨⟨hrecs, hclk, heng, hmem⟩, hroom, hfull⟩ := State.holdRec_nextRec s r rs hheld
      exact ⟨hrecs, heng, hmem, fun h => hclk.trans (State.nextRec_clk s r rs h), nofun, nofun, fun _ => hroom, fun _ => hfull⟩
  · refine fun s => ⟨exec_eventNotice_none, fun n ns hw hm hup hroom hn => ⟨_, exec_eventNotice_crosses hw hm hup hroom hn, ?_⟩⟩
    obtain ⟨hraise, hbit⟩ := State.hostRaise_notifies { s with evt := { s.evt with way := ns } } n hn
    have hemit := State.hostRaise_emits { s with evt := { s.evt with way := ns } } n (by omega)
    exact ⟨hraise.way, hbit, hemit.eng, hemit.byte⟩
  · refine fun s b => ⟨exec_timeBeacon_none, fun ha hf hh hb => ?_⟩
    rw [exec_timeBeacon ha hf hh hb]
    exact ⟨fun h => congrArg Host.Outcome.next (State.takeBeacon_old h),
      fun h hv => congrArg Host.Outcome.next (State.takeBeacon_early h hv), fun h hv => ⟨_, rfl, State.takeBeacon_late h hv⟩⟩
  · refine fun s addr v => ⟨fun h => exec_registerAccess_refused h v, fun m h hl hf hr => ?_, fun h hp => ?_⟩
    · obtain ⟨t, hread, hsilent, hplain⟩ := State.memRead_word s addr.toNat hf
      rw [exec_registerAccess_read h, State.readWord_mem hl hf hr, hread, State.send_lining]
      refine ⟨_, rfl, ?_, fun hp => ?_, hsilent.eng⟩
      · show t.sent ++ _ = s.sent ++ _
        rw [hsilent.sent]
        rfl
      · rw [hplain hp]
    · obtain ⟨hstore, hstored, honly⟩ := State.memStore_plain (vs := [v]) hp
      rw [exec_registerAccess_write h, State.writeRange_mem none hp.1, hstore, State.send_lining]
      exact ⟨_, rfl, hstored, by rw [honly.sent], honly.eng, fun a _ => honly.reg a⟩
  · refine fun s addr data => ⟨exec_bulkLoad_down addr data, fun hup ha hf h4 hp => ?_⟩
    obtain ⟨hstore, hstored, honly⟩ := State.memStore_plain hp
    rw [exec_bulkLoad hup ha hf h4 hp.1, hstore]
    exact ⟨_, rfl, hstored, honly.eng, fun a _ => honly.reg a⟩

end Sys2Proof.Machine

namespace Sys2Proof.Machine

/-! ## The reply of a command that ends OK (R290) -/

/-- What a command that ends OK sends: its reply, unless that carries no parameters and no reply was asked for. -/
theorem State.finish_ok_sent (s : State) (h : Hdr) (op : Nat) (ps : List W32) (hp : ackReq h = true ∨ ps ≠ []) :
    (s.finish h op stOk ps).sent = s.sent ++ [.reply (s.mkReply h op stOk ps)] := by
  have hne : ¬ (ackReq h = false ∧ ps = []) := by
    rintro ⟨ha, rfl⟩
    simp [ha] at hp
  simp [State.finish, State.countError, State.sendReply, State.mkReply, hne, State.send_sent, State.cachePut, State.dequeue]

/-- A command that ends OK sends no reply of another status. -/
theorem State.finish_ok_no_other_status {s : State} {h : Hdr} {op : Nat} {ps : List W32} {st : Byte} {qs : List W32}
    (hp : ackReq h = true ∨ ps ≠ []) (hst : st ≠ stOk) : ¬ s.answers (s.finish h op stOk ps) h op st qs := by
  rintro ⟨r, l, hsent, hmem, -, -, -, -, hstatus, -⟩
  rw [State.finish_ok_sent s h op ps hp, List.append_cancel_left_eq] at hsent
  subst hsent
  obtain rfl : r = s.mkReply h op stOk ps := by simpa using hmem
  exact hst hstatus.symm

/-! ## An empty LOAD at the end of QUBIT_MAP (R107, R296) -/

/-- No words written outside QUBIT_MAP: nothing changes, and the map is not judged. -/
theorem State.memStore_nil {s : State} {a : Nat} (hr : s.memRefusal a true = none) (hq : inQmap a = false) :
    s.memStore a [] = (stOk, s) := by
  simp [State.memStore, hr, hq, State.memWrites]

theorem State.stored_nil (s : State) (a : Nat) : s.stored s a [] := ⟨by simp, fun _ _ => rfl⟩

/-- A unit that serves commands: HOST_READY, both sides of the Lining up, MEM_CLEARED, address 1. -/
def serving : State :=
  ((((State.reset.setReg aHostBoot 1).setReg aLining 1).setReg aFmLining 1).setReg aFieldBoot 4).setReg aMgmtStatus 0x100

/-- The same unit, two valid entries of whose QUBIT_MAP are the same: the map is not well formed. -/
def badMap : State := serving.setWord (qmapAddr 1) (serving.word (qmapAddr 0))

/-- The header of a LOAD from host link 0 that asks for a reply. -/
def loadHdr : Hdr := { port := .hl 0, mac := 0, ver := 2, dest := 1, flags := 2, seq := 7, tag := 9, crc := 5 }

/-- LOAD's first word for QUBIT_MAP: KIND 5, SCOPE and TILE 0. -/
def qmapKind : W32 := 0x05000000

/-- LOAD's OFFSET at which QUBIT_MAP ends. -/
def qmapEnd : W32 := 0x800

theorem badMap_not_wellFormed : badMap.qmapOk = false := by decide +kernel

theorem badMap_takes_load : badMap.takes loadHdr 0x20 true := by
  unfold State.takes
  decide +kernel

theorem badMap_memRefusal : badMap.memRefusal 0x10008800 true = none := by decide +kernel

/-- LOAD's own checks pass: no byte lies past the map's end. -/
theorem emptyLoad_status : loadStatus qmapKind qmapEnd (4 * ([] : List W32).length) = none := by decide

theorem emptyLoad_targets : (loadTiles (wfld qmapKind 31 24) (wfld qmapKind 9 8) (wfld qmapKind 7 0)).filterMap
    (fun t => (loadMem (wfld qmapKind 31 24) t).map (·.1 + qmapEnd.toNat)) = [0x10008800] := by decide

theorem badMap_loadAll : badMap.loadAll (wfld qmapKind 31 24) qmapEnd.toNat []
    (loadTiles (wfld qmapKind 31 24) (wfld qmapKind 9 8) (wfld qmapKind 7 0)) = (stOk, badMap) := by
  have ht : loadTiles (wfld qmapKind 31 24) (wfld qmapKind 9 8) (wfld qmapKind 7 0) = [0] := by decide
  have hm : loadMem (wfld qmapKind 31 24) 0 = some (0x10008000, 0x800) := by decide
  have ho : 0x10008000 + qmapEnd.toNat = 0x10008800 := by decide
  have hs : badMap.memStore 0x10008800 [] = (stOk, badMap) := State.memStore_nil badMap_memRefusal (by decide)
  simp [ht, State.loadAll, hm, ho, hs]

/-- The model answers OK: the LOAD writes no word of the map, which it leaves ill formed as it stood. -/
theorem exec_emptyLoad_badMap : exec (.load loadHdr qmapKind qmapEnd []) badMap = .next (badMap.finish loadHdr 0x20 stOk) := by
  obtain ⟨ha, hr, ht, hc, hn, hg⟩ := badMap_takes_load
  show execLoad loadHdr qmapKind qmapEnd [] badMap = _
  simp only [execLoad, State.runCmd_taken _ _ _ _ _ _ ha hr ht hc hn hg, emptyLoad_status, badMap_loadAll]

/-- Refutes O47: its clause on LOAD into QUBIT_MAP answers BAD_PARAM wherever the map would stand ill formed, but a LOAD without
data at OFFSET 0x800, which passes LOAD's checks, lies past the map, is not judged, and is answered OK: with a map that was
ill formed before it, the answer is OK where the statement says BAD_PARAM. -/
theorem not_commandsReachRegistersAndMemory : ¬ Obligations.CommandsReachRegistersAndMemory := by
  unfold Obligations.CommandsReachRegistersAndMemory
  rintro ⟨-, -, hload⟩
  obtain ⟨-, hrun⟩ := hload badMap loadHdr qmapKind qmapEnd [] badMap_takes_load
  obtain ⟨-, -, hqmap, -⟩ := hrun emptyLoad_status
  obtain ⟨hbad, -⟩ := hqmap 0x10008800 badMap (by decide) emptyLoad_targets badMap_memRefusal (State.stored_nil badMap _)
  obtain ⟨t, ht, hans, -⟩ := hbad badMap_not_wellFormed
  obtain rfl : badMap.finish loadHdr 0x20 stOk = t := by
    rw [exec_emptyLoad_badMap] at ht
    exact Host.Outcome.next.inj ht
  exact State.finish_ok_no_other_status (.inl (by decide)) (by decide) hans

end Sys2Proof.Machine

namespace Sys2Proof.Machine

/-! ## An arm that fires (R99) -/

/-- No engine but one changes, and no message of the outcome network. -/
structure EngAlone (e : Nat) (s t : State) : Prop where
  onet : t.onet = s.onet
  others : ∀ f, f ≠ e → t.eng f = s.eng f

theorem EngAlone.trans {e : Nat} {s t u : State} (h : EngAlone e s t) (k : EngAlone e t u) : EngAlone e s u :=
  ⟨k.onet.trans h.onet, fun f hf => (k.others f hf).trans (h.others f hf)⟩

/-- A change of neither the engines nor the outcome network. -/
theorem EngAlone.of_same {s t : State} (e : Nat) (ho : t.onet = s.onet) (he : t.engines = s.engines) : EngAlone e s t :=
  ⟨ho, fun f _ => by simp only [State.eng, he]⟩

theorem EngAlone.refl (e : Nat) (s : State) : EngAlone e s s := .of_same e rfl rfl

theorem State.modEng_engAlone (s : State) (e : Nat) (f : Engine → Engine) : EngAlone e s (s.modEng e f) :=
  ⟨rfl, fun g hg => (State.eng_modEng s e g f).trans (if_neg hg)⟩

theorem State.dropOffer_engAlone (s : State) (e : Nat) (d : Desc) (c : Nat) : EngAlone e s (s.dropOffer e d c) := by
  have hkill : EngAlone e s (s.killWindows e d c) := by
    rw [State.killWindows_frame]
    exact .of_same e rfl rfl
  refine hkill.trans ?_
  show EngAlone e _ ((s.killWindows e d c).lapseArm e d)
  unfold State.lapseArm
  split
  · exact State.modEng_engAlone _ e _
  · exact .refl e _

theorem State.countDiscard_engAlone (s : State) (e : Nat) : EngAlone e s (s.countDiscard e) := by
  rw [State.countDiscard_frame]
  exact .of_same e rfl rfl

theorem State.dropWork_engAlone (s : State) (e : Nat) (w : Work) : EngAlone e s (s.dropWork e w) :=
  (State.countDiscard_engAlone s e).trans (State.dropOffer_engAlone _ e w.d 1)

theorem State.dropWhere_engAlone (s : State) (e : Nat) (p : Work → Bool) : EngAlone e s (s.dropWhere e p) :=
  (State.modEng_engAlone s e _).trans (foldS_rel (EngAlone e) (.refl e) (fun _ _ _ => .trans) _ _
    (fun w _ u => State.dropWork_engAlone u e w) _)

theorem State.dropPledgeWait_engAlone (s : State) (e : Nat) : EngAlone e s (s.dropPledgeWait e) := by
  unfold State.dropPledgeWait
  split
  · exact (State.dropOffer_engAlone s e _ 1).trans (State.modEng_engAlone _ e _)
  · exact .refl e s

theorem State.withdrawReport_engAlone (s : State) (e : Nat) : EngAlone e s (s.withdrawReport e) := by
  have hset : ∀ (id : Nat) (f : StartSet → StartSet), EngAlone e s (s.modSet id f) := fun _ _ => .of_same e rfl rfl
  have hsync : ∀ (u : State) (id g n : Nat) (f : SyncInst → SyncInst), EngAlone e u (u.modSync id g n f) :=
    fun _ _ _ _ _ => .of_same e rfl rfl
  unfold State.withdrawReport
  dsimp only
  split
  · exact .refl e s
  · split
    · split
      · exact ((hset _ _).trans (hsync _ _ _ _ _)).trans (State.modEng_engAlone _ e _)
      · exact hset _ _
    · exact hset _ _

/-- An arm that fires changes its own engine alone among the engines. -/
theorem State.fireArm_engAlone (s : State) (e : Nat) (a : Arm) (v : W32) (floor : Nat) : EngAlone e s (s.fireArm e a v floor) := by
  unfold State.fireArm
  split
  · exact .refl e s
  · lift_lets
    intro b x isArmed early disarmed cut x' dropped offered withdrawn
    have hcut : EngAlone e disarmed cut := by
      unfold cut
      split
      · exact State.modEng_engAlone _ e _
      · exact .refl e _
    have hoffer : EngAlone e dropped offered := by
      unfold offered
      split
      · split
        · exact .refl e _
        · exact ((State.countDiscard_engAlone _ e).trans (State.dropOffer_engAlone _ e _ 1)).trans (State.modEng_engAlone _ e _)
      · exact .refl e _
    have hdrop : EngAlone e s dropped := ((State.modEng_engAlone s e _).trans hcut).trans (State.dropWhere_engAlone cut e _)
    have hwithdraw : EngAlone e offered withdrawn :=
      (State.dropPledgeWait_engAlone offered e).trans (State.withdrawReport_engAlone _ e)
    exact ((hdrop.trans hoffer).trans hwithdraw).trans (State.modEng_engAlone withdrawn e _)

/-! ## An entry arrives at a slot (R73, R91, R98, R174) -/

/-- The engine does not take the entry: it is in no shot, or the entry is older than its shot (R174). -/
def Engine.tooOld (x : Engine) (en : Entry) : Bool := !x.inShot || en.stamp.any (fun b => blt b x.shotStart)

theorem State.slotArrive_tooOld {s : State} {e slot : Nat} {en : Entry} (h : (s.eng e).tooOld en = true) :
    s.slotArrive e slot en = s := by
  unfold State.slotArrive
  exact if_pos h

theorem Engine.liveAt_none {x : Engine} (h : x.live = []) (v : W32) (p : Arm → Bool) : x.liveAt v p = none := by
  simp [Engine.liveAt, h]

section
variable {s : State} {e slot : Nat} {en : Entry} (h : (s.eng e).tooOld en = false) (hl : (s.eng e).live = [])
include h hl

/-- With no arm live the entry is queued, or overruns a full slot (R73, R91). -/
theorem State.slotArrive_no_arm : s.slotArrive e slot en = if 4 ≤ ((s.eng e).slot slot).length then s.flag (engFlags e) 6
    else s.modEng e (fun g => g.setSlot slot (g.slot slot ++ [en])) := by
  unfold Engine.tooOld at h
  unfold State.slotArrive
  simp only [h, Engine.liveAt_none hl, ite_self]
  cases en.stamp <;> rfl

theorem State.slotArrive_queued (hroom : ((s.eng e).slot slot).length < 4) :
    s.slotArrive e slot en = s.modEng e (fun g => g.setSlot slot (g.slot slot ++ [en])) := by
  rw [State.slotArrive_no_arm h hl, if_neg (Nat.not_le.mpr hroom)]

theorem State.slotArrive_overrun (hfull : 4 ≤ ((s.eng e).slot slot).length) : s.slotArrive e slot en = s.flag (engFlags e) 6 := by
  rw [State.slotArrive_no_arm h hl, if_pos hfull]

end

/-! ## A flag of a field source (R305) -/

/-- The notice of a field source joins those on their way: no register changes. -/
theorem State.fieldRaise_reg (s : State) (n : Notice) (a : Nat) : (s.fieldRaise n).reg a = s.reg a := by
  unfold State.fieldRaise
  split <;> rfl

section
variable {f : FlagReg} (hf : isFieldSource f.source = true)
include hf

theorem State.flag_of_field (s : State) (b : Nat) : s.bit f.addr b = true ∧ s.flag f b = s ∨
    ∃ n, s.flag f b = (s.setReg f.addr (s.reg f.addr ||| (1#32 <<< b))).fieldRaise n := by
  unfold State.flag State.flagD State.raise
  rw [if_pos hf]
  split
  · exact .inl ⟨‹_›, rfl⟩
  · exact .inr ⟨_, rfl⟩

/-- Its flag changes one register. -/
theorem State.reg_flag_of_field (s : State) (b : Nat) {a : Nat} (ha : a ≠ f.addr) : (s.flag f b).reg a = s.reg a := by
  obtain ⟨-, h⟩ | ⟨n, h⟩ := State.flag_of_field hf s b
  · rw [h]
  · rw [h, State.fieldRaise_reg, State.reg_setReg, if_neg ha]

theorem State.bit_flag_of_field (s : State) {b : Nat} (hb : b < 32) : (s.flag f b).bit f.addr b = true := by
  obtain ⟨hset, h⟩ | ⟨n, h⟩ := State.flag_of_field hf s b
  · rw [h, hset]
  · rw [h, State.bit, State.fieldRaise_reg, State.reg_setReg, if_pos rfl]
    simp [hb]

end

theorem engFlags_field {e : Nat} (he : e < 1280) : isFieldSource (engFlags e).source = true := by
  simp [isFieldSource, engFlags, he]

theorem State.slotArrive_engAlone (s : State) {e : Nat} (he : e < 1280) (slot : Nat) (en : Entry) :
    EngAlone e s (s.slotArrive e slot en) := by
  unfold State.slotArrive
  lift_lets
  intro x arm
  split
  · exact .refl e s
  · split
    · exact (State.fireArm_engAlone s e _ _ _).trans (State.modEng_engAlone _ e _)
    · split
      · have hframe := (State.flag_emits s (engFlags e) 6 (by show e < 1344; omega)).frame
        exact .of_same e (by rw [hframe]) (by rw [hframe])
      · exact State.modEng_engAlone s e _

/-! ## A trigger edge reaches the engines (R34, R73, R98) -/

/-- An engine with no arm live after an edge: an engine in a shot whose start block is not after the edge's block latches it, and
goes on where it waits for one. -/
def Engine.sawEdge (x : Engine) (pin : Nat) (stamp : W64) : Engine :=
  if !x.inShot || blt ((stamp >>> 6).setWidth 32) x.shotStart then x
  else if x.st = .waiting ∧ x.cause = 5 then { x with trigs := x.trigs ++ [(pin, stamp)], st := .running, cause := 0 }
  else { x with trigs := x.trigs ++ [(pin, stamp)] }

theorem Engine.sawEdge_unseen {x : Engine} (pin : Nat) (stamp : W64)
    (h : ¬ (x.inShot = true ∧ 0 ≤ (((stamp >>> 6).setWidth 32 : W32) - x.shotStart).toInt)) : x.sawEdge pin stamp = x := by
  refine if_pos ?_
  rw [Bool.or_eq_true, Bool.not_eq_true', blt, bdiff, decide_eq_true_eq]
  by_cases hi : x.inShot = true
  · exact .inr (not_le.mp fun hge => h ⟨hi, hge⟩)
  · exact .inl (Bool.eq_false_of_not_eq_true hi)

theorem Engine.sawEdge_latched {x : Engine} (pin : Nat) (stamp : W64) (hi : x.inShot = true)
    (hge : 0 ≤ (((stamp >>> 6).setWidth 32 : W32) - x.shotStart).toInt) :
    (x.sawEdge pin stamp).trigs = x.trigs ++ [(pin, stamp)] ∧ (x.sawEdge pin stamp).pc = x.pc ∧
      (x.sawEdge pin stamp).slots = x.slots := by
  have hseen : blt ((stamp >>> 6).setWidth 32) x.shotStart = false := decide_eq_false (not_lt.mpr hge)
  unfold Engine.sawEdge
  rw [hi, hseen, if_neg (by decide)]
  split <;> exact ⟨rfl, rfl, rfl⟩

/-- An engine at reset is in no shot. -/
theorem Engine.sawEdge_reset (pin : Nat) (stamp : W64) : Engine.reset.sawEdge pin stamp = Engine.reset := rfl

/-- A loop over distinct engines, each pass of which changes its own engine alone. -/
theorem foldS_eng {f : Nat → State → State} {y : Nat → Engine} {l : List Nat} (hl : l.Nodup) {s : State}
    (hf : ∀ e ∈ l, ∀ u : State, u.eng e = s.eng e → ∀ g, (f e u).eng g = if g = e then y e else u.eng g) (g : Nat) :
    (foldS l f s).eng g = if g ∈ l then y g else s.eng g := by
  induction l generalizing s with
  | nil => rfl
  | cons e l ih =>
    obtain ⟨hne, hnd⟩ := List.nodup_cons.mp hl
    have hstep := hf e (by simp) s rfl
    have hrest : ∀ e' ∈ l, (f e s).eng e' = s.eng e' := fun e' he' =>
      (hstep e').trans (if_neg fun (h : e' = e) => hne (h ▸ he'))
    have hfold := ih hnd (s := f e s) fun e' he' u hu =>
      hf e' (List.mem_cons_of_mem e he') u (hu.trans (hrest e' he'))
    show (foldS l f (f e s)).eng g = _
    rw [hfold, hstep]
    by_cases hg : g = e
    · subst hg
      simp [hne]
    · simp [hg]

theorem tabFind_none_of_not_mem {α : Type} {t : Tab α} {k : Nat} (h : k ∉ t.map (·.1)) : tabFind t k = none := by
  induction t with
  | nil => rfl
  | cons p t ih =>
    obtain ⟨k', v⟩ := p
    simp only [List.map_cons, List.mem_cons, not_or] at h
    rw [tabFind, if_neg h.1, ih h.2]

/-- An engine that the table does not list is as it is at reset. -/
theorem State.eng_of_not_listed {s : State} {e : Nat} (h : e ∉ s.engines.map (·.1)) : s.eng e = Engine.reset := by
  rw [State.eng, tabGet, tabFind_none_of_not_mem h]
  rfl

theorem keysRise_nodup {α : Type} {t : Tab α} (h : keysRise t = true) : (t.map (·.1)).Nodup :=
  (of_decide_eq_true h).imp Nat.ne_of_lt

/-- With no arm live every engine sees the edge for itself, and what follows any event of an engine follows once. -/
theorem State.trigEdge_engines {s : State} (hk : keysRise s.engines = true) (hl : ∀ e, (s.eng e).live = []) (pin : Nat) (stamp : W64) :
    ∃ t : State, s.trigEdge pin stamp = t.serveRuns ∧ ∀ e, t.eng e = (s.eng e).sawEdge pin stamp := by
  refine ⟨_, rfl, fun e => ?_⟩
  rw [foldS_eng (y := fun e => (s.eng e).sawEdge pin stamp) (keysRise_nodup hk)]
  · split
    · rfl
    · rename_i hne
      rw [State.eng_of_not_listed hne, Engine.sawEdge_reset]
  · intro e _ u hu g
    dsimp only
    rw [hu, Engine.liveAt_none (hl e)]
    by_cases hold : (!(s.eng e).inShot || blt ((stamp >>> 6).setWidth 32) (s.eng e).shotStart) = true
    · rw [if_pos hold, Engine.sawEdge, if_pos hold]
      split
      · rename_i hg; rw [hg, hu]
      · rfl
    · rw [if_neg hold, Engine.sawEdge, if_neg hold]
      dsimp only
      split
      · rw [State.eng_setSt, State.eng_modEng, if_pos rfl, State.eng_modEng, hu]
        split <;> rfl
      · rw [State.eng_modEng, hu]

/-! ## A pin's edge at the pockets (R242, R243) -/

theorem State.missCause_silent {k : Nat} (hk : k < 16) (s : State) (n : Nat) : Silent s (s.missCause k n) := by
  unfold State.missCause
  split
  · exact .refl s
  · exact (((Silent.refl s).setPocket k _).setReg _ _).flag _ 2 (pocketFlags_field hk)

/-- A cause that a pocket misses is kept in its own registers. -/
theorem State.missCause_reg {k : Nat} (hk : k < 16) (s : State) (n a : Nat) (ha : a < 0x20000000) : (s.missCause k n).reg a = s.reg a := by
  have hown : ∀ off, a ≠ pocketAddr k off := fun off => by unfold pocketAddr tileBase; omega
  unfold State.missCause
  split
  · rfl
  · rw [State.reg_flag_of_field (pocketFlags_field hk) _ 2 (hown 0x24), State.reg_addSat, if_neg (hown 0x28)]
    rfl

/-- No engine changes, nothing is sent, and no register below the tiles' changes. -/
structure TilesOnly (s t : State) : Prop where
  silent : Silent s t
  reg : ∀ a, a < 0x20000000 → t.reg a = s.reg a

theorem TilesOnly.refl (s : State) : TilesOnly s s := ⟨.refl s, fun _ _ => rfl⟩

theorem TilesOnly.trans {s t u : State} (h : TilesOnly s t) (k : TilesOnly t u) : TilesOnly s u :=
  ⟨h.silent.trans k.silent, fun a ha => (k.reg a ha).trans (h.reg a ha)⟩

theorem State.pocketCause_tilesOnly {k : Nat} (hk : k < 16) (s : State) (cause : Nat) (p : W64) :
    TilesOnly s (s.pocketCause k cause p) := by
  have hmiss : TilesOnly s (s.missCause k 1) := ⟨State.missCause_silent hk s 1, State.missCause_reg hk s 1⟩
  unfold State.pocketCause
  dsimp only
  split
  · exact .refl s
  · split
    · exact ⟨(Silent.refl s).setPocket k _, fun _ _ => rfl⟩
    · exact hmiss
    · exact hmiss
    · exact .refl s

/-- A pin's edge is a cause for the pockets that it triggers, and nothing else of the unit changes with it. -/
theorem State.pocketPin_tilesOnly (s : State) (pin : Nat) (tick : W64) : TilesOnly s (s.pocketPin pin tick) := by
  refine foldS_rel TilesOnly .refl (fun _ _ _ => .trans) _ _ (fun k hk u => ?_) s
  split
  · exact State.pocketCause_tilesOnly (List.mem_range.mp hk) u 3 tick
  · exact .refl u

theorem State.sendSeam_engines (s : State) (b : Bool) (mtype : Nat) (fields : List Nat) :
    (s.sendSeam b mtype fields).engines = s.engines := by
  unfold State.sendSeam
  generalize (if b = true then LPort.seamB else LPort.seamA) = p
  split
  · rw [(State.send_emits s _).frame]
  · rfl

/-- An active unit passes an edge to its standby (R348). -/
def State.sentOn (s : State) (pin : Nat) (stamp : W64) : State :=
  if s.pairState == 3 then s.sendSeam true 0x06 [pin, stamp.toNat] else s

theorem State.sentOn_engines (s : State) (pin : Nat) (stamp : W64) : (s.sentOn pin stamp).engines = s.engines := by
  unfold State.sentOn
  split
  · exact State.sendSeam_engines s true 0x06 _
  · rfl

/-! ## The two rows -/

/-- A message that has arrived is no more on its way. -/
def State.takeDelivery (s : State) (d : Delivery) : State := { s with onet := { s.onet with deliv := s.onet.deliv.erase d } }

theorem exec_slotEntryArrival {s : State} {e : Eng} {n : Fin 16} {d : Delivery}
    (h : s.onet.deliv.find? (fun d => d.eng == e.val && d.slot == n.val) = some d) : exec (.slotEntryArrival e n) s =
      .next ((s.takeDelivery d).slotArrive e n d.entry).serveRuns := by
  show execSlotEntryArrival e n s = _
  simp only [execSlotEntryArrival, h]
  rfl

/-- An edge at a unit that runs and shadows none reaches the engines as they stand, after the pockets and the standby have it
(R34, R348). -/
theorem exec_trigInEdge {s : State} (pin : Fin 8) (tick : BitVec 6) (ha : s.fieldAlive = true) (hr : s.clk.run = true)
    (hs : s.shadow = false) : ∃ u : State, u.engines = s.engines ∧
      exec (.trigInEdge pin tick) s = .next (u.trigEdge pin (s.clk.devtime + tick.setWidth 64)) := by
  obtain ⟨hsilent, hreg⟩ := State.pocketPin_tilesOnly s pin (s.clk.devtime + tick.setWidth 64)
  have hshadow : (s.pocketPin pin (s.clk.devtime + tick.setWidth 64)).shadow = false := by
    have hpair := hreg aPairStatus (by decide)
    simpa only [State.shadow, State.pairState, State.fld, hpair] using hs
  refine ⟨State.sentOn (s.pocketPin pin (s.clk.devtime + tick.setWidth 64)) pin (s.clk.devtime + tick.setWidth 64),
    (State.sentOn_engines _ _ _).trans hsilent.engines, ?_⟩
  show execTrigInEdge pin tick s = _
  simp only [execTrigInEdge, ha, hr, hshadow, Bool.not_true, Bool.or_self, Bool.false_eq_true, if_false]
  rfl

/-- Settles O19: an arrival by whether the entry is too old and whether its slot is full, an edge by what each engine makes of it
(an entry at an engine in no shot is discarded by R174; that such an engine sees no edge is the model's choice, log entry 113). -/
theorem slotEntriesAndTriggers : Obligations.SlotEntriesAndTriggers := by
  unfold Obligations.SlotEntriesAndTriggers
  refine ⟨fun s e n d hd => ?_, fun s pin tick ha hr hs hwf hl => ?_⟩
  · have halone := State.slotArrive_engAlone (s.takeDelivery d) e.isLt n d.entry
    refine ⟨_, exec_slotEntryArrival hd, by rw [halone.onet]; rfl, halone.others, fun hold => ?_, fun hnew hlive hroom => ?_,
      fun hnew hlive hfull => ?_⟩
    · rw [State.slotArrive_tooOld (s := s.takeDelivery d) hold]
      exact ⟨rfl, fun _ _ => rfl⟩
    · rw [State.slotArrive_queued (s := s.takeDelivery d) hnew hlive hroom]
      exact ⟨(State.eng_modEng _ e e _).trans (if_pos rfl), fun _ _ => rfl⟩
    · have hfield := engFlags_field e.isLt
      rw [State.slotArrive_overrun (s := s.takeDelivery d) hnew hlive hfull]
      exact ⟨(State.flag_emits _ (engFlags e) 6 (by show e.val < 1344; omega)).eng e, State.bit_flag_of_field hfield _ (by decide),
        fun a ha => State.reg_flag_of_field hfield _ 6 fun h => ha (List.mem_singleton.mpr h)⟩
  · obtain ⟨-, -, -, hkeys⟩ := (State.wf_iff s).mp hwf
    obtain ⟨u, hu, hexec⟩ := exec_trigInEdge pin tick ha hr hs
    have heng : ∀ e, u.eng e = s.eng e := fun e => by simp only [State.eng, hu]
    obtain ⟨t, ht, hsaw⟩ := State.trigEdge_engines (hu ▸ hkeys) (fun e => (heng e).symm ▸ hl e) pin.val
      (s.clk.devtime + tick.setWidth 64)
    refine ⟨t, by rw [hexec, ht], fun e => ?_⟩
    rw [hsaw e, heng e]
    exact ⟨fun ⟨hin, hge⟩ => Engine.sawEdge_latched _ _ hin hge, Engine.sawEdge_unseen _ _⟩

end Sys2Proof.Machine

namespace Sys2Proof.Machine

/-! ## A held notice of no event source, at the Lining's return (R26, R304, R305) -/

/-- A notice of a source that R304's table does not hold: the word of EVT_PEND that its number names lies at FM_LINING_STATUS, and
its bit there is DEGRADED. -/
def strayNotice : Notice :=
  { source := 32 * 0x3FE8040 + 1, reg := 0, bit := 0, index := 0, detail := 0, block := 0, ns := 0, lost := false }

/-- Both sides out of reset, the Lining down, and that notice on its way. The FM's ID register (R379), where the notice's enable bit
would lie, reads 0: its reset value names the unit's stepping, which no definition says. -/
def strayHeld : State := { State.reset with regs := [(0x10000400, 0)], evt := { Evt.reset with way := [strayNotice] } }

/-- What a register holds in the next state, where there is one. -/
def regAfter (r : Res) (a : Nat) : Option W32 :=
  match r with
  | .next t => some (t.reg a)
  | _ => none

/-- The notice crosses once the Lining is up, and sets its bit in FM_LINING_STATUS. -/
theorem regAfter_liningUp_strayHeld : regAfter (exec .liningUp strayHeld) aFmLining = some 0x00018103 := by decide +kernel

/-- Refutes O38: its clause on LINING_UP leaves FM_LINING_STATUS at 0x00018101 in every state, but the held notices cross within the
command, each sets the bit that its source's number names, and the statement bounds no source: one held notice whose number lies past
EVT_PEND sets DEGRADED there. -/
theorem not_liningFramesLossAndReturn : ¬ Obligations.LiningFramesLossAndReturn := by
  unfold Obligations.LiningFramesLossAndReturn
  rintro ⟨-, -, -, -, hup⟩
  obtain ⟨hreturn, -⟩ := hup strayHeld
  obtain ⟨t, -, -, hnext, -, hclean, -⟩ := hreturn (by decide) (by decide) (by decide) (by decide)
  have hmarked := regAfter_liningUp_strayHeld
  rw [hnext] at hmarked
  have hdegraded : t.reg aFmLining = 0x00018103 := Option.some.inj hmarked
  exact absurd (hclean.symm.trans hdegraded) (by decide)

end Sys2Proof.Machine

namespace Sys2Proof.Machine

/-! ## The state after reset (R37, R61, R68, R341) -/

theorem State.reset_reg (a : Nat) : State.reset.reg a = regReset a := rfl

theorem State.reset_eng (e : Nat) : State.reset.eng e = Engine.reset := rfl

/-- PAIR_STATUS resets to the state ALONE. -/
theorem regReset_aPairStatus : regReset aPairStatus = 0x40 := by decide +kernel

/-- Settles O5: every table is empty at reset, so each register reads the value of its map and each engine is the engine at reset. -/
theorem resetLeaves : Obligations.ResetLeaves := by
  unfold Obligations.ResetLeaves
  refine ⟨rfl, State.reset_reg, fun e => ?_, rfl, rfl, rfl, rfl, ?_, rfl⟩
  · rw [State.reset_eng]
    exact ⟨rfl, rfl, rfl⟩
  · rw [State.pairState, State.fld, State.reset_reg, regReset_aPairStatus]
    rfl

end Sys2Proof.Machine

namespace Sys2Proof.Machine

/-! ## One block passes (R37, R122, R179, R315) -/

/-- What a block's passing can change beside the clocks: registers, the ways out of the unit, the memory of the outputs and the
outcome network. -/
def State.passes (s t : State) : Prop := t = { s with
  regs := t.regs, links := t.links, cmd := t.cmd, evt := t.evt, sent := t.sent, synth := t.synth, onet := t.onet }

theorem State.passes.refl (s : State) : s.passes s := rfl

theorem State.passes.trans {s t u : State} (h : s.passes t) (k : t.passes u) : s.passes u := by
  unfold State.passes at *
  rw [h] at k
  exact k

theorem Emits.passes {l : List Nat} {s t : State} (h : Emits l s t) : s.passes t := by
  unfold State.passes
  rw [h.frame]

/-- Whatever its source, raising an event changes nothing but registers and the ways out. -/
theorem State.raise_passes (s : State) (source reg bit index : Nat) (detail : BitVec 16) : s.passes (s.raise source reg bit index detail) := by
  unfold State.raise
  split
  · exact (State.fieldRaise_emits s _).passes
  · unfold State.hostRaise
    have hpend : s.passes (s.setPend source) := rfl
    dsimp only
    split
    · exact (hpend.trans (State.lostNotice_emits _).passes).trans (State.sendNotice_emits _ _).passes
    · exact hpend

theorem State.flag_passes (s : State) (f : FlagReg) (b : Nat) : s.passes (s.flag f b) := by
  unfold State.flag State.flagD
  split
  · exact .refl s
  · exact State.passes.trans (t := s.setReg f.addr _) rfl (State.raise_passes _ _ _ _ _ _)

theorem State.clipUp_passes (s : State) (p : Nat) : s.passes (s.clipUp p) := by
  unfold State.clipUp
  lift_lets
  intro from' n
  have hcounted : s.passes { s with synth := { s.synth with counted := tabIns p s.pin64 s.synth.counted } } := rfl
  split
  · exact hcounted
  · refine hcounted.trans (State.passes.trans ?_ (State.flag_passes _ _ _))
    rfl

theorem State.clipAll_passes (s : State) : s.passes s.clipAll :=
  foldS_rel State.passes .refl (fun _ _ _ => .trans) _ _ (fun p _ u => State.clipUp_passes u p) s

theorem foldl_send_emits (l : List Out) (s : State) : Emits [] s (l.foldl State.send s) :=
  foldS_rel (Emits []) (.refl []) (fun _ _ _ => .trans) (fun o u => u.send o) l (fun o _ u => State.send_emits u o) s

theorem State.maxReg_passes (s : State) (a n : Nat) : s.passes (s.maxReg a n) := by
  unfold State.maxReg
  split <;> rfl

theorem State.drainQ_passes (s : State) (b : Bool) : s.passes (s.drainQ b) := by
  unfold State.drainQ
  lift_lets
  intro q n k j used q' msgs late onet served told
  have htold : s.passes told :=
    State.passes.trans (t := served) rfl ((foldl_send_emits msgs served).passes.trans (State.maxReg_passes _ _ _))
  clear_value told
  split
  · exact htold.trans (State.flag_passes told onetFlags 3)
  · exact htold

theorem State.idle_passes (s : State) : s.tickBlock.passes s.idle :=
  ((State.clipAll_passes _).trans (State.drainQ_passes _ false)).trans (State.drainQ_passes _ true)

/-- Settles O2: that a step on an empty queue is one block of the sample clock is the model's choice (log entry 1); beside the clocks
a block changes registers, what goes out, the memory of the outputs and the seam queues alone. -/
theorem emptyQueuePassesOneBlock : Obligations.EmptyQueuePassesOneBlock := by
  unfold Obligations.EmptyQueuePassesOneBlock
  intro s hs
  have hframe := State.idle_passes s
  unfold State.passes at hframe
  refine ⟨s.idle, by simp [step, hs], ?_⟩
  rw [hframe]
  exact ⟨rfl, rfl, rfl, hs, fun _ => rfl, fun _ => rfl, rfl⟩

end Sys2Proof.Machine

namespace Sys2Proof.Machine

/-! ## An instruction that offers one descriptor (R43, R74, R78, R84, R89) -/

theorem State.onlyEng.trans {s t u : State} {e : Nat} {l : List Nat} (h : s.onlyEng t e l) (k : t.onlyEng u e l) :
    s.onlyEng u e l := by
  obtain ⟨hframe, hothers, hregs⟩ := h
  obtain ⟨kframe, kothers, kregs⟩ := k
  refine ⟨?_, fun f hf => (kothers f hf).trans (hothers f hf), fun a ha => (kregs a ha).trans (hregs a ha)⟩
  rw [hframe] at kframe
  exact kframe

theorem State.onlyEng_modEng (s : State) (e : Nat) (f : Engine → Engine) : s.onlyEng (s.modEng e f) e [] :=
  ⟨rfl, fun g hg => (State.eng_modEng s e g f).trans (if_neg hg), fun _ _ => rfl⟩

theorem State.eng_modEng_same (s : State) (e : Nat) (f : Engine → Engine) : (s.modEng e f).eng e = f (s.eng e) :=
  (State.eng_modEng s e e f).trans (if_pos rfl)

/-- Below the last word of program memory the engine goes on at the next instruction (R76). -/
theorem State.advance_of_lt {s : State} {e : Nat} (h : (s.eng e).pc < 16383) : s.advance e = s.modEng e Engine.stepped := by
  rw [State.advance, State.goto, if_neg (by omega)]
  rfl

/-- An operation changes engine e alone, and it as a function on engines says. -/
def State.actsOn (f : State → State) (e : Nat) (g : Engine → Engine) : Prop :=
  ∀ u : State, u.onlyEng (f u) e [] ∧ (f u).eng e = g (u.eng e)

theorem State.actsOn_modEng (e : Nat) (g : Engine → Engine) : State.actsOn (fun u => u.modEng e g) e g :=
  fun u => ⟨State.onlyEng_modEng u e g, State.eng_modEng_same u e g⟩

theorem State.actsOn.comp {f f' : State → State} {e : Nat} {g g' : Engine → Engine} (h : State.actsOn f e g)
    (k : State.actsOn f' e g') : State.actsOn (fun u => f' (f u)) e (fun x => g' (g x)) :=
  fun u => ⟨(h u).1.trans (k (f u)).1, by rw [(k (f u)).2, (h u).2]⟩

theorem State.actsOn_id (e : Nat) : State.actsOn id e id := fun _ => ⟨⟨rfl, fun _ _ => rfl, fun _ _ => rfl⟩, rfl⟩

/-- The engine with a descriptor just offered. -/
def Engine.offering (x : Engine) (d : Desc) : Engine := { x with offer := some { d := d, slot := false, stream := false } }

/-- With no offer waiting the descriptor stands as the engine's offer, and the engine goes on once the instruction's rest is done. -/
theorem State.offerDesc_of_free {s : State} {e : Nat} (d : Desc) {f : State → State} {g : Engine → Engine} (hf : State.actsOn f e g)
    (hfree : (s.eng e).offer = none) (hpc : (g ((s.eng e).offering d)).pc < 16383) :
    s.onlyEng (s.offerDesc e d f) e [] ∧ (s.offerDesc e d f).eng e = (g ((s.eng e).offering d)).stepped := by
  obtain ⟨honly, heng⟩ := (State.actsOn_modEng e (fun x => x.offering d)).comp hf s
  rw [State.offerDesc_free s e d f hfree]
  change _ = g ((s.eng e).offering d) at heng
  rw [State.advance_of_lt (heng ▸ hpc)]
  exact ⟨honly.trans (State.onlyEng_modEng _ e _), by rw [State.eng_modEng_same]; exact congrArg _ heng⟩

/-- With an offer waiting the engine waits for its answer, and nothing else happens. -/
theorem State.offerDesc_of_waiting {s : State} {e : Nat} (d : Desc) (f : State → State) (h : (s.eng e).offer.isSome = true) :
    s.onlyEng (s.offerDesc e d f) e [] ∧ (s.offerDesc e d f).eng e = { s.eng e with st := .waiting, cause := 1 } := by
  rw [State.offerDesc_busy s e d f h]
  exact ⟨State.onlyEng_modEng s e _, State.eng_modEng_same s e _⟩

/-- What an instruction does that offers descriptor d and moves the cursor to cur (R43). -/
def State.offersOne (s : State) (e : Eng) (c : Instr) (d : Desc) (cur : Tm) : Prop :=
  ((s.eng e).offer = none → ∃ t : State, exec c s = .next t.serveRuns ∧ s.onlyEng t e [] ∧
    t.eng e = { (s.eng e).stepped with cur := cur, offer := some { d := d, slot := false, stream := false } }) ∧
  ((s.eng e).offer.isSome → ∃ t : State, exec c s = .next t.serveRuns ∧ s.onlyEng t e [] ∧
    t.eng e = { s.eng e with st := .waiting, cause := 1 })

/-- The engine executes the named instruction: its body runs, and then what follows any event of an engine. -/
theorem State.runOp_of_executes {s : State} {e : Eng} {op : Nat} {w : W64} (h : s.executes e op w) (hop : op ≤ 0x15)
    (body : W64 → State → State) : s.runOp op e body = .next (body w s).serveRuns := by
  obtain ⟨hend, hrun, hpledge, rfl, hopcode⟩ := h
  exact State.runOp_executes s op e body hop hend hrun hpledge hopcode

/-- The engine with its cursor moved on by whole blocks. -/
def Engine.moved (n : Nat) (x : Engine) : Engine := { x with cur := x.cur.plus (BitVec.ofNat 32 n) }

/-- The engine with its pending arm, where there is one, bound to an ARMED descriptor's segment (R98). -/
def Engine.armed (d : Desc) (x : Engine) : Engine :=
  match d.armed, x.arm with
  | true, some a => { x with arm := none, live := x.live ++ [{ a with span := some (d.at, d.fin) }] }
  | _, _ => x

theorem State.actsOn_moveCursor (e n : Nat) : State.actsOn (fun u => u.moveCursor e n) e (Engine.moved n) :=
  State.actsOn_modEng e _

theorem State.actsOn_takeArm (e : Nat) (d : Desc) : State.actsOn (fun u => u.takeArm e d) e (Engine.armed d) :=
  State.actsOn_modEng e _

theorem Engine.armed_of_not_armed {d : Desc} (h : d.armed = false) (x : Engine) : x.armed d = x := by
  unfold Engine.armed
  rw [h]

theorem exec_play {s : State} {e : Eng} {w : W64} {p : PlayOp} (h : s.executes e 0x02 w) (hp : decPlay w = some p)
    (hok : ¬ (p.len < 2 ∨ envGranules e < p.env + p.len ∨ (p.armed = true ∧ (s.eng e).arm.isNone = true))) :
    let d := s.mkDesc e (s.eng e).cur.b (s.eng e).cur.t (.play p.env p.len p.amp (s.frameSlot e p.sel)) p.armed
    exec (.play e) s = .next (s.offerDesc e d (fun u => (u.takeArm e d).moveCursor e p.len)).serveRuns := by
  show execPlay e s = _
  rw [execPlay, State.runOp_of_executes h (by decide), hp, State.withForm_some, if_neg hok]

section
variable {s : State} {e : Eng} (hpc : (s.eng e).pc < 16383)
include hpc

theorem State.offersOne_of_exec {c : Instr} {d : Desc} {cur : Tm} {f : State → State} {g : Engine → Engine}
    (hexec : exec c s = .next (s.offerDesc e d f).serveRuns) (hf : State.actsOn f e g)
    (hg : g ((s.eng e).offering d) = { (s.eng e).offering d with cur := cur }) : s.offersOne e c d cur := by
  refine ⟨fun hfree => ?_, fun hbusy => ⟨_, hexec, State.offerDesc_of_waiting d f hbusy⟩⟩
  have hoffer := State.offerDesc_of_free d hf hfree (by rw [hg]; exact hpc)
  rw [hg] at hoffer
  exact ⟨_, hexec, hoffer⟩

/-- A frame instruction offers a FRAME descriptor and leaves the cursor (R84). -/
theorem State.offersOne_of_offerFrame {c : Instr} {sel : Nat} {op : FrameOp}
    (hexec : exec c s = .next (s.offerFrame e sel op).serveRuns) :
    s.offersOne e c (s.mkDesc e (s.eng e).cur.b 0 (.frame (s.frameSlot e sel) op)) (s.eng e).cur :=
  State.offersOne_of_exec hpc hexec (State.actsOn_id e) rfl

variable {w : W64}

theorem play_offersOne {p : PlayOp} (h : s.executes e 0x02 w) (hp : decPlay w = some p) (h2 : 2 ≤ p.len)
    (henv : p.env + p.len ≤ envGranules e) (harm : p.armed = false) :
    s.offersOne e (.play e) (s.mkDesc e (s.eng e).cur.b (s.eng e).cur.t (.play p.env p.len p.amp (s.frameSlot e p.sel)))
      ((s.eng e).cur.plus (BitVec.ofNat 32 p.len)) := by
  have hok : ¬ (p.len < 2 ∨ envGranules e < p.env + p.len ∨ (p.armed = true ∧ (s.eng e).arm.isNone = true)) := by
    simp [harm]; omega
  have hexec : exec (.play e) s = _ := exec_play h hp hok
  rw [harm] at hexec
  exact State.offersOne_of_exec hpc hexec ((State.actsOn_takeArm e _).comp (State.actsOn_moveCursor e p.len))
    (congrArg _ (Engine.armed_of_not_armed rfl _))

theorem playStream_offersOne {p : StreamOp} (h : s.executes e 0x03 w) (hp : decStream w = some p) (h2 : 2 ≤ p.len)
    (hwin : 16 * p.len ≤ 4096 * s.fld (engAddr e 0x38) 8 4) :
    s.offersOne e (.playStream e) (s.mkDesc e (s.eng e).cur.b (s.eng e).cur.t (.stream p.len p.amp (s.frameSlot e p.sel)))
      ((s.eng e).cur.plus (BitVec.ofNat 32 p.len)) := by
  have hok : ¬ (p.len < 2 ∨ s.streamBytes e < 16 * p.len) := by simp [State.streamBytes]; omega
  refine State.offersOne_of_exec hpc ?_ (State.actsOn_moveCursor e p.len) rfl
  show execPlayStream e s = _
  rw [execPlayStream, State.runOp_of_executes h (by decide), hp, State.withForm_some, if_neg hok]

theorem setFreq_offersOne {p : BitVec 48 × Nat × Bool} (h : s.executes e 0x06 w) (hp : decSetFreq w = some p) :
    s.offersOne e (.setFreq e) (s.mkDesc e (s.eng e).cur.b 0 (.frame (s.frameSlot e p.2.1) (.setFreq p.1 p.2.2))) (s.eng e).cur := by
  refine State.offersOne_of_offerFrame hpc ?_
  show execSetFreq e s = _
  rw [execSetFreq, State.runOp_of_executes h (by decide), hp, State.withForm_some]

theorem shiftPhase_offersOne {p : W32 × Nat × Option Nat} (h : s.executes e 0x07 w) (hp : decShift w = some p) :
    s.offersOne e (.shiftPhase e) (s.mkDesc e (s.eng e).cur.b 0 (.frame (s.frameSlot e p.2.1)
      (.shift (p.1 + (match p.2.2 with | some i => s.reg (engAddr e (0x20 + 4 * i)) | none => 0))))) (s.eng e).cur := by
  refine State.offersOne_of_offerFrame hpc ?_
  show execShiftPhase e s = _
  rw [execShiftPhase, State.runOp_of_executes h (by decide), hp, State.withForm_some]
  rfl

theorem setPhase_offersOne {p : W32 × Nat} (h : s.executes e 0x08 w) (hp : decSetPhase w = some p) :
    s.offersOne e (.setPhase e) (s.mkDesc e (s.eng e).cur.b 0 (.frame (s.frameSlot e p.2) (.setPhase p.1))) (s.eng e).cur := by
  refine State.offersOne_of_offerFrame hpc ?_
  show execSetPhase e s = _
  rw [execSetPhase, State.runOp_of_executes h (by decide), hp, State.withForm_some]

theorem framePauli_offersOne {p : Nat × BitVec 2 × BitVec 2} (h : s.executes e 0x09 w) (hp : decPauli w = some p) :
    s.offersOne e (.framePauli e) (s.mkDesc e (s.eng e).cur.b 0 (.frame (s.frameSlot e p.1) (.pauli p.2.1 p.2.2))) (s.eng e).cur := by
  refine State.offersOne_of_offerFrame hpc ?_
  show execFramePauli e s = _
  rw [execFramePauli, State.runOp_of_executes h (by decide), hp, State.withForm_some]

theorem mark_offersOne {p : MarkOp} (h : s.executes e 0x10 w) (hp : decMark w = some p) :
    s.offersOne e (.mark e) (s.mkDesc e (s.eng e).cur.b (s.eng e).cur.t (.mark p.event p.pin p.width p.code)) (s.eng e).cur := by
  refine State.offersOne_of_exec hpc ?_ (State.actsOn_id e) rfl
  show execMark e s = _
  rw [execMark, State.runOp_of_executes h (by decide), hp, State.withForm_some]

/-- An ARMED PLAY turns the pending arm into the live arm of its segment (R98). -/
theorem play_armed {p : PlayOp} {a : Arm} (h : s.executes e 0x02 w) (hp : decPlay w = some p) (h2 : 2 ≤ p.len)
    (henv : p.env + p.len ≤ envGranules e) (harmed : p.armed = true) (harm : (s.eng e).arm = some a) (hfree : (s.eng e).offer = none) :
    let x := s.eng e
    let fin := x.cur.plus (BitVec.ofNat 32 p.len)
    let d := s.mkDesc e x.cur.b x.cur.t (.play p.env p.len p.amp (s.frameSlot e p.sel)) true
    ∃ t : State, exec (.play e) s = .next t.serveRuns ∧ s.onlyEng t e [] ∧
      t.eng e = { x.stepped with
        cur := fin, offer := some { d := d, slot := false, stream := false }, arm := none
        live := x.live ++ [{ a with span := some (x.cur, fin) }] } := by
  intro x fin d
  have hok : ¬ (p.len < 2 ∨ envGranules e < p.env + p.len ∨ (p.armed = true ∧ (s.eng e).arm.isNone = true)) := by
    simp [harm]; omega
  have hexec : exec (.play e) s = _ := exec_play h hp hok
  rw [harmed] at hexec
  have hbound : Engine.armed d (x.offering d) = { x.offering d with
      arm := none, live := x.live ++ [{ a with span := some (x.cur, fin) }] } := by
    have hpending : (x.offering d).arm = some a := harm
    unfold Engine.armed
    rw [hpending]
    rfl
  have hoffer := State.offerDesc_of_free d ((State.actsOn_takeArm e d).comp (State.actsOn_moveCursor e p.len)) hfree
    (by rw [hbound]; exact hpc)
  rw [hbound] at hoffer
  exact ⟨_, hexec, hoffer⟩

end

/-! ## What an engine's descriptor says of its deciding stamps (R41, R47, R75) -/

theorem fbDelta_eq (start stamp : W32) : fbDelta start stamp = (max 0 (min 4095 (start - stamp).toInt)).toNat := by
  unfold fbDelta bdiff
  omega

/-- Settles O7: each instruction's row is what it offers and how far it moves the cursor; the descriptor's fields are read off the
choice of the deciding stamp. -/
theorem engineDescriptorInstructions : Obligations.EngineDescriptorInstructions := by
  unfold Obligations.EngineDescriptorInstructions
  refine ⟨fun s e w hpc => ⟨fun p h hp h2 henv harm => play_offersOne hpc h hp h2 henv harm,
    fun p a h hp h2 henv harmed harm hfree => play_armed hpc h hp h2 henv harmed harm hfree,
    fun p h hp h2 hwin => playStream_offersOne hpc h hp h2 hwin, fun p h hp => setFreq_offersOne hpc h hp,
    fun p h hp => shiftPhase_offersOne hpc h hp, fun p h hp => setPhase_offersOne hpc h hp,
    fun p h hp => framePauli_offersOne hpc h hp, fun p h hp => mark_offersOne hpc h hp⟩, ?_⟩
  intro s e start tick body armed x d sat
  have hcond : d.cond = (x.decL.isSome || x.decR.isSome) := rfl
  have hfb : (d.remote, d.fbDelta) = s.fbChoice x start := rfl
  have hsat : ∀ stamp, fbDelta start stamp = sat stamp := fbDelta_eq start
  refine ⟨rfl, rfl, rfl, rfl, rfl, ?_, fun hl hr => ?_, fun l hl hr => ?_, fun r hl hr => ?_, fun l r hl hr => ⟨fun hlt => ?_, fun hlt => ?_⟩⟩
  · rw [hcond, Bool.or_eq_true, Option.isSome_iff_ne_none, Option.isSome_iff_ne_none]
  all_goals
    simp only [State.fbChoice, hl, hr, bdiff, hsat] at hfb
  · exact Prod.mk.inj hfb
  · exact Prod.mk.inj hfb
  · exact Prod.mk.inj hfb
  · rw [if_pos hlt] at hfb
    exact Prod.mk.inj hfb
  · rw [if_neg (not_lt.mpr hlt.le)] at hfb
    exact Prod.mk.inj hfb

end Sys2Proof.Machine

namespace Sys2Proof.Machine

/-! ## What a loop over engines leaves of each -/

/-- A loop over engines each pass of which acts on its own engine by a function that acting twice does not change, and keeps P: after
it P holds, and each listed engine is as that function makes it. -/
theorem foldS_eng_idem {f : Nat → State → State} {y : Nat → Engine → Engine} {P : State → Prop} {l : List Nat} {s : State}
    (hs : P s) (hf : ∀ e u, P u → P (f e u) ∧ ∀ g, (f e u).eng g = if g = e then y e (u.eng e) else u.eng g)
    (hy : ∀ e x, y e (y e x) = y e x) :
    P (foldS l f s) ∧ ∀ g, (foldS l f s).eng g = if g ∈ l then y g (s.eng g) else s.eng g := by
  induction l generalizing s with
  | nil => exact ⟨hs, fun g => rfl⟩
  | cons e l ih =>
    obtain ⟨hP, hstep⟩ := hf e s hs
    obtain ⟨hPl, hfold⟩ := ih hP
    refine ⟨hPl, fun g => ?_⟩
    show (foldS l f (f e s)).eng g = _
    rw [hfold, hstep]
    by_cases hg : g = e
    · subst hg
      simp [hy]
    · simp [hg]

/-! ## What a rendezvous changes beside its engines (R62, R190, R299, R385, R390) -/

/-- Engines, memory and START sets as before. -/
structure KeepsRun (s t : State) : Prop where
  engines : t.engines = s.engines
  mem : t.mem = s.mem
  sets : t.sets = s.sets

theorem KeepsRun.refl (s : State) : KeepsRun s s := ⟨rfl, rfl, rfl⟩

theorem KeepsRun.trans {s t u : State} (h : KeepsRun s t) (k : KeepsRun t u) : KeepsRun s u :=
  ⟨k.engines.trans h.engines, k.mem.trans h.mem, k.sets.trans h.sets⟩

theorem KeepsRun.eng {s t : State} (h : KeepsRun s t) (e : Nat) : t.eng e = s.eng e := by simp only [State.eng, h.engines]

theorem KeepsRun.sameMem {s t : State} (h : KeepsRun s t) : s.sameMem t := fun a => State.byte_of_mem h.mem a

theorem KeepsRun.findSet {s t : State} (h : KeepsRun s t) (id : Nat) : t.findSet id = s.findSet id := by
  simp only [State.findSet, h.sets]

theorem Emits.keepsRun {l : List Nat} {s t : State} (h : Emits l s t) : KeepsRun s t := by
  rw [h.frame]
  exact ⟨rfl, rfl, rfl⟩

theorem State.mendDetach_keepsRun (s : State) : KeepsRun s s.mendDetach := by
  unfold State.mendDetach
  dsimp only
  split <;> exact ⟨rfl, rfl, rfl⟩

theorem State.mendShot_keepsRun (s : State) (b : W32) : KeepsRun s (s.mendShot b) := ⟨rfl, rfl, rfl⟩

theorem State.fastBoundary_keepsRun (s : State) (b : W32) : KeepsRun s (s.fastBoundary b) := by
  unfold State.fastBoundary
  split <;> exact ⟨rfl, rfl, rfl⟩

theorem State.bandBoundary_frame (s : State) (engs : List Nat) (b : W32) :
    s.bandBoundary engs b = { s with thermal := (s.bandBoundary engs b).thermal } := by
  refine foldS_rel (fun s t => t = { s with thermal := t.thermal }) (fun _ => rfl) (fun s t u h k => by rw [h] at k; exact k)
    _ _ (fun y _ u => ?_) s
  split
  · split <;> rfl
  · rfl

theorem State.stopReplies_keepsRun (s : State) (id : Nat) (shotNo b : W32) : KeepsRun s (s.stopReplies id shotNo b) := by
  unfold State.stopReplies
  extract_lets l done cmd noted
  refine KeepsRun.trans (t := noted) ⟨rfl, rfl, rfl⟩ (foldS_rel KeepsRun .refl (fun _ _ _ => .trans) _ _ (fun x _ u => ?_) _)
  have hfinal : ∀ v : State, KeepsRun v (v.finalReply x.1 0x22 stOk [shotNo, b]) := fun v => (State.finalReply_emits v _ _ _ _).keepsRun
  dsimp only
  split
  · split
    · exact (State.setLong_emits u .fm none).keepsRun.trans (hfinal _)
    · exact hfinal u
  · exact hfinal u

/-- The pace is noted in the yokes' registers, which lie below the tiles'. -/
theorem State.notePace_frame (s : State) (g : StartSet) (pace : Nat) : s.notePace g pace = { s with regs := (s.notePace g pace).regs } ∧
    ∀ a, (∀ y, a ≠ yokeAddr y 0x10) → (s.notePace g pace).reg a = s.reg a := by
  refine foldS_rel (fun s t => t = { s with regs := t.regs } ∧ ∀ a, (∀ y, a ≠ yokeAddr y 0x10) → t.reg a = s.reg a)
    (fun _ => ⟨rfl, fun _ _ => rfl⟩) (fun s t u h k => ⟨?_, fun a ha => (k.2 a ha).trans (h.2 a ha)⟩) _ _
    (fun y _ u => ⟨rfl, fun a ha => (State.reg_setReg u _ a _).trans (if_neg (ha y))⟩) s
  obtain ⟨hframe, -⟩ := h
  obtain ⟨kframe, -⟩ := k
  rw [hframe] at kframe
  exact kframe

/-! ## The next shot, and the end of a set (R70, R71, R73) -/

/-- The engine as it enters a shot (R70, R73). -/
def Engine.entersShot (pc : Nat) (shotNo b : W32) (x : Engine) : Engine :=
  { x.clearShot with st := .running, cause := 0, pc := pc, cur := { b := b, t := 0 }, shotNo := shotNo, shotStart := b }

/-- The engine as its START set ends (R70, R71). -/
def Engine.endsSet (x : Engine) : Engine :=
  if x.active then { x with st := .done, cause := 0, set := none, goEnd := false } else { x with set := none }

theorem Engine.endsSet_idem (x : Engine) : x.endsSet.endsSet = x.endsSet := by
  by_cases h : x.active = true
  · simp only [Engine.endsSet, if_pos h]
    rfl
  · have hleft : x.endsSet = { x with set := none } := if_neg h
    rw [hleft]
    exact if_neg h

theorem Engine.endsSet_active {x : Engine} (h : x.active = true) :
    x.endsSet = { x with st := .done, cause := 0, set := none, goEnd := false } := if_pos h

/-- What a loop over engines that writes engines alone leaves. -/
theorem foldS_engines {f : Nat → State → State} {y : Nat → Engine → Engine} (l : List Nat) (s : State)
    (hf : ∀ e u, u = { s with engines := u.engines } → f e u = u.modEng e (y e)) (hy : ∀ e x, y e (y e x) = y e x) :
    foldS l f s = { s with engines := (foldS l f s).engines } ∧
      ∀ g, (foldS l f s).eng g = if g ∈ l then y g (s.eng g) else s.eng g := by
  refine foldS_eng_idem (P := fun u => u = { s with engines := u.engines }) rfl (fun e u hu => ?_) hy
  rw [hf e u hu]
  refine ⟨?_, fun g => State.eng_modEng u e g _⟩
  rw [hu]
  rfl

theorem State.endSet_leaves (s : State) (g : StartSet) :
    (∀ e, (s.endSet g).eng e = if e ∈ g.members ++ g.halted then (s.eng e).endsSet else s.eng e) ∧
      (s.endSet g).mem = s.mem ∧ (s.endSet g).sets = s.sets.filter (fun h => h.id != g.id) := by
  obtain ⟨hframe, heng⟩ := foldS_engines (f := fun e s => s.modEng e Engine.endsSet) (g.members ++ g.halted) s
    (fun _ _ _ => rfl) (fun _ => Engine.endsSet_idem)
  have hmem := congrArg State.mem hframe
  have hsets := congrArg State.sets hframe
  exact ⟨heng, hmem, congrArg (fun l : List StartSet => l.filter (fun h : StartSet => h.id != g.id)) hsets⟩

/-- The set ends: its engines are done with it, it is gone, and memory is as before. -/
theorem State.finishSet_leaves (s : State) (g : StartSet) (b : W32) :
    (∀ e, (s.finishSet g b).eng e = if e ∈ g.members ++ g.halted then (s.eng e).endsSet else s.eng e) ∧ s.sameMem (s.finishSet g b) ∧
      (s.finishSet g b).findSet g.id = none := by
  obtain ⟨heng, hmem, hsets⟩ := State.endSet_leaves s g
  have hkeep : KeepsRun (s.endSet g) (s.finishSet g b) := by
    unfold State.finishSet
    dsimp only
    have hreplies := State.stopReplies_keepsRun (s.endSet g) g.id g.shotNo b
    split
    · exact hreplies.trans (State.mendDetach_keepsRun _)
    · exact hreplies
  refine ⟨fun e => (hkeep.eng e).trans (heng e), fun a => (hkeep.sameMem a).trans (State.byte_of_mem hmem a),
    (hkeep.findSet g.id).trans ?_⟩
  rw [State.findSet, hsets]
  simp

theorem State.findSet_id {s : State} {id : Nat} {g : StartSet} (h : s.findSet id = some g) : g.id = id := by
  have hp := List.find?_some h
  simpa using hp

/-- A set that keeps its identity is found changed. -/
theorem State.findSet_modSet {s : State} {id : Nat} {f : StartSet → StartSet} (hf : ∀ g, (f g).id = g.id) :
    (s.modSet id f).findSet id = (s.findSet id).map f := by
  have hkeep : ∀ g : StartSet, (if g.id = id then f g else g).id = g.id := by
    intro g
    split
    · exact hf g
    · rfl
  have hfind : (s.modSet id f).findSet id = (s.findSet id).map (fun g => if g.id = id then f g else g) := by
    show (s.sets.map _).find? _ = _
    rw [List.find?_map]
    simp only [Function.comp_def, hkeep]
    rfl
  rw [hfind]
  cases h : s.findSet id with
  | none => rfl
  | some g => rw [Option.map_some, Option.map_some, if_pos (State.findSet_id h)]

/-- A set as its next shot begins (R70). -/
def StartSet.nextShot (b : W32) (g : StartSet) : StartSet :=
  { g with reports := [], partner := [], shotNo := g.shotNo + 1, shotStart := b, menderDone := false, sentUp := false, leftUp := [] }

/-- The next shot begins: every engine of the set enters it, no other engine and no memory changes, and the set waits for new
reports. -/
theorem State.nextShot_leaves {s : State} {g : StartSet} (hg : s.findSet g.id = some g) (b : W32) :
    (∀ e, (s.nextShot g b).eng e = if e ∈ g.members then (s.eng e).entersShot (s.fld (engAddr e 0) 13 0) (g.shotNo + 1) b else s.eng e) ∧
      s.sameMem (s.nextShot g b) ∧ ∃ m, (s.nextShot g b).findSet g.id = some { g.nextShot b with mender := m } := by
  let begun : State := { s.modSet g.id (StartSet.nextShot b) with syncs := s.syncs.filter (fun i => i.set != g.id) }
  let entered := foldS g.members (fun e s => s.shotEngine e (g.shotNo + 1) b) begun
  obtain ⟨hframe, heng⟩ := foldS_engines (f := fun e s => s.shotEngine e (g.shotNo + 1) b)
    (y := fun e x => x.entersShot (s.fld (engAddr e 0) 13 0) (g.shotNo + 1) b) g.members begun
    (fun e u hu => by rw [hu]; rfl) (fun _ _ => rfl)
  have hmem' := congrArg State.mem hframe
  have hmem : entered.mem = s.mem := hmem'
  have hsets : entered.findSet g.id = some (g.nextShot b) := by
    have hset := congrArg State.sets hframe
    have hmod : (s.modSet g.id (StartSet.nextShot b)).findSet g.id = _ := State.findSet_modSet (fun _ => rfl)
    rw [hg] at hmod
    rw [State.findSet, hset]
    exact hmod
  have hlast : s.nextShot g b = if entered.mend.set = some g.id then
      (if entered.mend.detachAfter then (entered.modSet g.id (fun g => { g with mender := false })).mendDetach else entered.mendShot b)
      else entered := rfl
  have hkeep : ∀ t : State, KeepsRun entered t → (∀ e, t.eng e = entered.eng e) ∧ s.sameMem t ∧
      ∃ m, t.findSet g.id = some { g.nextShot b with mender := m } := fun t ht =>
    ⟨ht.eng, fun a => (ht.sameMem a).trans (State.byte_of_mem hmem a), _, (ht.findSet g.id).trans hsets⟩
  suffices h : (∀ e, (s.nextShot g b).eng e = entered.eng e) ∧ s.sameMem (s.nextShot g b) ∧
      ∃ m, (s.nextShot g b).findSet g.id = some { g.nextShot b with mender := m } from
    ⟨fun e => (h.1 e).trans (heng e), h.2⟩
  rw [hlast]
  split
  · split
    · have ht := State.mendDetach_keepsRun (entered.modSet g.id (fun g => { g with mender := false }))
      refine ⟨ht.eng, fun a => (ht.sameMem a).trans (State.byte_of_mem hmem a), false, ?_⟩
      rw [ht.findSet, State.findSet_modSet (f := fun g => { g with mender := false }) (fun _ => rfl), hsets]
      rfl
    · exact hkeep _ (State.mendShot_keepsRun entered b)
  · exact hkeep _ (.refl entered)

/-! ## A rendezvous in a unit that stands alone (R70, R390) -/

/-- The registers of the yokes' pace are neither ENG_START_PC nor PAIR_STATUS. -/
theorem engAddr_zero_ne_yokePace (e y : Nat) : engAddr e 0 ≠ yokeAddr y 0x10 := by
  unfold engAddr tileBase yokeAddr
  omega

theorem aPairStatus_ne_yokePace (y : Nat) : aPairStatus ≠ yokeAddr y 0x10 := by
  unfold aPairStatus yokeAddr
  omega

/-- A unit outside twinset and redundant configuration. -/
structure Alone (s : State) : Prop where
  twin : s.twin = false
  state : s.pairState = 0

section
variable {s : State} (h : Alone s)
include h

theorem Alone.upSeam : s.upSeam = none := by
  simp [State.upSeam, State.shadow, h.state, h.twin]

theorem Alone.reportsNeeded (g : StartSet) (twin : Bool) : s.reportsNeeded g twin = [] := by
  simp [State.reportsNeeded, h.state, h.twin]

theorem Alone.secondTerm (twin : Bool) : s.secondTerm twin [] = s.pin + BitVec.ofNat 32 (10 + (31 + 3 * s.hem.band.toNat)) := by
  simp [State.secondTerm, State.leadReq, h.state, h.twin]

theorem Alone.sendComplete (twin sync : Bool) (group inst : Nat) (shotNo b : W32) (closed last : Bool) :
    s.sendComplete twin sync group inst shotNo b closed last = s := by
  simp [State.sendComplete, h.state, h.twin]

/-- B_SHOT and PACE_GAP with no partner (R70). -/
theorem Alone.bShot {g : StartSet} {c : W32} (hp : g.partner = []) (hc : maxBlock (g.reports.map (·.2)) = some c) :
    s.bShot g = (bmax (c + BitVec.ofNat 32 (g.gap + s.paceGap g c)) (s.pin + BitVec.ofNat 32 (10 + (31 + 3 * s.hem.band.toNat))),
      s.paceGap g c) := by
  have hin : g.partnerIn = [] := by simp [StartSet.partnerIn, hp]
  have hmax : g.cMax = some c := by simp [StartSet.cMax, hin, hc]
  simp [State.bShot, hin, hmax, h.secondTerm, bmaxOpt]

end

/-- The rendezvous completes: the pace is noted, and the set begins its next shot or ends. -/
theorem exec_shotRendezvousComplete {s : State} (h : Alone s) {id : Nat} {g : StartSet} {c : W32} (hg : s.findSet id = some g)
    (hin : g.localIn = true) (hp : g.partner = []) (hc : maxBlock (g.reports.map (·.2)) = some c) :
    let b := bmax (c + BitVec.ofNat 32 (g.gap + s.paceGap g c)) (s.pin + BitVec.ofNat 32 (10 + (31 + 3 * s.hem.band.toNat)))
    exec (.shotRendezvousComplete id) s = .next (((s.notePace g (s.paceGap g c)).completeShot g b (s.lastShot g))).serveRuns := by
  intro b
  obtain ⟨hframe, hregs⟩ := State.notePace_frame s g (s.paceGap g c)
  have hready : (s.rendezvousReady g && s.completesSet g) = true := by
    simp [State.rendezvousReady, hin, h.reportsNeeded, State.completesSet, h.upSeam]
  have halone : Alone (s.notePace g (s.paceGap g c)) := by
    refine ⟨?_, ?_⟩
    · rw [hframe]
      exact h.twin
    · rw [State.pairState, State.fld, hregs _ aPairStatus_ne_yokePace]
      exact h.state
  show execShotRendezvousComplete id s = _
  simp only [execShotRendezvousComplete, hg, hready, if_true, h.bShot hp hc, halone.sendComplete]
  rfl

/-- What a completing rendezvous does before the set goes on: engines, memory and sets stay, and of the registers only the yokes' pace
changes (R62, R385, R390). -/
theorem State.shotBoundary_keeps (s : State) (g : StartSet) (b : W32) (pace : Nat) :
    let t := ((s.notePace g pace).fastBoundary b).bandBoundary (g.members ++ g.halted) b
    KeepsRun s t ∧ ∀ a, (∀ y, a ≠ yokeAddr y 0x10) → t.reg a = s.reg a := by
  intro t
  obtain ⟨hpace, hregs⟩ := State.notePace_frame s g pace
  have hnoted : KeepsRun s (s.notePace g pace) := by
    rw [hpace]
    exact ⟨rfl, rfl, rfl⟩
  have hfast : ((s.notePace g pace).fastBoundary b).regs = (s.notePace g pace).regs := by
    unfold State.fastBoundary
    split <;> rfl
  have hband : t = { (s.notePace g pace).fastBoundary b with thermal := t.thermal } := State.bandBoundary_frame _ _ _
  refine ⟨(hnoted.trans (State.fastBoundary_keepsRun _ b)).trans ?_, fun a ha => ?_⟩
  · rw [hband]
    exact ⟨rfl, rfl, rfl⟩
  · rw [← hregs a ha, hband]
    exact State.reg_of_regs hfast a

/-- Settles O12: what the set's completion leaves of its engines is read off the loop that begins their next shot, or ends the set. -/
theorem rendezvousFormsNextShot : Obligations.RendezvousFormsNextShot := by
  unfold Obligations.RendezvousFormsNextShot
  intro s id g c hg htwin hpair hin hpartner hc b
  have hexec := exec_shotRendezvousComplete ⟨htwin, hpair⟩ hg hin hpartner hc
  obtain rfl := State.findSet_id hg
  let before := ((s.notePace g (s.paceGap g c)).fastBoundary b).bandBoundary (g.members ++ g.halted) b
  obtain ⟨hkeep, hregs⟩ : KeepsRun s before ∧ _ := State.shotBoundary_keeps s g b (s.paceGap g c)
  refine ⟨fun hlast => ⟨before.nextShot g b, ?_, ?_⟩, fun hlast => ⟨before.finishSet g b, ?_, ?_⟩⟩
  · rw [hexec, hlast]
    rfl
  · obtain ⟨heng, hmem, m, hset⟩ := State.nextShot_leaves (s := before) (g := g) ((hkeep.findSet _).trans hg) b
    refine ⟨fun e he => ?_, fun e he => ?_, fun a => (hmem a).trans (hkeep.sameMem a), _, hset, rfl, rfl, rfl, rfl⟩
    · rw [heng, if_pos he, hkeep.eng, State.fld, hregs _ (engAddr_zero_ne_yokePace e)]
      rfl
    · rw [heng, if_neg he, hkeep.eng]
  · rw [hexec, hlast]
    rfl
  · obtain ⟨heng, hmem, hset⟩ := State.finishSet_leaves before g b
    refine ⟨fun e he hact => ?_, fun e he => ?_, fun a => (hmem a).trans (hkeep.sameMem a), hset⟩
    · rw [heng, if_pos he, hkeep.eng, Engine.endsSet_active hact]
    · rw [heng, if_neg he, hkeep.eng]

end Sys2Proof.Machine

namespace Sys2Proof.Machine

/-! ## What follows an event of an engine (R175, R190, R346, R349) -/

theorem State.sendSeam_emits (s : State) (b : Bool) (mtype : Nat) (fields : List Nat) : Emits [] s (s.sendSeam b mtype fields) := by
  unfold State.sendSeam
  generalize (if b = true then LPort.seamB else LPort.seamA) = p
  split
  · exact State.send_emits s _
  · exact .refl [] s

theorem State.fillAbsent_keepsRun (s : State) (n : Nat) : KeepsRun s (s.fillAbsent n) := by
  refine foldS_rel KeepsRun .refl (fun _ _ _ => .trans) _ _ (fun d _ u => ?_) s
  have hcount : KeepsRun u (u.addSat 0x10040020 1) := ⟨rfl, rfl, rfl⟩
  have hflag := (State.flag_emits (u.addSat 0x10040020 1) mendFlags 2 (by decide)).keepsRun
  have hinput : ∀ v : State, KeepsRun v (v.recordInput n d 3 true none) := fun _ => ⟨rfl, rfl, rfl⟩
  exact (hcount.trans hflag).trans (hinput _)

theorem State.forceRounds_keepsRun (f : W32) (k : Nat) (s : State) : KeepsRun s (s.forceRounds f k) := by
  induction k generalizing s with
  | zero => exact .refl s
  | succ k ih =>
    unfold State.forceRounds
    split
    · exact .refl s
    · have hclose : ∀ u : State, KeepsRun u (u.closeRound f (k == 0)) := fun _ => ⟨rfl, rfl, rfl⟩
      exact ((State.fillAbsent_keepsRun s _).trans (hclose _)).trans (ih _)

/-- Mender's forced close changes its own state, its registers and the event path (R190). -/
theorem State.forceClose_keepsRun (s : State) (f : W32) : KeepsRun s (s.forceClose f) := by
  have hmend : ∀ (u : State) (g : Mend → Mend), KeepsRun u (u.modMend g) := fun _ _ => ⟨rfl, rfl, rfl⟩
  unfold State.forceClose
  extract_lets forced opened k
  have hforced : KeepsRun s forced := hmend s _
  split
  · exact .refl s
  · split
    · exact hforced.trans (State.forceRounds_keepsRun f k forced)
    · exact hforced.trans (hmend forced _)

theorem State.serveMender_keepsRun (s : State) : KeepsRun s s.serveMender := by
  unfold State.serveMender
  split
  · exact .refl s
  · split
    · split
      · exact State.forceClose_keepsRun s s.pin
      · exact .refl s
    · exact .refl s

theorem State.reportSet_engines (s : State) (id : Nat) : (s.reportSet id).engines = s.engines := by
  unfold State.reportSet
  split
  · split
    · exact (State.sendSeam_emits s _ _ _).keepsRun.engines
    · rfl
  · rfl

theorem State.reportSync_engines (s : State) (i : SyncInst) : (s.reportSync i).engines = s.engines := by
  unfold State.reportSync
  split
  · rfl
  · split
    · split
      · exact (State.sendSeam_emits s _ _ _).keepsRun.engines
      · rfl
    · rfl

theorem State.reportLeft_engines (s : State) (id group : Nat) : (s.reportLeft id group).engines = s.engines := by
  unfold State.reportLeft
  split
  · rfl
  · split
    · split
      · rfl
      · exact (State.sendSeam_emits s _ _ _).keepsRun.engines
    · rfl

/-- A loop whose passes leave the engines leaves them. -/
theorem foldS_engines_eq {α : Type} (f : α → State → State) (l : List α) (hf : ∀ x s, (f x s).engines = s.engines) (s : State) :
    (foldS l f s).engines = s.engines :=
  foldS_rel (fun s t => t.engines = s.engines) (fun _ => rfl) (fun _ _ _ h k => k.trans h) f l (fun x _ s => hf x s) s

/-- Of the engines only readers that wait for a slot are released by what follows an event. -/
theorem State.serveRuns_wakes (s : State) : ∃ u : State, u.engines = s.engines ∧ s.serveRuns = u.wakeReaders := by
  refine ⟨_, ?_, rfl⟩
  rw [foldS_engines_eq _ _ fun id s => foldS_engines_eq _ _ (fun n s => State.reportLeft_engines s id n) s,
    foldS_engines_eq _ _ fun i s => State.reportSync_engines s i, foldS_engines_eq _ _ fun id s => State.reportSet_engines s id]
  exact (State.serveMender_keepsRun s).engines

/-- What follows an event leaves which engines each engine has seen report or leave (R175). -/
theorem State.serveRuns_gone (s : State) (e : Nat) : (s.serveRuns.eng e).gone = (s.eng e).gone := by
  obtain ⟨u, hu, hwake⟩ := State.serveRuns_wakes s
  have hkeep : (u.wakeReaders.eng e).gone = (u.eng e).gone := by
    refine foldS_rel (fun s t => (t.eng e).gone = (s.eng e).gone) (fun _ => rfl) (fun _ _ _ h k => k.trans h) _ _ (fun f _ v => ?_) u
    unfold State.wakeReader
    dsimp only
    split
    · rw [State.eng_setSt]
      split
      · rename_i hef
        rw [hef]
      · rfl
    · rfl
  rw [hwake, hkeep, State.eng, hu]
  rfl

/-! ## A SYNC at the last word of program memory (R76, R95, R175) -/

/-- Engine 5 has executed the SYNC in word 16,383 of its program and waits for the others. -/
def lastWordWaiter : Engine := { Engine.reset with st := .waiting, cause := 3, pc := 16383, set := some 0 }

/-- Engine 6 runs in the same START set. -/
def lastWordRunner : Engine := { Engine.reset with st := .running, set := some 0 }

/-- Their START set, in its first shot. -/
def lastWordSet : StartSet :=
  { id := 0, members := [5, 6], far := [], halted := [], reports := [], shotNo := 0, shotCount := 0, gap := 0, s0 := 0, shotStart := 0
    stopping := false, twin := false, pair := false, mender := false, menderDone := false, partner := [], lost := false
    sentUp := false, leftUp := [] }

/-- The gathering of SYNC group 0, of which engine 5 is the only member and at which it has arrived. -/
def lastWordSync : SyncInst :=
  { set := 0, group := 0, inst := 0, arrived := [(5, 0)], offset := 0, first := 0, partner := [], closed := false, sentUp := false }

/-- A unit that stands alone with these two engines: SYNC_MEMBER of group 0 names engine 5 (R106). -/
def lastWordState : State :=
  { State.reset with regs := [(0x10035000, 0x20)], engines := [(5, lastWordWaiter), (6, lastWordRunner)], sets := [lastWordSet]
                     syncs := [lastWordSync] }

/-- The engines that an engine has seen report or leave, in the next state where there is one. -/
def goneAfter (r : Res) (e : Nat) : Option (List Nat) :=
  match r with
  | .next t => some (t.eng e).gone
  | _ => none

/-- Engine 5 goes on past word 16,383, raises ENG_ILLEGAL (R76) and leaves its START set, which engine 6 notes (R175). -/
theorem goneAfter_syncComplete : goneAfter (exec (.syncComplete 0 0 0) lastWordState) 6 = some [5] := by decide +kernel

/-- Refutes O13: its clause on SYNC_COMPLETE lets no engine change but those that arrived, and exempts an arrived engine at the last
word of program memory only from what itself becomes; that engine runs off the program, faults and leaves its set, and every other
engine in a shot notes that it left. -/
theorem not_syncInstanceReleases : ¬ Obligations.SyncInstanceReleases := by
  unfold Obligations.SyncInstanceReleases
  intro h
  obtain ⟨hcomplete, -⟩ := h lastWordState 0 0 0 lastWordSet lastWordSync rfl rfl rfl (by decide +kernel) rfl rfl
  obtain ⟨t, hnext, -, hothers, -⟩ := hcomplete 0 (by decide +kernel) rfl
  have hgone := goneAfter_syncComplete
  rw [hnext] at hgone
  have hsame : (t.eng 6).gone = [] := congrArg Engine.gone (hothers 6 (by decide))
  rw [goneAfter, State.serveRuns_gone, hsame] at hgone
  exact absurd hgone (by decide)

end Sys2Proof.Machine

namespace Sys2Proof.Machine

/-! ## The reply of STOP and ABORT (R290, R299) -/

theorem State.transmit_stops (s : State) (o : Out) : (s.transmit o).cmd.stops = s.cmd.stops := by
  unfold State.transmit
  dsimp only
  split
  · rfl
  · split <;> split <;> rfl

theorem State.send_stops (s : State) (o : Out) : (s.send o).cmd.stops = s.cmd.stops := by
  unfold State.send
  dsimp only
  rw [State.transmit_stops]
  split <;> rfl

theorem State.sendSeam_stops (s : State) (b : Bool) (mtype : Nat) (fields : List Nat) :
    (s.sendSeam b mtype fields).cmd.stops = s.cmd.stops := by
  unfold State.sendSeam
  generalize (if b = true then LPort.seamB else LPort.seamA) = p
  split
  · exact State.send_stops s _
  · rfl

/-- A relay to the units that follow changes the ways out alone, and no STOP. -/
theorem State.relayCmd_emits (s : State) (h : Hdr) (op : Nat) (ps : List W32) (joins : Bool) :
    Emits [] s (s.relayCmd h op ps joins) ∧ (s.relayCmd h op ps joins).cmd.stops = s.cmd.stops := by
  have hrelay : ∀ (u : State) (b : Bool) (bs : List Byte), Emits [] u (u.relayOn b bs) ∧ (u.relayOn b bs).cmd.stops = u.cmd.stops :=
    fun u b bs => foldS_rel (fun s t => Emits [] s t ∧ t.cmd.stops = s.cmd.stops) (fun s => ⟨.refl [] s, rfl⟩)
      (fun _ _ _ h k => ⟨h.1.trans k.1, k.2.trans h.2⟩) _ _ (fun p _ v => ⟨State.sendSeam_emits v _ _ _, State.sendSeam_stops v _ _ _⟩) u
  unfold State.relayCmd
  extract_lets bs first
  have hfirst : Emits [] s first ∧ first.cmd.stops = s.cmd.stops := by
    unfold first
    split
    · exact hrelay s false bs
    · exact ⟨.refl [] s, rfl⟩
  split
  · exact ⟨hfirst.1.trans (hrelay first true bs).1, (hrelay first true bs).2.trans hfirst.2⟩
  · exact hfirst

/-- The answer of a command that ends without an error, where R290 has it sent: it is the last that goes out. -/
theorem State.finish_noError_sent (s : State) (h : Hdr) (op : Nat) (st : Byte) (ps : List W32) (hst : st = stOk ∨ st = stPending)
    (hp : ackReq h = true ∨ ps ≠ []) : (s.finish h op st ps).sent = s.sent ++ [.reply (s.mkReply h op st ps)] := by
  have hne : ¬ (ackReq h = false ∧ ps = []) := by
    rintro ⟨ha, rfl⟩
    simp [ha] at hp
  simp [State.finish, State.countError, State.sendReply, State.mkReply, hst, hne, State.send_sent, State.cachePut, State.dequeue]

theorem State.finish_answers {s : State} {h : Hdr} {op : Nat} {st : Byte} {ps : List W32} (hst : st = stOk ∨ st = stPending)
    (hp : ackReq h = true ∨ ps ≠ []) : s.answers (s.finish h op st ps) h op st ps :=
  ⟨s.mkReply h op st ps, _, State.finish_noError_sent s h op st ps hst hp, List.mem_singleton.mpr rfl, rfl, rfl, rfl, rfl, rfl, rfl⟩

/-- What is answered stays answered as more goes out. -/
theorem State.answers.later {s t u : State} {h : Hdr} {op : Nat} {st : Byte} {ps : List W32} (ha : s.answers t h op st ps)
    (hu : ∃ m, u.sent = t.sent ++ m) : s.answers u h op st ps := by
  obtain ⟨r, l, hsent, hmem, hr⟩ := ha
  obtain ⟨m, hm⟩ := hu
  exact ⟨r, l ++ m, by rw [hm, hsent, List.append_assoc], List.mem_append_left m hmem, hr⟩

/-- What went out before does not unsay an answer. -/
theorem State.answers.earlier {s t u : State} {h : Hdr} {op : Nat} {st : Byte} {ps : List W32} (ha : t.answers u h op st ps)
    (ht : ∃ m, t.sent = s.sent ++ m) : s.answers u h op st ps := by
  obtain ⟨r, l, hsent, hmem, hr⟩ := ha
  obtain ⟨m, hm⟩ := ht
  exact ⟨r, m ++ l, by rw [hsent, hm, List.append_assoc], List.mem_append_right m hmem, hr⟩

theorem State.finish_stops (s : State) (h : Hdr) (op : Nat) (st : Byte) (ps : List W32) (hst : st = stOk ∨ st = stPending) :
    (s.finish h op st ps).cmd.stops = s.cmd.stops := by
  unfold State.finish State.countError State.sendReply
  dsimp only
  rw [if_pos hst]
  split
  · rfl
  · exact State.send_stops _ _

/-! ## STOP and ABORT change no tile at once (R57, R299) -/

/-- No register that the ways out keep lies in a tile. -/
theorem emitReg_below_tiles {a : Nat} (h : 0x20000000 ≤ a) : emitReg a = false := by
  unfold emitReg
  rw [Bool.or_eq_false_iff]
  refine ⟨decide_eq_false ?_, ?_⟩
  · simp only [List.mem_cons, List.not_mem_nil, or_false]
    omega
  · rw [Bool.and_eq_false_iff]
    exact .inr (decide_eq_false (by omega))

theorem Emits.tilesKept {l : List Nat} {s t : State} (h : Emits l s t) (hl : ∀ a ∈ l, a < 0x20000000) : s.tilesKept t :=
  ⟨h.eng, fun a ha => h.regs a (fun hm => absurd (hl a hm) (by omega)) (emitReg_below_tiles ha), h.byte⟩

theorem State.tilesKept.trans {s t u : State} (h : s.tilesKept t) (k : t.tilesKept u) : s.tilesKept u :=
  ⟨fun e => (k.1 e).trans (h.1 e), fun a ha => (k.2.1 a ha).trans (h.2.1 a ha), fun a => (k.2.2 a).trans (h.2.2 a)⟩

theorem State.heldSets_congr {s t : State} (h : t.sets = s.sets) (engs far : List Nat) : t.heldSets engs far = s.heldSets engs far := by
  simp only [State.heldSets, h]

section
variable {s : State} {h : Hdr} {w0 : W32} {set : List W32} {engs far : List Nat}
  (hgate : s.pairGate h = none)
include hgate

/-- STOP of no START set ends at once (R299). -/
theorem State.stop_none (hcode : w0.toNat < 4) (hset : s.readSet w0.toNat set (twinFlag h) false = some (engs, far))
    (hheld : s.heldSets engs far = []) : s.stop h w0 set = s.finish h 0x22 stOk [0, 0] := by
  simp [State.stop, hgate, Nat.not_le.mpr hcode, hset, hheld]

/-- The state in which STOP marks its sets: answered PENDING, its routine running in the FM, relayed. -/
def State.stopBegun (s : State) (h : Hdr) (w0 : W32) (set : List W32) : State :=
  ((s.finish h 0x22 stPending).setLong .fm (some { op := 0x22, h, arg := w0, tiles := [], failed := false, journal := []
                                                   answered := false, sig := [] })).relayCmd h 0x22 (w0 :: set) false

theorem State.stop_held (hcode : w0.toNat < 4) (hset : s.readSet w0.toNat set (twinFlag h) false = some (engs, far))
    (hheld : s.heldSets engs far ≠ []) (hfree : s.long .fm = none) :
    s.stop h w0 set = { (s.stopBegun h w0 set).markStop ((s.heldSets engs far).map (·.id)) with
      cmd := { (s.stopBegun h w0 set).cmd with
        stops := (s.stopBegun h w0 set).cmd.stops ++ [(h, (s.heldSets engs far).map (·.id))] } } := by
  obtain ⟨g, gs, hcons⟩ := List.exists_cons_of_ne_nil hheld
  simp only [State.stop, hgate, if_neg (Nat.not_le.mpr hcode), hset, hcons, List.map_cons]
  rw [State.startLong, hfree]
  rfl

/-- ABORT asks for the removal of the sets that hold a named engine, and answers the block (R57, R299). -/
theorem State.abort_of_set {w1 : W32} (hcode : w1.toNat < 4)
    (hset : s.readSet w1.toNat set (twinFlag h) false = some (engs, far)) :
    let e := s.abortBlock h w0
    s.abort h w0 w1 set = ((s.relayCmd h 0x23 (e :: w1 :: set) false).abortAt engs far e).finish h 0x23 stOk [e] := by
  simp [State.abort, hgate, Nat.not_le.mpr hcode, hset]

end

theorem State.stopBegun_emits (s : State) (h : Hdr) (w0 : W32) (set : List W32) :
    Emits [ctrlAddr .fm 8] (s.finish h 0x22 stPending) (s.stopBegun h w0 set) ∧
      (s.stopBegun h w0 set).cmd.stops = s.cmd.stops := by
  obtain ⟨hrelay, hstops⟩ := State.relayCmd_emits ((s.finish h 0x22 stPending).setLong .fm (some {
    op := 0x22, h, arg := w0, tiles := [], failed := false, journal := [], answered := false, sig := [] })) h 0x22 (w0 :: set) false
  refine ⟨(State.setLong_emits _ .fm _).trans (hrelay.mono (by simp)), ?_⟩
  exact hstops.trans (State.finish_stops s h 0x22 stPending [] (.inr rfl))

/-- A STOP that holds a set marks it, waits for it, and changes no tile (R299). -/
theorem State.stop_held_leaves (s : State) (h : Hdr) (w0 : W32) (set : List W32) (ids : List Nat) (t : State)
    (ht : t = { (s.stopBegun h w0 set).markStop ids with
      cmd := { (s.stopBegun h w0 set).cmd with stops := (s.stopBegun h w0 set).cmd.stops ++ [(h, ids)] } }) :
    s.tilesKept t ∧ t.sets = s.sets.map (fun g => if g.id ∈ ids then { g with stopping := true } else g) ∧
      t.cmd.stops = s.cmd.stops ++ [(h, ids)] ∧ (ackReq h = true → s.answers t h 0x22 stPending []) := by
  obtain ⟨hbegun, hstops⟩ := State.stopBegun_emits s h w0 set
  have hfinish := State.finish_emits s h 0x22 stPending []
  have hall := (hfinish.mono (l' := [ctrlAddr .fm 8]) (by simp)).trans hbegun
  have hsets : (s.stopBegun h w0 set).sets = s.sets := by rw [hall.frame]
  subst ht
  refine ⟨(hall.tilesKept (by decide)).trans ⟨fun _ => rfl, fun _ _ => rfl, fun _ => rfl⟩, ?_, ?_, fun hack => ?_⟩
  · show (s.stopBegun h w0 set).sets.map _ = _
    rw [hsets]
  · show (s.stopBegun h w0 set).cmd.stops ++ _ = _
    rw [hstops]
  · exact (State.finish_answers (.inr rfl) (.inl hack)).later hbegun.sent

theorem bmax_eq (a b : W32) : bmax a b = if (a - b).toInt < 0 then b else a := by
  unfold bmax bge bdiff
  by_cases h : (a - b).toInt < 0
  · rw [if_pos h, if_neg (by simpa only [decide_eq_true_eq, not_le] using h)]
  · rw [if_neg h, if_pos (by simpa only [decide_eq_true_eq] using not_lt.mp h)]

/-- Where the removal of an ABORT acts: the block named, or the earliest (R57; log entry 18). -/
theorem State.abortBlock_eq (s : State) (h : Hdr) (w0 : W32) :
    let least := s.pin + 4 + (if twinFlag h then 20 else 0) + (if pairFlag h then 20 else 0)
    s.abortBlock h w0 = if w0 = 0 ∨ (w0 - least).toInt < 0 then least else w0 := by
  intro least
  have hblock : s.abortBlock h w0 = if w0 = 0 then least else bmax w0 least := rfl
  rw [hblock, bmax_eq]
  by_cases h0 : w0 = 0
  · rw [if_pos h0, if_pos (.inl h0)]
  · rw [if_neg h0]
    simp only [h0, false_or]

/-- An ABORT answers its block, asks for the removal of the sets it holds, and changes no tile (R57, R299). -/
theorem State.abort_leaves (s : State) (h : Hdr) (ps : List W32) (engs far : List Nat) (e : W32) :
    let t := ((s.relayCmd h 0x23 ps false).abortAt engs far e).finish h 0x23 stOk [e]
    s.tilesKept t ∧ t.sets = s.sets ∧ s.answers t h 0x23 stOk [e] ∧
      (s.heldSets engs far ≠ [] → t.hem.removals = s.hem.removals ++ [.abort ((s.heldSets engs far).map (·.id))
        (((s.heldSets engs far).flatMap (fun g => g.members ++ g.halted)).dedup) e]) := by
  intro t
  obtain ⟨hrelay, -⟩ := State.relayCmd_emits s h 0x23 ps false
  let asked := (s.relayCmd h 0x23 ps false).abortAt engs far e
  have hheld : (s.relayCmd h 0x23 ps false).heldSets engs far = s.heldSets engs far :=
    State.heldSets_congr (by rw [hrelay.frame]) engs far
  have hasked : asked = { s.relayCmd h 0x23 ps false with hem := asked.hem } := by
    unfold asked State.abortAt
    dsimp only
    split <;> rfl
  have hfinish : Emits [] asked t := State.finish_emits asked h 0x23 stOk [e]
  have htiles : (s.relayCmd h 0x23 ps false).tilesKept asked := by
    rw [hasked]
    exact ⟨fun _ => rfl, fun _ _ => rfl, fun _ => rfl⟩
  refine ⟨((hrelay.tilesKept (by simp)).trans htiles).trans (hfinish.tilesKept (by simp)), ?_, ?_, fun hne => ?_⟩
  · rw [hfinish.frame]
    show asked.sets = s.sets
    rw [hasked, hrelay.frame]
  · refine (State.finish_answers (s := asked) (.inl rfl) (.inr (by simp))).earlier ?_
    rw [hasked]
    exact hrelay.sent
  · have hhem : t.hem = asked.hem := by rw [hfinish.frame]
    have hremovals : asked = (s.relayCmd h 0x23 ps false).askRemoval (.abort ((s.heldSets engs far).map (·.id))
        (((s.heldSets engs far).flatMap (fun g => g.members ++ g.halted)).dedup) e) := by
      unfold asked State.abortAt
      rw [hheld, if_neg (by simpa using hne)]
    have hbefore : (s.relayCmd h 0x23 ps false).hem = s.hem := by rw [hrelay.frame]
    rw [hhem, hremovals]
    show (s.relayCmd h 0x23 ps false).hem.removals ++ _ = _
    rw [hbefore]

/-- Settles O15: both commands act on the START sets that hold a named engine; what changes before the rendezvous or the block is the
command unit, the marks of the sets or the removals that wait. The 20 blocks for each seam are the model's choice (log entry 18). -/
theorem stopAndAbortActOnSets : Obligations.StopAndAbortActOnSets := by
  unfold Obligations.StopAndAbortActOnSets
  refine ⟨fun s h w0 set engs far ⟨ha, hr, ht, hc, hn, hg⟩ hgate hcode hset => ?_,
    fun s h w0 w1 set engs far ⟨ha, hr, ht, hc, hn, hg⟩ hgate hcode hset => ?_⟩
  · have hexec : exec (.stop h w0 set) s = .next (s.stop h w0 set) := by
      show execStop h w0 set s = _
      rw [execStop, State.runCmd_taken s h 0x22 true _ 0 ha hr ht hc hn hg]
    refine ⟨fun hheld hfree => ⟨_, hexec, ?_⟩, fun hheld => ⟨_, hexec, ?_⟩⟩
    · exact State.stop_held_leaves s h w0 set _ _ (State.stop_held hgate hcode hset hheld hfree)
    · rw [State.stop_none hgate hcode hset hheld]
      have hfinish := State.finish_emits s h 0x22 stOk [0, 0]
      exact ⟨hfinish.tilesKept (by simp), by rw [hfinish.frame], State.finish_answers (.inl rfl) (.inr (by simp))⟩
  · intro least e
    have hexec : exec (.abort h w0 w1 set) s = .next (s.abort h w0 w1 set) := by
      show execAbort h w0 w1 set s = _
      rw [execAbort, State.runCmd_taken s h 0x23 true _ 0 ha hr ht hc hn hg]
    rw [State.abort_of_set hgate hcode hset, State.abortBlock_eq] at hexec
    exact ⟨_, hexec, State.abort_leaves s h _ engs far e⟩

end Sys2Proof.Machine

namespace Sys2Proof.Machine

/-! ## The registers of the Hem's engine sets (R64) -/

theorem hemAddr_ne {e off off' : Nat} (h : off ≠ off') : hemAddr e off ≠ hemAddr e off' := by
  unfold hemAddr
  omega

theorem hemAddr_ne_low {e off a : Nat} (h : a < 0x20000000) : hemAddr e off ≠ a := by
  unfold hemAddr tileBase
  omega

theorem hemFlags_field {e : Nat} (he : e < 1280) : isFieldSource (hemFlags e).source = true := by
  simp [isFieldSource, hemFlags, he]

/-! ## A descriptor that the Hem does not take (R45, R46, R58) -/

/-- An engine released from a wait goes on (R43, R91). -/
def Engine.released (cause : Nat) (x : Engine) : Engine :=
  if x.st = .waiting ∧ x.cause = cause then { x with st := .running, cause := 0 } else x

theorem State.release_eng (s : State) (e cause : Nat) : (s.release e cause).eng e = (s.eng e).released cause :=
  State.eng_modEng_same s e _

theorem Engine.released_fields (cause : Nat) (x : Engine) : (x.released cause).offer = x.offer ∧ (x.released cause).work = x.work ∧
    (x.released cause).cur = x.cur ∧ (x.released cause).stream = x.stream ∧
    (x.st = .waiting → x.cause = cause → (x.released cause).st = .running) := by
  unfold Engine.released
  split
  · exact ⟨rfl, rfl, rfl, rfl, fun _ _ => rfl⟩
  · rename_i h
    exact ⟨rfl, rfl, rfl, rfl, fun hst hcause => absurd ⟨hst, hcause⟩ h⟩

/-- Of the engine a dropped offer takes live arms alone. -/
theorem State.dropOffer_eng (s : State) (e : Nat) (d : Desc) (c : Nat) :
    ∃ l, (s.dropOffer e d c).eng e = { s.eng e with live := l } := by
  have hkill : (s.killWindows e d c).eng e = s.eng e := by
    rw [State.killWindows_frame]
    rfl
  unfold State.dropOffer State.lapseArm
  split
  · rw [State.eng_modEng_same, hkill]
    exact ⟨_, rfl⟩
  · exact ⟨_, hkill⟩

theorem State.dropOffer_reg (s : State) (e : Nat) (d : Desc) (c a : Nat) : (s.dropOffer e d c).reg a = s.reg a := by
  rw [State.dropOffer_frame]
  rfl

theorem State.dropOffer_byte (s : State) (e : Nat) (d : Desc) (c a : Nat) : (s.dropOffer e d c).byte a = s.byte a := by
  rw [State.dropOffer_frame]
  rfl

@[simp] theorem State.setReg_eng (s : State) (a : Nat) (v : W32) (e : Nat) : (s.setReg a v).eng e = s.eng e := rfl

@[simp] theorem State.setReg_byte (s : State) (a : Nat) (v : W32) (b : Nat) : (s.setReg a v).byte b = s.byte b := rfl

@[simp] theorem State.addSat_eng (s : State) (a n e : Nat) : (s.addSat a n).eng e = s.eng e := rfl

@[simp] theorem State.addSat_byte (s : State) (a n b : Nat) : (s.addSat a n).byte b = s.byte b := rfl

theorem State.countDiscard_eng (s : State) (e f : Nat) : (s.countDiscard e).eng f = s.eng f := by
  unfold State.countDiscard
  rw [State.addSat_eng, State.addSat_eng]

theorem State.countDiscard_byte (s : State) (e a : Nat) : (s.countDiscard e).byte a = s.byte a := by
  unfold State.countDiscard
  rw [State.addSat_byte, State.addSat_byte]

/-- A discarded offer is counted (R58, R60). -/
theorem State.countDiscard_counts (s : State) (e : Nat) :
    ((s.countDiscard e).reg (hemAddr e 0x20)).toNat = min 0xFFFFFFFF ((s.reg (hemAddr e 0x20)).toNat + 1) ∧
      ((s.countDiscard e).reg aDiscardTotal).toNat = min 0xFFFFFFFF ((s.reg aDiscardTotal).toNat + 1) := by
  have hne : hemAddr e 0x20 ≠ aDiscardTotal := hemAddr_ne_low (by decide)
  unfold State.countDiscard
  refine ⟨?_, ?_⟩
  · rw [State.reg_addSat, if_neg hne, State.addSat_toNat]
  · rw [State.addSat_toNat, State.reg_addSat, if_neg hne.symm]

/-- What a judged offer leaves of its engine: no offer, the accepted work and cursor as before; an engine that waits for the answer goes
on. -/
def Engine.answered (x y : Engine) : Prop :=
  y.offer = none ∧ y.work = x.work ∧ y.cur = x.cur ∧ (x.st = .waiting → x.cause = 1 → y.st = .running)

theorem State.dropAndRelease_answered {s : State} {e : Nat} {x : Engine} (hs : s.eng e = { x with offer := none }) (d : Desc) (c : Nat) :
    x.answered (((s.dropOffer e d c).release e 1).eng e) := by
  obtain ⟨l, hl⟩ := State.dropOffer_eng s e d c
  rw [State.release_eng, hl, hs]
  obtain ⟨hoffer, hwork, hcur, -, hst⟩ := Engine.released_fields 1 { x with offer := none, live := l }
  exact ⟨hoffer, hwork, hcur, hst⟩

/-- An offer for a disabled port is discarded (R45, R46). -/
theorem State.discardOffer_leaves (s : State) (e : Nat) (d : Desc) : let t := s.discardOffer e d
    (s.eng e).answered (t.eng e) ∧ (∀ a, t.reg a = (s.countDiscard e).reg a) ∧ s.sameMem t := by
  have heng : ((s.modEng e (fun x => { x with offer := none })).countDiscard e).eng e = { s.eng e with offer := none } :=
    (State.countDiscard_eng _ e e).trans (State.eng_modEng_same s e _)
  have hreg : ∀ a, (s.discardOffer e d).reg a = ((s.modEng e (fun x => { x with offer := none })).countDiscard e).reg a :=
    fun a => State.dropOffer_reg _ e d 1 a
  refine ⟨State.dropAndRelease_answered heng d 1, fun a => ?_, fun a => ?_⟩
  · rw [hreg]
    unfold State.countDiscard
    rw [State.reg_addSat, State.reg_addSat, State.reg_addSat, State.reg_addSat, State.reg_addSat, State.reg_addSat, State.modEng_reg,
      State.modEng_reg, State.modEng_reg]
  · exact (State.dropOffer_byte _ e d 1 a).trans (State.countDiscard_byte _ e a)

/-! ## A refusal (R50-R53) -/

/-- LAST_REFUSED_INFO of a refusal (R53, R64). -/
def State.refusalInfo (s : State) (d : Desc) (code : Nat) : W32 :=
  BitVec.ofNat 32 (d.kind * 2 ^ 20 + (BitVec.ofInt 16 (max (-32767) (min 32767 (bdiff d.start s.admitBlock)))).toNat * 16 + code)

theorem State.refusalInfo_code (s : State) (d : Desc) {code : Nat} (h : code < 16) : wfld (s.refusalInfo d code) 3 0 = code := by
  unfold State.refusalInfo wfld
  rw [BitVec.toNat_ofNat]
  omega

/-- The state in which a refused offer's latest refusal and counts stand (R50, R53). -/
def State.refusalNoted (s : State) (e : Nat) (d : Desc) (code : Nat) : State :=
  ((((s.noteRefusal.modEng e (fun x => { x with offer := none })).setReg (hemAddr e 0x10) d.start).setReg (hemAddr e 0x14)
    (s.refusalInfo d code)).addSat (hemAddr e 0x1C) 1).addSat 0x1001001C 1

theorem State.refusalNoted_reg (s : State) (e : Nat) (d : Desc) (code a : Nat) : (s.refusalNoted e d code).reg a =
    if a = 0x1001001C then BitVec.ofNat 32 (min 0xFFFFFFFF ((s.reg 0x1001001C).toNat + 1))
    else if a = hemAddr e 0x1C then BitVec.ofNat 32 (min 0xFFFFFFFF ((s.reg (hemAddr e 0x1C)).toNat + 1))
    else if a = hemAddr e 0x14 then s.refusalInfo d code else if a = hemAddr e 0x10 then d.start else s.reg a := by
  have hlow : ∀ off, (0x1001001C : Nat) ≠ hemAddr e off := fun _ => (hemAddr_ne_low (by decide)).symm
  have hne : ∀ off, off ≠ 0x1C → hemAddr e 0x1C ≠ hemAddr e off := fun _ h => hemAddr_ne h.symm
  unfold State.refusalNoted
  rw [State.reg_addSat, State.reg_addSat, State.reg_addSat, State.reg_setReg, State.reg_setReg, State.reg_setReg, State.reg_setReg,
    State.reg_setReg, State.reg_setReg]
  simp only [if_neg (hlow _), if_neg (hne 0x14 (by decide)), if_neg (hne 0x10 (by decide))]
  rfl

theorem State.refusalNoted_eng (s : State) (e : Nat) (d : Desc) (code : Nat) :
    (s.refusalNoted e d code).eng e = { s.eng e with offer := none } := by
  unfold State.refusalNoted
  rw [State.addSat_eng, State.addSat_eng, State.setReg_eng, State.setReg_eng, State.eng_modEng_same]
  rfl

theorem State.refusalNoted_byte (s : State) (e : Nat) (d : Desc) (code a : Nat) : (s.refusalNoted e d code).byte a = s.byte a := by
  unfold State.refusalNoted
  rw [State.addSat_byte, State.addSat_byte, State.setReg_byte, State.setReg_byte, State.modEng_byte]
  rfl

theorem State.refuse_eq (s : State) (e : Nat) (d : Desc) {code : Nat} (h : code ≠ 4) : s.refuse e d code =
    (((s.refusalNoted e d code).flag (hemFlags e) (code - 1)).dropOffer e d 0).release e 1 := if_neg h

/-- A refusal, but for an under-run's: its flag, the latest refusal and the counts (R50-R53). -/
theorem State.refuse_leaves (s : State) {e : Nat} (he : e < 1280) (d : Desc) {code : Nat} (h4 : code ≠ 4) (h0 : 1 ≤ code) (h16 : code < 16) :
    let t := s.refuse e d code
    (s.eng e).answered (t.eng e) ∧ t.bit (hemAddr e 0x08) (code - 1) = true ∧ t.reg (hemAddr e 0x10) = d.start ∧
      t.fld (hemAddr e 0x14) 3 0 = code ∧ (t.reg (hemAddr e 0x1C)).toNat = min 0xFFFFFFFF ((s.reg (hemAddr e 0x1C)).toNat + 1) ∧
      (t.reg 0x1001001C).toNat = min 0xFFFFFFFF ((s.reg 0x1001001C).toNat + 1) ∧ s.sameMem t := by
  intro t
  have hfield := hemFlags_field he
  have hemit := State.flag_emits (s.refusalNoted e d code) (hemFlags e) (code - 1) (by show e < 1344; omega)
  have hreg : ∀ a, a ≠ hemAddr e 0x08 → t.reg a = (s.refusalNoted e d code).reg a := fun a ha => by
    show (s.refuse e d code).reg a = _
    rw [State.refuse_eq s e d h4]
    exact (State.dropOffer_reg _ e d 0 a).trans (State.reg_flag_of_field hfield _ _ ha)
  have hlow : ∀ off, hemAddr e off ≠ 0x1001001C := fun _ => hemAddr_ne_low (by decide)
  refine ⟨?_, ?_, ?_, ?_, ?_, ?_, fun a => ?_⟩
  · show (s.eng e).answered ((s.refuse e d code).eng e)
    rw [State.refuse_eq s e d h4]
    refine State.dropAndRelease_answered ?_ d 0
    rw [hemit.eng, State.refusalNoted_eng]
  · show (s.refuse e d code).bit _ _ = true
    rw [State.refuse_eq s e d h4, State.bit]
    refine Eq.trans ?_ (State.bit_flag_of_field hfield (s.refusalNoted e d code) (b := code - 1) (by omega))
    exact congrArg (fun v : W32 => v.getLsbD (code - 1)) (State.dropOffer_reg _ e d 0 _)
  · rw [hreg _ (hemAddr_ne (by decide)), State.refusalNoted_reg, if_neg (hlow _), if_neg (hemAddr_ne (by decide)),
      if_neg (hemAddr_ne (by decide)), if_pos rfl]
  · rw [State.fld, hreg _ (hemAddr_ne (by decide)), State.refusalNoted_reg, if_neg (hlow _), if_neg (hemAddr_ne (by decide)), if_pos rfl]
    exact State.refusalInfo_code s d h16
  · rw [hreg _ (hemAddr_ne (by decide)), State.refusalNoted_reg, if_neg (hlow _), if_pos rfl]
    simp
  · rw [hreg _ (hlow _).symm, State.refusalNoted_reg, if_pos rfl]
    simp
  · show (s.refuse e d code).byte a = _
    rw [State.refuse_eq s e d h4]
    exact (State.dropOffer_byte _ e d 0 a).trans ((hemit.byte a).trans (State.refusalNoted_byte s e d code a))

/-! ## Acceptance (R45, R49, R54, R55) -/

/-- t differs from s in the Hem's tables alone, the clamps of the ports as before. -/
def State.onlyHemTables (s t : State) : Prop := t = { s with hem := t.hem } ∧ t.hem.clamps = s.hem.clamps

theorem State.onlyHemTables.trans {s t u : State} (h : s.onlyHemTables t) (k : t.onlyHemTables u) : s.onlyHemTables u := by
  obtain ⟨ht, hc⟩ := h
  obtain ⟨hu, kc⟩ := k
  refine ⟨?_, kc.trans hc⟩
  rw [hu, ht]

theorem State.govPlace_hemTables (s : State) (r : GovReq) : s.onlyHemTables (s.govPlace r) := by
  refine ⟨rfl, ?_⟩
  unfold State.govPlace
  cases r.kind <;> rfl

theorem State.govPlaceAll_hemTables (fuel : Nat) (s : State) : s.onlyHemTables (s.govPlaceAll fuel) := by
  induction fuel generalizing s with
  | zero => exact ⟨rfl, rfl⟩
  | succ fuel ih =>
    unfold State.govPlaceAll
    split
    · exact ⟨rfl, rfl⟩
    · rename_i r _
      have herase : s.onlyHemTables { s with hem := { s.hem with requests := s.hem.requests.erase r } } := ⟨rfl, rfl⟩
      exact (herase.trans (State.govPlace_hemTables _ r)).trans (ih _)

theorem State.reserveWakes_hemTables (s : State) : s.onlyHemTables s.reserveWakes :=
  State.onlyHemTables.trans (State.govPlaceAll_hemTables _ s)
    (State.onlyHemTables.trans ⟨rfl, rfl⟩ (State.govPlaceAll_hemTables _ _))

/-- An awake port out of any clamp needs no wake (R45). -/
theorem State.wakeKnown_of_awake {s : State} {p : Nat} (hawake : s.bit (portAddr p 4) 2 = true) (hclamps : ∀ c ∈ s.hem.clamps, c.port ≠ p) :
    s.wakeKnown p = some s.pin := by
  have hnone : s.hem.clamps.filter (fun c => c.port == p) = [] := by
    simpa [List.filter_eq_nil_iff] using hclamps
  have hasleep : s.asleep p = false := by simp [State.asleep, State.awake, hawake]
  simp [State.wakeKnown, hnone, hasleep]

/-- The engine whose offer is accepted: the descriptor is queued with the samples it reserves (R49, R101). -/
def Engine.accepting (d : Desc) (b : W64) (x : Engine) : Engine :=
  { x with
    offer := none
    work := x.work ++ [{ d, stage := .queued, b64 := b, cut := none, samples := x.stream.data.take d.streamBytes }]
    stream := { x.stream with data := x.stream.data.drop d.streamBytes } }

/-- The count of an acceptance and the least lead seen (R55, R64). -/
def State.leadNoted (s : State) (e lead : Nat) : State :=
  let s := s.addSat (hemAddr e 0x18) 1
  if lead < (s.reg (hemAddr e 0xC)).toNat then s.setReg (hemAddr e 0xC) (BitVec.ofNat 32 lead) else s

/-- The registers of an acceptance: its count, the least lead seen and the lead warning (R55, R64). -/
def State.acceptNoted (s : State) (e lead : Nat) : State :=
  let s := s.leadNoted e lead
  if lead < s.fld (hemAddr e 0) 31 16 then s.flag (hemFlags e) 7 else s

theorem State.accept_eq (s : State) (e : Nat) (d : Desc) : ∃ h,
    let u : State := { s.acceptNoted e (bdiff d.start s.admitBlock).toNat with hem := h }
    s.accept e d = (u.modEng e (Engine.accepting d (u.block64 d.start))).release e 1 := ⟨_, rfl⟩

theorem State.accepting_eng (s : State) (h : Hem) (e : Nat) (d : Desc) : let u : State := { s with hem := h }
    ((u.modEng e (Engine.accepting d (u.block64 d.start))).release e 1).eng e =
      ((s.eng e).accepting d (s.block64 d.start)).released 1 := by
  intro u
  rw [State.release_eng, State.eng_modEng_same]
  rfl

theorem State.accepting_reg (s : State) (h : Hem) (e a : Nat) (f : Engine → Engine) :
    ((State.modEng { s with hem := h } e f).release e 1).reg a = s.reg a := rfl

theorem State.accepting_byte (s : State) (h : Hem) (e a : Nat) (f : Engine → Engine) :
    ((State.modEng { s with hem := h } e f).release e 1).byte a = s.byte a := rfl

theorem Emits.clk {l : List Nat} {s t : State} (h : Emits l s t) : t.clk = s.clk := by rw [h.frame]

theorem State.block64_of_clk {s t : State} (h : t.clk = s.clk) (b : W32) : t.block64 b = s.block64 b := by
  unfold State.block64 State.pin
  rw [h]

/-- What a change of registers alone keeps. -/
theorem State.regs_kept {s t : State} (h : t = { s with regs := t.regs }) :
    t.clk = s.clk ∧ (∀ e, t.eng e = s.eng e) ∧ ∀ a, t.byte a = s.byte a := by
  rw [h]
  exact ⟨rfl, fun _ => rfl, fun _ => rfl⟩

theorem State.regs_trans {s t u : State} (h : t = { s with regs := t.regs }) (k : u = { t with regs := u.regs }) :
    u = { s with regs := u.regs } := by
  rw [k, h]

theorem State.setReg_if_frame (s : State) (c : Prop) [Decidable c] (a : Nat) (v : W32) :
    (if c then s.setReg a v else s) = { s with regs := (if c then s.setReg a v else s).regs } := by
  split <;> rfl

theorem State.setReg_frame (s : State) (a : Nat) (v : W32) : s.setReg a v = { s with regs := (s.setReg a v).regs } := rfl

theorem State.addSat_frame (s : State) (a n : Nat) : s.addSat a n = { s with regs := (s.addSat a n).regs } := by
  unfold State.addSat
  exact State.setReg_frame s a _

theorem State.leadNoted_frame (s : State) (e lead : Nat) : s.leadNoted e lead = { s with regs := (s.leadNoted e lead).regs } := by
  unfold State.leadNoted
  exact State.regs_trans (State.addSat_frame s _ 1) (State.setReg_if_frame _ _ _ _)

theorem State.leadNoted_reg (s : State) (e lead a : Nat) : (s.leadNoted e lead).reg a =
    if a = hemAddr e 0xC ∧ lead < (s.reg (hemAddr e 0xC)).toNat then BitVec.ofNat 32 lead
    else if a = hemAddr e 0x18 then BitVec.ofNat 32 (min 0xFFFFFFFF ((s.reg (hemAddr e 0x18)).toNat + 1)) else s.reg a := by
  have hlead : (s.addSat (hemAddr e 0x18) 1).reg (hemAddr e 0xC) = s.reg (hemAddr e 0xC) := by
    rw [State.reg_addSat, if_neg (hemAddr_ne (by decide))]
  unfold State.leadNoted
  dsimp only
  rw [hlead]
  by_cases h : lead < (s.reg (hemAddr e 0xC)).toNat
  · rw [if_pos h, State.reg_setReg, State.reg_addSat]
    simp only [h, and_true]
  · rw [if_neg h, State.reg_addSat]
    simp only [h, and_false, if_false]

theorem State.acceptNoted_emits (s : State) {e : Nat} (he : e < 1280) (lead : Nat) :
    Emits [hemAddr e 0x08] (s.leadNoted e lead) (s.acceptNoted e lead) := by
  unfold State.acceptNoted
  generalize s.leadNoted e lead = u
  dsimp only
  split
  · exact State.flag_emits _ (hemFlags e) 7 (by show e < 1344; omega)
  · exact Emits.refl _ _

theorem State.acceptNoted_reg (s : State) {e : Nat} (he : e < 1280) (lead : Nat) {a : Nat} (ha : a ≠ hemAddr e 0x08) :
    (s.acceptNoted e lead).reg a = (s.leadNoted e lead).reg a := by
  unfold State.acceptNoted
  generalize s.leadNoted e lead = u
  dsimp only
  split
  · exact State.reg_flag_of_field (hemFlags_field he) _ 7 ha
  · rfl

/-- The engine, its registers and memory after an acceptance (R45, R49, R55). -/
def State.accepted (s t : State) (e : Nat) (d : Desc) : Prop :=
  t.eng e = ((s.eng e).accepting d (s.block64 d.start)).released 1 ∧
    (t.reg (hemAddr e 0x18)).toNat = min 0xFFFFFFFF ((s.reg (hemAddr e 0x18)).toNat + 1) ∧
    (t.reg (hemAddr e 0x0C)).toNat = min (s.reg (hemAddr e 0x0C)).toNat (bdiff d.start s.admitBlock).toNat ∧
    t.reg (hemAddr e 0x1C) = s.reg (hemAddr e 0x1C) ∧ s.sameMem t

theorem State.accept_leaves (s : State) {e : Nat} (he : e < 1280) (d : Desc) : s.accepted (s.accept e d) e d := by
  obtain ⟨h, ht⟩ := State.accept_eq s e d
  let lead := (bdiff d.start s.admitBlock).toNat
  have hemit := State.acceptNoted_emits s he lead
  obtain ⟨hclk, heng, hbyte⟩ := State.regs_kept (State.leadNoted_frame s e lead)
  have hblock := State.block64_of_clk (hemit.clk.trans hclk) d.start
  have hreg : ∀ a, a ≠ hemAddr e 0x08 → (s.accept e d).reg a = (s.leadNoted e lead).reg a := fun a ha => by
    rw [ht, State.accepting_reg, State.acceptNoted_reg s he _ ha]
  have hne : ∀ off off', off ≠ off' → hemAddr e off ≠ hemAddr e off' := fun _ _ h => hemAddr_ne h
  refine ⟨?_, ?_, ?_, ?_, fun a => ?_⟩
  · rw [ht, State.accepting_eng, hblock, hemit.eng, heng]
  · rw [hreg _ (hemAddr_ne (by decide)), State.leadNoted_reg, if_neg (fun h => hne 0x18 0xC (by decide) h.1), if_pos rfl]
    simp
  · rw [hreg _ (hemAddr_ne (by decide)), State.leadNoted_reg]
    have hlt := (s.reg (hemAddr e 0xC)).isLt
    by_cases hl : lead < (s.reg (hemAddr e 0xC)).toNat
    · rw [if_pos ⟨rfl, hl⟩, BitVec.toNat_ofNat]
      omega
    · rw [if_neg (fun h => hl h.2), if_neg (hne _ _ (by decide))]
      omega
  · rw [hreg _ (hemAddr_ne (by decide)), State.leadNoted_reg, if_neg (fun h => hne 0x1C 0xC (by decide) h.1), if_neg (hne _ _ (by decide))]
  · rw [ht, State.accepting_byte, hemit.byte, hbyte]

/-! ## The tests of a fresh offer (R45) -/

/-- The cause for which an offer is refused when it is first judged (R45, R50). -/
def State.refusalCause (s : State) (e : Nat) (d : Desc) : Option Nat :=
  if d.absent then some 5
  else if s.outOfOrder e d then some 7
  else if d.cond && decide (d.fbDelta < if d.remote then s.floorRemote else s.floorLocal) then some 2
  else if bdiff d.start s.admitBlock < 8 then some (if d.cond then 2 else 1) else none

theorem State.refusalCause_range {s : State} {e : Nat} {d : Desc} {c : Nat} (h : s.refusalCause e d = some c) :
    c ≠ 4 ∧ 1 ≤ c ∧ c < 16 := by
  have hmem : c = 5 ∨ c = 7 ∨ c = 2 ∨ c = 1 := by
    unfold State.refusalCause at h
    grind
  omega

theorem State.judge_discard {s : State} {e : Nat} (d : Desc) (hoff : s.bit (portAddr (portOfEng e) 4) 0 = false) :
    s.judge e { d := d, slot := false, stream := false } = .discard := by
  simp [State.judge, State.judgeOnce, State.portDisabled, hoff]

/-- A fresh offer for an enabled port: refused with the first cause that holds, else it is for the queue. -/
theorem State.judge_enabled {s : State} {e : Nat} (d : Desc) (hon : s.bit (portAddr (portOfEng e) 4) 0 = true) :
    s.judge e { d := d, slot := false, stream := false } = match s.refusalCause e d with
      | some c => .refuse c
      | none => if 32 ≤ s.queueLevel e then .slot
          else if d.kind = 1 ∧ (s.eng e).stream.free < d.streamBytes then .stream else .wake := by
  simp only [State.judge, State.judgeOnce, State.refusalCause, State.portDisabled, hon]
  generalize (d.cond && decide (d.fbDelta < if d.remote then s.floorRemote else s.floorLocal)) = late
  cases d.absent with
  | true => rfl
  | false => cases s.outOfOrder e d with
    | true => rfl
    | false => cases late with
      | true => rfl
      | false => by_cases hlead : bdiff d.start s.admitBlock < 8 <;> simp [hlead]

theorem State.admitOffer_discard {s : State} {e : Nat} {o : Offer} (ho : (s.eng e).offer = some o) (hj : s.judge e o = .discard) :
    s.admitOffer e = s.discardOffer e o.d := by
  simp only [State.admitOffer, ho, hj]

theorem State.admitOffer_refuse {s : State} {e c : Nat} {o : Offer} (ho : (s.eng e).offer = some o) (hj : s.judge e o = .refuse c) :
    s.admitOffer e = s.refuse e o.d c := by
  simp only [State.admitOffer, ho, hj]

theorem State.admitOffer_slot {s : State} {e : Nat} {o : Offer} (ho : (s.eng e).offer = some o) (hj : s.judge e o = .slot) :
    s.admitOffer e = s.modEng e (fun x => { x with offer := some { o with slot := true } }) := by
  simp only [State.admitOffer, ho, hj]

/-- An offer that needs no later wake than its START is accepted (R45). -/
theorem State.admitOffer_wake {s : State} {e : Nat} {o : Offer} (ho : (s.eng e).offer = some o) (hj : s.judge e o = .wake)
    (hwake : s.reserveWakes.wakeKnown (portOfEng e) = some s.pin) (hstart : blt o.d.start s.pin = false) :
    s.admitOffer e = s.reserveWakes.accept e o.d := by
  simp only [State.admitOffer, ho, hj, hwake, Option.getD_some, hstart, Bool.false_eq_true, if_false]

/-! ## HEM_ADMIT (R45, R46, R50-R55) -/

/-- An offer for a port that is not enabled (R45, R46, R58). -/
theorem State.admitOffer_disabled {s : State} {e : Nat} {d : Desc} (ho : (s.eng e).offer = some { d := d, slot := false, stream := false })
    (hoff : s.bit (portAddr (portOfEng e) 4) 0 = false) : let t := s.admitOffer e
    (s.eng e).answered (t.eng e) ∧ (t.reg (hemAddr e 0x20)).toNat = min 0xFFFFFFFF ((s.reg (hemAddr e 0x20)).toNat + 1) ∧
      (t.reg aDiscardTotal).toNat = min 0xFFFFFFFF ((s.reg aDiscardTotal).toNat + 1) ∧
      t.reg (hemAddr e 0x08) = s.reg (hemAddr e 0x08) ∧ t.reg (hemAddr e 0x1C) = s.reg (hemAddr e 0x1C) ∧ s.sameMem t := by
  intro t
  have ht : t = s.discardOffer e d := State.admitOffer_discard ho (State.judge_discard d hoff)
  obtain ⟨heng, hreg, hmem⟩ := State.discardOffer_leaves s e d
  obtain ⟨hown, htotal⟩ := State.countDiscard_counts s e
  have hkept : ∀ off, off ≠ 0x20 → t.reg (hemAddr e off) = s.reg (hemAddr e off) := fun off h => by
    rw [ht, hreg, State.countDiscard_reg s e _ (hemAddr_ne h) (hemAddr_ne_low (by decide))]
  refine ⟨ht ▸ heng, ?_, ?_, hkept _ (by decide), hkept _ (by decide), ht ▸ hmem⟩
  · rw [ht, hreg, hown]
  · rw [ht, hreg, htotal]

theorem State.wakeKnown_of_hemTables {s u : State} (h : s.onlyHemTables u) {p : Nat} (hawake : s.bit (portAddr p 4) 2 = true)
    (hclamps : ∀ c ∈ s.hem.clamps, c.port ≠ p) : u.wakeKnown p = some s.pin := by
  obtain ⟨hframe, hsame⟩ := h
  have hbit : u.bit (portAddr p 4) 2 = true := by rw [hframe]; exact hawake
  have hpin : u.pin = s.pin := by rw [hframe]; rfl
  rw [State.wakeKnown_of_awake hbit (hsame ▸ hclamps), hpin]

/-- An acceptance after the wakes of its admission block leaves what it leaves without them. -/
theorem State.accept_leaves_hemTables {s u : State} (h : s.onlyHemTables u) {e : Nat} (he : e < 1280) (d : Desc) :
    s.accepted (u.accept e d) e d := by
  obtain ⟨hframe, -⟩ := h
  have hleaves := State.accept_leaves u he d
  have heng : u.eng e = s.eng e := by rw [hframe]; rfl
  have hreg : ∀ a, u.reg a = s.reg a := fun a => by rw [hframe]; rfl
  have hclk : u.clk = s.clk := by rw [hframe]
  have hadmit : u.admitBlock = s.admitBlock := by simp only [State.admitBlock, State.pin, hclk]
  have hmem : ∀ a, u.byte a = s.byte a := fun a => by rw [hframe]; rfl
  simpa only [State.accepted, heng, hreg, State.block64_of_clk hclk, hadmit, State.sameMem, hmem] using hleaves

/-- The offer of an awake port out of any clamp that passes every test (R45, R49, R55). -/
theorem State.admitOffer_accepts {s : State} {e : Nat} (he : e < 1280) {d : Desc}
    (ho : (s.eng e).offer = some { d := d, slot := false, stream := false })
    (hj : s.judge e { d := d, slot := false, stream := false } = .wake) (hawake : s.bit (portAddr (portOfEng e) 4) 2 = true)
    (hclamps : ∀ c ∈ s.hem.clamps, c.port ≠ portOfEng e) (hstart : 0 ≤ (d.start - s.pin).toInt) :
    s.accepted (s.admitOffer e) e d := by
  have htables := State.reserveWakes_hemTables s
  have hbefore : blt d.start s.pin = false := by simpa [blt, bdiff] using hstart
  have htaken := State.admitOffer_wake ho hj (State.wakeKnown_of_hemTables htables hawake hclamps) hbefore
  rw [htaken]
  exact State.accept_leaves_hemTables htables he d

theorem exec_hemAdmit {s t : State} {e : Eng} (h : s.admitOffer e = t) : exec (.hemAdmit e) s = .next t.serveRuns := by
  rw [← h]
  rfl

/-- Settles O16: the tests that a fresh offer meets are read off in their order (R45), and each outcome from what it leaves. -/
theorem admissionAnswersAnOffer : Obligations.AdmissionAnswersAnOffer := by
  refine ⟨fun s e d ho => ?_, fun s e d ho => ?_⟩
  · intro x lead off code
    refine ⟨fun hoff => ?_, fun c hon hc => ?_⟩
    · obtain ⟨⟨hoffer, hwork, hcur, -⟩, hown, htotal, hflags, hrefused, hmem⟩ := State.admitOffer_disabled ho hoff
      exact ⟨s.admitOffer e, rfl, hoffer, hwork, hcur, hown, htotal, hflags, hrefused, hmem⟩
    · obtain ⟨h4, h1, h16⟩ := State.refusalCause_range (s := s) (e := e) (d := d) hc
      obtain ⟨⟨hoffer, hwork, hcur, hst⟩, hflag, hlast, hinfo, hrefused, htotal, hmem⟩ := State.refuse_leaves s e.isLt d h4 h1 h16
      have hjudge : s.judge e { d := d, slot := false, stream := false } = .refuse c := by
        have hcause : s.refusalCause e d = some c := hc
        rw [State.judge_enabled d (Bool.of_not_eq_false hon), hcause]
      have hrefuses := State.admitOffer_refuse ho hjudge
      refine ⟨s.refuse e d c, exec_hemAdmit hrefuses, hoffer, hwork, hcur, hst, hflag, hlast, hinfo, hrefused, htotal, hmem⟩
  · intro x p lead hon hawake hclamps habsent horder hfloor hlead hstart hstream
    have hnone : s.refusalCause e d = none := by
      have hnot : ¬ bdiff d.start s.admitBlock < 8 := by
        show ¬ lead < 8
        omega
      simp only [State.refusalCause, habsent, horder, hfloor, if_neg hnot, Bool.false_eq_true, if_false]
    have hjudge := State.judge_enabled d hon
    rw [hnone] at hjudge
    refine ⟨fun hroom => ?_, fun hfull => ?_⟩
    · have hfree : ¬ (d.kind = 1 ∧ (s.eng e).stream.free < d.streamBytes) := fun ⟨hk, hlt⟩ =>
        Nat.not_lt.mpr (hstream hk) hlt
      rw [if_neg (show ¬ 32 ≤ s.queueLevel e from Nat.not_le.mpr hroom), if_neg hfree] at hjudge
      obtain ⟨heng, hcount, hleast, hrefused, hmem⟩ := State.admitOffer_accepts e.isLt ho hjudge hawake hclamps hstart
      obtain ⟨hoffer, hwork, hcur, hstr, hst⟩ := Engine.released_fields 1 ((s.eng e).accepting d (s.block64 d.start))
      rw [← heng] at hoffer hwork hcur hstr hst
      exact ⟨s.admitOffer e, rfl, hoffer, hwork, hstr, hcur, hst, hcount, hleast, hrefused, hmem⟩
    · rw [if_pos (show 32 ≤ s.queueLevel e from hfull)] at hjudge
      refine ⟨_, exec_hemAdmit (State.admitOffer_slot ho hjudge), State.onlyEng_modEng s e _, ?_⟩
      exact State.eng_modEng_same s e _

end Sys2Proof.Machine

namespace Sys2Proof.Machine

/-! ## Device time brought up to a block (R37, R39) -/

theorem State.pin_advanceTo {s : State} {b : W32} (hrun : s.clk.run = true) (h : 0 < (b - s.pin).toInt) : (s.advanceTo b).pin = b := by
  have hd : (b - s.pin).toInt = ((b - s.pin).toNat : Int) := by
    rw [BitVec.toInt_eq_toNat_cond] at h ⊢
    split at h <;> omega
  have hlt : (b - s.pin).toNat < 2 ^ 31 := by
    have := BitVec.toInt_lt (x := b - s.pin)
    omega
  have hsub := BitVec.toNat_sub b s.pin
  have hpin : s.pin.toNat = s.clk.devtime.toNat / 64 % 2 ^ 32 := by simp [State.pin, Nat.shiftRight_eq_div_pow]
  have htime := s.clk.devtime.isLt
  have hb := b.isLt
  unfold State.advanceTo
  rw [if_pos ⟨hrun, h⟩]
  apply BitVec.eq_of_toNat_eq
  have hadv : (BitVec.ofInt 64 (bdiff b s.pin * 64)).toNat = (b - s.pin).toNat * 64 := by
    rw [bdiff, hd, BitVec.toNat_ofInt]
    omega
  show (((s.clk.devtime + BitVec.ofInt 64 (bdiff b s.pin * 64)) >>> 6).setWidth 32).toNat = b.toNat
  simp only [BitVec.toNat_setWidth, BitVec.toNat_ushiftRight, BitVec.toNat_add, hadv, Nat.shiftRight_eq_div_pow]
  omega

/-- What a change of the clocks alone keeps. -/
theorem State.clk_kept {s t : State} (h : t = { s with clk := t.clk }) :
    (∀ e, t.eng e = s.eng e) ∧ (∀ a, t.reg a = s.reg a) ∧ ∀ a, t.byte a = s.byte a := by
  rw [h]
  exact ⟨fun _ => rfl, fun _ => rfl, fun _ => rfl⟩

/-- What a change of the channels' contexts alone keeps. -/
theorem State.chans_kept {s t : State} (h : t = { s with chans := t.chans }) :
    t.clk = s.clk ∧ (∀ e, t.eng e = s.eng e) ∧ (∀ a, t.reg a = s.reg a) ∧ ∀ a, t.byte a = s.byte a := by
  rw [h]
  exact ⟨rfl, fun _ => rfl, fun _ => rfl, fun _ => rfl⟩

theorem State.pin_of_clk {s t : State} (h : t.clk = s.clk) : t.pin = s.pin := by
  unfold State.pin
  rw [h]

theorem State.latchWeights_frame (s : State) (e : Nat) (d : Desc) : s.latchWeights e d = { s with chans := (s.latchWeights e d).chans } := by
  unfold State.latchWeights
  split
  · exact foldS_rel (fun s t => t = { s with chans := t.chans }) (fun _ => rfl)
      (fun s t u h k => by rw [h] at k; exact k) _ _ (fun _ _ _ => rfl) _
  · rfl

/-- An engine with one piece of work changed. -/
def Engine.withWork (w w' : Work) (x : Engine) : Engine := { x with work := x.work.map (fun y => if y = w then w' else y) }

/-- Device time runs up to b, one piece of an engine's work changes, contexts change, and nothing else. -/
structure ReachesPins (s t : State) (e : Nat) (b : W32) (w w' : Work) : Prop where
  clk : t.clk = (s.advanceTo b).clk
  own : t.eng e = (s.eng e).withWork w w'
  others : ∀ f, f ≠ e → t.eng f = s.eng f
  regs : ∀ a, t.reg a = s.reg a
  mem : ∀ a, t.byte a = s.byte a

theorem ReachesPins.pin {s t : State} {e : Nat} {b : W32} {w w' : Work} (h : ReachesPins s t e b w w') (hrun : s.clk.run = true)
    (hb : 0 < (b - s.pin).toInt) : t.pin = b := by
  rw [State.pin_of_clk h.clk, State.pin_advanceTo hrun hb]

theorem State.modWork_reachesPins {s u : State} {b : W32} (hclk : u.clk = (s.advanceTo b).clk) (heng : ∀ f, u.eng f = s.eng f)
    (hreg : ∀ a, u.reg a = s.reg a) (hmem : ∀ a, u.byte a = s.byte a) (e : Nat) (w w' : Work) :
    ReachesPins s (u.modWork e w w') e b w w' := by
  refine ⟨hclk, ?_, fun f hf => ?_, hreg, hmem⟩
  · rw [← heng e]
    exact State.eng_modEng_same u e _
  · rw [← heng f]
    exact (State.eng_modEng u e f _).trans (if_neg hf)

theorem ReachesPins.chans {s t u : State} {e : Nat} {b : W32} {w w' : Work} (h : ReachesPins s t e b w w')
    (k : u = { t with chans := u.chans }) : ReachesPins s u e b w w' := by
  obtain ⟨kclk, keng, kreg, kmem⟩ := State.chans_kept k
  exact ⟨kclk.trans h.clk, (keng e).trans h.own, fun f hf => (keng f).trans (h.others f hf), fun a => (kreg a).trans (h.regs a),
    fun a => (kmem a).trans (h.mem a)⟩

theorem ReachesPins.passes {s t u : State} {e : Nat} {b : W32} {w w' : Work} (h : ReachesPins s t e b w w') (k : t.passes u) :
    u.clk = (s.advanceTo b).clk ∧ u.eng e = (s.eng e).withWork w w' ∧ (∀ f, f ≠ e → u.eng f = s.eng f) ∧ ∀ a, u.byte a = s.byte a := by
  unfold State.passes at k
  rw [k]
  exact ⟨h.clk, h.own, h.others, h.mem⟩

/-- A descriptor leaves its queue for the pipe (R40, R43). -/
theorem State.dequeue_reachesPins (s : State) (e : Nat) (b : W32) (w w' : Work) (d : Desc) :
    ReachesPins s (((s.advanceTo b).modWork e w w').latchWeights e d) e b w w' := by
  obtain ⟨heng, hreg, hmem⟩ := State.clk_kept (State.advanceTo_frame s b)
  exact (State.modWork_reachesPins rfl heng hreg hmem e w w').chans (State.latchWeights_frame _ e d)

/-- A segment plays from its start block on (R49). -/
theorem State.segment_reachesPins (s : State) (e : Nat) (b : W32) (w w' : Work) (d : Desc) :
    ReachesPins s (((s.advanceTo b).latchWeights e d).modWork e w w') e b w w' := by
  obtain ⟨heng, hreg, hmem⟩ := State.clk_kept (State.advanceTo_frame s b)
  obtain ⟨kclk, keng, kreg, kmem⟩ := State.chans_kept (State.latchWeights_frame (s.advanceTo b) e d)
  exact State.modWork_reachesPins kclk (fun f => (keng f).trans (heng f)) (fun a => (kreg a).trans (hreg a))
    (fun a => (kmem a).trans (hmem a)) e w w'

/-! ## Saturated samples counted (R122) -/

theorem portFlags_field {p : Nat} (hp : p < 448) : isFieldSource (portFlags p).source = true := by
  have : port0Eng p < 1280 := by
    unfold port0Eng
    split
    · omega
    · split <;> omega
  simp [isFieldSource, portFlags, this]

/-- The saturated samples that are counted now. -/
def State.clipsNow (s : State) (p : Nat) : Nat :=
  ((List.range (s.pin64.toNat - s.clipFrom p)).map (fun i => s.clipsIn p (s.clipFrom p + i))).sum

/-- CLIP_COUNT rises by the saturated samples; it and the flags alone change among the registers (R122). -/
theorem State.clipUp_regs (s : State) {p : Nat} (hp : p < 448) :
    ((s.clipUp p).reg (portAddr p 0x0C)).toNat = min 0xFFFFFFFF ((s.reg (portAddr p 0x0C)).toNat + s.clipsNow p) ∧
      s.sameRegs (s.clipUp p) [portAddr p 0x0C, portAddr p 0x08] := by
  have hne : portAddr p 0x0C ≠ (portFlags p).addr := by
    show portAddr p 0x0C ≠ portAddr p 0x08
    unfold portAddr
    omega
  have hclip : s.clipUp p = if s.clipsNow p = 0
      then { s with synth := { s.synth with counted := tabIns p s.pin64 s.synth.counted } }
      else (State.addSat { s with synth := { s.synth with counted := tabIns p s.pin64 s.synth.counted } } (portAddr p 0xC)
        (s.clipsNow p)).flag (portFlags p) 0 := rfl
  have hcounted : ∀ a, State.reg { s with synth := { s.synth with counted := tabIns p s.pin64 s.synth.counted } } a = s.reg a := fun _ => rfl
  rw [hclip]
  generalize s.clipsNow p = n
  generalize ({ s with synth := { s.synth with counted := tabIns p s.pin64 s.synth.counted } } : State) = u at hcounted ⊢
  split
  · rename_i hn
    have := (s.reg (portAddr p 0x0C)).isLt
    refine ⟨?_, fun a _ => hcounted a⟩
    rw [hcounted]
    omega
  · refine ⟨?_, fun a ha => ?_⟩
    · rw [State.reg_flag_of_field (portFlags_field hp) _ 0 hne, State.addSat_toNat, hcounted]
    · simp only [List.mem_cons, List.not_mem_nil, or_false, not_or] at ha
      obtain ⟨hcount, hflags⟩ := ha
      rw [State.reg_flag_of_field (portFlags_field hp) _ 0 hflags, State.reg_addSat, if_neg hcount, hcounted]

theorem portOfEng_lt {e : Nat} (he : e < 1280) : portOfEng e < 448 := by
  unfold portOfEng
  split
  · omega
  · split <;> omega

/-! ## A MARK at its block (R89) -/

/-- A change of pockets and their flags: no engine or memory, nothing sent, and not whether the unit is muted. -/
structure PocketsOnly (s t : State) : Prop where
  run : KeepsRun s t
  sent : t.sent = s.sent
  pins : t.pins = s.pins
  pair : t.pair = s.pair

theorem PocketsOnly.muted {s t : State} (h : PocketsOnly s t) : t.muted = s.muted := by
  unfold State.muted
  rw [h.pins, h.pair]

theorem PocketsOnly.refl (s : State) : PocketsOnly s s := ⟨.refl s, rfl, rfl, rfl⟩

theorem PocketsOnly.trans {s t u : State} (h : PocketsOnly s t) (k : PocketsOnly t u) : PocketsOnly s u :=
  ⟨h.run.trans k.run, k.sent.trans h.sent, k.pins.trans h.pins, k.pair.trans h.pair⟩

theorem PocketsOnly.setReg {s t : State} (h : PocketsOnly s t) (a : Nat) (v : W32) : PocketsOnly s (t.setReg a v) :=
  h.trans ⟨⟨rfl, rfl, rfl⟩, rfl, rfl, rfl⟩

theorem PocketsOnly.setPocket {s t : State} (h : PocketsOnly s t) (k : Nat) (x : Pocket) : PocketsOnly s (t.setPocket k x) :=
  h.trans ⟨⟨rfl, rfl, rfl⟩, rfl, rfl, rfl⟩

theorem PocketsOnly.flag {s t : State} (h : PocketsOnly s t) {f : FlagReg} (hf : isFieldSource f.source = true) (hsrc : f.source < 1344)
    (b : Nat) : PocketsOnly s (t.flag f b) := by
  have hemit := State.flag_emits t f b hsrc
  exact h.trans ⟨hemit.keepsRun, ((Silent.refl t).flag f b hf).sent, by rw [hemit.frame], by rw [hemit.frame]⟩

theorem State.missCause_pocketsOnly {k : Nat} (hk : k < 16) (s : State) (n : Nat) : PocketsOnly s (s.missCause k n) := by
  unfold State.missCause State.addSat
  split
  · exact .refl s
  · exact (((PocketsOnly.refl s).setPocket k _).setReg _ _).flag (f := pocketFlags k) (pocketFlags_field hk)
      (by show 512 + 32 * k < 1344; omega) 2

theorem State.pocketCause_pocketsOnly {k : Nat} (hk : k < 16) (s : State) (cause : Nat) (p : W64) :
    PocketsOnly s (s.pocketCause k cause p) := by
  unfold State.pocketCause
  dsimp only
  split
  · exact .refl s
  · split
    · exact (PocketsOnly.refl s).setPocket k _
    · exact State.missCause_pocketsOnly hk s 1
    · exact State.missCause_pocketsOnly hk s 1
    · exact .refl s

theorem State.pocketMark_pocketsOnly (s : State) (e : Nat) (at' : Tm) : PocketsOnly s (s.pocketMark e at') := by
  refine foldS_rel PocketsOnly .refl (fun _ _ _ => .trans) _ _ (fun k hk u => ?_) s
  split
  · exact State.pocketCause_pocketsOnly (List.mem_range.mp hk) u 2 _
  · exact .refl u

theorem State.bit_flagD_of_field {f : FlagReg} (hf : isFieldSource f.source = true) (s : State) {b : Nat} (hb : b < 32) (d : BitVec 16) :
    (s.flagD f b d).bit f.addr b = true := by
  unfold State.flagD State.raise
  rw [if_pos hf]
  split
  · assumption
  · rw [State.bit, State.fieldRaise_reg, State.reg_setReg, if_pos rfl]
    simp [hb]

/-- A MARK that is gone from its engine's work at its block, the pockets that it triggers told (R89, R242). -/
def State.markTaken (s : State) (e : Nat) (w : Work) : State :=
  ((s.advanceTo w.d.start).modEng e (fun x => { x with work := x.work.erase w })).pocketMark e w.d.at

theorem State.markTaken_leaves (s : State) (e : Nat) (w : Work) : let t := s.markTaken e w
    t.eng e = { s.eng e with work := (s.eng e).work.erase w } ∧ t.sent = s.sent ∧ t.muted = s.muted ∧ s.sameMem t := by
  have hpockets := State.pocketMark_pocketsOnly ((s.advanceTo w.d.start).modEng e (fun x => { x with work := x.work.erase w })) e w.d.at
  have hclk := State.advanceTo_frame s w.d.start
  obtain ⟨heng, -, hmem⟩ := State.clk_kept hclk
  have hsent : (s.advanceTo w.d.start).sent = s.sent := by rw [hclk]
  have hmuted : (s.advanceTo w.d.start).muted = s.muted := by
    unfold State.muted
    rw [hclk]
  refine ⟨(hpockets.run.eng e).trans ?_, hpockets.sent.trans hsent, hpockets.muted.trans hmuted,
    fun a => (hpockets.run.sameMem a).trans (hmem a)⟩
  rw [State.eng_modEng_same, heng]

/-- A MARK with MODE 1 sets ENG_FLAGS.MARK (R89). -/
theorem exec_markOutPulse_flag {s : State} {e : Eng} {w : Work} {pin width : Nat} {code : BitVec 16}
    (hw : s.firstWork e (fun w => w.d.kind == 3) = some w) (hb : w.d.body = .mark true pin width code) :
    exec (.markOutPulse e) s = .next ((s.markTaken e w).flagD (engFlags e) 7 code) := by
  show execMarkOutPulse e s = _
  simp only [execMarkOutPulse, hw, hb]
  rfl

/-- The pulse of a pin reaches its last block (R89). -/
def State.markPin (s : State) (pin : Nat) (upto : W32) : State :=
  { s with pins := { s.pins with markOut := tabSet 0 s.pins.markOut pin upto } }

/-- A MARK with MODE 0 on a unit that is not muted sends its pulse (R89, R350). -/
theorem exec_markOutPulse_pulse {s : State} {e : Eng} {w : Work} {pin width : Nat} {code : BitVec 16}
    (hw : s.firstWork e (fun w => w.d.kind == 3) = some w) (hb : w.d.body = .mark false pin width code) (hm : (s.markTaken e w).muted = false) :
    ∃ upto, exec (.markOutPulse e) s = .next (((s.markTaken e w).markPin pin upto).send (.pulse pin width w.d.start)) := by
  unfold State.markTaken at hm
  show ∃ upto, execMarkOutPulse e s = _
  simp only [execMarkOutPulse, hw, hb, hm, Bool.false_eq_true, if_false]
  exact ⟨_, rfl⟩

theorem exec_segmentStart {s : State} {e : Eng} {w : Work} (hw : s.firstWork e (fun w => w.d.isSeg && w.stage != .playing) = some w) :
    exec (.segmentStart e) s =
      .next ((((s.advanceTo w.d.start).latchWeights e w.d).modWork e w { w with stage := .playing }).clipUp (portOfEng e)) := by
  show execSegmentStart e s = _
  simp only [execSegmentStart, hw]

theorem exec_descriptorDequeue {s : State} {e : Eng} {w : Work} (hw : s.firstWork e (fun w => w.stage == .queued) = some w) :
    exec (.descriptorDequeue e) s =
      .next (((s.advanceTo (w.d.start - 12)).modWork e w { w with stage := .pipe }).latchWeights e w.d).serveRuns := by
  show execDescriptorDequeue e s = _
  simp only [execDescriptorDequeue, hw]

/-- Settles O17. The model's choices: the pin block is brought up to the block of an event that lies ahead (log entry 2), and a port's
saturated samples are counted as its segments start (log entry 122). -/
theorem acceptedWorkReachesPins : Obligations.AcceptedWorkReachesPins := by
  intro s e w hrun
  refine ⟨fun hw => ?_, fun hw => ?_, fun hw => ⟨fun pin width code hb => ?_, fun pin width code hb hm => ?_⟩⟩
  · have h := State.dequeue_reachesPins s e (w.d.start - 12) w { w with stage := .pipe } w.d
    exact ⟨_, exec_descriptorDequeue hw, h.own, h.pin hrun, h.others, fun a _ => h.regs a, h.mem⟩
  · have h := State.segment_reachesPins s e w.d.start w { w with stage := .playing } w.d
    intro p r
    refine ⟨_, exec_segmentStart hw, ?_⟩
    change ReachesPins s r _ _ _ _ at h
    show (r.clipUp p).eng e = _ ∧ (_ → (r.clipUp p).pin = _) ∧ ((r.clipUp p).reg _).toNat = _ ∧ (∀ f, _ → (r.clipUp p).eng f = _) ∧
      s.sameRegs (r.clipUp p) _ ∧ s.sameMem (r.clipUp p)
    obtain ⟨hclk, hown, hothers, hmem⟩ := h.passes (State.clipUp_passes r p)
    obtain ⟨hcount, hsame⟩ := State.clipUp_regs r (portOfEng_lt e.isLt)
    refine ⟨hown, fun hb => ?_, ?_, hothers, fun a ha => (hsame a ha).trans (h.regs a), hmem⟩
    · rw [State.pin_of_clk hclk, State.pin_advanceTo hrun hb]
    · rw [← h.regs]
      exact hcount
  · obtain ⟨heng, -, -, hmem⟩ := State.markTaken_leaves s e w
    have hemit := State.flagD_emits (s.markTaken e w) (engFlags e) 7 code (by show e.val < 1344; omega)
    refine ⟨_, exec_markOutPulse_flag hw hb, State.bit_flagD_of_field (engFlags_field e.isLt) _ (by decide) code, ?_, ?_,
      fun a => (hemit.byte a).trans (hmem a)⟩
    · rw [hemit.eng, heng]
    · rw [hemit.eng, heng]
  · obtain ⟨heng, hsent, hmuted, hmem⟩ := State.markTaken_leaves s e w
    obtain ⟨upto, hexec⟩ := exec_markOutPulse_pulse hw hb (hmuted.trans hm)
    have hemit := State.send_emits ((s.markTaken e w).markPin pin upto) (.pulse pin width w.d.start)
    have hpin : ((s.markTaken e w).markPin pin upto).eng e = { s.eng e with work := (s.eng e).work.erase w } := heng
    refine ⟨_, hexec, ?_, ?_, ?_, fun a => (hemit.byte a).trans (hmem a)⟩
    · rw [State.send_sent]
      exact congrArg (· ++ _) hsent
    · rw [hemit.eng, hpin]
    · rw [hemit.eng, hpin]

end Sys2Proof.Machine

namespace Sys2Proof.Machine

/-! ## A write to HEM_ENG_CTRL (R57, R65, R72) -/

@[simp] theorem State.setBit_eng (s : State) (a b : Nat) (v : Bool) (e : Nat) : (s.setBit a b v).eng e = s.eng e := by
  unfold State.eng
  rw [State.setBit_engines]

@[simp] theorem State.setBit_byte (s : State) (a b : Nat) (v : Bool) (m : Nat) : (s.setBit a b v).byte m = s.byte m :=
  State.byte_of_mem (State.setBit_mem s a b v) m

@[simp] theorem State.setBit_effBlock (s : State) (a b : Nat) (v : Bool) : (s.setBit a b v).effBlock = s.effBlock := by
  unfold State.effBlock
  rw [State.pin_of_clk (State.setBit_clk s a b v)]

/-- HEM_ENG_CTRL as a write leaves it with ENABLE as it was: LEAD_WARN and REMOVE_MODE written, LEAD_MIN_SEEN cleared on demand. -/
def State.hemCtrlNoted (s : State) (e : Nat) (v : W32) : State :=
  let s := s.setReg (hemAddr e 0) ((v &&& 0xFFFF0004) ||| (s.reg (hemAddr e 0) &&& 1))
  if v.getLsbD 3 then s.setReg (hemAddr e 0xC) 0xFFFFFFFF else s

theorem State.writeHemCtrl_eq (s : State) (e : Nat) (v : W32) : s.writeHemCtrl e v =
    let u := s.hemCtrlNoted e v
    if s.bit (hemAddr e 0) 0 && !v.getLsbD 0 then (u.setBit (hemAddr e 0) 0 false).askRemoval (.engine e (v.getLsbD 2) u.effBlock)
    else if !s.bit (hemAddr e 0) 0 && v.getLsbD 0 && (u.eng e).st == .disabled then
      { u.setBit (hemAddr e 0) 0 true with hem := { (u.setBit (hemAddr e 0) 0 true).hem with
        reenables := (u.setBit (hemAddr e 0) 0 true).hem.reenables ++ [(e, (u.setBit (hemAddr e 0) 0 true).effBlock)] } }
    else u := rfl

/-- What every write to HEM_ENG_CTRL leaves, ENABLE reading on. -/
structure HemCtrlSet (s t : State) (e : Nat) (v : W32) (on : Bool) : Prop where
  eng : ∀ f, t.eng f = s.eng f
  mem : s.sameMem t
  regs : s.sameRegs t [hemAddr e 0, hemAddr e 0x0C]
  warn : t.fld (hemAddr e 0) 31 16 = wfld v 31 16
  mode : t.bit (hemAddr e 0) 2 = v.getLsbD 2
  least : t.reg (hemAddr e 0x0C) = if v.getLsbD 3 then 0xFFFFFFFF else s.reg (hemAddr e 0x0C)
  enable : t.bit (hemAddr e 0) 0 = on

theorem hemCtrlWord_fields (v r : W32) : wfld ((v &&& 0xFFFF0004) ||| (r &&& 1)) 31 16 = wfld v 31 16 ∧
    ((v &&& 0xFFFF0004) ||| (r &&& 1)).getLsbD 2 = v.getLsbD 2 ∧ ((v &&& 0xFFFF0004) ||| (r &&& 1)).getLsbD 0 = r.getLsbD 0 := by
  have hhigh : ∀ j < 16, (0xFFFF0004 : W32).getLsbD (16 + j) = true ∧ (1 : W32).getLsbD (16 + j) = false := by decide
  refine ⟨Nat.eq_of_testBit_eq fun j => ?_, by simp, by simp⟩
  rw [wfld_testBit _ _ _ _ (by decide), wfld_testBit _ _ _ _ (by decide)]
  by_cases hj : j ≤ 15
  · obtain ⟨hmask, hone⟩ := hhigh j (by omega)
    rw [BitVec.getLsbD_or, BitVec.getLsbD_and, BitVec.getLsbD_and, hmask, hone]
    simp
  · simp [hj]

theorem State.hemCtrlNoted_regs (s : State) (e : Nat) (v : W32) (a : Nat) : (s.hemCtrlNoted e v).reg a =
    if a = hemAddr e 0xC ∧ v.getLsbD 3 = true then 0xFFFFFFFF
    else if a = hemAddr e 0 then (v &&& 0xFFFF0004) ||| (s.reg (hemAddr e 0) &&& 1) else s.reg a := by
  unfold State.hemCtrlNoted
  dsimp only
  by_cases h : v.getLsbD 3 = true
  · rw [if_pos h, State.reg_setReg, State.reg_setReg]
    simp only [h, and_true]
  · rw [if_neg h, State.reg_setReg]
    simp only [h, and_false, if_false, Bool.false_eq_true]

theorem State.hemCtrlNoted_frame (s : State) (e : Nat) (v : W32) :
    s.hemCtrlNoted e v = { s with regs := (s.hemCtrlNoted e v).regs } := by
  unfold State.hemCtrlNoted
  exact State.regs_trans (State.setReg_frame s _ _) (State.setReg_if_frame _ _ _ _)

theorem State.hemCtrlNoted_set (s : State) (e : Nat) (v : W32) : HemCtrlSet s (s.hemCtrlNoted e v) e v (s.bit (hemAddr e 0) 0) := by
  obtain ⟨-, heng, hmem⟩ := State.regs_kept (State.hemCtrlNoted_frame s e v)
  obtain ⟨hwarn, hmode, hon⟩ := hemCtrlWord_fields v (s.reg (hemAddr e 0))
  have hne : hemAddr e 0 ≠ hemAddr e 0xC := hemAddr_ne (by decide)
  have hctrl : (s.hemCtrlNoted e v).reg (hemAddr e 0) = (v &&& 0xFFFF0004) ||| (s.reg (hemAddr e 0) &&& 1) := by
    rw [State.hemCtrlNoted_regs, if_neg (fun h => hne h.1), if_pos rfl]
  refine ⟨heng, hmem, fun a ha => ?_, ?_, ?_, ?_, ?_⟩
  · simp only [List.mem_cons, List.not_mem_nil, or_false, not_or] at ha
    obtain ⟨hc, hl⟩ := ha
    rw [State.hemCtrlNoted_regs, if_neg (fun h => hl h.1), if_neg hc]
  · rw [State.fld, hctrl, hwarn]
  · rw [State.bit, hctrl, hmode]
  · rw [State.hemCtrlNoted_regs, if_neg hne.symm]
    simp only [true_and]
  · rw [State.bit, hctrl, hon, State.bit]

/-- ENABLE changed by itself. -/
theorem HemCtrlSet.setEnable {s t : State} {e : Nat} {v : W32} {on : Bool} (h : HemCtrlSet s t e v on) (on' : Bool) :
    HemCtrlSet s (t.setBit (hemAddr e 0) 0 on') e v on' := by
  refine ⟨fun f => (State.setBit_eng t _ 0 on' f).trans (h.eng f), fun a => (State.setBit_byte t _ 0 on' a).trans (h.mem a),
    fun a ha => ?_, ?_, ?_, ?_, ?_⟩
  · simp only [List.mem_cons, List.not_mem_nil, or_false, not_or] at ha
    rw [State.reg_setBit _ _ _ _ _ ha.1]
    exact h.regs a (by simp [ha])
  · exact (State.fld_setFld_other t (hemAddr e 0) 0 0 _ 31 16 (by decide) (by decide) (by decide)).trans h.warn
  · rw [State.bit_setBit _ _ _ _ _ _ (by decide), if_neg (fun h => absurd h.2 (by decide)), h.mode]
  · rw [State.reg_setBit _ _ _ _ _ (hemAddr_ne (by decide)), h.least]
  · rw [State.bit_setBit _ _ _ _ _ _ (by decide), if_pos ⟨rfl, rfl⟩]

theorem HemCtrlSet.hem {s t : State} {e : Nat} {v : W32} {on : Bool} (h : HemCtrlSet s t e v on) (x : Hem) :
    HemCtrlSet s { t with hem := x } e v on := ⟨h.eng, h.mem, h.regs, h.warn, h.mode, h.least, h.enable⟩

/-- Of the Hem's tables a write to HEM_ENG_CTRL puts a removal or a re-enable (R57, R72). -/
theorem State.hemCtrlNoted_hem (s : State) (e : Nat) (v : W32) :
    (s.hemCtrlNoted e v).hem = s.hem ∧ (s.hemCtrlNoted e v).effBlock = s.pin + 4 := by
  have hframe := State.hemCtrlNoted_frame s e v
  generalize s.hemCtrlNoted e v = u at hframe
  rw [hframe]
  exact ⟨rfl, rfl⟩

section
variable {s : State} {e : Nat} {v : W32}

/-- ENABLE cleared. -/
theorem State.writeHemCtrl_clears (hon : s.bit (hemAddr e 0) 0 = true) (hv : v.getLsbD 0 = false) :
    HemCtrlSet s (s.writeHemCtrl e v) e v false ∧
      (s.writeHemCtrl e v).hem = { s.hem with removals := s.hem.removals ++ [.engine e (v.getLsbD 2) (s.pin + 4)] } := by
  obtain ⟨hhem, heff⟩ := State.hemCtrlNoted_hem s e v
  have hset := (State.hemCtrlNoted_set s e v).setEnable false
  have hkept := (State.setBit_hem (s.hemCtrlNoted e v) (hemAddr e 0) 0 false).trans hhem
  rw [State.writeHemCtrl_eq]
  dsimp only
  rw [if_pos (by rw [hon, hv]; rfl), heff]
  generalize (s.hemCtrlNoted e v).setBit (hemAddr e 0) 0 false = u at hset hkept ⊢
  exact ⟨hset.hem _, by rw [State.askRemoval, hkept]⟩

/-- ENABLE set at a DISABLED engine. -/
theorem State.writeHemCtrl_sets (hon : s.bit (hemAddr e 0) 0 = false) (hv : v.getLsbD 0 = true) (hst : (s.eng e).st = .disabled) :
    HemCtrlSet s (s.writeHemCtrl e v) e v true ∧
      (s.writeHemCtrl e v).hem = { s.hem with reenables := s.hem.reenables ++ [(e, s.pin + 4)] } := by
  obtain ⟨hhem, heff⟩ := State.hemCtrlNoted_hem s e v
  have hset := (State.hemCtrlNoted_set s e v).setEnable true
  have hkept := (State.setBit_hem (s.hemCtrlNoted e v) (hemAddr e 0) 0 true).trans hhem
  have hblock := (State.setBit_effBlock (s.hemCtrlNoted e v) (hemAddr e 0) 0 true).trans heff
  have hdis : (((s.hemCtrlNoted e v).eng e).st == EngSt.disabled) = true := by
    rw [(State.hemCtrlNoted_set s e v).eng, hst]
    rfl
  rw [State.writeHemCtrl_eq]
  dsimp only
  rw [if_neg (by rw [hon, hv]; decide), if_pos (by rw [hon, hv, hdis]; rfl)]
  generalize (s.hemCtrlNoted e v).setBit (hemAddr e 0) 0 true = u at hset hkept hblock ⊢
  exact ⟨hset.hem _, by rw [hkept, hblock]⟩

/-- ENABLE written as it is, or set at an engine that is not DISABLED. -/
theorem State.writeHemCtrl_keeps (h : v.getLsbD 0 = s.bit (hemAddr e 0) 0 ∨
    s.bit (hemAddr e 0) 0 = false ∧ v.getLsbD 0 = true ∧ (s.eng e).st ≠ .disabled) :
    HemCtrlSet s (s.writeHemCtrl e v) e v (s.bit (hemAddr e 0) 0) ∧ (s.writeHemCtrl e v).hem = s.hem := by
  obtain ⟨hhem, -⟩ := State.hemCtrlNoted_hem s e v
  have hset := State.hemCtrlNoted_set s e v
  have hwrite : s.writeHemCtrl e v = s.hemCtrlNoted e v := by
    have hst : ∀ f, ((s.hemCtrlNoted e v).eng f).st = (s.eng f).st := fun f => congrArg Engine.st (hset.eng f)
    rw [State.writeHemCtrl_eq]
    obtain hsame | ⟨hon, hv, hne⟩ := h
    · rw [hsame]
      cases s.bit (hemAddr e 0) 0 <;> rfl
    · have hdis : (((s.hemCtrlNoted e v).eng e).st == EngSt.disabled) = false := by
        rw [hst]
        exact beq_false_of_ne hne
      simp only [hon, hv, hdis, Bool.false_and, Bool.and_false, Bool.false_eq_true, if_false]
  rw [hwrite]
  exact ⟨hset, hhem⟩

end

/-! ## Work dropped at a removal (R58) -/

theorem Desc.kind_of_acquire {d : Desc} {mask : BitVec 8} {n len : Nat} (h : d.body = .acquire mask n len) : d.kind = 2 := by
  unfold Desc.kind
  rw [h]

/-- A descriptor that is no ACQUIRE and not ARMED leaves nothing behind when it goes. -/
theorem State.dropOffer_plain (s : State) (e : Nat) {d : Desc} (harmed : d.armed = false) (hkind : d.kind ≠ 2) (c : Nat) :
    s.dropOffer e d c = s := by
  have hkill : s.killWindows e d c = s := by
    unfold State.killWindows
    split
    · rename_i hbody
      exact absurd (Desc.kind_of_acquire hbody) hkind
    · rfl
  rw [State.dropOffer, hkill, State.lapseArm, harmed]
  rfl

theorem State.countDiscard_own (s : State) (e : Nat) :
    ((s.countDiscard e).reg (hemAddr e 0x20)).toNat = min 0xFFFFFFFF ((s.reg (hemAddr e 0x20)).toNat + 1) :=
  (State.countDiscard_counts s e).1

/-- Each dropped piece of plain work is counted, and no engine changes with it. -/
theorem foldS_dropWork_plain (e : Nat) (l : List Work) (h : ∀ w ∈ l, w.d.armed = false ∧ w.d.kind ≠ 2) (s : State) :
    let t := foldS l (fun w s => s.dropWork e w) s
    (∀ f, t.eng f = s.eng f) ∧ (t.reg (hemAddr e 0x20)).toNat = min 0xFFFFFFFF ((s.reg (hemAddr e 0x20)).toNat + l.length) := by
  induction l generalizing s with
  | nil =>
    have := (s.reg (hemAddr e 0x20)).isLt
    refine ⟨fun _ => rfl, ?_⟩
    show (s.reg (hemAddr e 0x20)).toNat = min 0xFFFFFFFF ((s.reg (hemAddr e 0x20)).toNat + 0)
    omega
  | cons w l ih =>
    obtain ⟨harmed, hkind⟩ := h w (by simp)
    have hdrop : s.dropWork e w = s.countDiscard e := State.dropOffer_plain _ e harmed hkind 1
    obtain ⟨heng, hcount⟩ := ih (fun w hw => h w (List.mem_cons_of_mem _ hw)) (s.countDiscard e)
    show (∀ f, (foldS l _ (s.dropWork e w)).eng f = _) ∧ ((foldS l _ (s.dropWork e w)).reg _).toNat = _
    rw [hdrop]
    refine ⟨fun f => (heng f).trans (State.countDiscard_eng s e f), ?_⟩
    rw [hcount, State.countDiscard_own, List.length_cons]
    omega

/-- The engine's work that has ended or does not pass the test stays; the rest goes and is counted (R58). -/
theorem State.dropWhere_plain {s : State} {e : Nat} (h : ∀ w ∈ (s.eng e).work, w.d.armed = false ∧ w.d.kind ≠ 2) (p : Work → Bool) :
    let t := s.dropWhere e p
    t.eng e = { s.eng e with work := (s.eng e).work.filter (fun w => s.workDone w || !p w) } ∧ (∀ f, f ≠ e → t.eng f = s.eng f) ∧
      (t.reg (hemAddr e 0x20)).toNat = min 0xFFFFFFFF ((s.reg (hemAddr e 0x20)).toNat +
        ((s.eng e).work.filter (fun w => !(s.workDone w || !p w))).length) := by
  have hgone : ∀ w, (!s.workDone w && p w) = !(s.workDone w || !p w) := fun w => by simp
  have hstay : ∀ w, (!(!s.workDone w && p w)) = (s.workDone w || !p w) := fun w => by simp
  obtain ⟨heng, hcount⟩ := foldS_dropWork_plain e ((s.eng e).work.filter (fun w => !s.workDone w && p w))
    (fun w hw => h w (List.mem_of_mem_filter hw)) (s.modEng e (fun x => { x with work := x.work.filter (fun w => !(!s.workDone w && p w)) }))
  intro t
  refine ⟨(heng e).trans ?_, fun f hf => (heng f).trans ((State.eng_modEng s e f _).trans (if_neg hf)), ?_⟩
  · rw [State.eng_modEng_same]
    simp only [hstay]
  · refine hcount.trans ?_
    simp only [State.modEng_reg, hgone]

/-! ## An engine that leaves its START set (R71, R175) -/

theorem Engine.noteGone_idem (o : Nat) (x : Engine) : (x.noteGone o).noteGone o = x.noteGone o := by
  unfold Engine.noteGone
  split
  · rw [if_neg]
    simp
  · rfl

theorem State.noteGone_eng (s : State) (o f : Nat) : (s.noteGone o).eng f = (s.eng f).noteGone o := by
  obtain ⟨-, heng⟩ := foldS_engines (f := fun e s => s.modEng e (fun x => x.noteGone o)) (y := fun _ x => x.noteGone o)
    (s.engines.map (·.1)) s (fun _ _ _ => rfl) (fun _ => Engine.noteGone_idem o)
  refine (heng f).trans ?_
  split
  · rfl
  · rename_i hf
    rw [State.eng_of_not_listed hf]
    rfl

/-- Every engine after engine e has left its START set: it remembers that e is gone, if e was in one. -/
def State.sawLeave (s : State) (e f : Nat) : Engine := if (s.eng e).set.isSome then (s.eng f).noteGone e else s.eng f

theorem Engine.noteGone_pledgeWait (x : Engine) (o : Nat) : (x.noteGone o).pledgeWait = x.pledgeWait := by
  unfold Engine.noteGone
  split <;> rfl

theorem State.dropPledgeWait_none {s : State} {e : Nat} (h : (s.eng e).pledgeWait = none) : s.dropPledgeWait e = s := by
  unfold State.dropPledgeWait
  rw [h]

/-- An engine with no ACQUIRE waiting for a pledge leaves its START set (R71). -/
theorem State.leaveSet_eng {s : State} {e : Nat} (h : (s.eng e).pledgeWait = none) (f : Nat) :
    (s.leaveSet e false).eng f = if f = e then { s.sawLeave e e with set := none } else s.sawLeave e f := by
  unfold State.leaveSet State.sawLeave
  split
  · rename_i hset
    rw [hset]
    simp only [Option.isSome_none, Bool.false_eq_true, if_false]
    split
    · rename_i hf
      rw [hf]
      exact congrArg (fun x => ({ s.eng e with set := x } : Engine)) hset
    · rfl
  · rename_i id hset
    rw [hset]
    dsimp only
    generalize hu : s.modSet id _ = u
    have heng : ∀ f, (u.noteGone e).eng f = (s.eng f).noteGone e := fun f => by
      rw [State.noteGone_eng, ← hu]
      rfl
    have hpledge : ((u.noteGone e).eng e).pledgeWait = none := by rw [heng, Engine.noteGone_pledgeWait, h]
    rw [if_neg (by decide), State.dropPledgeWait_none hpledge, State.eng_modEng, heng, heng]
    rfl

/-! ## REMOVAL_EFFECT of an engine (R57, R58, R71) -/

/-- The removal in force is taken from those that wait, at its block. -/
def State.removing (s : State) (r : Removal) : State :=
  { s.advanceTo r.block with hem := { (s.advanceTo r.block).hem with removals := (s.advanceTo r.block).hem.removals.erase r } }

theorem State.workDone_of_clk {s t : State} (h : t.clk = s.clk) (w : Work) : t.workDone w = s.workDone w := by
  unfold State.workDone State.pin64
  rw [h]

/-- Beside its clocks, the work of a removal's engine and the removals that wait, the state is as it was. -/
theorem State.removing_kept (s : State) (r : Removal) : let t := s.removing r
    (∀ f, t.eng f = s.eng f) ∧ (∀ a, t.reg a = s.reg a) ∧ s.sameMem t ∧ t.hem.removals = s.hem.removals.erase r ∧
      t.clk = (s.advanceTo r.block).clk := by
  have hframe := State.advanceTo_frame s r.block
  obtain ⟨heng, hreg, hmem⟩ := State.clk_kept hframe
  have hhem : (s.advanceTo r.block).hem = s.hem := by rw [hframe]
  unfold State.removing
  generalize s.advanceTo r.block = u at heng hreg hmem hhem
  exact ⟨heng, hreg, hmem, congrArg (fun h : Hem => h.removals.erase r) hhem, rfl⟩

/-- What a removal does at its block (R58). -/
def State.removalActs (s : State) : Removal → State
  | .engine e cut b => s.disableEngine e cut b
  | .port p b => s.disablePort p b
  | .abort sets engs b => s.abortSets sets engs b

theorem exec_removalEffect {s : State} {r : Removal} (h : s.nextRemoval = some r) :
    exec .removalEffect s = .next ((s.removing r).removalActs r) := by
  show execRemovalEffect s = _
  unfold execRemovalEffect
  rw [h]
  cases r <;> rfl

theorem State.withdraw_none {s : State} {e : Nat} (hpledge : (s.eng e).pledgeWait = none) (hoffer : (s.eng e).offer = none) :
    s.withdraw e = s := by
  unfold State.withdraw
  dsimp only
  rw [hpledge]
  dsimp only
  rw [hoffer]

/-- An engine with other accepted work. -/
def Engine.working (x : Engine) (l : List Work) : Engine := { x with work := l }

theorem Engine.noteGone_working (x : Engine) (l : List Work) (o : Nat) : (x.working l).noteGone o = (x.noteGone o).working l := by
  unfold Engine.noteGone
  by_cases h : x.inShot ∧ ¬ o ∈ x.gone
  · rw [if_pos h, if_pos (show (x.working l).inShot ∧ ¬ o ∈ (x.working l).gone from h)]
    rfl
  · rw [if_neg h, if_neg (show ¬ ((x.working l).inShot ∧ ¬ o ∈ (x.working l).gone) from h)]

/-- The work that a removal by CUT drops is gone (R58). -/
def State.cutWork (s : State) (e : Nat) (cut : Bool) (b : W32) : State :=
  if cut then (s.dropWhere e (fun w => w.unstarted { b, t := 0 })).withdraw e else s

/-- The accepted work that a removal leaves the engine. -/
def State.keptWork (s : State) (e : Nat) (cut : Bool) (b : W32) : List Work :=
  if cut then (s.eng e).work.filter (fun w => s.workDone w || tmLt w.d.at { b, t := 0 }) else (s.eng e).work

section
variable {s : State} {e : Nat} (hpledge : (s.eng e).pledgeWait = none) (hoffer : (s.eng e).offer = none)
  (hplain : ∀ w ∈ (s.eng e).work, w.d.armed = false ∧ w.d.kind ≠ 2)
include hpledge hoffer hplain

theorem State.cutWork_leaves (cut : Bool) (b : W32) : let t := s.cutWork e cut b
    t.eng e = (s.eng e).working (s.keptWork e cut b) ∧ (∀ f, f ≠ e → t.eng f = s.eng f) ∧ s.sameMem t ∧ t.hem = s.hem ∧
      (t.reg (hemAddr e 0x20)).toNat = min 0xFFFFFFFF ((s.reg (hemAddr e 0x20)).toNat +
        if cut then ((s.eng e).work.filter (fun w => !(s.workDone w || tmLt w.d.at { b, t := 0 }))).length else 0) := by
  have hlt := (s.reg (hemAddr e 0x20)).isLt
  cases cut with
  | false =>
    refine ⟨rfl, fun _ _ => rfl, fun _ => rfl, rfl, ?_⟩
    show (s.reg (hemAddr e 0x20)).toNat = min 0xFFFFFFFF ((s.reg (hemAddr e 0x20)).toNat + 0)
    omega
  | true =>
    have hframe := State.dropWhere_frame s e (fun w => w.unstarted { b, t := 0 })
    obtain ⟨hown, hothers, hcount⟩ := State.dropWhere_plain hplain (fun w => w.unstarted { b, t := 0 })
    have hcut : s.cutWork e true b = s.dropWhere e (fun w => w.unstarted { b, t := 0 }) :=
      State.withdraw_none (by rw [hown]; exact hpledge) (by rw [hown]; exact hoffer)
    rw [hcut]
    generalize s.dropWhere e (fun w => w.unstarted { b, t := 0 }) = u at hframe hown hothers hcount
    simp only [Work.unstarted, Bool.not_not] at hown hcount
    refine ⟨hown, hothers, fun a => ?_, by rw [hframe], hcount⟩
    rw [hframe]
    rfl

/-- A removal's engine is DISABLED and out of its START set (R58, R71). -/
theorem State.disableEngine_leaves (cut : Bool) (b : W32) : ∃ t : State, s.disableEngine e cut b = t.serveRuns ∧ s.sameMem t ∧
    t.eng e = { s.sawLeave e e with
      st := .disabled, cause := 0, arm := none, goEnd := false, set := none, draining := !cut, work := s.keptWork e cut b } ∧
    (∀ f, f ≠ e → t.eng f = s.sawLeave e f) ∧ t.hem = s.hem ∧
    (t.reg (hemAddr e 0x20)).toNat = min 0xFFFFFFFF ((s.reg (hemAddr e 0x20)).toNat +
      if cut then ((s.eng e).work.filter (fun w => !(s.workDone w || tmLt w.d.at { b, t := 0 }))).length else 0) := by
  obtain ⟨hown, hothers, hmem, hhem, hcount⟩ := State.cutWork_leaves hpledge hoffer hplain cut b
  have hdis : s.disableEngine e cut b = (State.modEng (((s.cutWork e cut b).leaveSet e false).setSt e .disabled) e
    (fun x => { x with arm := none, goEnd := false, set := none, draining := !cut })).serveRuns := rfl
  generalize s.cutWork e cut b = u at hown hothers hmem hhem hcount hdis
  have hleave := State.leaveSet_eng (s := u) (e := e) (by rw [hown]; exact hpledge)
  have hframe := State.leaveSet_frame u e false
  have hset : (u.eng e).set = (s.eng e).set := by rw [hown]; rfl
  have hsaw : u.sawLeave e e = (s.sawLeave e e).working (s.keptWork e cut b) := by
    unfold State.sawLeave
    rw [hset, hown, Engine.noteGone_working]
    split <;> rfl
  generalize u.leaveSet e false = v at hleave hframe hdis
  refine ⟨_, hdis, fun a => ?_, ?_, fun f hf => ?_, ?_, ?_⟩
  · rw [← hmem a, hframe]
    rfl
  · rw [State.eng_modEng_same, State.eng_setSt, if_pos rfl, hleave, if_pos rfl, hsaw]
    rfl
  · rw [State.eng_modEng, if_neg hf, State.eng_setSt, if_neg hf, hleave, if_neg hf, State.sawLeave, hset, hothers f hf]
    rfl
  · rw [← hhem, hframe]
    rfl
  · rw [← hcount, hframe]
    rfl

end

theorem exec_engineReenableEffect {s : State} {e : Eng} {b : W32} (h : s.hem.reenables.find? (fun r => r.1 == e.val) = some (e.val, b)) :
    let u := s.advanceTo b
    let v : State := { u with hem := { u.hem with reenables := u.hem.reenables.erase (e.val, b) } }
    exec (.engineReenableEffect e) s = .next (if (v.eng e).st = .disabled then v.setSt e .idle else v) := by
  intro u v
  show execEngineReenableEffect e s = _
  unfold execEngineReenableEffect
  rw [h]

/-- Settles O20: a write changes registers and asks, a removal drops plain work and leaves the set, a re-enable sets the state alone. -/
theorem engineRemovalAndReturn : Obligations.EngineRemovalAndReturn := by
  refine ⟨fun s e v c hc => ?_, fun s e cut b hnext hpledge hoffer hplain => ?_, fun s e b hfind hst => ?_⟩
  · have hexec : exec c s = .next ((s.writeHemCtrl e v).touch (hemAddr e 0)) := by
      obtain rfl | rfl | rfl := hc <;> rfl
    obtain ⟨on, hset⟩ : ∃ on, HemCtrlSet s (s.writeHemCtrl e v) e v on := by
      cases hon : s.bit (hemAddr e 0) 0 <;> cases hv : v.getLsbD 0
      · exact ⟨_, (State.writeHemCtrl_keeps (.inl (hv.trans hon.symm))).1⟩
      · by_cases hst : (s.eng e).st = .disabled
        · exact ⟨_, (State.writeHemCtrl_sets hon hv hst).1⟩
        · exact ⟨_, (State.writeHemCtrl_keeps (.inr ⟨hon, hv, hst⟩)).1⟩
      · exact ⟨_, (State.writeHemCtrl_clears hon hv).1⟩
      · exact ⟨_, (State.writeHemCtrl_keeps (.inl (hv.trans hon.symm))).1⟩
    refine ⟨_, hexec, hset.eng, hset.mem, hset.regs, hset.warn, hset.mode, hset.least, fun hon hv => ?_, fun hon hv hst => ?_,
      fun hsame => ?_⟩
    · obtain ⟨hclear, hhem⟩ := State.writeHemCtrl_clears hon hv
      exact ⟨hclear.enable, hhem⟩
    · obtain ⟨hreturn, hhem⟩ := State.writeHemCtrl_sets hon hv hst
      exact ⟨hreturn.enable, hhem⟩
    · obtain ⟨hkeep, hhem⟩ := State.writeHemCtrl_keeps (.inl hsame)
      exact ⟨hkeep.enable, hhem⟩
  · obtain ⟨heng, hreg, hmem, hrem, hclk⟩ := State.removing_kept s (.engine e cut b)
    have hexec := exec_removalEffect hnext
    generalize s.removing (.engine e cut b) = u at heng hreg hmem hrem hclk hexec
    obtain ⟨t, hdis, tmem, town, tothers, themt, tcount⟩ := State.disableEngine_leaves (s := u) (e := e)
      (by rw [heng]; exact hpledge) (by rw [heng]; exact hoffer) (by rw [heng]; exact hplain) cut b
    have hdone : ∀ w, u.workDone w = (s.advanceTo b).workDone w := State.workDone_of_clk hclk
    simp only [State.sawLeave, State.keptWork, heng, hreg, hdone] at town tothers tcount
    intro stays left
    refine ⟨t, hexec.trans (congrArg Host.Outcome.next hdis), fun a => (tmem a).trans (hmem a), town, tothers, ?_, tcount⟩
    rw [themt, hrem]
  · have hframe := State.advanceTo_frame s b
    obtain ⟨heng, hreg, hmem⟩ := State.clk_kept hframe
    have hhem : (s.advanceTo b).hem = s.hem := by rw [hframe]
    have hexec := exec_engineReenableEffect hfind
    dsimp only at hexec
    generalize s.advanceTo b = u at heng hreg hmem hhem hexec
    have hidle : (State.eng { u with hem := { u.hem with reenables := u.hem.reenables.erase (e.val, b) } } e).st = .disabled :=
      (congrArg Engine.st (heng e)).trans hst
    rw [if_pos hidle] at hexec
    refine ⟨_, hexec, ?_, fun f hf => ?_, fun a _ => hreg a, hmem, ?_⟩
    · rw [State.eng_setSt, if_pos rfl, ← heng]
      rfl
    · rw [State.eng_setSt, if_neg hf, ← heng]
      rfl
    · rw [← hhem]
      rfl

end Sys2Proof.Machine

namespace Sys2Proof.Machine

/-! ## A port's enable asked for, and its state shown (R130, R135, R478) -/

theorem State.setReg_onlyTables (s : State) (a : Nat) (v : W32) (h : Hem) : let t : State := { s.setReg a v with hem := h }
    t = { s with regs := t.regs, hem := t.hem } ∧ s.sameRegs t [a] ∧ t.reg a = v := by
  refine ⟨rfl, fun x hx => ?_, ?_⟩
  · exact (State.reg_setReg s a x v).trans (if_neg (by simpa using hx))
  · exact (State.reg_setReg s a a v).trans (if_pos rfl)

/-- The Hem's tables after a write to PORT_CTRL: a change of ENABLE puts an enable or a removal (R57, R135). -/
def State.portCtrlHem (s : State) (p : Nat) (v : W32) : Hem :=
  if !s.bit (portAddr p 0) 0 && v.getLsbD 0 then { s.hem with enables := s.hem.enables ++ [(p, s.pin + 4)] }
  else if s.bit (portAddr p 0) 0 && !v.getLsbD 0 then { s.hem with removals := s.hem.removals ++ [.port p (s.pin + 4)] }
  else s.hem

/-- A change of ENABLE puts an enable or a removal. -/
def State.portCtrlFrom (s : State) (p : Nat) (was now : Bool) : State :=
  if !was && now then { s with hem := { s.hem with enables := s.hem.enables ++ [(p, s.effBlock)] } }
  else if was && !now then s.askRemoval (.port p s.effBlock)
  else s

theorem State.writePortCtrl_from (s : State) (p : Nat) (v : W32) : s.writePortCtrl p v =
    (s.setReg (portAddr p 0) (v &&& 3)).portCtrlFrom p (s.bit (portAddr p 0) 0) (v.getLsbD 0) := rfl

theorem State.portCtrlFrom_eq (s : State) (p : Nat) (was now : Bool) : s.portCtrlFrom p was now = { s with
    hem := if !was && now then { s.hem with enables := s.hem.enables ++ [(p, s.pin + 4)] }
      else if was && !now then { s.hem with removals := s.hem.removals ++ [.port p (s.pin + 4)] }
      else s.hem } := by
  cases was <;> cases now <;> rfl

theorem State.writePortCtrl_eq (s : State) (p : Nat) (v : W32) :
    s.writePortCtrl p v = { s.setReg (portAddr p 0) (v &&& 3) with hem := s.portCtrlHem p v } := by
  rw [State.writePortCtrl_from, State.portCtrlFrom_eq, State.setReg_hem, State.pin_of_clk (State.setReg_clk s _ _)]
  rfl

theorem State.noteCode_frame (s : State) (p : Nat) : s.noteCode p = { s with synth := (s.noteCode p).synth } := by
  unfold State.noteCode
  dsimp only
  split <;> rfl

/-- What a change of the memory of the outputs alone keeps. -/
theorem State.synth_kept {s t : State} (h : t = { s with synth := t.synth }) :
    t.clk = s.clk ∧ t.hem = s.hem ∧ (∀ e, t.eng e = s.eng e) ∧ (∀ a, t.reg a = s.reg a) ∧ ∀ a, t.byte a = s.byte a := by
  rw [h]
  exact ⟨rfl, rfl, fun _ => rfl, fun _ => rfl, fun _ => rfl⟩

/-- Bits of PORT_STATUS change, and nothing else but the memory of the outputs. -/
structure PortStatusOnly (p : Nat) (s t : State) : Prop where
  clk : t.clk = s.clk
  eng : ∀ e, t.eng e = s.eng e
  mem : s.sameMem t
  regs : s.sameRegs t [portAddr p 4]

theorem PortStatusOnly.refl (p : Nat) (s : State) : PortStatusOnly p s s := ⟨rfl, fun _ => rfl, fun _ => rfl, fun _ _ => rfl⟩

theorem PortStatusOnly.trans {p : Nat} {s t u : State} (h : PortStatusOnly p s t) (k : PortStatusOnly p t u) : PortStatusOnly p s u :=
  ⟨k.clk.trans h.clk, fun e => (k.eng e).trans (h.eng e), fun a => (k.mem a).trans (h.mem a), fun a ha => (k.regs a ha).trans (h.regs a ha)⟩

theorem State.setBit_portStatus (s : State) (p b : Nat) (v : Bool) : PortStatusOnly p s (s.setBit (portAddr p 4) b v) :=
  ⟨State.setBit_clk s _ b v, State.setBit_eng s _ b v, State.setBit_byte s _ b v,
    fun a ha => State.reg_setBit s _ b v a (by simpa using ha)⟩

/-- CLAMPED as a port's state shows it (R130, R135). -/
def State.showClamp (s : State) (p : Nat) : State :=
  if isFlux p then s.setBit (portAddr p 4) 5 (!s.bit (portAddr p 4) 0 || s.rangeClamped p || s.bit (portAddr p 4) 4) else s

theorem State.clampNow_kept (s : State) (p : Nat) : PortStatusOnly p s (s.clampNow p) ∧ (s.clampNow p).hem = s.hem := by
  have hshow : PortStatusOnly p s (s.showClamp p) ∧ (s.showClamp p).hem = s.hem := by
    unfold State.showClamp
    split
    · exact ⟨State.setBit_portStatus s p 5 _, State.setBit_hem s _ 5 _⟩
    · exact ⟨.refl p s, rfl⟩
  obtain ⟨hclk, hhem, heng, hreg, hmem⟩ := State.synth_kept (State.noteCode_frame (s.showClamp p) p)
  exact ⟨hshow.1.trans ⟨hclk, heng, hmem, fun a _ => hreg a⟩, hhem.trans hshow.2⟩

/-- The other bits of PORT_STATUS stand. -/
theorem State.clampNow_bit (s : State) (p : Nat) {b : Nat} (hb : b < 32) (h5 : b ≠ 5) :
    (s.clampNow p).bit (portAddr p 4) b = s.bit (portAddr p 4) b := by
  obtain ⟨-, -, -, hreg, -⟩ := State.synth_kept (State.noteCode_frame (s.showClamp p) p)
  have hnote : (s.clampNow p).bit (portAddr p 4) b = (s.showClamp p).bit (portAddr p 4) b :=
    congrArg (fun v : W32 => v.getLsbD b) (hreg _)
  rw [hnote, State.showClamp]
  split
  · rw [State.bit_setBit _ _ _ _ _ _ hb, if_neg (fun h => h5 h.2)]
  · rfl

/-- A flux port that is not enabled shows CLAMPED. -/
theorem State.clampNow_clamped {s : State} {p : Nat} (hp : 192 ≤ p) (hoff : s.bit (portAddr p 4) 0 = false) :
    (s.clampNow p).bit (portAddr p 4) 5 = true := by
  obtain ⟨-, -, -, hreg, -⟩ := State.synth_kept (State.noteCode_frame (s.showClamp p) p)
  have hnote : (s.clampNow p).bit (portAddr p 4) 5 = (s.showClamp p).bit (portAddr p 4) 5 :=
    congrArg (fun v : W32 => v.getLsbD 5) (hreg _)
  rw [hnote, State.showClamp, if_pos (by simpa [isFlux] using hp), State.bit_setBit _ _ _ _ _ _ (by decide), if_pos ⟨rfl, rfl⟩, hoff]
  rfl

/-! ## PORT_ENABLE_EFFECT (R478) -/

/-- The enable in force is taken from those that wait, at its block, and the port is Enabled. -/
def State.portEnabled (s : State) (p : Nat) (b : W32) : State :=
  let u := s.advanceTo b
  let v : State := { u with hem := { u.hem with enables := u.hem.enables.erase (p, b) } }
  (v.setBit (portAddr p 4) 0 true).setBit (portAddr p 4) 1 true

/-- The wake of a port that is Enabled: asked for where it was never enabled, at once where none is on its way (R478). -/
def State.portWakes (s : State) (p : Nat) (b : W32) (ever : Bool) : State :=
  if !ever then s.govAsk (.port p true) (some b) (port0Eng p) else if s.waking p then s else s.wakeUp p

theorem exec_portEnableEffect {s : State} {p : OPort} {b : W32} (h : s.hem.enables.find? (fun r => r.1 == p.val) = some (p.val, b)) :
    exec (.portEnableEffect p) s =
      .next (((s.portEnabled p b).portWakes p b ((s.advanceTo b).bit (portAddr p 4) 1)).clampNow p) := by
  show execPortEnableEffect p s = _
  unfold execPortEnableEffect
  rw [h]
  rfl

theorem State.portEnabled_leaves (s : State) (p : Nat) (b : W32) : let t := s.portEnabled p b
    (∀ e, t.eng e = s.eng e) ∧ s.sameMem t ∧ s.sameRegs t [portAddr p 4] ∧ t.bit (portAddr p 4) 0 = true ∧
      t.bit (portAddr p 4) 1 = true ∧ t.hem = { s.hem with enables := s.hem.enables.erase (p, b) } := by
  have hframe := State.advanceTo_frame s b
  obtain ⟨heng, hreg, hmem⟩ := State.clk_kept hframe
  have hhem : (s.advanceTo b).hem = s.hem := by rw [hframe]
  unfold State.portEnabled
  dsimp only
  generalize s.advanceTo b = u at heng hreg hmem hhem ⊢
  have hstatus := (State.setBit_portStatus { u with hem := { u.hem with enables := u.hem.enables.erase (p, b) } } p 0 true).trans
    (State.setBit_portStatus _ p 1 true)
  refine ⟨fun e => (hstatus.eng e).trans (heng e), fun a => (hstatus.mem a).trans (hmem a), fun a ha => (hstatus.regs a ha).trans (hreg a),
    ?_, ?_, ?_⟩
  · rw [State.bit_setBit _ _ _ _ _ _ (by decide), if_neg (fun h => absurd h.2 (by decide)), State.bit_setBit _ _ _ _ _ _ (by decide),
      if_pos ⟨rfl, rfl⟩]
  · rw [State.bit_setBit _ _ _ _ _ _ (by decide), if_pos ⟨rfl, rfl⟩]
  · rw [State.setBit_hem, State.setBit_hem, hhem]

theorem State.wakeUp_of_clear {s : State} {p : Nat} (h : ∀ c ∈ s.hem.clamps, c.port ≠ p) :
    s.wakeUp p = s.setBit (portAddr p 4) 2 true := by
  have hclear : s.rangeClamped p = false := by
    simpa [State.rangeClamped, List.any_eq_false] using fun c hc hp => absurd hp (h c hc)
  rw [State.wakeUp, hclear]
  rfl

/-- However a port wakes, of the registers its status alone changes, and of that neither ENABLED bit. -/
theorem State.portWakes_kept (s : State) (p : Nat) (b : W32) (ever : Bool) : PortStatusOnly p s (s.portWakes p b ever) ∧
    (s.portWakes p b ever).bit (portAddr p 4) 0 = s.bit (portAddr p 4) 0 ∧
    (s.portWakes p b ever).bit (portAddr p 4) 1 = s.bit (portAddr p 4) 1 := by
  have htables : ∀ h : Hem, PortStatusOnly p s { s with hem := h } := fun _ => ⟨rfl, fun _ => rfl, fun _ => rfl, fun _ _ => rfl⟩
  unfold State.portWakes
  split
  · exact ⟨htables _, rfl, rfl⟩
  · split
    · exact ⟨.refl p s, rfl, rfl⟩
    · unfold State.wakeUp
      split
      · exact ⟨htables _, rfl, rfl⟩
      · refine ⟨State.setBit_portStatus s p 2 true, ?_, ?_⟩ <;>
          rw [State.bit_setBit _ _ _ _ _ _ (by decide), if_neg (fun h => absurd h.2 (by decide))]

/-! ## An engine's work stopped at a block (R58, R99) -/

/-- Engine e, registers and contexts change, and the memory of the outputs; nothing else does. -/
structure StopsEngine (e : Nat) (s t : State) : Prop where
  clk : t.clk = s.clk
  mem : t.mem = s.mem
  others : ∀ f, f ≠ e → t.eng f = s.eng f

theorem StopsEngine.refl (e : Nat) (s : State) : StopsEngine e s s := ⟨rfl, rfl, fun _ _ => rfl⟩

theorem StopsEngine.trans {e : Nat} {s t u : State} (h : StopsEngine e s t) (k : StopsEngine e t u) : StopsEngine e s u :=
  ⟨k.clk.trans h.clk, k.mem.trans h.mem, fun f hf => (k.others f hf).trans (h.others f hf)⟩

theorem StopsEngine.of_frame {e : Nat} {s t : State} (h : t = { s with regs := t.regs, engines := t.engines, chans := t.chans })
    (k : EngAlone e s t) : StopsEngine e s t := by
  refine ⟨?_, ?_, k.others⟩ <;> rw [h]

theorem State.modEng_stops (s : State) (e : Nat) (f : Engine → Engine) : StopsEngine e s (s.modEng e f) :=
  ⟨rfl, rfl, (State.modEng_engAlone s e f).others⟩

theorem State.dropOffer_stops (s : State) (e : Nat) (d : Desc) (c : Nat) : StopsEngine e s (s.dropOffer e d c) :=
  .of_frame (by rw [State.dropOffer_frame]) (State.dropOffer_engAlone s e d c)

theorem State.countDiscard_stops (s : State) (e : Nat) : StopsEngine e s (s.countDiscard e) :=
  .of_frame (by rw [State.countDiscard_frame]) (State.countDiscard_engAlone s e)

theorem State.dropWhere_stops (s : State) (e : Nat) (p : Work → Bool) : StopsEngine e s (s.dropWhere e p) :=
  .of_frame (State.dropWhere_frame s e p) (State.dropWhere_engAlone s e p)

/-- Of its engine a dropped piece of work takes live arms alone. -/
theorem State.dropWork_eng (s : State) (e : Nat) (w : Work) : ∃ l, (s.dropWork e w).eng e = { s.eng e with live := l } := by
  obtain ⟨l, hl⟩ := State.dropOffer_eng (s.countDiscard e) e w.d 1
  rw [State.countDiscard_eng] at hl
  exact ⟨l, hl⟩

theorem foldS_dropWork_eng (e : Nat) (ws : List Work) (s : State) :
    ∃ l, (foldS ws (fun w s => s.dropWork e w) s).eng e = { s.eng e with live := l } := by
  refine foldS_rel (fun s t => ∃ l, t.eng e = { s.eng e with live := l }) (fun _ => ⟨_, rfl⟩) ?_ _ ws
    (fun w _ u => State.dropWork_eng u e w) s
  rintro s t u ⟨l, hl⟩ ⟨k, hk⟩
  rw [hl] at hk
  exact ⟨k, hk⟩

/-- The engine's work that has ended or does not pass the test stays. -/
theorem State.dropWhere_own (s : State) (e : Nat) (p : Work → Bool) : ∃ l, (s.dropWhere e p).eng e =
    { s.eng e with work := (s.eng e).work.filter (fun w => s.workDone w || !p w), live := l } := by
  have hstay : ∀ w, (!(!s.workDone w && p w)) = (s.workDone w || !p w) := fun w => by simp
  obtain ⟨l, hl⟩ := foldS_dropWork_eng e ((s.eng e).work.filter (fun w => !s.workDone w && p w))
    (s.modEng e (fun x => { x with work := x.work.filter (fun w => !(!s.workDone w && p w)) }))
  refine ⟨l, Eq.trans hl ?_⟩
  rw [State.eng_modEng_same]
  simp only [hstay]

/-- A piece of work that has not ended started before block b, and as a segment it ends by b. -/
def Work.endsBy (w : Work) (b : W32) : Prop :=
  tmLt w.d.at { b := b, t := 0 } = true ∧ (w.d.isSeg = true → tmLt { b := b, t := 0 } w.fin = false)

theorem tmLt_irrefl (x : Tm) : tmLt x x = false := by
  simp [tmLt, blt, bdiff]

/-- What started before block b is cut there, and what starts later is dropped (R58). -/
def State.stopWork (s : State) (e : Nat) (b : W32) : State :=
  (s.cutAt e (fun w => w.d.isSeg && tmLt w.d.at { b, t := 0 }) { b, t := 0 }).dropWhere e (fun w => w.unstarted { b, t := 0 })

theorem State.stopWork_stops (s : State) (e : Nat) (b : W32) : StopsEngine e s (s.stopWork e b) :=
  StopsEngine.trans (State.modEng_stops s e _) (State.dropWhere_stops _ e _)

/-- A piece of work with its segment cut at block b where it starts before and ends after it (R58, R99). -/
def State.cutWorkAt (s : State) (b : W32) (w : Work) : Work :=
  if !s.workDone w && (w.d.isSeg && tmLt w.d.at { b := b, t := 0 }) && tmLt { b := b, t := 0 } w.fin
    then { w with cut := some { b := b, t := 0 } } else w

theorem State.cutWorkAt_d (s : State) (b : W32) (w : Work) : (s.cutWorkAt b w).d = w.d := by
  unfold State.cutWorkAt
  split <;> rfl

/-- What is cut has not ended. -/
theorem State.cutWorkAt_of_done {s : State} {w : Work} (b : W32) (h : s.workDone w = true) : s.cutWorkAt b w = w := by
  rw [State.cutWorkAt, h]
  rfl

theorem State.cutWorkAt_endsBy {s : State} {b : W32} {w : Work} (hdone : s.workDone w = false)
    (hlt : tmLt w.d.at { b := b, t := 0 } = true) : (s.cutWorkAt b w).endsBy b := by
  unfold State.cutWorkAt
  rw [hdone, hlt]
  split
  · exact ⟨hlt, fun _ => tmLt_irrefl _⟩
  · rename_i h
    refine ⟨hlt, fun hseg => ?_⟩
    simpa [hseg] using h

/-- The engine's work once it is stopped at block b (R58). -/
theorem State.stopWork_own (s : State) (e : Nat) (b : W32) : ∃ l ws, (s.stopWork e b).eng e = { s.eng e with work := ws, live := l } ∧
    ∀ w ∈ ws, s.workDone w = false → w.endsBy b := by
  have hcut : (s.cutAt e (fun w => w.d.isSeg && tmLt w.d.at { b, t := 0 }) { b, t := 0 }).eng e =
      { s.eng e with work := (s.eng e).work.map (s.cutWorkAt b) } := State.eng_modEng_same s e _
  have hclk : (s.cutAt e (fun w => w.d.isSeg && tmLt w.d.at { b, t := 0 }) { b, t := 0 }).clk = s.clk := rfl
  unfold State.stopWork
  generalize s.cutAt e (fun w => w.d.isSeg && tmLt w.d.at { b, t := 0 }) { b, t := 0 } = u at hcut hclk
  obtain ⟨l, hl⟩ := State.dropWhere_own u e (fun w => w.unstarted { b, t := 0 })
  rw [hcut] at hl
  refine ⟨l, _, hl, fun w hw hlive => ?_⟩
  obtain ⟨hmem, hstays⟩ := List.mem_filter.mp hw
  obtain ⟨w', -, rfl⟩ := List.mem_map.mp hmem
  have hlive' : s.workDone w' = false := by
    cases h : s.workDone w' with
    | false => rfl
    | true => rw [State.cutWorkAt_of_done b h, h] at hlive; exact hlive
  rw [State.workDone_of_clk hclk, hlive] at hstays
  simp only [Work.unstarted, State.cutWorkAt_d, Bool.not_not, Bool.false_or] at hstays
  exact State.cutWorkAt_endsBy hlive' hstays

/-- The engine has nothing offered, and nothing accepted that goes on past block b. -/
def State.stopped (s : State) (e : Nat) (b : W32) : Prop :=
  (s.eng e).offer = none ∧ ∀ w ∈ (s.eng e).work, s.workDone w = false → w.endsBy b

theorem State.stopped_of_same {s t : State} {e : Nat} {b : W32} (h : s.stopped e b) (hclk : t.clk = s.clk)
    (hoffer : (t.eng e).offer = (s.eng e).offer) (hwork : (t.eng e).work = (s.eng e).work) : t.stopped e b := by
  obtain ⟨hnone, hends⟩ := h
  refine ⟨hoffer.trans hnone, fun w hw hlive => ?_⟩
  rw [hwork] at hw
  rw [State.workDone_of_clk hclk] at hlive
  exact hends w hw hlive

/-- A loop each pass of which stops its own engine stops them all and changes no other. -/
theorem foldS_stops {f : Nat → State → State} {b : W32} (hf : ∀ e u, StopsEngine e u (f e u) ∧ (f e u).stopped e b) (l : List Nat)
    (s : State) : let t := foldS l f s
    t.clk = s.clk ∧ t.mem = s.mem ∧ (∀ g, g ∉ l → t.eng g = s.eng g) ∧ ∀ g ∈ l, t.stopped g b := by
  induction l generalizing s with
  | nil => exact ⟨rfl, rfl, fun _ _ => rfl, fun g hg => absurd hg (by simp)⟩
  | cons e l ih =>
    obtain ⟨hpass, hown⟩ := hf e s
    obtain ⟨hclk, hmem, hothers, hstopped⟩ := ih (f e s)
    refine ⟨hclk.trans hpass.clk, hmem.trans hpass.mem, fun g hg => ?_, fun g hg => ?_⟩
    · obtain ⟨hne, hnot⟩ : g ≠ e ∧ g ∉ l := by simpa using hg
      exact (hothers g hnot).trans (hpass.others g hne)
    · by_cases hl : g ∈ l
      · exact hstopped g hl
      · obtain rfl : g = e := (List.mem_cons.mp hg).resolve_right hl
        have hsame : (foldS l f (f g s)).eng g = (f g s).eng g := hothers g hl
        exact State.stopped_of_same hown hclk (congrArg Engine.offer hsame) (congrArg Engine.work hsame)

/-! ## REMOVAL_EFFECT of a port (R57, R58, R130) -/

theorem State.release_stops (s : State) (e c : Nat) : StopsEngine e s (s.release e c) := State.modEng_stops s e _

theorem State.discardOffer_stops (s : State) (e : Nat) (d : Desc) : StopsEngine e s (s.discardOffer e d) :=
  (((State.modEng_stops s e _).trans (State.countDiscard_stops _ e)).trans (State.dropOffer_stops _ e d 1)).trans
    (State.release_stops _ e 1)

/-- A waiting offer of a port's engine is discarded (R58). -/
def State.discardWaiting (s : State) (e : Nat) : State :=
  match (s.eng e).offer with
  | some o => s.discardOffer e o.d
  | none => s

theorem State.discardWaiting_leaves (s : State) (e : Nat) : StopsEngine e s (s.discardWaiting e) ∧
    ((s.discardWaiting e).eng e).offer = none ∧ ((s.discardWaiting e).eng e).work = (s.eng e).work := by
  unfold State.discardWaiting
  split
  · rename_i o _
    obtain ⟨⟨hoffer, hwork, -, -⟩, -, -⟩ := State.discardOffer_leaves s e o.d
    exact ⟨State.discardOffer_stops s e o.d, hoffer, hwork⟩
  · rename_i hnone
    exact ⟨.refl e s, hnone, rfl⟩

theorem State.stopPortEngine_stops (s : State) (e : Nat) (b : W32) : StopsEngine e s ((s.stopWork e b).discardWaiting e) ∧
    ((s.stopWork e b).discardWaiting e).stopped e b := by
  have hstop := State.stopWork_stops s e b
  obtain ⟨l, ws, hown, hends⟩ := State.stopWork_own s e b
  obtain ⟨hdiscard, hoffer, hwork⟩ := State.discardWaiting_leaves (s.stopWork e b) e
  have hpass := hstop.trans hdiscard
  refine ⟨hpass, hoffer, fun w hw hlive => ?_⟩
  rw [hwork, hown] at hw
  rw [State.workDone_of_clk hpass.clk] at hlive
  exact hends w hw hlive

theorem State.disablePort_eq (s : State) (p : Nat) (b : W32) : s.disablePort p b =
    (((foldS (engsOfPort p) (fun e s => (s.stopWork e b).discardWaiting e) s).setBit (portAddr p 4) 0 false).clampNow p).serveRuns := rfl

/-- A port disabled at block b: it is not enabled, and its engines are stopped there (R58). -/
theorem State.disablePort_leaves (s : State) (p : Nat) (b : W32) : ∃ t : State, s.disablePort p b = t.serveRuns ∧
    t.bit (portAddr p 4) 0 = false ∧ (192 ≤ p → t.bit (portAddr p 4) 5 = true) ∧ s.sameMem t ∧
    (∀ e, e ∉ engsOfPort p → t.eng e = s.eng e) ∧ ∀ e ∈ engsOfPort p, t.stopped e b := by
  obtain ⟨hclk, hmem, hothers, hstopped⟩ := foldS_stops (f := fun e s => (s.stopWork e b).discardWaiting e) (b := b)
    (fun e u => State.stopPortEngine_stops u e b) (engsOfPort p) s
  refine ⟨_, State.disablePort_eq s p b, ?_⟩
  generalize foldS (engsOfPort p) (fun e s => (s.stopWork e b).discardWaiting e) s = u at hclk hmem hothers hstopped
  have hoff : (u.setBit (portAddr p 4) 0 false).bit (portAddr p 4) 0 = false := by
    rw [State.bit_setBit _ _ _ _ _ _ (by decide), if_pos ⟨rfl, rfl⟩]
  have hstatus := (State.setBit_portStatus u p 0 false).trans (State.clampNow_kept _ p).1
  refine ⟨(State.clampNow_bit _ p (by decide) (by decide)).trans hoff, fun hp => State.clampNow_clamped hp hoff,
    fun a => (hstatus.mem a).trans (State.byte_of_mem hmem a), fun e he => (hstatus.eng e).trans (hothers e he), fun e he => ?_⟩
  exact State.stopped_of_same (hstopped e he) hstatus.clk (congrArg Engine.offer (hstatus.eng e)) (congrArg Engine.work (hstatus.eng e))

/-! ## REMOVAL_EFFECT of an ABORT (R58, R70, R190, R299) -/

/-- The ACQUIRE that waits for a pledge goes (R156). -/
theorem State.dropPledgeWait_leaves (s : State) (e : Nat) : StopsEngine e s (s.dropPledgeWait e) ∧
    ∃ l, (s.dropPledgeWait e).eng e = { s.eng e with pledgeWait := none, live := l } := by
  unfold State.dropPledgeWait
  split
  · rename_i d _
    obtain ⟨l, hl⟩ := State.dropOffer_eng s e d.1 1
    refine ⟨(State.dropOffer_stops s e d.1 1).trans (State.modEng_stops _ e _), l, ?_⟩
    rw [State.eng_modEng_same, hl]
  · rename_i hnone
    refine ⟨.refl e s, (s.eng e).live, ?_⟩
    exact congrArg (fun x => ({ s.eng e with pledgeWait := x } : Engine)) hnone

/-- The waiting offer goes and is counted (R46). -/
def State.dropWaiting (s : State) (e : Nat) : State :=
  match (s.eng e).offer with
  | some o => ((s.countDiscard e).dropOffer e o.d 1).modEng e (fun x => { x with offer := none })
  | none => s

theorem State.dropWaiting_leaves (s : State) (e : Nat) : StopsEngine e s (s.dropWaiting e) ∧
    ∃ l, (s.dropWaiting e).eng e = { s.eng e with offer := none, live := l } := by
  unfold State.dropWaiting
  split
  · rename_i o _
    obtain ⟨l, hl⟩ := State.dropOffer_eng (s.countDiscard e) e o.d 1
    refine ⟨((State.countDiscard_stops s e).trans (State.dropOffer_stops _ e o.d 1)).trans (State.modEng_stops _ e _), l, ?_⟩
    rw [State.eng_modEng_same, hl, State.countDiscard_eng]
  · rename_i hnone
    refine ⟨.refl e s, (s.eng e).live, ?_⟩
    exact congrArg (fun x => ({ s.eng e with offer := x } : Engine)) hnone

theorem State.withdraw_eq (s : State) (e : Nat) : s.withdraw e = (s.dropPledgeWait e).dropWaiting e := by
  obtain ⟨-, l, hl⟩ := State.dropPledgeWait_leaves s e
  have hoffer : ((s.dropPledgeWait e).eng e).offer = (s.eng e).offer := by rw [hl]
  unfold State.dropWaiting
  rw [hoffer]
  rfl

/-- Of its engine a withdrawal takes the waiting offer, the ACQUIRE that waits for a pledge and live arms (R46, R156). -/
theorem State.withdraw_leaves (s : State) (e : Nat) : StopsEngine e s (s.withdraw e) ∧
    ∃ l, (s.withdraw e).eng e = { s.eng e with offer := none, pledgeWait := none, live := l } := by
  obtain ⟨hpledge, l, hl⟩ := State.dropPledgeWait_leaves s e
  obtain ⟨hoffer, k, hk⟩ := State.dropWaiting_leaves (s.dropPledgeWait e) e
  rw [State.withdraw_eq]
  refine ⟨hpledge.trans hoffer, k, ?_⟩
  rw [hk, hl]

theorem State.closeWindows_frame (s : State) (e : Nat) : s.closeWindows e = { s with chans := (s.closeWindows e).chans } := by
  unfold State.closeWindows
  split
  · rfl
  · exact foldS_rel (fun s t => t = { s with chans := t.chans }) (fun _ => rfl)
      (fun s t u h k => by rw [h] at k; exact k) _ _ (fun _ _ _ => rfl) _

theorem State.noteAbort_frame (s : State) (e : Nat) : s.noteAbort e = { s with synth := (s.noteAbort e).synth } := by
  unfold State.noteAbort
  split <;> rfl

theorem StopsEngine.of_chans {s t : State} (e : Nat) (h : t = { s with chans := t.chans }) : StopsEngine e s t ∧ t.eng e = s.eng e := by
  rw [h]
  exact ⟨⟨rfl, rfl, fun _ _ => rfl⟩, rfl⟩

theorem StopsEngine.of_synth {s t : State} (e : Nat) (h : t = { s with synth := t.synth }) : StopsEngine e s t ∧ t.eng e = s.eng e := by
  rw [h]
  exact ⟨⟨rfl, rfl, fun _ _ => rfl⟩, rfl⟩

/-- An ABORT stops its engine at block b and leaves its state (R58, R68). -/
theorem State.abortEngine_leaves (s : State) (e : Nat) (b : W32) : StopsEngine e s (s.abortEngine e b) ∧
    (s.abortEngine e b).stopped e b ∧ ((s.abortEngine e b).eng e).st = (s.eng e).st := by
  have hstop := State.stopWork_stops s e b
  obtain ⟨l, ws, hown, hends⟩ := State.stopWork_own s e b
  obtain ⟨hwithdraw, k, hk⟩ := State.withdraw_leaves (s.stopWork e b) e
  obtain ⟨hclose, heng⟩ := StopsEngine.of_chans e (State.closeWindows_frame ((s.stopWork e b).withdraw e) e)
  have hmod := State.modEng_stops (((s.stopWork e b).withdraw e).closeWindows e) e (fun x => { x with arm := none, live := [] })
  have hmodOwn := State.eng_modEng_same (((s.stopWork e b).withdraw e).closeWindows e) e (fun x => { x with arm := none, live := [] })
  obtain ⟨hnote, hnoteOwn⟩ := StopsEngine.of_synth e (State.noteAbort_frame
    ((((s.stopWork e b).withdraw e).closeWindows e).modEng e (fun x => { x with arm := none, live := [] })) e)
  have hpass : StopsEngine e s (s.abortEngine e b) := (((hstop.trans hwithdraw).trans hclose).trans hmod).trans hnote
  have hfinal : (s.abortEngine e b).eng e =
      { s.eng e with work := ws, offer := none, pledgeWait := none, arm := none, live := [] } := by
    refine hnoteOwn.trans ?_
    rw [hmodOwn, heng, hk, hown]
  refine ⟨hpass, ⟨by rw [hfinal], fun w hw hlive => ?_⟩, by rw [hfinal]⟩
  rw [hfinal] at hw
  rw [State.workDone_of_clk hpass.clk] at hlive
  exact hends w hw hlive

/-- What the end of a START set leaves: the time, what engines offer and what they have accepted; one that is DONE stays so. -/
structure SetsEnd (s t : State) : Prop where
  clk : t.clk = s.clk
  offer : ∀ e, (t.eng e).offer = (s.eng e).offer
  work : ∀ e, (t.eng e).work = (s.eng e).work
  done : ∀ e, (s.eng e).st = .done → (t.eng e).st = .done

theorem SetsEnd.refl (s : State) : SetsEnd s s := ⟨rfl, fun _ => rfl, fun _ => rfl, fun _ h => h⟩

theorem SetsEnd.trans {s t u : State} (h : SetsEnd s t) (k : SetsEnd t u) : SetsEnd s u :=
  ⟨k.clk.trans h.clk, fun e => (k.offer e).trans (h.offer e), fun e => (k.work e).trans (h.work e), fun e he => k.done e (h.done e he)⟩

theorem SetsEnd.of_keepsRun {s t : State} (hclk : t.clk = s.clk) (h : KeepsRun s t) : SetsEnd s t :=
  ⟨hclk, fun e => congrArg Engine.offer (h.eng e), fun e => congrArg Engine.work (h.eng e),
    fun e he => (congrArg Engine.st (h.eng e)).trans he⟩

theorem Engine.endsSet_kept (x : Engine) : x.endsSet.offer = x.offer ∧ x.endsSet.work = x.work ∧ (x.st = .done → x.endsSet.st = .done) := by
  unfold Engine.endsSet
  split
  · exact ⟨rfl, rfl, fun _ => rfl⟩
  · exact ⟨rfl, rfl, id⟩

theorem State.endSet_clk (s : State) (g : StartSet) : (s.endSet g).clk = s.clk := by
  obtain ⟨hframe, -⟩ := foldS_engines (f := fun e s => s.modEng e Engine.endsSet) (g.members ++ g.halted) s
    (fun _ _ _ => rfl) (fun _ => Engine.endsSet_idem)
  have hclk := congrArg State.clk hframe
  exact hclk

theorem State.endSet_setsEnd (s : State) (g : StartSet) : SetsEnd s (s.endSet g) := by
  obtain ⟨heng, -, -⟩ := State.endSet_leaves s g
  have hown : ∀ e, (s.endSet g).eng e = (s.eng e).endsSet ∨ (s.endSet g).eng e = s.eng e := fun e => by
    rw [heng]
    split
    · exact .inl rfl
    · exact .inr rfl
  refine ⟨State.endSet_clk s g, fun e => ?_, fun e => ?_, fun e he => ?_⟩ <;>
    obtain ⟨hoffer, hwork, hdone⟩ := (s.eng e).endsSet_kept <;> obtain h | h := hown e <;> rw [h]
  · exact hoffer
  · exact hwork
  · exact hdone he
  · exact he

theorem State.stopReplies_clk (s : State) (id : Nat) (shotNo b : W32) : (s.stopReplies id shotNo b).clk = s.clk := by
  unfold State.stopReplies
  extract_lets l done cmd noted
  refine foldS_rel (fun s t => t.clk = s.clk) (fun _ => rfl) (fun _ _ _ h k => k.trans h) _ _ (fun x _ u => ?_) noted
  have hfinal : ∀ v : State, (v.finalReply x.1 0x22 stOk [shotNo, b]).clk = v.clk := fun v => (State.finalReply_emits v _ _ _ _).clk
  dsimp only
  split
  · split
    · exact (hfinal _).trans (State.setLong_emits u .fm none).clk
    · exact hfinal u
  · exact hfinal u

theorem State.mendDetach_clk (s : State) : s.mendDetach.clk = s.clk := by
  unfold State.mendDetach
  dsimp only
  split <;> rfl

theorem State.fillAbsent_clk (s : State) (n : Nat) : (s.fillAbsent n).clk = s.clk := by
  refine foldS_rel (fun s t => t.clk = s.clk) (fun _ => rfl) (fun _ _ _ h k => k.trans h) _ _ (fun d _ u => ?_) s
  exact (State.flag_emits (u.addSat 0x10040020 1) mendFlags 2 (by decide)).clk

theorem State.forceRounds_clk (f : W32) (k : Nat) (s : State) : (s.forceRounds f k).clk = s.clk := by
  induction k generalizing s with
  | zero => rfl
  | succ k ih =>
    unfold State.forceRounds
    split
    · rfl
    · exact (ih _).trans (State.fillAbsent_clk s _)

theorem State.forceClose_clk (s : State) (f : W32) : (s.forceClose f).clk = s.clk := by
  unfold State.forceClose
  extract_lets forced opened k
  have hforced : forced.clk = s.clk := rfl
  split
  · rfl
  · split
    · exact (State.forceRounds_clk f k forced).trans hforced
    · exact hforced

/-- A START set that an ABORT ends at block b (R70, R190). -/
def State.abortSet (s : State) (id : Nat) (b : W32) : State :=
  let s := if s.mend.set = some id ∧ !s.finalMade then s.forceClose b else s
  match s.findSet id with
  | some g =>
    let s := (s.endSet g).stopReplies id g.shotNo b
    if s.mend.set = some id ∧ s.mend.finalAt.isNone ∧ s.mend.closes.isEmpty then s.mendDetach else s
  | none => s

theorem State.abortSet_setsEnd (s : State) (id : Nat) (b : W32) : SetsEnd s (s.abortSet id b) := by
  have hends : ∀ u g, SetsEnd u ((State.endSet u g).stopReplies id g.shotNo b) := fun u g =>
    (State.endSet_setsEnd u g).trans (.of_keepsRun (State.stopReplies_clk _ _ _ _) (State.stopReplies_keepsRun _ _ _ _))
  have hdetach : ∀ u, SetsEnd u (State.mendDetach u) := fun u =>
    .of_keepsRun (State.mendDetach_clk u) (State.mendDetach_keepsRun u)
  unfold State.abortSet
  extract_lets closed
  have hclosed : SetsEnd s closed := by
    show SetsEnd s (if _ then _ else _)
    split
    · exact .of_keepsRun (State.forceClose_clk s b) (State.forceClose_keepsRun s b)
    · exact .refl s
  split
  · dsimp only
    split
    · exact (hclosed.trans (hends closed _)).trans (hdetach _)
    · exact hclosed.trans (hends closed _)
  · exact hclosed

/-- A named engine in a shot or HALTED is done with it (R68, R299). -/
def Engine.aborted (x : Engine) : Engine :=
  if x.active then { x with st := .done, cause := 0, set := none, goEnd := false } else x

theorem Engine.aborted_idem (x : Engine) : x.aborted.aborted = x.aborted := by
  by_cases h : x.active = true
  · simp only [Engine.aborted, if_pos h]
    rfl
  · have hsame : x.aborted = x := if_neg h
    rw [hsame, hsame]

theorem Engine.aborted_kept (x : Engine) : x.aborted.offer = x.offer ∧ x.aborted.work = x.work ∧ (x.active = true → x.aborted.st = .done) := by
  unfold Engine.aborted
  split
  · exact ⟨rfl, rfl, fun _ => rfl⟩
  · rename_i h
    exact ⟨rfl, rfl, fun hx => absurd hx h⟩

theorem State.abortSets_eq (s : State) (sets engs : List Nat) (b : W32) : s.abortSets sets engs b =
    (foldS sets (fun id s => s.abortSet id b) (foldS engs (fun e s => s.modEng e Engine.aborted)
      (foldS engs (fun e s => s.abortEngine e b) s))).serveRuns := rfl

/-- The named engines after an ABORT at block b (R58, R68, R299). -/
theorem State.abortSets_leaves (s : State) (sets engs : List Nat) (b : W32) : ∃ t : State, s.abortSets sets engs b = t.serveRuns ∧
    ∀ e ∈ engs, ((s.eng e).active = true → (t.eng e).st = .done) ∧ t.stopped e b := by
  obtain ⟨hclk, -, -, hstopped⟩ := foldS_stops (f := fun e s => s.abortEngine e b) (b := b)
    (fun e u => ⟨(State.abortEngine_leaves u e b).1, (State.abortEngine_leaves u e b).2.1⟩) engs s
  have hst : ∀ e, ((foldS engs (fun e s => s.abortEngine e b) s).eng e).st = (s.eng e).st := by
    refine foldS_rel (fun s t => ∀ e, (t.eng e).st = (s.eng e).st) (fun _ _ => rfl) (fun _ _ _ h k e => (k e).trans (h e)) _ _
      (fun e _ u g => ?_) s
    obtain ⟨hpass, -, hown⟩ := State.abortEngine_leaves u e b
    by_cases hg : g = e
    · rw [hg, hown]
    · rw [hpass.others g hg]
  refine ⟨_, State.abortSets_eq s sets engs b, fun e he => ?_⟩
  generalize foldS engs (fun e s => s.abortEngine e b) s = u at hclk hstopped hst
  obtain ⟨hframe, heng⟩ := foldS_engines (f := fun e s => s.modEng e Engine.aborted) engs u (fun _ _ _ => rfl)
    (fun _ => Engine.aborted_idem)
  have hdoneClk := congrArg State.clk hframe
  have hown := (heng e).trans (if_pos he)
  generalize foldS engs (fun e s => s.modEng e Engine.aborted) u = v at hown hdoneClk
  obtain ⟨hoffer, hwork, hdone⟩ := (u.eng e).aborted_kept
  have hend : SetsEnd v (foldS sets (fun id s => s.abortSet id b) v) :=
    foldS_rel SetsEnd .refl (fun _ _ _ => .trans) _ _ (fun id _ w => State.abortSet_setsEnd w id b) v
  have hactive : (u.eng e).active = (s.eng e).active := by simp only [Engine.active, Engine.inShot, hst]
  refine ⟨fun hact => hend.done e ?_, State.stopped_of_same (hstopped e he) (hend.clk.trans hdoneClk) ?_ ?_⟩
  · rw [hown]
    exact hdone (hactive.trans hact)
  · rw [hend.offer, hown, hoffer]
  · rw [hend.work, hown, hwork]

/-- What the Hem asks for at a write to PORT_CTRL (R57, R135, R478). -/
theorem State.portCtrlHem_cases (s : State) (p : Nat) (v : W32) :
    (s.bit (portAddr p 0) 0 = false → v.getLsbD 0 = true → s.portCtrlHem p v = { s.hem with enables := s.hem.enables ++ [(p, s.pin + 4)] }) ∧
    (s.bit (portAddr p 0) 0 = true → v.getLsbD 0 = false →
      s.portCtrlHem p v = { s.hem with removals := s.hem.removals ++ [.port p (s.pin + 4)] }) ∧
    (s.bit (portAddr p 0) 0 = v.getLsbD 0 → s.portCtrlHem p v = s.hem) := by
  unfold State.portCtrlHem
  refine ⟨fun hwas hnow => ?_, fun hwas hnow => ?_, fun hsame => ?_⟩
  · rw [hwas, hnow]
    rfl
  · rw [hwas, hnow]
    rfl
  · rw [hsame]
    cases v.getLsbD 0 <;> rfl

/-- A port never enabled before asks the governor for its wake (R478). -/
theorem State.portWakes_asks (s : State) (p : Nat) (b : W32) : (s.portWakes p b false).hem.requests =
    s.hem.requests ++ [{ kind := .port p true, arrival := s.pin, use := some b, eng := port0Eng p }] := rfl

/-- A port enabled before with no wake on its way and in no clamp is awake at once (R478). -/
theorem State.portWakes_awake {s : State} {p : Nat} (hwaking : s.waking p = false) (hclamps : ∀ c ∈ s.hem.clamps, c.port ≠ p) (b : W32) :
    (s.portWakes p b true).bit (portAddr p 4) 2 = true ∧ (s.portWakes p b true).hem = s.hem := by
  have hwake : s.portWakes p b true = s.setBit (portAddr p 4) 2 true := by
    rw [← State.wakeUp_of_clear hclamps, State.portWakes, hwaking]
    rfl
  rw [hwake]
  refine ⟨?_, State.setBit_hem s _ 2 _⟩
  rw [State.bit_setBit _ _ _ _ _ _ (by decide), if_pos ⟨rfl, rfl⟩]

/-- Settles O21. The removal of an ABORT holds every member of the START sets that it acts on: that all of them lose their accepted work
is the model's reading (log entry 104). -/
theorem portEnableAndRemoval : Obligations.PortEnableAndRemoval := by
  refine ⟨fun s p v c hc => ?_, fun s p b hfind => ?_, fun s p b hnext => ?_, fun s sets engs b hnext => ?_⟩
  · have hexec : exec c s = .next ((s.writePortCtrl p v).touch (portAddr p 0)) := by
      obtain rfl | rfl := hc <;> rfl
    obtain ⟨hframe, hregs, hctrl⟩ := State.setReg_onlyTables s (portAddr p 0) (v &&& 3) (s.portCtrlHem p v)
    rw [State.writePortCtrl_eq] at hexec
    exact ⟨_, hexec, hframe, hregs, hctrl, State.portCtrlHem_cases s p v⟩
  · have hexec := exec_portEnableEffect hfind
    have hever : (s.advanceTo b).bit (portAddr p 4) 1 = s.bit (portAddr p 4) 1 :=
      congrArg (fun v : W32 => v.getLsbD 1) (State.advanceTo_reg s b _)
    obtain ⟨heng, hmem, hregs, hon, hbefore, hhem⟩ := State.portEnabled_leaves s p b
    rw [hever] at hexec
    generalize s.portEnabled p b = u at heng hmem hregs hon hbefore hhem hexec
    obtain ⟨hwakes, hwakesOn, hwakesBefore⟩ := State.portWakes_kept u p b (s.bit (portAddr p 4) 1)
    obtain ⟨hclamp, hclampHem⟩ := State.clampNow_kept (u.portWakes p b (s.bit (portAddr p 4) 1)) p
    have hall := hwakes.trans hclamp
    have hbit : ∀ i, i < 32 → i ≠ 5 → ((u.portWakes p b (s.bit (portAddr p 4) 1)).clampNow p).bit (portAddr p 4) i =
        (u.portWakes p b (s.bit (portAddr p 4) 1)).bit (portAddr p 4) i := fun i hi h5 => State.clampNow_bit _ p hi h5
    refine ⟨_, hexec, ?_, ?_, fun a ha => (hall.regs a ha).trans (hregs a ha), fun e => (hall.eng e).trans (heng e),
      fun a => (hall.mem a).trans (hmem a), fun hnever => ?_, fun hever hwaking hclamps => ?_⟩
    · rw [hbit 0 (by decide) (by decide), hwakesOn, hon]
    · rw [hbit 1 (by decide) (by decide), hwakesBefore, hbefore]
    · rw [hclampHem, State.pin_of_clk hall.clk, hnever, State.portWakes_asks, hhem]
    · have hwaking' : u.waking p = false := by
        rw [← hwaking, State.waking, State.waking, hhem]
      obtain ⟨hawake, hsame⟩ := State.portWakes_awake hwaking' (by rw [hhem]; exact hclamps) b
      refine ⟨?_, ?_⟩
      · rw [hbit 2 (by decide) (by decide), hever, hawake]
      · rw [hclampHem, hever, hsame, hhem]
  · obtain ⟨heng, -, hmem, -, -⟩ := State.removing_kept s (.port p b)
    have hexec := exec_removalEffect hnext
    generalize s.removing (.port p b) = u at heng hmem hexec
    obtain ⟨t, hdis, hoff, hclamped, tmem, tothers, tstopped⟩ := State.disablePort_leaves u p b
    exact ⟨t, hexec.trans (congrArg Host.Outcome.next hdis), hoff, hclamped, fun a => (tmem a).trans (hmem a),
      fun e he => (tothers e he).trans (heng e), tstopped⟩
  · obtain ⟨heng, -, -, -, -⟩ := State.removing_kept s (.abort sets engs b)
    have hexec := exec_removalEffect hnext
    generalize s.removing (.abort sets engs b) = u at heng hexec
    obtain ⟨t, habort, hnamed⟩ := State.abortSets_leaves u sets engs b
    refine ⟨t, hexec.trans (congrArg Host.Outcome.next habort), fun e he => ?_⟩
    obtain ⟨hdone, hoffer, hends⟩ := hnamed e he
    exact ⟨fun hact => hdone ((congrArg Engine.active (heng e)).trans hact), hoffer, hends⟩

end Sys2Proof.Machine

namespace Sys2Proof.Machine

/-! ## A lone request before the governor (R395) -/

theorem govEarliest_nil (n : Nat) : govEarliest [] n = 4 := rfl

theorem govLatest_nil (n : Nat) (hi : Int) : govLatest [] n hi = if 4 ≤ hi then some hi else none := by
  unfold govLatest govFree
  by_cases h : 4 ≤ hi
  · simp [h, maxInt]
  · simp [h, maxInt]

theorem add_ofInt_bdiff (a use : W32) : a + BitVec.ofInt 32 (bdiff use a - 800) = use - 800 := by
  have hback : BitVec.ofInt 32 (bdiff use a - 800) = (use - a) - 800 := by
    have hneg : BitVec.ofInt 32 (-800) = -(800 : W32) := by decide
    rw [Int.sub_eq_add_neg, BitVec.ofInt_add, bdiff, BitVec.ofInt_toInt, hneg, ← BitVec.sub_eq_add_neg]
  rw [hback]
  bv_omega

/-- With no interval taken a wake's grant lies 800 blocks before its use where that is 4 blocks ahead, another's 4 blocks ahead. -/
theorem State.govChoose_free {s : State} (hfree : s.hem.grants = []) (k : GovKind) (a use : W32) : s.govChoose k a use =
    if k.isWake && decide (4 ≤ (use - a).toInt - 800) then use - 800 else a + 4 := by
  unfold State.govChoose
  rw [hfree]
  simp only [List.map_nil, govEarliest_nil, govLatest_nil]
  show _ = if k.isWake && decide (4 ≤ bdiff use a - 800) then use - 800 else a + 4
  cases k.isWake with
  | false => rfl
  | true =>
    by_cases h : 4 ≤ bdiff use a - 800
    · simp only [h, if_true, Option.getD_some, Bool.true_and, decide_true]
      exact add_ofInt_bdiff a use
    · simp only [h, if_false, if_true, Option.getD_none, Bool.true_and, decide_false, Bool.false_eq_true]
      rfl

theorem State.govPlaceAll_one {s : State} {r : GovReq} (h : s.hem.requests = [r]) :
    s.govPlaceAll 1 = State.govPlace { s with hem := { s.hem with requests := [] } } r := by
  have hfirst : firstBy reqBefore s.hem.requests = some r := by rw [h]; rfl
  have herase : s.hem.requests.erase r = [] := by rw [h]; simp
  simp only [State.govPlaceAll, hfirst, herase]

/-- The grant placed for a request that finds none placed (R395). -/
theorem State.govPlace_free {s : State} (hfree : s.hem.grants = []) (r : GovReq) : let t := s.govPlace r
    let g := s.govChoose r.kind r.arrival (r.use.getD r.arrival)
    t = { s with hem := t.hem } ∧ t.hem.requests = s.hem.requests ∧
      t.hem.grants = [{ kind := r.kind, g := g, len := r.kind.interval, done := false }] ∧
      ∀ p en, r.kind = .port p en → tabFind t.hem.ready p = some (g + 800) := by
  unfold State.govPlace
  dsimp only
  generalize s.govChoose r.kind r.arrival (r.use.getD r.arrival) = g
  rw [hfree]
  cases hk : r.kind with
  | tile n cal => exact ⟨rfl, rfl, rfl, fun p en h => by cases h⟩
  | inport l => exact ⟨rfl, rfl, rfl, fun p en h => by cases h⟩
  | port q en =>
    refine ⟨rfl, rfl, rfl, fun p en h => ?_⟩
    cases h
    exact (tabFind_tabIns q q (g + 800) s.hem.ready).trans (if_pos rfl)

/-! ## The one open grant at its block (R395) -/

/-- Engines, memory and the governor's grants as before. -/
structure KeepsGrants (s t : State) : Prop where
  eng : ∀ e, t.eng e = s.eng e
  mem : s.sameMem t
  grants : t.hem.grants = s.hem.grants

theorem KeepsGrants.refl (s : State) : KeepsGrants s s := ⟨fun _ => rfl, fun _ => rfl, rfl⟩

theorem KeepsGrants.trans {s t u : State} (h : KeepsGrants s t) (k : KeepsGrants t u) : KeepsGrants s u :=
  ⟨fun e => (k.eng e).trans (h.eng e), fun a => (k.mem a).trans (h.mem a), k.grants.trans h.grants⟩

theorem KeepsGrants.of_portStatus {s t : State} {p : Nat} (h : PortStatusOnly p s t) (k : t.hem = s.hem) : KeepsGrants s t :=
  ⟨h.eng, h.mem, congrArg Hem.grants k⟩

theorem State.clampBegin_keepsGrants (s : State) (c : Clamp) : KeepsGrants s (s.clampBegin c) := by
  have hclamps : ∀ l, KeepsGrants s { s with hem := { s.hem with clamps := l } } := fun _ => ⟨fun _ => rfl, fun _ => rfl, rfl⟩
  have hasleep : ∀ u : State, KeepsGrants u (u.setBit (portAddr c.port 4) 2 false) := fun u =>
    .of_portStatus (State.setBit_portStatus u c.port 2 false) (State.setBit_hem u _ 2 _)
  have hclamp : ∀ u : State, KeepsGrants u (u.clampNow c.port) := fun u =>
    .of_portStatus (State.clampNow_kept u c.port).1 (State.clampNow_kept u c.port).2
  exact ((hclamps _).trans (hasleep _)).trans (hclamp _)

/-- A tile's calibration begins without touching engines, memory or the grants. -/
theorem State.calStart_keepsGrants (s : State) (t : Nat) (g : W32) : KeepsGrants s (s.calStart t g) := by
  have hrun : ∀ l, KeepsGrants s { s with hem := { s.hem with calRun := l } } := fun _ => ⟨fun _ => rfl, fun _ => rfl, rfl⟩
  unfold State.calStart
  dsimp only
  split
  · exact (hrun _).trans (foldS_rel KeepsGrants .refl (fun _ _ _ => .trans) _ _ (fun p _ u => State.clampBegin_keepsGrants u _) _)
  · exact (hrun _).trans (foldS_rel KeepsGrants .refl (fun _ _ _ => .trans) _ _ (fun i _ u =>
      ⟨State.setBit_eng u _ 8 true, State.setBit_byte u _ 8 true, congrArg Hem.grants (State.setBit_hem u _ 8 true)⟩) _)

/-- A grant marked as carried out. -/
def State.grantDone (s : State) (g : Grant) : State :=
  { s with hem := { s.hem with grants := s.hem.grants.map (fun x => if x = g then { g with done := true } else x) } }

theorem State.grantDone_open {s : State} {g : Grant} (h : s.openGrants = [g]) : (s.grantDone g).openGrants = [] := by
  have honly : ∀ x ∈ s.hem.grants, x.done = false → x = g := fun x hx hopen => by
    have hmem : x ∈ s.openGrants := List.mem_filter.mpr ⟨hx, by simp [hopen]⟩
    rw [h] at hmem
    exact List.mem_singleton.mp hmem
  refine List.filter_eq_nil_iff.mpr fun y hy => ?_
  obtain ⟨x, hx, rfl⟩ := List.mem_map.mp hy
  by_cases hg : x = g
  · simp [hg]
  · have hdone : x.done ≠ false := fun hopen => hg (honly x hx hopen)
    simpa [hg] using hdone

/-- A grant carried out (R395). -/
theorem State.runGrant_leaves (s : State) (g : Grant) : let t := s.runGrant g
    KeepsGrants (s.grantDone g) t ∧
      (∀ p en, g.kind = .port p en → (t.reg 0x1005001C).toNat = min 0xFFFFFFFF ((s.reg 0x1005001C).toNat + 1) ∧
        s.sameRegs t [0x1005001C]) ∧
      (∀ n, g.kind = .tile n false → tabFind t.hem.tileWait n = some (g.g + 8000) ∧ s.sameRegs t []) ∧
      (∀ l, g.kind = .inport l → tabFind t.hem.inWait l = some (g.g + 8000) ∧ s.sameRegs t []) := by
  have hrun : s.runGrant g = match g.kind with
      | .tile t true => (s.grantDone g).calStart t g.g
      | .tile t false => { s.grantDone g with hem := { (s.grantDone g).hem with tileWait := tabIns t (g.g + powerBlocks) (s.grantDone g).hem.tileWait } }
      | .inport l => { s.grantDone g with hem := { (s.grantDone g).hem with inWait := tabIns l (g.g + powerBlocks) (s.grantDone g).hem.inWait } }
      | .port _ _ => (s.grantDone g).addSat 0x1005001C 1 := rfl
  have hregs : ∀ a, (s.grantDone g).reg a = s.reg a := fun _ => rfl
  have hkept : ∀ h : Hem, h.grants = (s.grantDone g).hem.grants → KeepsGrants (s.grantDone g) { s.grantDone g with hem := h } :=
    fun _ h => ⟨fun _ => rfl, fun _ => rfl, h⟩
  rw [hrun]
  generalize s.grantDone g = u at hregs hkept ⊢
  split
  · rename_i n hk
    exact ⟨State.calStart_keepsGrants u n g.g, fun _ _ h => absurd (hk.symm.trans h) (by simp),
      fun _ h => absurd (hk.symm.trans h) (by simp), fun _ h => absurd (hk.symm.trans h) (by simp)⟩
  · rename_i n hk
    refine ⟨hkept _ rfl, fun _ _ h => absurd (hk.symm.trans h) (by simp), fun m h => ?_, fun _ h => absurd (hk.symm.trans h) (by simp)⟩
    obtain rfl : n = m := by simpa [hk] using h
    exact ⟨(tabFind_tabIns n n _ _).trans (if_pos rfl), fun a _ => hregs a⟩
  · rename_i l hk
    refine ⟨hkept _ rfl, fun _ _ h => absurd (hk.symm.trans h) (by simp), fun _ h => absurd (hk.symm.trans h) (by simp), fun m h => ?_⟩
    obtain rfl : l = m := by simpa [hk] using h
    exact ⟨(tabFind_tabIns l l _ _).trans (if_pos rfl), fun a _ => hregs a⟩
  · rename_i hk
    refine ⟨⟨State.addSat_eng u _ 1, State.addSat_byte u _ 1, congrArg Hem.grants (State.addSat_hem u _ 1)⟩, fun _ _ _ => ⟨?_, fun a ha => ?_⟩,
      fun _ h => absurd (hk.symm.trans h) (by simp), fun _ h => absurd (hk.symm.trans h) (by simp)⟩
    · rw [State.addSat_toNat, hregs]
    · rw [State.reg_addSat, if_neg (by simpa using ha), hregs]

/-- Device time brought up to a grant's block: the block has come. -/
theorem State.bge_advanceTo {s : State} {b : W32} (h : 0 ≤ (s.pin - b).toInt ∨ s.clk.run = true ∧ 0 < (b - s.pin).toInt) :
    bge (s.advanceTo b).pin b = true := by
  by_cases hahead : s.clk.run = true ∧ 0 < (b - s.pin).toInt
  · obtain ⟨hrun, hlt⟩ := hahead
    rw [State.pin_advanceTo hrun hlt]
    simp [bge, bdiff]
  · have hstay : s.advanceTo b = s := if_neg hahead
    rw [hstay]
    simpa [bge, bdiff] using h.resolve_right hahead

/-- Of one open grant whose block has come the governor carries out that one. -/
theorem State.runGrants_one {s : State} {g : Grant} (hopen : s.openGrants = [g]) (hcome : bge s.pin g.g = true) :
    s.runGrants = s.runGrant g := by
  have hlist : s.openGrants.filter (fun g => bge s.pin g.g) = [g] := by
    rw [hopen]
    simp [hcome]
  rw [State.runGrants, hlist]
  simp only [foldS, List.foldl_cons, List.foldl_nil]

theorem State.runGrants_none {s : State} (hopen : s.openGrants = []) : s.runGrants = s := by
  unfold State.runGrants
  rw [hopen]
  rfl

theorem exec_governorGrant {s : State} {g : Grant} (hopen : s.openGrants = [g]) (hcome : bge (s.advanceTo g.g).pin g.g = true) :
    exec .governorGrant s = .next ((s.advanceTo g.g).runGrant g) := by
  have hfirst : firstBy (fun a b : Grant => !blt b.g a.g) s.openGrants = some g := by rw [hopen]; rfl
  have hsame : (s.advanceTo g.g).openGrants = [g] := by
    rw [← hopen, State.openGrants, State.openGrants, State.advanceTo_frame]
  rw [← State.runGrants_one hsame hcome]
  show execGovernorGrant s = _
  simp only [execGovernorGrant, hfirst]

/-! ## A port wakes and dozes (R389, R395, R396) -/

/-- The ready block of a port has come and gone (R395). -/
def State.wokenAt (s : State) (p : Nat) (r : W32) : State :=
  let idle := match tabFind s.hem.dozeFrom p with | some b => bmax b r | none => r
  { s with hem := { s.hem with ready := tabDel p s.hem.ready, dozeFrom := tabIns p idle s.hem.dozeFrom } }

theorem exec_portWakeReady {s : State} {p : OPort} {r : W32} (h : tabFind s.hem.ready p = some r) :
    exec (.portWakeReady p) s = .next (((s.advanceTo r).runGrants.wokenAt p r).wakeUp p) := by
  show execPortWakeReady p s = _
  simp only [execPortWakeReady, h]
  rfl

/-- The block at which an idle port dozes (R396). -/
def State.dozeAt (s : State) (p : Nat) : State :=
  match tabFind s.hem.dozeFrom p with
  | some b => s.advanceTo (b + BitVec.ofNat 32 s.dozeIdle)
  | none => s

theorem State.dozeAt_frame (s : State) (p : Nat) : s.dozeAt p = { s with clk := (s.dozeAt p).clk } := by
  unfold State.dozeAt
  split
  · exact State.advanceTo_frame s _
  · rfl

theorem exec_portDoze_of_may {s : State} {p : OPort} (h : s.mayDoze p = true) : exec (.portDoze p) s =
    .next (if (s.dozeAt p).fluxQuiet p then (s.dozeAt p).setBit (portAddr p 4) 2 false else s.dozeAt p) := if_pos h

theorem exec_portDoze_of_not {s : State} {p : OPort} (h : s.mayDoze p = false) : exec (.portDoze p) s = .next s :=
  if_neg (by simp [h])

/-- Settles O24. That a flux port may doze once every code of its last DOZE_IDLE blocks was 0 is the model's choice (log entry 95). -/
theorem governorAndWakes : Obligations.GovernorAndWakes := by
  refine ⟨fun s r hreq hfree => ?_, fun s g hopen _ hblock => ?_, fun s p r hready hopen hclamps => ?_, fun s p => ?_⟩
  · intro use g
    obtain ⟨hframe, hrequests, hgrants, hwake⟩ :=
      State.govPlace_free (s := { s with hem := { s.hem with requests := [] } }) hfree r
    have hchoose := State.govChoose_free (s := { s with hem := { s.hem with requests := [] } }) hfree r.kind r.arrival use
    rw [hchoose] at hgrants hwake
    refine ⟨_, congrArg Host.Outcome.next (State.govPlaceAll_one hreq), ?_, hrequests, hgrants, hwake⟩
    rw [hframe]
  · have hcome := State.bge_advanceTo hblock
    have hframe := State.advanceTo_frame s g.g
    obtain ⟨heng, hreg, hmem⟩ := State.clk_kept hframe
    have hsame : (s.advanceTo g.g).openGrants = [g] := by
      rw [← hopen, State.openGrants, State.openGrants, hframe]
    refine ⟨_, exec_governorGrant hopen hcome, ?_⟩
    generalize s.advanceTo g.g = u at heng hreg hmem hsame
    obtain ⟨hkept, hport, htile, hinport⟩ := State.runGrant_leaves u g
    refine ⟨?_, fun e => (hkept.eng e).trans (heng e), fun a => (hkept.mem a).trans (hmem a), fun p en hk => ?_, fun n hk => ?_,
      fun l hk => ?_⟩
    · rw [State.openGrants, hkept.grants]
      exact State.grantDone_open hsame
    · obtain ⟨hcount, hregs⟩ := hport p en hk
      exact ⟨by rw [hcount, hreg], fun a ha => (hregs a ha).trans (hreg a)⟩
    · obtain ⟨hwait, hregs⟩ := htile n hk
      exact ⟨hwait, fun a ha => (hregs a ha).trans (hreg a)⟩
    · obtain ⟨hwait, hregs⟩ := hinport l hk
      exact ⟨hwait, fun a ha => (hregs a ha).trans (hreg a)⟩
  · have hexec := exec_portWakeReady hready
    have hframe := State.advanceTo_frame s r
    obtain ⟨heng, hreg, hmem⟩ := State.clk_kept hframe
    have hhem : (s.advanceTo r).hem = s.hem := by rw [hframe]
    have hnone : (s.advanceTo r).openGrants = [] := by rw [← hopen, State.openGrants, State.openGrants, hhem]
    rw [State.runGrants_none hnone] at hexec
    generalize s.advanceTo r = u at heng hreg hmem hhem hexec
    have hclear : ∀ c ∈ (u.wokenAt p r).hem.clamps, c.port ≠ p.val := fun c hc => by
      have hin : c ∈ u.hem.clamps := hc
      rw [hhem, hclamps] at hin
      exact absurd hin (by simp)
    have hgone : tabFind (u.wokenAt p r).hem.ready p = none := (tabFind_tabDel p.val p.val _).trans (if_pos rfl)
    rw [State.wakeUp_of_clear hclear] at hexec
    have hstatus := State.setBit_portStatus (u.wokenAt p r) p 2 true
    refine ⟨_, hexec, ?_, ?_, fun a ha => (hstatus.regs a ha).trans (hreg a), fun e => (hstatus.eng e).trans (heng e),
      fun a => (hstatus.mem a).trans (hmem a)⟩
    · rw [State.bit_setBit _ _ _ _ _ _ (by decide), if_pos ⟨rfl, rfl⟩]
    · rw [State.setBit_hem, hgone]
  · obtain ⟨heng, hreg, hmem⟩ := State.clk_kept (State.dozeAt_frame s p)
    intro r
    refine ⟨fun hmay hquiet => ?_, fun hmay hloud => ?_, fun hmay => exec_portDoze_of_not hmay⟩
    · have hexec := exec_portDoze_of_may hmay
      have hdozes : (s.dozeAt p).fluxQuiet p = true := by
        obtain hkind | hquiet := hquiet
        · rw [State.fluxQuiet, hkind]
          rfl
        · exact hquiet
      rw [if_pos hdozes] at hexec
      have hstatus := State.setBit_portStatus (s.dozeAt p) p 2 false
      refine ⟨_, hexec, ?_, fun a ha => (hstatus.regs a ha).trans (hreg a), fun e => (hstatus.eng e).trans (heng e),
        fun a => (hstatus.mem a).trans (hmem a)⟩
      rw [State.bit_setBit _ _ _ _ _ _ (by decide), if_pos ⟨rfl, rfl⟩]
    · have hexec := exec_portDoze_of_may hmay
      have hloud' : ¬ (s.dozeAt p).fluxQuiet p = true := by
        rw [show (s.dozeAt p).fluxQuiet p = false from hloud]
        decide
      rw [if_neg hloud'] at hexec
      exact hexec

end Sys2Proof.Machine

namespace Sys2Proof.Machine

/-! ## What leaves the field side as it is (R27, R266, R305) -/

theorem State.fieldKept.refl (s : State) : s.fieldKept s := ⟨fun _ => rfl, fun _ => rfl, fun _ _ => rfl⟩

theorem State.fieldKept.trans {s t u : State} (h : s.fieldKept t) (k : t.fieldKept u) : s.fieldKept u := by
  obtain ⟨heng, hmem, hreg⟩ := h
  obtain ⟨keng, kmem, kreg⟩ := k
  exact ⟨fun e => (keng e).trans (heng e), fun a => (kmem a).trans (hmem a), fun a ha => (kreg a ha).trans (hreg a ha)⟩

theorem State.fieldKept.of_tables {s t : State} (he : t.engines = s.engines) (hm : t.mem = s.mem) (hr : t.regs = s.regs) : s.fieldKept t :=
  ⟨fun e => by simp only [State.eng, he], State.byte_of_mem hm, fun a _ => State.reg_of_regs hr a⟩

/-- The registers of the host side lie below the field side's. -/
theorem State.setReg_fieldKept (s : State) {a : Nat} (v : W32) (ha : a < 0x10000000) : s.fieldKept (s.setReg a v) := by
  refine ⟨State.setReg_eng s a v, State.setReg_byte s a v, fun b hb => ?_⟩
  rw [State.reg_setReg, if_neg (by omega)]

theorem State.setPend_fieldKept (s : State) {src : Nat} (h : src < 1344) : s.fieldKept (s.setPend src) :=
  State.setReg_fieldKept s _ (by unfold aPend; omega)

/-- What goes out by host links or not over a serial port at all. -/
def Out.toHost (o : Out) : Prop := ∀ k head x, outTx o k head = some x → ∃ l, x.1 = .hl l

theorem Out.notice_toHost (m : Option (BitVec 48 × BitVec 48)) (ws : List W32) : Out.toHost (.notice m ws) := by
  intro k head x hx
  cases m with
  | none =>
    obtain rfl : _ = x := Option.some.inj hx
    exact ⟨k, rfl⟩
  | some y => exact absurd hx (by simp [outTx])

theorem State.transmit_fieldKept (s : State) {o : Out} (ho : o.toHost) : s.fieldKept (s.transmit o) := by
  have hemit := State.transmit_emits s o
  refine ⟨hemit.eng, hemit.byte, fun a ha => ?_⟩
  unfold State.transmit
  dsimp only
  split
  · rfl
  · rename_i p t htx
    obtain ⟨l, rfl⟩ := ho _ _ _ htx
    have hlow : a ≠ linkAddr (.hl l) 4 := by
      have := l.isLt
      show a ≠ 0x00030000 + 0x1000 * l.val + 4
      omega
    have key : ∀ u : State, u.reg a = s.reg a → (if u.linkUp (.hl l) then (u.setFld (linkAddr (.hl l) 4) 6 5 0).setLink (.hl l)
        (Link.pump { u.link (.hl l) with wait := insTx t (u.link (.hl l)).wait }) else u).reg a = s.reg a := by
      intro u hu
      split
      · exact (State.reg_setFld u _ 6 5 0 a).trans ((if_neg hlow).trans hu)
      · exact hu
    apply key
    split <;> rfl

theorem State.send_fieldKept (s : State) {o : Out} (ho : o.toHost) : s.fieldKept (s.send o) := by
  have hnote : ∀ u : State, u.fieldKept { u with sent := u.sent ++ [o] } := fun _ => .of_tables rfl rfl rfl
  unfold State.send
  dsimp only
  split
  · rename_i p hp
    have hp2 := mgmtTx_lt hp
    have hcount : s.fieldKept (s.addSat (0x00040024 + 0x10 * p) 1) := State.setReg_fieldKept s _ (by omega)
    exact (hcount.trans (hnote _)).trans (State.transmit_fieldKept _ ho)
  · exact (hnote s).trans (State.transmit_fieldKept _ ho)

theorem State.sendResult_fieldKept (s : State) {o : Out} (ho : o.toHost) : s.fieldKept (s.sendResult o) := by
  unfold State.sendResult
  split
  · exact State.send_fieldKept s ho
  · exact .of_tables rfl rfl rfl

theorem State.sendNotice_fieldKept (s : State) (n : Notice) : s.fieldKept (s.sendNotice n) := by
  have hframe : ∀ u : State, s.fieldKept u → s.fieldKept (if (u.bit 0x00060000 2 && u.bit 0x00040004 0) = true then
      u.send (.notice (some (u.hostMac, u.ownMac)) (noticeWords n (s.fld aNseq 15 0))) else u) := by
    intro u hu
    split
    · exact hu.trans (State.send_fieldKept u (Out.notice_toHost _ _))
    · exact hu
  unfold State.sendNotice
  dsimp only
  apply hframe
  have hseq : s.fieldKept (s.setFld aNseq 15 0 ((s.fld aNseq 15 0 + 1) % 0x10000)) := State.setReg_fieldKept s _ (by decide)
  generalize s.setFld aNseq 15 0 ((s.fld aNseq 15 0 + 1) % 0x10000) = u at hseq
  split
  · exact hseq
  · split
    · have hlost : u.fieldKept (u.addSat aEvtLost 1) := State.setReg_fieldKept u _ (by decide)
      have hcount : ∀ (v : State) (x : Evt), v.fieldKept { v with evt := x } := fun _ _ => .of_tables rfl rfl rfl
      exact ((hseq.trans hlost).trans (hcount _ _)).trans (State.setPend_fieldKept _ (by decide))
    · exact hseq.trans (State.sendResult_fieldKept u (Out.notice_toHost _ _))

theorem State.lostNotice_fieldKept (s : State) : s.fieldKept s.lostNotice := by
  unfold State.lostNotice
  dsimp only
  split
  · exact .refl s
  · have hcount : ∀ x : Evt, s.fieldKept { s with evt := x } := fun _ => .of_tables rfl rfl rfl
    split
    · exact (hcount _).trans (State.sendNotice_fieldKept _ _)
    · exact hcount _

/-- A host source's event stays on the host side. -/
theorem State.hostRaise_fieldKept (s : State) {n : Notice} (hn : n.source < 1344) : s.fieldKept (s.hostRaise n) := by
  have hpend := State.setPend_fieldKept s hn
  unfold State.hostRaise
  dsimp only
  split
  · exact (hpend.trans (State.lostNotice_fieldKept _)).trans (State.sendNotice_fieldKept _ n)
  · exact hpend

/-! ## The flags of the time unit (R338) -/

/-- A flag is set whatever else its event does. -/
theorem State.bit_flag (s : State) {f : FlagReg} {b : Nat} (hb : b < 32) (hsrc : f.source < 1344) (hquiet : emitReg f.addr = false) :
    (s.flag f b).bit f.addr b = true := by
  unfold State.flag State.flagD
  split
  · assumption
  · rw [State.bit, (State.raise_emits _ _ _ _ _ _ hsrc).regs _ (by simp) hquiet, State.reg_setReg, if_pos rfl]
    simp [hb]

/-- A flag of TIME_FLAGS is set; the time unit, the clocks and the field side stay as they are. -/
structure TimeFlagSet (b : Nat) (s t : State) : Prop where
  clk : t.clk = s.clk
  time : t.time = s.time
  field : s.fieldKept t
  regs : ∀ a, a ≠ 0x00050008 → emitReg a = false → t.reg a = s.reg a
  flag : t.bit 0x00050008 b = true

theorem State.flag_timeFlags (s : State) {b : Nat} (hb : b < 32) : TimeFlagSet b s (s.flag timeFlags b) := by
  have hemit := State.flag_emits s timeFlags b (by decide)
  have hreg : s.fieldKept (s.flag timeFlags b) := by
    unfold State.flag State.flagD State.raise
    rw [if_neg (show ¬ isFieldSource timeFlags.source = true by decide)]
    split
    · exact .refl s
    · exact (State.setReg_fieldKept s _ (by decide)).trans (State.hostRaise_fieldKept _ (show timeFlags.source < 1344 by decide))
  refine ⟨hemit.clk, by rw [hemit.frame], hreg, fun a ha he => hemit.regs a (by simpa [timeFlags] using ha) he, ?_⟩
  exact State.bit_flag s hb (by decide) (by decide)

/-! ## Beacons and mappings (R317-R319) -/

theorem State.send_beacon (s : State) (b : BeaconMsg) : s.send (.beacon b) = { s with sent := s.sent ++ [.beacon b] } := rfl

/-- The registers in which a beacon's seconds are kept. -/
def beaconRegs : List Nat := [0x00050044, 0x00050048]

/-- The next beacon counted, and its seconds kept (R319). -/
def State.beaconNoted (s : State) (lo hi : W32) : State :=
  ((s.modTime (fun t => { t with bseq := s.time.bseq + 1 })).setReg 0x00050044 lo).setReg 0x00050048 hi

theorem State.beaconNoted_leaves (s : State) (lo hi : W32) : let t := s.beaconNoted lo hi
    t.time = { s.time with bseq := s.time.bseq + 1 } ∧ t.clk = s.clk ∧ t.sent = s.sent ∧ t.lining = s.lining ∧ s.sameRegs t beaconRegs ∧
      s.fieldKept t := by
  have hcount : s.fieldKept (s.modTime (fun t => { t with bseq := s.time.bseq + 1 })) := .of_tables rfl rfl rfl
  unfold State.beaconNoted
  refine ⟨?_, ?_, ?_, ?_, fun a ha => ?_, ?_⟩
  · rw [State.setReg_time, State.setReg_time]
    rfl
  · rw [State.setReg_clk, State.setReg_clk]
    rfl
  · rw [State.setReg_sent, State.setReg_sent]
    rfl
  · rw [State.setReg_lining, State.setReg_lining]
    rfl
  · obtain ⟨hlo, hhi⟩ : a ≠ 0x00050044 ∧ a ≠ 0x00050048 := by simpa [beaconRegs] using ha
    rw [State.reg_setReg, if_neg hhi, State.reg_setReg, if_neg hlo]
    rfl
  · exact (hcount.trans (State.setReg_fieldKept _ lo (by decide))).trans (State.setReg_fieldKept _ hi (by decide))

/-- A beacon carries the newest mapping under the next number (R319). -/
def State.isNextBeacon (s : State) (b : BeaconMsg) : Prop :=
  b.bseq = s.time.bseq + 1 ∧ b.validFrom = s.newestMap.validFrom ∧ b.netOffset = s.newestMap.offset ∧ b.netRate = s.newestMap.rate

theorem State.sendBeacon_eq {s : State} (h : s.hostUp = true) : ∃ lo hi b, s.isNextBeacon b ∧
    s.sendBeacon = State.send { s.beaconNoted lo hi with
      lining := { (s.beaconNoted lo hi).lining with store := (s.beaconNoted lo hi).lining.store ++ [.beacon b] } } (.beacon b) :=
  ⟨_, _, _, ⟨rfl, rfl, rfl, rfl⟩, if_neg (by simp [h])⟩

/-- A beacon sent while the Lining is up (R319). -/
theorem State.sendBeacon_up {s : State} (h : s.hostUp = true) : let t := s.sendBeacon
    ∃ b, s.isNextBeacon b ∧ t.sent = s.sent ++ [.beacon b] ∧ t.lining.store = s.lining.store ++ [.beacon b] ∧
      t.time = { s.time with bseq := s.time.bseq + 1 } ∧ s.sameRegs t beaconRegs ∧ s.fieldKept t ∧ t.clk = s.clk := by
  obtain ⟨lo, hi, b, hb, hsend⟩ := State.sendBeacon_eq h
  obtain ⟨htime, hclk, hsent, hlining, hregs, hfield⟩ := State.beaconNoted_leaves s lo hi
  intro t
  show ∃ b, _ ∧ s.sendBeacon.sent = _ ∧ s.sendBeacon.lining.store = _ ∧ s.sendBeacon.time = _ ∧ s.sameRegs s.sendBeacon _ ∧
    s.fieldKept s.sendBeacon ∧ s.sendBeacon.clk = _
  rw [hsend, State.send_beacon]
  generalize s.beaconNoted lo hi = u at htime hclk hsent hlining hregs hfield
  refine ⟨b, hb, congrArg (· ++ _) hsent, congrArg (fun x : Lining => x.store ++ _) hlining, htime, hregs, ?_, hclk⟩
  exact hfield.trans (.of_tables rfl rfl rfl)

theorem State.sendBeacon_down {s : State} (h : s.hostUp = false) : s.sendBeacon = s := if_pos (by simp [h])

/-- Clocks, the servo's parts and its count of good probes as before; of the registers a beacon's alone change. -/
structure KeepsServo (s t : State) : Prop where
  clk : t.clk = s.clk
  accepted : t.time.accepted = s.time.accepted
  freq : t.time.freq = s.time.freq
  slew : t.time.slew = s.time.slew
  regs : s.sameRegs t beaconRegs
  field : s.fieldKept t

theorem KeepsServo.trans {s t u : State} (h : KeepsServo s t) (k : KeepsServo t u) : KeepsServo s u :=
  ⟨k.clk.trans h.clk, k.accepted.trans h.accepted, k.freq.trans h.freq, k.slew.trans h.slew,
    fun a ha => (k.regs a ha).trans (h.regs a ha), h.field.trans k.field⟩

theorem State.sendBeacon_keepsServo (s : State) : KeepsServo s s.sendBeacon := by
  cases h : s.hostUp with
  | false =>
    rw [State.sendBeacon_down h]
    exact ⟨rfl, rfl, rfl, rfl, fun _ _ => rfl, .refl s⟩
  | true =>
    obtain ⟨b, -, -, -, htime, hregs, hfield, hclk⟩ := State.sendBeacon_up h
    exact ⟨hclk, by rw [htime], by rw [htime], by rw [htime], hregs, hfield⟩

theorem State.decideMap_keepsServo (s : State) (vb : Nat) (offset rate : Int) (stepped : Bool) :
    KeepsServo s (s.decideMap vb offset rate stepped) := by
  have hnext : ∀ m, KeepsServo s (s.modTime (fun t => { t with hostNext := m })) := fun _ =>
    ⟨rfl, rfl, rfl, rfl, fun _ _ => rfl, .of_tables rfl rfl rfl⟩
  exact (hnext _).trans (State.sendBeacon_keepsServo _)

/-! ## DEV_IMAGE (R315, R316) -/

/-- DEV_IMAGE moved by c, the count of good probes and the field side as before. -/
structure ImageMoved (s t : State) (c : Int) : Prop where
  clk : t.clk = { s.clk with image := s.clk.image + BitVec.ofInt 64 c }
  accepted : t.time.accepted = s.time.accepted
  field : s.fieldKept t

/-- DEV_IMAGE alone moved. -/
def State.moveImage (s : State) (c : Int) : State := { s with clk := { s.clk with image := s.clk.image + BitVec.ofInt 64 c } }

theorem State.correctImage_small {s : State} {c : Int} (h : c.natAbs ≤ 256) : s.correctImage c = s.moveImage c := if_pos h

/-- A mapping that keeps host time where it was as DEV_IMAGE moves (R316). -/
def Mapping.shifted (c : Int) (m : Mapping) : Mapping := { m with offset := offset80 ((m.offset : Int) - rateTime c m.rate.toInt) }

/-- The mappings of the host side shifted with DEV_IMAGE (R316). -/
def State.shiftMaps (s : State) (c : Int) : State :=
  s.modTime (fun t => { t with hostMap := t.hostMap.shifted c, hostNext := t.hostNext.map (Mapping.shifted c) })

theorem State.correctImage_large {s : State} {c : Int} (h : ¬ c.natAbs ≤ 256) : let t := ((s.moveImage c).shiftMaps c).flag timeFlags 4
    s.correctImage c = match t.time.hostNext with
      | some m => t.decideMap t.validBlock m.offset m.rate.toInt m.stepped
      | none => t.decideMap t.validBlock t.time.hostMap.offset t.time.hostMap.rate.toInt t.time.hostMap.stepped := if_neg h

theorem State.correctImage_moves (s : State) (c : Int) : ImageMoved s (s.correctImage c) c := by
  have hmove : ImageMoved s (s.moveImage c) c := ⟨rfl, rfl, .of_tables rfl rfl rfl⟩
  by_cases h : c.natAbs ≤ 256
  · rw [State.correctImage_small h]
    exact hmove
  · have hlarge := State.correctImage_large (s := s) h
    have hshift : ImageMoved s ((s.moveImage c).shiftMaps c) c := ⟨rfl, rfl, .of_tables rfl rfl rfl⟩
    have hflag := State.flag_timeFlags ((s.moveImage c).shiftMaps c) (b := 4) (by decide)
    generalize (s.moveImage c).shiftMaps c = u at hshift hflag hlarge
    generalize u.flag timeFlags 4 = v at hflag hlarge
    have hdecide : ∀ vb offset rate stepped, ImageMoved s (v.decideMap vb offset rate stepped) c := fun vb offset rate stepped => by
      have hk := State.decideMap_keepsServo v vb offset rate stepped
      exact ⟨hk.clk.trans (hflag.clk.trans hshift.clk), by rw [hk.accepted, hflag.time, hshift.accepted],
        (hshift.field.trans hflag.field).trans hk.field⟩
    rw [hlarge]
    split <;> exact hdecide _ _ _ _

/-- IMAGE_LOCKED set once eight probes in a row were good (R315). -/
def State.probeCounted (s : State) : State :=
  let s := s.modTime (fun t => { t with accepted := min 8 (t.accepted + 1) })
  if s.time.accepted = 8 then s.setBit aTimeStatus 3 true else s

theorem exec_timeProbe_runs {s : State} {sent reply : W64} (h : (s.hostAlive && s.hostUp && s.fieldUp && s.fieldAlive) = true) :
    exec (.timeProbe sent reply) s = .next (if 1024 < (reply - sent).toNat then s.devLatch.modTime (fun t => { t with accepted := 0 })
      else (s.devLatch.correctImage (s.clk.devtime - (sent + BitVec.ofNat 64 ((reply - sent).toNat / 2))).toInt).probeCounted) := by
  simp only [Bool.and_eq_true] at h
  obtain ⟨⟨⟨halive, hup⟩, hfieldUp⟩, hfield⟩ := h
  have hruns : ¬ (!s.hostAlive || !s.hostUp || !s.fieldUp || !s.fieldAlive) = true := by simp [halive, hup, hfieldUp, hfield]
  refine (if_neg hruns).trans ?_
  dsimp only
  split <;> rfl

theorem exec_timeProbe_idle {s : State} (sent reply : W64) (h : (s.hostAlive && s.hostUp && s.fieldUp && s.fieldAlive) = false) :
    exec (.timeProbe sent reply) s = .next s := by
  refine if_pos ?_
  revert h
  cases s.hostAlive <;> cases s.hostUp <;> cases s.fieldUp <;> cases s.fieldAlive <;> decide

theorem State.setBit_fieldKept (s : State) {a : Nat} (b : Nat) (v : Bool) (ha : a < 0x10000000) : s.fieldKept (s.setBit a b v) :=
  State.setReg_fieldKept s _ ha

/-- A good probe counted: at the eighth IMAGE_LOCKED is set (R315). -/
theorem State.probeCounted_leaves (s : State) : let t := s.probeCounted
    t.clk = s.clk ∧ t.time = { s.time with accepted := min 8 (s.time.accepted + 1) } ∧ s.fieldKept t ∧
      (7 ≤ s.time.accepted → t.bit aTimeStatus 3 = true) ∧ s.sameRegs t [aTimeStatus] := by
  have hcount : s.fieldKept (s.modTime (fun t => { t with accepted := min 8 (t.accepted + 1) })) := .of_tables rfl rfl rfl
  have height : (s.modTime (fun t => { t with accepted := min 8 (t.accepted + 1) })).time.accepted = min 8 (s.time.accepted + 1) := rfl
  have htime : (s.modTime (fun t => { t with accepted := min 8 (t.accepted + 1) })).time =
      { s.time with accepted := min 8 (s.time.accepted + 1) } := rfl
  have hclk : (s.modTime (fun t => { t with accepted := min 8 (t.accepted + 1) })).clk = s.clk := rfl
  have hreg : ∀ a, (s.modTime (fun t => { t with accepted := min 8 (t.accepted + 1) })).reg a = s.reg a := fun _ => rfl
  unfold State.probeCounted
  generalize s.modTime (fun t => { t with accepted := min 8 (t.accepted + 1) }) = u at hcount height htime hclk hreg ⊢
  dsimp only
  split
  · refine ⟨(State.setBit_clk u _ 3 true).trans hclk, (State.setBit_time u _ 3 true).trans htime,
      hcount.trans (State.setBit_fieldKept u 3 true (by decide)), fun _ => ?_, fun a ha => ?_⟩
    · rw [State.bit_setBit _ _ _ _ _ _ (by decide), if_pos ⟨rfl, rfl⟩]
    · rw [State.reg_setBit u _ 3 true a (by simpa using ha), hreg]
  · rename_i hfew
    exact ⟨hclk, htime, hcount, fun h => absurd (height.trans (by omega)) hfew, fun a _ => hreg a⟩

/-- IMAGE_LOCKED is lost with its count, and its flag set where it was (R315). -/
theorem State.loseImage_leaves (s : State) : let t := s.loseImage
    t.bit aTimeStatus 3 = false ∧ t.time = { s.time with accepted := 0 } ∧ t.clk = s.clk ∧ s.fieldKept t ∧
      (s.bit aTimeStatus 3 = true → t.bit 0x00050008 3 = true) ∧ (s.bit aTimeStatus 3 = false → s.sameRegs t []) := by
  have hcount : s.fieldKept (s.modTime (fun t => { t with accepted := 0 })) := .of_tables rfl rfl rfl
  have htime : (s.modTime (fun t => { t with accepted := 0 })).time = { s.time with accepted := 0 } := rfl
  have hclk : (s.modTime (fun t => { t with accepted := 0 })).clk = s.clk := rfl
  have hreg : ∀ a, (s.modTime (fun t => { t with accepted := 0 })).reg a = s.reg a := fun _ => rfl
  have hlocked : (s.modTime (fun t => { t with accepted := 0 })).imageLocked = s.bit aTimeStatus 3 := rfl
  unfold State.loseImage
  generalize s.modTime (fun t => { t with accepted := 0 }) = u at hcount htime hclk hreg hlocked ⊢
  dsimp only
  rw [hlocked]
  cases hwas : s.bit aTimeStatus 3 with
  | false =>
    refine ⟨?_, htime, hclk, hcount, fun h => absurd h (by decide), fun _ a _ => hreg a⟩
    rw [if_neg (by decide), State.bit, hreg]
    exact hwas
  | true =>
    have hflag := State.flag_timeFlags (u.setBit aTimeStatus 3 false) (b := 3) (by decide)
    rw [if_pos rfl]
    refine ⟨?_, hflag.time.trans ((State.setBit_time u _ 3 false).trans htime), hflag.clk.trans ((State.setBit_clk u _ 3 false).trans hclk),
      (hcount.trans (State.setBit_fieldKept u 3 false (by decide))).trans hflag.field, fun _ => hflag.flag, fun h => absurd h (by decide)⟩
    rw [State.bit, hflag.regs aTimeStatus (by decide) (by decide)]
    exact (State.bit_setBit u aTimeStatus 3 false aTimeStatus 3 (by decide)).trans (if_pos ⟨rfl, rfl⟩)

/-! ## Mappings in force (R318, R320, R328) -/

theorem State.imageTo_frame (s : State) (b : W32) : s.imageTo b = { s with clk := (s.imageTo b).clk } := by
  unfold State.imageTo
  dsimp only
  split <;> rfl

/-- The new mapping of the host side in force, before a step is recorded. -/
def State.hostMapSet (s : State) (m : Mapping) : State := (s.imageTo m.validFrom).modTime (fun t => { t with hostMap := m, hostNext := none })

theorem State.hostMapSet_leaves (s : State) (m : Mapping) : let t := s.hostMapSet m
    t.time = { s.time with hostMap := m, hostNext := none } ∧ s.fieldKept t ∧ ∀ a, t.reg a = s.reg a := by
  have hframe := State.imageTo_frame s m.validFrom
  unfold State.hostMapSet
  generalize s.imageTo m.validFrom = u at hframe ⊢
  rw [hframe]
  exact ⟨rfl, .of_tables rfl rfl rfl, fun _ => rfl⟩

/-- A step and the block that it was made at are recorded (R328). -/
def State.stepNoted (s : State) (v : W64) (b : W32) : State :=
  (((s.setReg 0x00050058 (v.setWidth 32)).setReg 0x0005005C ((v >>> 32).setWidth 32)).setReg 0x00050060 b).modTime
    (fun t => { t with stepNext := none })

theorem State.stepNoted_leaves (s : State) (v : W64) (b : W32) : let t := s.stepNoted v b
    t.time = { s.time with stepNext := none } ∧ s.fieldKept t ∧ t.reg 0x00050058 = v.setWidth 32 ∧ t.reg 0x00050060 = b := by
  have hlo := State.setReg_fieldKept s (v.setWidth 32) (show 0x00050058 < 0x10000000 by decide)
  have hhi := State.setReg_fieldKept (s.setReg 0x00050058 (v.setWidth 32)) ((v >>> 32).setWidth 32) (show 0x0005005C < 0x10000000 by decide)
  have hat := State.setReg_fieldKept ((s.setReg 0x00050058 (v.setWidth 32)).setReg 0x0005005C ((v >>> 32).setWidth 32)) b
    (show 0x00050060 < 0x10000000 by decide)
  have hnext : ∀ u : State, u.fieldKept (u.modTime (fun t => { t with stepNext := none })) := fun _ => .of_tables rfl rfl rfl
  have hreg : ∀ a, (s.stepNoted v b).reg a = (((s.setReg 0x00050058 (v.setWidth 32)).setReg 0x0005005C ((v >>> 32).setWidth 32)).setReg
      0x00050060 b).reg a := fun _ => rfl
  refine ⟨?_, ((hlo.trans hhi).trans hat).trans (hnext _), ?_, ?_⟩
  · show ({ State.time _ with stepNext := none } : TimeUnit) = _
    rw [State.setReg_time, State.setReg_time, State.setReg_time]
  · rw [hreg, State.reg_setReg, if_neg (by decide), State.reg_setReg, if_neg (by decide), State.reg_setReg, if_pos rfl]
  · rw [hreg, State.reg_setReg, if_pos rfl]

theorem State.hostMapIs_eq (s : State) (m : Mapping) : s.hostMapIs m = match (s.hostMapSet m).time.stepNext with
    | none => s.hostMapSet m
    | some d => ((s.hostMapSet m).stepNoted (BitVec.ofInt 64 d) m.validFrom).flag timeFlags 1 := rfl

/-- The host side takes its new mapping, and a step that waits for it is recorded (R318, R328). -/
theorem State.hostMapIs_leaves (s : State) (m : Mapping) : let t := s.hostMapIs m
    t.time.hostMap = m ∧ t.time.hostNext = none ∧ t.time.stepNext = none ∧ s.fieldKept t ∧ (s.time.stepNext = none → s.sameRegs t []) ∧
      ∀ d, s.time.stepNext = some d → t.bit 0x00050008 1 = true ∧ t.reg 0x00050058 = (BitVec.ofInt 64 d).setWidth 32 ∧
        t.reg 0x00050060 = m.validFrom := by
  obtain ⟨htime, hfield, hreg⟩ := State.hostMapSet_leaves s m
  have hstep : (s.hostMapSet m).time.stepNext = s.time.stepNext := by rw [htime]
  rw [State.hostMapIs_eq, hstep]
  generalize s.hostMapSet m = u at htime hfield hreg hstep ⊢
  cases hd : s.time.stepNext with
  | none =>
    refine ⟨by rw [htime], by rw [htime], hstep.trans hd, hfield, fun _ a _ => hreg a, fun d h => absurd h (by simp)⟩
  | some d =>
    obtain ⟨ntime, nfield, nstep, nblock⟩ := State.stepNoted_leaves u (BitVec.ofInt 64 d) m.validFrom
    have hflag := State.flag_timeFlags (u.stepNoted (BitVec.ofInt 64 d) m.validFrom) (b := 1) (by decide)
    dsimp only
    refine ⟨by rw [hflag.time, ntime, htime], by rw [hflag.time, ntime, htime], by rw [hflag.time, ntime], (hfield.trans nfield).trans hflag.field,
      fun h => absurd h (by simp), fun d' h => ?_⟩
    obtain rfl := Option.some.inj h
    exact ⟨hflag.flag, (hflag.regs _ (by decide) (by decide)).trans nstep, (hflag.regs _ (by decide) (by decide)).trans nblock⟩

/-- The field side's mapping in force and in its registers (R320). -/
theorem State.fieldMapIs_leaves (s : State) (m : Mapping) : let t := s.fieldMapIs m
    t.time.fieldMap = m ∧ t.time.fieldNext = none ∧ t.reg 0x10010110 = m.validFrom ∧ t.reg 0x1001010C = m.bseq.setWidth 32 ∧
      s.sameRegs t [0x1001010C, 0x10010110] ∧ (∀ e, t.eng e = s.eng e) ∧ s.sameMem t := by
  have htime : (s.fieldMapIs m).time = { s.time with fieldMap := m, fieldNext := none } := by
    unfold State.fieldMapIs
    rw [State.setReg_time, State.setReg_time]
    rfl
  have hreg : ∀ a, (s.fieldMapIs m).reg a = if a = 0x10010110 then m.validFrom else if a = 0x1001010C then m.bseq.setWidth 32 else s.reg a :=
    fun a => by
      unfold State.fieldMapIs
      rw [State.reg_setReg, State.reg_setReg]
      rfl
  refine ⟨by rw [htime], by rw [htime], ?_, ?_, fun a ha => ?_, fun e => ?_, fun a => ?_⟩
  · rw [hreg, if_pos rfl]
  · rw [hreg, if_neg (by decide), if_pos rfl]
  · obtain ⟨hseq, hfrom⟩ : a ≠ 0x1001010C ∧ a ≠ 0x10010110 := by simpa using ha
    rw [hreg, if_neg hfrom, if_neg hseq]
  · unfold State.fieldMapIs
    rw [State.setReg_eng, State.setReg_eng]
    rfl
  · unfold State.fieldMapIs
    rw [State.setReg_byte, State.setReg_byte]
    rfl

/-! ## The servo (R325, R326) -/

/-- The servo's rate set: its parts, and of TIME_STATUS one bit that is none of SERVO's (R326). -/
theorem State.setRate_leaves (s : State) (freq slew : Int) : let t := s.setRate freq slew
    t.time.freq = freq ∧ t.time.slew = slew ∧ t.servo = s.servo ∧ s.fieldKept t := by
  have hparts : s.fieldKept (s.modTime (fun t => { t with freq, slew })) := .of_tables rfl rfl rfl
  have htime : ((s.modTime (fun t => { t with freq, slew })).setBit aTimeStatus 4 (slew != 0)).time = { s.time with freq, slew } :=
    State.setBit_time _ _ 4 _
  have hfield := hparts.trans (State.setBit_fieldKept _ 4 (slew != 0) (show aTimeStatus < 0x10000000 by decide))
  have hservo : ((s.modTime (fun t => { t with freq, slew })).setBit aTimeStatus 4 (slew != 0)).servo = s.servo :=
    State.fld_setFld_other _ aTimeStatus 4 4 _ 2 0 (by decide) (by decide) (by decide)
  unfold State.setRate
  dsimp only
  generalize (s.modTime (fun t => { t with freq, slew })).setBit aTimeStatus 4 (slew != 0) = u at htime hfield hservo ⊢
  split
  · exact ⟨by rw [htime], by rw [htime], hservo, hfield⟩
  · have hk := State.decideMap_keepsServo u u.validBlock (u.contOffset u.validBlock (clampRate (freq + slew))) (clampRate (freq + slew))
      u.newestMap.stepped
    refine ⟨by rw [hk.freq, htime], by rw [hk.slew, htime], ?_, hfield.trans hk.field⟩
    rw [← hservo, State.servo, State.servo, State.fld, State.fld, hk.regs aTimeStatus (by decide)]

/-- HOLDOVER: the last frequency goes on without a slew (R325). -/
theorem State.holdover_leaves (s : State) : let t := ((s.setServo 3).setRate s.time.freq 0).flag timeFlags 2
    t.servo = 3 ∧ t.bit 0x00050008 2 = true ∧ t.time.slew = 0 ∧ t.time.freq = s.time.freq ∧ s.fieldKept t := by
  have hservo : (s.setServo 3).servo = 3 := (State.fld_setFld s aTimeStatus 2 0 3 (by decide) (by decide)).trans (by decide)
  have hfield : s.fieldKept (s.setServo 3) := State.setReg_fieldKept s _ (by decide)
  generalize s.setServo 3 = u at hservo hfield
  obtain ⟨rfreq, rslew, rservo, rfield⟩ := State.setRate_leaves u s.time.freq 0
  generalize u.setRate s.time.freq 0 = v at rfreq rslew rservo rfield
  have hflag := State.flag_timeFlags v (b := 2) (by decide)
  refine ⟨?_, hflag.flag, by rw [hflag.time, rslew], by rw [hflag.time, rfreq], (hfield.trans rfield).trans hflag.field⟩
  rw [← hservo, ← rservo, State.servo, State.servo, State.fld, State.fld, hflag.regs aTimeStatus (by decide) (by decide)]

theorem exec_holdover (s : State) : exec .holdover s =
    if s.hostAlive && (s.servo == 1 || s.servo == 2) then .next (((s.setServo 3).setRate s.time.freq 0).flag timeFlags 2) else .next s := rfl

/-- Settles O41. The correction is taken against the midpoint of the probe and applied at once (log entry 65), and a change of the rate
builds on the newest mapping, in force or still to come (log entry 66): the model's readings. -/
theorem probesBeaconsAndMappings : Obligations.ProbesBeaconsAndMappings := by
  refine ⟨fun s sent reply => ?_, fun s => ?_, fun s => ?_, fun s => ?_, fun s up ident seq => rfl⟩
  · intro runs trip c
    have hlatch : s.fieldKept s.devLatch := .of_tables rfl rfl rfl
    refine ⟨fun h => exec_timeProbe_idle sent reply h, fun h hlong => ?_, fun h hshort => ?_⟩
    · have hexec := exec_timeProbe_runs (sent := sent) (reply := reply) h
      rw [if_pos (show 1024 < (reply - sent).toNat from hlong)] at hexec
      exact ⟨_, hexec, rfl, rfl, fun _ _ => rfl, .of_tables rfl rfl rfl⟩
    · have hexec := exec_timeProbe_runs (sent := sent) (reply := reply) h
      rw [if_neg (show ¬ 1024 < (reply - sent).toNat from Nat.not_lt.mpr hshort)] at hexec
      change exec (.timeProbe sent reply) s = .next (s.devLatch.correctImage c.toInt).probeCounted at hexec
      have hmoved := State.correctImage_moves s.devLatch c.toInt
      obtain ⟨hclk, htime, hfield, hlock, hregs⟩ := State.probeCounted_leaves (s.devLatch.correctImage c.toInt)
      have haccepted : (s.devLatch.correctImage c.toInt).time.accepted = s.time.accepted := hmoved.accepted
      refine ⟨_, hexec, ?_, ?_, ?_, (hlatch.trans hmoved.field).trans hfield, fun hseven => ?_, fun hsmall => ?_⟩
      · rw [hclk, hmoved.clk, BitVec.ofInt_toInt]
        rfl
      · rw [hclk, hmoved.clk]
        rfl
      · rw [htime, haccepted]
      · exact hlock (by rw [haccepted]; exact hseven)
      · rw [State.correctImage_small hsmall] at htime hregs ⊢
        exact ⟨htime, hregs⟩
  · refine ⟨fun h => if_neg (by simp [h]), fun h => ?_, fun h => ?_, fun halive hup => ?_⟩
    · obtain ⟨hunlocked, htime, hclk, hfield, hflag, hregs⟩ := State.loseImage_leaves s
      exact ⟨s.loseImage, if_pos h, hunlocked, htime, hclk, hfield, hflag, hregs⟩
    · obtain h | h := h
      · exact if_neg (by simp [h])
      · show (if s.hostAlive = true then Host.Outcome.next s.sendBeacon else .next s) = .next s
        rw [State.sendBeacon_down h, ite_self]
    · obtain ⟨b, ⟨hseq, hfrom, hoffset, hrate⟩, hsent, hstore, htime, hregs, hfield, -⟩ := State.sendBeacon_up hup
      exact ⟨s.sendBeacon, b, if_pos halive, hsent, hstore, hseq, htime, hfrom, hoffset, hrate, hregs, hfield⟩
  · refine ⟨fun h => ?_, fun h => ?_, fun m h => ?_, fun m h => ?_⟩
    · show execMappingValidFrom .host s = _
      simp only [execMappingValidFrom, h]
    · show execMappingValidFrom .field s = _
      simp only [execMappingValidFrom, h]
    · have hexec : exec (.mappingValidFrom .host) s = .next (s.hostMapIs m) := by
        show execMappingValidFrom .host s = _
        simp only [execMappingValidFrom, h]
      exact ⟨_, hexec, State.hostMapIs_leaves s m⟩
    · have hexec : exec (.mappingValidFrom .field) s = .next ((s.advanceTo m.validFrom).fieldMapIs m) := by
        show execMappingValidFrom .field s = _
        simp only [execMappingValidFrom, h]
      obtain ⟨heng, hreg, hmem⟩ := State.clk_kept (State.advanceTo_frame s m.validFrom)
      obtain ⟨hmap, hnext, hfrom, hseq, hregs, keng, kmem⟩ := State.fieldMapIs_leaves (s.advanceTo m.validFrom) m
      exact ⟨_, hexec, hmap, hnext, hfrom, hseq, fun a ha => (hregs a ha).trans (hreg a), fun e => (keng e).trans (heng e),
        fun a => (kmem a).trans (hmem a)⟩
  · refine ⟨fun halive hservo => ?_, fun h => ?_⟩
    · have hacts : (s.hostAlive && (s.servo == 1 || s.servo == 2)) = true := by
        obtain h | h := hservo <;> simp [halive, h]
      exact ⟨_, (exec_holdover s).trans (if_pos hacts), State.holdover_leaves s⟩
    · have hidle : ¬ (s.hostAlive && (s.servo == 1 || s.servo == 2)) = true := by
        obtain h | ⟨h1, h2⟩ := h
        · simp [h]
        · simp [h1, h2]
      exact (exec_holdover s).trans (if_neg hidle)

end Sys2Proof.Machine

namespace Sys2Proof.Machine

/-! ## What follows an engine event leaves (R91, R175) -/

theorem State.reportSet_mem (s : State) (id : Nat) : (s.reportSet id).mem = s.mem := by
  unfold State.reportSet
  split
  · split
    · exact (State.sendSeam_emits s _ _ _).keepsRun.mem
    · rfl
  · rfl

theorem State.reportSync_mem (s : State) (i : SyncInst) : (s.reportSync i).mem = s.mem := by
  unfold State.reportSync
  split
  · rfl
  · split
    · split
      · exact (State.sendSeam_emits s _ _ _).keepsRun.mem
      · rfl
    · rfl

theorem State.reportLeft_mem (s : State) (id group : Nat) : (s.reportLeft id group).mem = s.mem := by
  unfold State.reportLeft
  split
  · rfl
  · split
    · split
      · rfl
      · exact (State.sendSeam_emits s _ _ _).keepsRun.mem
    · rfl

theorem State.wakeReader_mem (s : State) (e : Nat) : (s.wakeReader e).mem = s.mem := by
  unfold State.wakeReader
  dsimp only
  split <;> rfl

theorem foldS_nil {α : Type} (f : α → State → State) (s : State) : foldS [] f s = s := rfl

/-- A loop whose passes leave memory leaves it. -/
theorem foldS_mem_eq {α : Type} {f : α → State → State} (l : List α) (hf : ∀ x s, (f x s).mem = s.mem) (s : State) :
    (foldS l f s).mem = s.mem :=
  foldS_rel (fun s t => t.mem = s.mem) (fun _ => rfl) (fun _ _ _ h k => k.trans h) f l (fun x _ s => hf x s) s

theorem State.serveRuns_mem (s : State) : s.serveRuns.mem = s.mem := by
  unfold State.serveRuns State.wakeReaders
  rw [foldS_mem_eq _ fun e s => State.wakeReader_mem s e,
    foldS_mem_eq _ fun id s => foldS_mem_eq _ (fun n s => State.reportLeft_mem s id n) s,
    foldS_mem_eq _ fun i s => State.reportSync_mem s i, foldS_mem_eq _ fun id s => State.reportSet_mem s id]
  exact (State.serveMender_keepsRun s).mem

/-- Every engine as before but for its state and wait cause. -/
def State.onlyWakes (s t : State) : Prop :=
  ∀ e, { t.eng e with st := (s.eng e).st, cause := (s.eng e).cause } = s.eng e

theorem State.onlyWakes.refl (s : State) : s.onlyWakes s := fun _ => rfl

theorem State.onlyWakes.trans {s t u : State} (h : s.onlyWakes t) (k : t.onlyWakes u) : s.onlyWakes u := by
  intro e
  have hst := h e
  rw [← k e] at hst
  exact hst

theorem State.wakeReader_onlyWakes (s : State) (e : Nat) : s.onlyWakes (s.wakeReader e) := by
  intro f
  unfold State.wakeReader
  dsimp only
  split
  · rw [State.eng_setSt]
    split
    · rename_i hf
      rw [hf]
    · rfl
  · rfl

theorem State.serveRuns_onlyWakes (s : State) : s.onlyWakes s.serveRuns := by
  obtain ⟨u, hu, hwake⟩ := State.serveRuns_wakes s
  have hall : u.onlyWakes u.wakeReaders :=
    foldS_rel State.onlyWakes .refl (fun _ _ _ => .trans) _ _ (fun e _ v => State.wakeReader_onlyWakes v e) u
  have hsame : ∀ e, u.eng e = s.eng e := fun e => by rw [State.eng, hu]; rfl
  intro e
  have he := hall e
  rw [hsame] at he
  rw [hwake]
  exact he

theorem State.wakeReader_of_not_waiting {s : State} {e : Nat} (h : (s.eng e).cause ≠ 2) : s.wakeReader e = s :=
  if_neg fun hw => h hw.2.1

theorem State.wakeReaders_of_none_waiting {s : State} (h : ∀ e, (s.eng e).cause ≠ 2) : s.wakeReaders = s := by
  have hall : ∀ l : List Nat, foldS l (fun e s => s.wakeReader e) s = s := fun l => by
    induction l with
    | nil => rfl
    | cons e l ih =>
      change foldS l _ (s.wakeReader e) = s
      rw [State.wakeReader_of_not_waiting (h e), ih]
  exact hall _

theorem State.serveRuns_of_none {s : State} (hsets : s.sets = []) (hsyncs : s.syncs = []) (hmend : s.mend.set = none)
    (hwait : ∀ e, (s.eng e).cause ≠ 2) : s.serveRuns = s := by
  have hmender : s.serveMender = s := by simp only [State.serveMender, hmend]
  unfold State.serveRuns
  simp only [hmender, hsets, hsyncs, List.map_nil, foldS_nil, ite_self]
  exact State.wakeReaders_of_none_waiting hwait

/-- Settles O11: of what follows an event only the release of readers writes engines, and none of it memory. -/
theorem engineEventsServed : Obligations.EngineEventsServed := by
  unfold Obligations.EngineEventsServed
  exact ⟨State.serveRuns_onlyWakes, fun s a => State.byte_of_mem (State.serveRuns_mem s) a,
    fun s hsets hsyncs hmend hwait => State.serveRuns_of_none hsets hsyncs hmend hwait⟩

end Sys2Proof.Machine

namespace Sys2Proof.Machine

/-! ## An instruction that changes its own engine alone (R76, R80-R82, R90) -/

theorem ib_lt (w : W64) (hi lo : Nat) : ib w hi lo < 2 ^ (hi + 1 - lo) := Nat.mod_lt _ (Nat.two_pow_pos _)

/-- The program word addresses that instructions name have 14 bits (R90). -/
theorem ib_target_le (w : W64) : ib w 53 40 ≤ 16383 := Nat.le_of_lt_succ (ib_lt w 53 40)

theorem decLoop_target_le {w : W64} {p : Nat × Nat} (h : decLoop w = some p) : p.2 ≤ 16383 := by
  unfold decLoop at h
  split at h
  · obtain rfl := Option.some.inj h
    exact ib_target_le w
  · cases h

theorem decCall_target_le {w : W64} {target : Nat} (h : decCall w = some target) : target ≤ 16383 := by
  unfold decCall at h
  split at h
  · obtain rfl := Option.some.inj h
    exact ib_target_le w
  · cases h

/-- The engine at a program word, RUNNING. -/
def Engine.at (n : Nat) (x : Engine) : Engine := { x with pc := n, st := .running, cause := 0 }

theorem State.goto_of_le (s : State) (e : Nat) {n : Nat} (h : n ≤ 16383) : s.goto e n = s.modEng e (Engine.at n) := by
  rw [State.goto, if_neg (by omega)]
  rfl

/-- What an instruction leaves that changes its engine and then goes on at the next one. -/
theorem State.advance_after {s : State} {e : Nat} (f : Engine → Engine) (hpc : (f (s.eng e)).pc < 16383) :
    s.onlyEng ((s.modEng e f).advance e) e [] ∧ ((s.modEng e f).advance e).eng e = (f (s.eng e)).stepped := by
  rw [State.advance_of_lt (by rw [State.eng_modEng_same]; exact hpc)]
  exact ⟨(State.onlyEng_modEng s e f).trans (State.onlyEng_modEng _ e _), by rw [State.eng_modEng_same, State.eng_modEng_same]⟩

/-- What one leaves that changes its engine and then jumps. -/
theorem State.goto_after (s : State) (e : Nat) (f : Engine → Engine) {n : Nat} (hn : n ≤ 16383) :
    s.onlyEng ((s.modEng e f).goto e n) e [] ∧ ((s.modEng e f).goto e n).eng e = (f (s.eng e)).at n := by
  rw [State.goto_of_le _ e hn]
  exact ⟨(State.onlyEng_modEng s e f).trans (State.onlyEng_modEng _ e _), by rw [State.eng_modEng_same, State.eng_modEng_same]⟩

/-! ## The cursor (R80-R82) -/

/-- The cursor after a WAIT of some blocks and ticks. -/
def Tm.waited (c : Tm) (blocks : W32) (ticks : BitVec 6) : Tm :=
  { b := c.b + blocks + BitVec.ofNat 32 ((c.t.toNat + ticks.toNat) / 64), t := BitVec.ofNat 6 (c.t.toNat + ticks.toNat) }

theorem Tm.waited_ticks (c : Tm) (blocks : W32) (ticks : BitVec 6) :
    64 * (c.waited blocks ticks).b.toNat + (c.waited blocks ticks).t.toNat =
      (64 * c.b.toNat + c.t.toNat + 64 * blocks.toNat + ticks.toNat) % 2 ^ 38 := by
  simp only [Tm.waited, BitVec.toNat_add, BitVec.toNat_ofNat]
  omega

/-- The blocks that a WAIT adds to the cursor (R80, R81). -/
def State.waitBlocks (s : State) (e : Nat) (p : WaitOp) : W32 := p.blocks + p.ctr.elim 0 (s.ctr e)

/-! ## The writes of a counter (R89, R90, R358) -/

theorem State.modEng_touch (s : State) (a e : Nat) (f : Engine → Engine) : (s.touch a).modEng e f = (s.modEng e f).touch a := by
  unfold State.touch
  split <;> simp_all [State.modEng, State.setEng, State.eng]

theorem State.touch_eng (s : State) (a e : Nat) : (s.touch a).eng e = s.eng e := by
  rw [State.touch_frame]
  rfl

/-- A counter is written and its engine goes on: what the write notes for the copy stands last. -/
theorem State.onlyEng_setReg_modEng (s : State) (e a : Nat) (v : W32) (f : Engine → Engine) :
    s.onlyEng ((s.setReg a v).modEng e f) e [a] ∧ ((s.setReg a v).modEng e f).reg a = v ∧
      ((s.setReg a v).modEng e f).eng e = f (s.eng e) := by
  refine ⟨⟨rfl, fun g hg => (State.eng_modEng _ e g f).trans (if_neg hg), fun b hb => ?_⟩, ?_, State.eng_modEng_same _ e f⟩
  · exact (State.reg_setReg s a b v).trans (if_neg (by simpa using hb))
  · exact (State.reg_setReg s a a v).trans (if_pos rfl)

theorem State.setCtr_eq (s : State) (e i : Nat) (v : W32) :
    s.setCtr e i v = (s.setReg (engAddr e (0x20 + 4 * i)) v).touch (engAddr e (0x20 + 4 * i)) := rfl

theorem State.setCtr_goto (s : State) (e i : Nat) (v : W32) {n : Nat} (hn : n ≤ 16383) :
    (s.setCtr e i v).goto e n = ((s.setReg (engAddr e (0x20 + 4 * i)) v).modEng e (Engine.at n)).touch (engAddr e (0x20 + 4 * i)) := by
  rw [State.goto_of_le _ e hn, State.setCtr_eq]
  exact State.modEng_touch _ _ e _

theorem State.setCtr_advance {s : State} {e : Nat} (i : Nat) (v : W32) (hpc : (s.eng e).pc < 16383) :
    (s.setCtr e i v).advance e =
      ((s.setReg (engAddr e (0x20 + 4 * i)) v).modEng e Engine.stepped).touch (engAddr e (0x20 + 4 * i)) := by
  have heng : (s.setCtr e i v).eng e = s.eng e := by rw [State.setCtr_eq, State.touch_eng, State.setReg_eng]
  rw [State.advance_of_lt (by rw [heng]; exact hpc), State.setCtr_eq]
  exact State.modEng_touch _ _ e _

section
variable {s : State} {e : Eng} {w : W64}

theorem exec_nop (h : s.executes e 0x01 w) (hok : bareOk w = true) : exec (.nop e) s = .next (s.advance e).serveRuns := by
  show execNop e s = _
  rw [execNop, State.runOp_of_executes h (by decide), hok, if_pos rfl]

theorem exec_wait {p : WaitOp} (h : s.executes e 0x04 w) (hp : decWait w = some p) :
    exec (.wait e) s = .next ((s.modEng e (fun x => { x with cur := x.cur.waited (s.waitBlocks e p) p.ticks })).advance e).serveRuns := by
  show execWait e s = _
  rw [execWait, State.runOp_of_executes h (by decide), hp, State.withForm_some]
  cases hctr : p.ctr <;> simp only [State.waitBlocks, Tm.waited, hctr, Option.elim]

theorem exec_loop {p : Nat × Nat} (h : s.executes e 0x0D w) (hp : decLoop w = some p) :
    exec (.loop e) s = .next (if s.ctr e p.1 = 0 then s.advance e else
      if s.ctr e p.1 - 1 = 0 then (s.setCtr e p.1 (s.ctr e p.1 - 1)).advance e
      else (s.setCtr e p.1 (s.ctr e p.1 - 1)).goto e p.2).serveRuns := by
  show execLoop e s = _
  rw [execLoop, State.runOp_of_executes h (by decide), hp, State.withForm_some]

theorem exec_call {target : Nat} (h : s.executes e 0x0E w) (hp : decCall w = some target) (hroom : (s.eng e).stack.length < 4) :
    exec (.call e) s = .next ((s.modEng e (fun x => { x with stack := (x.pc + 1) :: x.stack })).goto e target).serveRuns := by
  show execCall e s = _
  rw [execCall, State.runOp_of_executes h (by decide), hp, State.withForm_some, if_neg (by omega)]

theorem exec_ret {a : Nat} {rest : List Nat} (h : s.executes e 0x0F w) (hok : bareOk w = true) (hstack : (s.eng e).stack = a :: rest) :
    exec (.ret e) s = .next ((s.modEng e (fun x => { x with stack := rest })).goto e a).serveRuns := by
  show execRet e s = _
  rw [execRet, State.runOp_of_executes h (by decide), hok, if_pos rfl, hstack]

theorem exec_armJump {a : Arm} (h : s.executes e 0x13 w) (hp : decArm w = some a) :
    exec (.armJump e) s = .next ((s.modEng e (fun x => { x with arm := some a })).advance e).serveRuns := by
  show execArmJump e s = _
  rw [execArmJump, State.runOp_of_executes h (by decide), hp, State.withForm_some]

end

/-- The three ways of a LOOP: it falls through, counts down to 0, or jumps (R90). -/
theorem exec_loop_leaves {s : State} {e : Eng} {w : W64} {p : Nat × Nat} (hpc : (s.eng e).pc < 16383) (h : s.executes e 0x0D w)
    (hp : decLoop w = some p) : let a := engAddr e (0x20 + 4 * p.1)
    ∃ t : State, exec (.loop e) s = .next (if s.reg a = 0 then t else t.touch a).serveRuns ∧ s.onlyEng t e [a] ∧
      t.reg a = (if s.reg a = 0 then 0 else s.reg a - 1) ∧
      t.eng e = { (s.eng e).stepped with pc := if s.reg a = 0 ∨ s.reg a = 1 then (s.eng e).pc + 1 else p.2 } := by
  intro a
  have hexec := exec_loop h hp
  have hctr : s.ctr e p.1 = s.reg a := rfl
  rw [hctr] at hexec
  by_cases h0 : s.reg a = 0
  · rw [if_pos h0, State.advance_of_lt hpc] at hexec
    obtain ⟨hframe, hothers, hregs⟩ := State.onlyEng_modEng s e Engine.stepped
    refine ⟨_, by rw [if_pos h0]; exact hexec, ⟨hframe, hothers, fun b _ => hregs b (by simp)⟩, ?_, ?_⟩
    · rw [if_pos h0]
      exact h0
    · rw [State.eng_modEng_same, if_pos (.inl h0)]
      rfl
  · rw [if_neg h0] at hexec
    by_cases h1 : s.reg a = 1
    · rw [if_pos (by rw [h1]; rfl), State.setCtr_advance p.1 _ hpc] at hexec
      obtain ⟨honly, hreg, heng⟩ := State.onlyEng_setReg_modEng s e a (s.reg a - 1) Engine.stepped
      refine ⟨_, by rw [if_neg h0]; exact hexec, honly, by rw [if_neg h0]; exact hreg, ?_⟩
      rw [heng, if_pos (.inr h1)]
      rfl
    · have hne : ¬ s.reg a - 1 = 0 := fun hz => h1 (by bv_omega)
      rw [if_neg hne, State.setCtr_goto s e p.1 _ (decLoop_target_le hp)] at hexec
      obtain ⟨honly, hreg, heng⟩ := State.onlyEng_setReg_modEng s e a (s.reg a - 1) (Engine.at p.2)
      refine ⟨_, by rw [if_neg h0]; exact hexec, honly, by rw [if_neg h0]; exact hreg, ?_⟩
      rw [heng, if_neg (not_or.mpr ⟨h0, h1⟩)]
      rfl

/-- Settles O6: each instruction is one change of its engine - a LOOP of its counter too - and the step or jump after it. -/
theorem engineFlowInstructions : Obligations.EngineFlowInstructions := by
  unfold Obligations.EngineFlowInstructions
  intro s e w hpc
  refine ⟨fun h hok => ⟨_, exec_nop h hok, ?_⟩,
    fun p h hp => ⟨_, (s.eng e).cur.waited (s.waitBlocks e p) p.ticks, exec_wait h hp, ?_⟩, fun p h hp => exec_loop_leaves hpc h hp,
    fun target h hp hroom => ⟨_, exec_call h hp hroom, ?_⟩, fun a rest h hok hstack ha => ⟨_, exec_ret h hok hstack, ?_⟩,
    fun a h hp => ⟨_, exec_armJump h hp, State.advance_after _ hpc⟩⟩
  · rw [State.advance_of_lt hpc]
    exact ⟨State.onlyEng_modEng s e _, State.eng_modEng_same s e _⟩
  · obtain ⟨honly, heng⟩ := State.advance_after (s := s) (e := e)
      (fun x => { x with cur := x.cur.waited (s.waitBlocks e p) p.ticks }) hpc
    refine ⟨honly, heng, ?_⟩
    rw [Tm.waited_ticks, State.waitBlocks]
    cases p.ctr with
    | none => simp
    | some i =>
      simp only [Option.elim, State.ctr, BitVec.toNat_add]
      omega
  · exact State.goto_after s e _ (decCall_target_le hp)
  · exact State.goto_after s e _ ha

end Sys2Proof.Machine

namespace Sys2Proof.Machine

/-! ## Engine events beside the engine (R53, R68, R71) -/

theorem engAddr_ne {e off off' : Nat} (h : off ≠ off') : engAddr e off ≠ engAddr e off' := by
  unfold engAddr
  omega

/-- An engine's flag changes its ENG_FLAGS and the way of its notice. -/
theorem State.flag_engFlags (s : State) (e : Eng) {b : Nat} (hb : b < 32) :
    (s.flag (engFlags e) b).bit (engAddr e 0x0C) b = true ∧ s.sameMem (s.flag (engFlags e) b) ∧
      s.sameRegs (s.flag (engFlags e) b) [engAddr e 0x0C] ∧ ∀ f, (s.flag (engFlags e) b).eng f = s.eng f := by
  have hfield : isFieldSource (engFlags e).source = true := engFlags_field e.isLt
  have hemits := State.flag_emits s (engFlags e) b (by show e.val < 1344; omega)
  refine ⟨State.bit_flag_of_field hfield s hb, hemits.byte, fun a ha => ?_, hemits.eng⟩
  exact State.reg_flag_of_field hfield s b (List.ne_of_not_mem_cons ha)

/-- ENG_ILLEGAL and ENG_STACK: the engine leaves its set and is in FAULT, its flag is set (R68). -/
theorem State.engFault_leaves {s : State} {e : Eng} (hpledge : (s.eng e).pledgeWait = none) {b : Nat} (hb : b < 32) :
    let t := s.engFault e b
    t.bit (engAddr e 0x0C) b = true ∧ s.sameMem t ∧ s.sameRegs t [engAddr e 0x0C] ∧
      t.eng e = { s.sawLeave e e with st := .fault, cause := 0, arm := none, set := none } ∧
      ∀ f, f ≠ e.val → t.eng f = s.sawLeave e f := by
  intro t
  let left := s.leaveSet e false
  let faulted := (left.setSt e .fault).modEng e (fun x => { x with arm := none })
  obtain ⟨hbit, hmem, hregs, heng⟩ := State.flag_engFlags faulted e hb
  have hframe : left = { s with sets := left.sets, engines := left.engines, chans := left.chans } := State.leaveSet_frame s e false
  have hleft : ∀ f, left.eng f = _ := State.leaveSet_eng hpledge
  have hown : faulted.eng e = { s.sawLeave e e with st := .fault, cause := 0, arm := none, set := none } := by
    rw [State.eng_modEng_same, State.eng_setSt, if_pos rfl, hleft, if_pos rfl]
  refine ⟨hbit, fun a => (hmem a).trans ?_, fun a ha => (hregs a ha).trans ?_, (heng e).trans hown, fun f hf => (heng f).trans ?_⟩
  · have hm : left.mem = s.mem := by rw [hframe]
    exact State.byte_of_mem hm a
  · have hr : left.regs = s.regs := by rw [hframe]
    exact State.reg_of_regs hr a
  · rw [State.eng_modEng, if_neg hf, State.eng_setSt, if_neg hf, hleft, if_neg hf]

/-! ## Illegal instructions (R77) -/

/-- Each engine instruction runs its body where it is the one at the engine's PC (R77). -/
theorem exec_engInstr {s : State} {e : Eng} (hend : (s.eng e).goEnd = false) :
    ∀ c ∈ engInstrs e, ∃ body, exec c.1 s = s.runOp c.2 e body := by
  have hshot : execShotEnd e s = s.runOp 0x15 e (fun w s => if bareOk w then s.reportShot e else s.engFault e 0) := by
    simp only [execShotEnd, hend, Bool.false_and, Bool.false_eq_true, if_false]
  simp only [engInstrs, List.forall_mem_cons]
  exact ⟨⟨_, show execHalt e s = _ from rfl⟩, ⟨_, show execNop e s = _ from rfl⟩, ⟨_, show execPlay e s = _ from rfl⟩,
    ⟨_, show execPlayStream e s = _ from rfl⟩, ⟨_, show execWait e s = _ from rfl⟩, ⟨_, show execWaitUntil e s = _ from rfl⟩,
    ⟨_, show execSetFreq e s = _ from rfl⟩, ⟨_, show execShiftPhase e s = _ from rfl⟩, ⟨_, show execSetPhase e s = _ from rfl⟩,
    ⟨_, show execFramePauli e s = _ from rfl⟩, ⟨_, show execAcquire e s = _ from rfl⟩, ⟨_, show execPublish e s = _ from rfl⟩,
    ⟨_, show execBranch e s = _ from rfl⟩, ⟨_, show execLoop e s = _ from rfl⟩, ⟨_, show execCall e s = _ from rfl⟩,
    ⟨_, show execRet e s = _ from rfl⟩, ⟨_, show execMark e s = _ from rfl⟩, ⟨_, show execSync e s = _ from rfl⟩,
    ⟨_, show execCommit e s = _ from rfl⟩, ⟨_, show execArmJump e s = _ from rfl⟩, ⟨_, show execCounter e s = _ from rfl⟩,
    ⟨_, hshot⟩, by simp⟩

theorem engInstrs_bare (e : Eng) : (engInstrs e).filter (fun c => decide (c.2 ∈ [0x00, 0x01, 0x0F, 0x15])) =
    [(.halt e, 0x00), (.nop e, 0x01), (.ret e, 0x0F), (.shotEnd e, 0x15)] := rfl

/-- HALT, NOP, RETURN and SHOT_END fault on a reserved bit. -/
theorem exec_bare_illegal {s : State} {e : Eng} {w : W64} (hbad : bareOk w = false) {c : Instr × Nat} (hc : c ∈ engInstrs e)
    (hop : c.2 ∈ [0x00, 0x01, 0x0F, 0x15]) (h : s.executes e c.2 w) : exec c.1 s = .next (s.engFault e 0).serveRuns := by
  have hbody : ∀ (op : Nat) (f : State → State), op ≤ 0x15 → s.executes e op w →
      s.runOp op e (fun w s => if bareOk w then f s else s.engFault e 0) = .next (s.engFault e 0).serveRuns := fun op f hle hx => by
    rw [State.runOp_of_executes hx hle, hbad, if_neg Bool.false_ne_true]
  have hshot : s.executes e 0x15 w → execShotEnd e s = .next (s.engFault e 0).serveRuns := fun hx => by
    simp only [execShotEnd, hx.1, Bool.false_and, Bool.false_eq_true, if_false]
    exact hbody 0x15 _ (by decide) hx
  have hbare : c ∈ (engInstrs e).filter (fun c => decide (c.2 ∈ [0x00, 0x01, 0x0F, 0x15])) :=
    List.mem_filter.mpr ⟨hc, decide_eq_true hop⟩
  rw [engInstrs_bare] at hbare
  simp only [List.mem_cons, List.not_mem_nil, or_false] at hbare
  rcases hbare with rfl | rfl | rfl | rfl
  · exact show execHalt e s = _ from hbody 0x00 _ (by decide) h
  · exact show execNop e s = _ from hbody 0x01 _ (by decide) h
  · exact show execRet e s = _ from hbody 0x0F _ (by decide) h
  · exact show execShotEnd e s = _ from hshot h

/-- Settles O10: a reserved opcode faults whatever the command; the four instructions without operands fault on a reserved bit. -/
theorem illegalInstructionFaults : Obligations.IllegalInstructionFaults := by
  unfold Obligations.IllegalInstructionFaults
  intro s e w c hc hbad
  suffices h : (s.eng e).pledgeWait = none ∧ exec c.1 s = .next (s.engFault e 0).serveRuns from
    ⟨_, h.2, State.engFault_leaves h.1 (by decide)⟩
  rcases hbad with ⟨hop, hend, hrun, hpledge, hw, -⟩ | ⟨hop, hx, hbits⟩
  · obtain ⟨body, hexec⟩ := exec_engInstr hend c hc
    exact ⟨hpledge, hexec.trans (State.runOp_reserved s c.2 e body hend hrun hpledge (by rw [hw]; exact hop))⟩
  · exact ⟨hx.2.2.1, exec_bare_illegal hbits hc hop hx⟩

end Sys2Proof.Machine

namespace Sys2Proof.Machine

/-! ## WAIT_UNTIL and BRANCH (R83, R92, R93) -/

/-- The block that a WAIT_UNTIL names (R83). -/
def Engine.untilBlock (x : Engine) (p : W32 × Nat) : W32 := p.1 + (if p.2 = 1 then x.shotStart else if p.2 = 2 then x.s0 else 0)

theorem foldS_cons {α : Type} (x : α) (l : List α) (f : α → State → State) (s : State) : foldS (x :: l) f s = foldS l f (f x s) := rfl

section
variable {s : State} {e : Eng} {w : W64}

theorem blt_iff (a b : W32) : blt a b = true ↔ (a - b).toInt < 0 := decide_eq_true_iff

theorem exec_waitUntil_past {p : W32 × Nat} (h : s.executes e 0x05 w) (hp : decWaitUntil w = some p)
    (hpast : blt ((s.eng e).untilBlock p) (s.eng e).cur.b = true ∨ ((s.eng e).untilBlock p = (s.eng e).cur.b ∧ (s.eng e).cur.t ≠ 0)) :
    exec (.waitUntil e) s = .next ((s.flag (engFlags e) 2).advance e).serveRuns := by
  show execWaitUntil e s = _
  rw [execWaitUntil, State.runOp_of_executes h (by decide), hp, State.withForm_some]
  exact congrArg (fun t : State => Host.Outcome.next t.serveRuns) (if_pos hpast)

theorem exec_waitUntil_ahead {p : W32 × Nat} (h : s.executes e 0x05 w) (hp : decWaitUntil w = some p)
    (hahead : ¬ (blt ((s.eng e).untilBlock p) (s.eng e).cur.b = true ∨ ((s.eng e).untilBlock p = (s.eng e).cur.b ∧ (s.eng e).cur.t ≠ 0))) :
    exec (.waitUntil e) s =
      .next ((s.modEng e (fun x => { x with cur := { b := (s.eng e).untilBlock p, t := 0 } })).advance e).serveRuns := by
  show execWaitUntil e s = _
  rw [execWaitUntil, State.runOp_of_executes h (by decide), hp, State.withForm_some]
  exact congrArg (fun t : State => Host.Outcome.next t.serveRuns) (if_neg hahead)

theorem exec_branch {b : BranchOp} (h : s.executes e 0x0C w) (hb : decBranch w = some b) :
    (b.cond = 0 → exec (.branch e) s = .next (s.branchTo e b true).serveRuns) ∧
    (b.cond = 6 → exec (.branch e) s = .next (s.branchTo e b (cmpHolds b.cmp (s.ctr e b.ctr).toInt b.imm)).serveRuns) ∧
    (b.cond = 7 → exec (.branch e) s = .next (s.withSlot e b.slot b.keep fun en s => s.branchTo e b en.absent).serveRuns) ∧
    (b.cond = 1 ∨ b.cond = 2 ∨ b.cond = 3 → exec (.branch e) s = .next (s.withSlot e b.slot b.keep fun en s =>
      if en.absent then s.absentAct e b else s.branchTo e b (outcomeCond b en)).serveRuns) := by
  have hexec : exec (.branch e) s = execBranch e s := rfl
  rw [hexec, execBranch, State.runOp_of_executes h (by decide), hb, State.withForm_some]
  refine ⟨fun hc => by simp only [hc], fun hc => by simp only [hc], fun hc => by simp only [hc], fun hc => ?_⟩
  rcases hc with hc | hc | hc <;> simp only [hc]

theorem decBranch_target_le {b : BranchOp} (h : decBranch w = some b) : b.target ≤ 16383 := by
  unfold decBranch at h
  dsimp only at h
  split at h
  · obtain rfl := Option.some.inj h
    exact ib_target_le w
  · cases h

end

theorem State.withSlot_entry {s : State} {e n : Nat} {en : Entry} {rest : List Entry} (h : (s.eng e).slot n = en :: rest) (keep : Bool)
    (body : Entry → State → State) : s.withSlot e n keep body = body en (s.modEng e (fun x => x.takeSlot n en keep)) := by
  simp only [State.withSlot, State.readSlot, h]

/-- A BRANCH after a change of its engine continues at its target or the next instruction (R93). -/
theorem State.branchTo_after {s : State} {e : Nat} {b : BranchOp} (f : Engine → Engine) (hb : b.target ≤ 16383)
    (hpc : (f (s.eng e)).pc < 16383) (cond : Bool) : let t := (s.modEng e f).branchTo e b cond
    s.onlyEng t e [] ∧ t.eng e = { (f (s.eng e)).stepped with pc := if cond != b.neg then b.target else (f (s.eng e)).pc + 1 } := by
  intro t
  by_cases hc : (cond != b.neg) = true
  · have ht : t = (s.modEng e f).goto e b.target := if_pos hc
    rw [ht, if_pos hc]
    exact State.goto_after s e f hb
  · have ht : t = (s.modEng e f).advance e := if_neg hc
    rw [ht, if_neg hc]
    exact State.advance_after f hpc

theorem State.branchTo_leaves {s : State} {e : Nat} {b : BranchOp} (hb : b.target ≤ 16383) (hpc : (s.eng e).pc < 16383) (cond : Bool) :
    let t := s.branchTo e b cond
    s.onlyEng t e [] ∧ t.eng e = { (s.eng e).stepped with pc := if cond != b.neg then b.target else (s.eng e).pc + 1 } := by
  intro t
  by_cases hc : (cond != b.neg) = true
  · have ht : t = s.goto e b.target := if_pos hc
    rw [ht, if_pos hc, State.goto_of_le s e hb]
    exact ⟨State.onlyEng_modEng s e _, State.eng_modEng_same s e _⟩
  · have ht : t = s.advance e := if_neg hc
    rw [ht, if_neg hc, State.advance_of_lt hpc]
    exact ⟨State.onlyEng_modEng s e _, State.eng_modEng_same s e _⟩

theorem Engine.decide_pc (x : Engine) (en : Entry) : (x.decide en).pc = x.pc := by
  unfold Engine.decide
  split
  · rfl
  · split <;> rfl

theorem Engine.takeSlot_pc (x : Engine) (n : Nat) (en : Entry) (keep : Bool) : (x.takeSlot n en keep).pc = x.pc := by
  unfold Engine.takeSlot
  rw [Engine.decide_pc]
  split <;> rfl

/-- A BRANCH that reads a slot with an entry at its head (R91, R93). -/
theorem State.branchTo_of_slot {s : State} {e : Nat} {b : BranchOp} (hb : b.target ≤ 16383) (hpc : (s.eng e).pc < 16383) (en : Entry)
    (cond : Bool) : let y := (s.eng e).takeSlot b.slot en b.keep
    let t := (s.modEng e (fun x => x.takeSlot b.slot en b.keep)).branchTo e b cond
    s.onlyEng t e [] ∧ t.eng e = { y.stepped with pc := if cond != b.neg then b.target else (s.eng e).pc + 1 } := by
  have hafter := State.branchTo_after (fun x => x.takeSlot b.slot en b.keep) hb (by rw [Engine.takeSlot_pc]; exact hpc) cond
  rw [Engine.takeSlot_pc] at hafter
  exact hafter

/-! ## COUNTER and COMMIT (R88, R89) -/

/-- What a COUNTER without a slot writes (R89). -/
def State.counterValue (s : State) (e : Nat) (p : CounterOp) : W32 :=
  if p.op = 0 then p.imm else if p.op = 1 then s.ctr e p.ctr + p.imm else if p.op = 2 then (s.eng e).shotNo
  else s.ctr e p.ctr + s.ctr e p.src

theorem exec_counter {s : State} {e : Eng} {w : W64} {p : CounterOp} (h : s.executes e 0x14 w) (hp : decCounter w = some p)
    (hop : p.op < 4) : exec (.counter e) s = .next ((s.setCtr e p.ctr (s.counterValue e p)).advance e).serveRuns := by
  have hexec : exec (.counter e) s = execCounter e s := rfl
  rw [hexec, execCounter, State.runOp_of_executes h (by decide), hp, State.withForm_some]
  obtain hc | hc | hc | hc : p.op = 0 ∨ p.op = 1 ∨ p.op = 2 ∨ p.op = 3 := by omega
  all_goals simp [State.counterValue, hc]

theorem exec_commit_port {s : State} {e : Eng} {w : W64} {n : Nat} (h : s.executes e 0x12 w) (hp : decCommit w = some (false, n)) :
    exec (.commit e) s = .next ((s.askCommit (portOfEng e) ((s.eng e).cur.b + BitVec.ofNat 32 n) (some e)).advance e).serveRuns := by
  have hexec : exec (.commit e) s = execCommit e s := rfl
  rw [hexec, execCommit, State.runOp_of_executes h (by decide), hp, State.withForm_some]
  simp only [Bool.false_eq_true, if_false, foldS_cons, foldS_nil]

/-- A commit request stands last of those that wait, and its port shows it (R88, R127). -/
theorem State.askCommit_leaves (s : State) (p : Nat) (blk : W32) (eng : Option Nat) : let t := s.askCommit p blk eng
    t.hem.commits = s.hem.commits ++ [{ port := p, block := bmax blk (s.pin + 4), late := blt blk (s.pin + 4), eng := eng }] ∧
      t.bit (portAddr p 4) 8 = true ∧ s.sameMem t ∧ (∀ f, t.eng f = s.eng f) ∧ s.sameRegs t [portAddr p 4] := by
  have hengines : (s.askCommit p blk eng).engines = s.engines := by rw [State.askCommit, State.setBit_engines]
  have hmem : (s.askCommit p blk eng).mem = s.mem := by rw [State.askCommit, State.setBit_mem]
  refine ⟨rfl, ?_, State.byte_of_mem hmem, fun f => by rw [State.eng, hengines, State.eng], fun a ha => ?_⟩
  · rw [State.askCommit, State.bit_setBit _ _ _ _ _ _ (by decide), if_pos ⟨rfl, rfl⟩]
  · rw [State.askCommit, State.reg_setBit _ _ _ _ _ (List.ne_of_not_mem_cons ha)]
    rfl

/-! ## HALT (R71) -/

theorem exec_halt {s : State} {e : Eng} {w : W64} (h : s.executes e 0x00 w) (hok : bareOk w = true) :
    exec (.halt e) s = .next ((s.leaveSet e true).setSt e .halted).serveRuns := by
  have hexec : exec (.halt e) s = execHalt e s := rfl
  rw [hexec, execHalt, State.runOp_of_executes h (by decide), hok, if_pos rfl]

theorem State.leaveSet_none {s : State} {e : Nat} (h : (s.eng e).set = none) (halted : Bool) : s.leaveSet e halted = s := by
  simp only [State.leaveSet, h]

/-- The START set without engine e, which it notes as halted (R71). -/
def StartSet.haltsOne (e : Nat) (g : StartSet) : StartSet := { g with members := g.members.filter (· != e), halted := g.halted ++ [e] }

theorem State.leaveSet_halted {s : State} {e id : Nat} (h : (s.eng e).set = some id) (hpledge : (s.eng e).pledgeWait = none) :
    s.leaveSet e true = (s.modSet id (StartSet.haltsOne e)).noteGone e := by
  have hpledge' : (((s.modSet id (StartSet.haltsOne e)).noteGone e).eng e).pledgeWait = none := by
    rw [State.noteGone_eng, Engine.noteGone_pledgeWait]
    exact hpledge
  simp only [State.leaveSet, h, if_true]
  exact State.dropPledgeWait_none hpledge'

/-- An engine that halts in a START set: the set notes it, every engine notes that it left (R71, R175). -/
theorem State.halt_leaves {s : State} {e id : Nat} (h : (s.eng e).set = some id) (hpledge : (s.eng e).pledgeWait = none) :
    let t := (s.leaveSet e true).setSt e .halted
    t = { s with engines := t.engines, sets := t.sets } ∧ t.eng e = { (s.eng e).noteGone e with st := .halted, cause := 0 } ∧
      (∀ f, f ≠ e → t.eng f = (s.eng f).noteGone e) ∧ t.sets = s.sets.map (fun g => if g.id = id then g.haltsOne e else g) := by
  intro t
  have ht : t = ((s.modSet id (StartSet.haltsOne e)).noteGone e).setSt e .halted := by
    unfold t
    rw [State.leaveSet_halted h hpledge]
  have hnoted := State.noteGone_frame (s.modSet id (StartSet.haltsOne e)) e
  have heng : ∀ f, ((s.modSet id (StartSet.haltsOne e)).noteGone e).eng f = (s.eng f).noteGone e := fun f => State.noteGone_eng _ e f
  generalize (s.modSet id (StartSet.haltsOne e)).noteGone e = u at ht hnoted heng
  refine ⟨?_, ?_, fun f hf => ?_, ?_⟩
  · rw [ht, hnoted]
    rfl
  · rw [ht, State.eng_setSt, if_pos rfl, heng]
  · rw [ht, State.eng_setSt, if_neg hf, heng]
  · rw [ht, hnoted]
    rfl

/-- Settles O8: each instruction is one change of its engine, its counter, its port's requests or its set, and the step or jump after it. -/
theorem engineControlInstructions : Obligations.EngineControlInstructions := by
  unfold Obligations.EngineControlInstructions
  intro s e w hpc x
  refine ⟨fun p h hp => ?_, fun b h hb => ?_, fun p h hp hop => ?_, fun n h hp => ?_, fun h hok => ?_⟩
  · intro target
    refine ⟨fun hahead => ?_, fun hpast => ?_⟩
    · have hnot : ¬ (blt target x.cur.b = true ∨ (target = x.cur.b ∧ x.cur.t ≠ 0)) := by
        rw [blt_iff]
        rcases hahead with hlt | ⟨heq, ht⟩
        · rintro (hneg | ⟨heq, -⟩)
          · omega
          · rw [heq, BitVec.sub_self] at hlt
            exact absurd hlt (by decide)
        · rw [heq, BitVec.sub_self]
          simp [ht]
      exact ⟨_, exec_waitUntil_ahead h hp hnot, State.advance_after _ hpc⟩
    · obtain ⟨hbit, hmem, hregs, heng⟩ := State.flag_engFlags s e (b := 2) (by decide)
      have hstep := State.advance_of_lt (s := s.flag (engFlags e) 2) (e := e) (by rw [heng]; exact hpc)
      have hexec := exec_waitUntil_past h hp (by rw [blt_iff]; exact hpast)
      rw [hstep] at hexec
      refine ⟨_, hexec, ?_, hbit, hmem, hregs, fun f hf => ?_⟩
      · rw [State.eng_modEng_same, heng]
      · rw [State.eng_modEng, if_neg hf, heng]
  · obtain ⟨halways, hcounter, habsent, houtcome⟩ := exec_branch h hb
    have htarget := decBranch_target_le hb
    have hslot : ∀ en taken, exec (.branch e) s = .next ((s.modEng e (fun x => x.takeSlot b.slot en b.keep)).branchTo e b taken).serveRuns →
        ∃ t : State, exec (.branch e) s = .next t.serveRuns ∧ s.onlyEng t e [] ∧ t.eng e = { (x.takeSlot b.slot en b.keep).stepped with
          pc := if taken != b.neg then b.target else x.pc + 1 } := fun en taken hexec => ⟨_, hexec, State.branchTo_of_slot htarget hpc en taken⟩
    refine ⟨fun hc => ⟨_, halways hc, State.branchTo_leaves htarget hpc true⟩,
      fun hc => ⟨_, hcounter hc, State.branchTo_leaves htarget hpc _⟩, fun en rest hhead => ?_⟩
    have htest : ∀ taken, outcomeCond b en = taken → en.absent = false → b.cond = 1 ∨ b.cond = 2 ∨ b.cond = 3 →
        exec (.branch e) s = .next ((s.modEng e (fun x => x.takeSlot b.slot en b.keep)).branchTo e b taken).serveRuns := by
      intro taken htaken hthere hc
      rw [houtcome hc, State.withSlot_entry hhead, hthere, if_neg Bool.false_ne_true, htaken]
    refine ⟨fun hc hthere => hslot en _ (htest _ ?_ hthere (by simp [hc])), fun hc hthere => hslot en _ (htest _ ?_ hthere (by simp [hc])),
      fun hc hthere => hslot en _ (htest _ ?_ hthere (by simp [hc])), fun hc => hslot en _ ?_⟩
    · simp [outcomeCond, hc]
    · simp [outcomeCond, hc]
    · simp [outcomeCond, hc]
    · rw [habsent hc, State.withSlot_entry hhead]
  · intro a
    obtain ⟨honly, hreg, heng⟩ := State.onlyEng_setReg_modEng s e a (s.counterValue e p) Engine.stepped
    exact ⟨_, (exec_counter h hp hop).trans (by rw [State.setCtr_advance p.ctr _ hpc]), honly, heng, hreg⟩
  · intro blk first
    obtain ⟨hcommits, hbit, hmem, heng, hregs⟩ := State.askCommit_leaves s (portOfEng e) blk (some e.val)
    have hstep := State.advance_of_lt (s := s.askCommit (portOfEng e) blk (some e.val)) (e := e) (by rw [heng]; exact hpc)
    have hexec := exec_commit_port h hp
    rw [hstep] at hexec
    refine ⟨_, hexec, ?_, hmem, hcommits, hbit, fun f hf => ?_, hregs⟩
    · rw [State.eng_modEng_same, heng]
    · rw [State.eng_modEng, if_neg hf, heng]
  · have hpledge : x.pledgeWait = none := h.2.2.1
    refine ⟨_, exec_halt h hok, ?_⟩
    obtain hset | ⟨id, hset⟩ := Option.eq_none_or_eq_some x.set
    · rw [State.leaveSet_none hset]
      refine ⟨rfl, fun _ => ⟨?_, fun f hf => ?_⟩, fun id hid => absurd (hset.symm.trans hid) (by simp)⟩
      · exact (State.eng_setSt s e e _ _).trans (if_pos rfl)
      · rw [State.eng_setSt, if_neg hf]
    · obtain ⟨hframe, hown, hothers, hsets⟩ := State.halt_leaves hset hpledge
      refine ⟨hframe, fun hnone => absurd (hnone.symm.trans hset) (by simp), fun id' hid => ?_⟩
      obtain rfl := Option.some.inj (hset.symm.trans hid)
      exact ⟨hown, hothers, hsets⟩

end Sys2Proof.Machine

namespace Sys2Proof.Machine

/-! ## ACQUIRE: a context on each named channel (R85, R155) -/

/-- The context that a descriptor's window takes (R155). -/
def Desc.context (d : Desc) (wset len : Nat) (shotNo : W32) (e : Nat) : Ctx :=
  { start := d.start, tick := d.tick, len, wset, shotNo, eng := e, words := [], opened := false, dead := none, ovr := false, flip := none }

theorem State.takeCtx_of_free {s : State} {c : Nat} (h : s.ctxHeld c < 5) (e : Nat) (d : Desc) (wset len : Nat) :
    s.takeCtx e c d wset len = s.setCtxs c (s.ctxs c ++ [d.context wset len (s.eng e).shotNo e]) := by
  have hno : decide (5 ≤ s.ctxHeld c) = false := decide_eq_false (by omega)
  simp only [State.takeCtx, hno, Bool.false_eq_true, if_false]
  rfl

/-- Distinct channels with a context free each take one more. -/
theorem State.takeCtxs_of_free (e : Nat) (d : Desc) (wset len : Nat) {l : List Nat} (hl : l.Nodup) {s : State}
    (h : ∀ c ∈ l, s.ctxHeld c < 5) : let t := foldS l (fun c s => s.takeCtx e c d wset len) s
    t = { s with chans := t.chans } ∧
      ∀ c, t.ctxs c = if c ∈ l then s.ctxs c ++ [d.context wset len (s.eng e).shotNo e] else s.ctxs c := by
  induction l generalizing s with
  | nil => exact ⟨rfl, fun c => rfl⟩
  | cons c l ih =>
    obtain ⟨hc, hl⟩ := List.nodup_cons.mp hl
    let u := s.setCtxs c (s.ctxs c ++ [d.context wset len (s.eng e).shotNo e])
    have hu : ∀ c', u.ctxs c' = if c' = c then s.ctxs c ++ [d.context wset len (s.eng e).shotNo e] else s.ctxs c' :=
      fun c' => State.ctxs_setCtxs s c c' _
    have hfree : ∀ c' ∈ l, u.ctxHeld c' < 5 := fun c' hc' => by
      have hne : c' ≠ c := fun heq => hc (heq ▸ hc')
      rw [State.ctxHeld, hu, if_neg hne]
      exact h c' (List.mem_cons_of_mem c hc')
    have hfirst : s.takeCtx e c d wset len = u := State.takeCtx_of_free (h c List.mem_cons_self) e d wset len
    obtain ⟨hframe, hctxs⟩ := ih hl hfree
    rw [foldS_cons, hfirst]
    refine ⟨hframe, fun c' => (hctxs c').trans ?_⟩
    rw [hu]
    by_cases heq : c' = c
    · rw [heq, if_neg hc, if_pos rfl, if_pos List.mem_cons_self]
    · rw [if_neg heq]
      simp only [List.mem_cons, heq, false_or]
      rfl

theorem maskChans_nodup (e : Nat) (mask : BitVec 8) : (maskChans e mask).Nodup :=
  (List.nodup_range.filter _).map (fun _ _ h => Nat.add_left_cancel h)

/-- With a context free on every channel of a mask all its bits stay (R155). -/
theorem State.freeMask_of_free {s : State} {e : Nat} {mask : BitVec 8} (h : ∀ c ∈ maskChans e mask, s.ctxHeld c < 5) :
    s.freeMask e mask = mask := by
  have hbits : ∀ i ∈ List.range 8, (if mask.getLsbD i && decide (s.ctxHeld (8 * ((e - 512) / 8) + i) < 5) then 2 ^ i else 0) =
      if mask.getLsbD i then 2 ^ i else 0 := fun i hi => by
    cases hset : mask.getLsbD i with
    | false => rfl
    | true =>
      have hfree := h (8 * ((e - 512) / 8) + i) (List.mem_map.mpr ⟨i, List.mem_filter.mpr ⟨hi, hset⟩, rfl⟩)
      simp [hfree]
  rw [State.freeMask, List.map_congr_left hbits]
  clear hbits h
  revert mask
  decide

theorem decAcquire_mask_ne {w : W64} {p : AcqOp} (h : decAcquire w = some p) : p.mask ≠ 0 := by
  unfold decAcquire at h
  split at h
  · rename_i hform
    obtain ⟨-, hmask, -, -⟩ := hform
    obtain rfl := Option.some.inj h
    have hlt : ib w 57 50 < 256 := ib_lt w 57 50
    intro hz
    have hnat := congrArg BitVec.toNat hz
    rw [BitVec.toNat_ofNat, Nat.mod_eq_of_lt hlt] at hnat
    exact hmask hnat
  · cases h

/-- With nothing to pledge an ACQUIRE's descriptor is offered (R85, R179). -/
theorem State.pledgeThenOffer_nil {s : State} {e : Nat} {d : Desc} {mask : BitVec 8} {n len : Nat} (hbody : d.body = .acquire mask n len)
    (hmask : mask ≠ 0) : s.pledgeThenOffer e d [] = (s.modEng e (fun x => { x with pledgeWait := none })).offerDesc e d := by
  simp only [State.pledgeThenOffer, State.pledgeAll, List.isEmpty_nil, if_true, hbody, if_neg hmask]

/-- A descriptor offered with none waiting: it stands as the offer, and the engine goes on (R43). -/
theorem State.offerDesc_eq {s : State} {e : Nat} (d : Desc) (hfree : (s.eng e).offer = none) (hpc : (s.eng e).pc < 16383) :
    s.offerDesc e d = (s.modEng e (fun x => x.offering d)).modEng e Engine.stepped := by
  rw [State.offerDesc_free s e d id hfree]
  exact State.advance_of_lt (by rw [id_eq, State.eng_modEng_same]; exact hpc)

/-- The descriptor of an ACQUIRE whose named channels all have a context free (R85). -/
def State.acquireDesc (s : State) (e : Nat) (p : AcqOp) : Desc :=
  s.mkDesc e ((s.eng e).cur.b + BitVec.ofNat 32 p.offset) (s.eng e).cur.t (.acquire p.mask p.wset p.len)

theorem exec_acquire {s : State} {e : Eng} {w : W64} {p : AcqOp} (h : s.executes e 0x0A w) (hp : decAcquire w = some p)
    (hprobe : ¬ (e.val < 512 ∨ 1024 ≤ e.val)) (hoffer : (s.eng e).offer = none) (htwin : s.twin = false)
    (hfree : ∀ c ∈ maskChans e p.mask, s.ctxHeld c < 5) :
    exec (.acquire e) s = .next ((foldS (maskChans e p.mask) (fun c s' => s'.takeCtx e c (s.acquireDesc e p) p.wset p.len) s).modEng e
      (fun x => { x with pledgeWait := none }) |>.offerDesc e (s.acquireDesc e p)).serveRuns := by
  have hexec : exec (.acquire e) s = execAcquire e s := rfl
  have hpledge : (s.eng e).pledgeWait = none := h.2.2.1
  rw [hexec, execAcquire, State.runOp_of_executes h (by decide), hpledge]
  simp only [if_neg hprobe, hp, State.withForm_some, hoffer, Option.isSome_none, Bool.false_eq_true, if_false, htwin, Bool.false_and,
    State.freeMask_of_free hfree]
  exact congrArg (fun t : State => Host.Outcome.next t.serveRuns) (State.pledgeThenOffer_nil rfl (decAcquire_mask_ne hp))

/-! ## PUBLISH (R86, R170) -/

theorem exec_publish_value {s : State} {e : Eng} {w : W64} {id : Nat} {v inv : Bool} (h : s.executes e 0x0B w)
    (hp : decPublish w = some (id, .value v, inv)) (htwin : s.twin = false) (hon : (s.reg (pubOwnerAddr id)).getLsbD 31 = true)
    (hown : s.fld (pubOwnerAddr id) 10 0 = e.val) :
    exec (.publish e) s = .next ((s.deliver (512 + id) { value := if v != inv then 1 else 0, uncertain := false, absent := false
                                                         remote := false, stamp := some (s.eng e).cur.b }).advance e).serveRuns := by
  have hexec : exec (.publish e) s = execPublish e s := rfl
  have hfld : wfld (s.reg (pubOwnerAddr id)) 10 0 = e.val := hown
  rw [hexec, execPublish, State.runOp_of_executes h (by decide), hp, State.withForm_some]
  simp only [hon, hfld, Bool.not_true, bne_self_eq_false, Bool.or_self, Bool.false_eq_true, if_false, State.releaseOutcome, htwin,
    Bool.false_and, if_neg (show ¬ 512 + id < 512 by omega)]

/-! ## SYNC (R95) -/

/-- A change that keeps a gathering's names. -/
def SyncInst.keepsNames (f : SyncInst → SyncInst) : Prop := ∀ i, (f i).set = i.set ∧ (f i).group = i.group ∧ (f i).inst = i.inst

theorem State.findSync_modSync {s : State} {set group inst : Nat} {f : SyncInst → SyncInst} (hf : SyncInst.keepsNames f) :
    (s.modSync set group inst f).findSync set group inst = (s.findSync set group inst).map f := by
  have hnames : ∀ i : SyncInst, (((if i.set = set ∧ i.group = group ∧ i.inst = inst then f i else i).set == set &&
      (if i.set = set ∧ i.group = group ∧ i.inst = inst then f i else i).group == group) &&
      (if i.set = set ∧ i.group = group ∧ i.inst = inst then f i else i).inst == inst) =
      (i.set == set && i.group == group && i.inst == inst) := fun i => by
    split
    · obtain ⟨h1, h2, h3⟩ := hf i
      rw [h1, h2, h3]
    · rfl
  have hfind : (s.modSync set group inst f).findSync set group inst =
      (s.findSync set group inst).map (fun i => if i.set = set ∧ i.group = group ∧ i.inst = inst then f i else i) := by
    show (s.syncs.map _).find? _ = _
    rw [List.find?_map]
    simp only [Function.comp_def, hnames]
    rfl
  rw [hfind]
  cases hi : s.findSync set group inst with
  | none => rfl
  | some i =>
    have hp := List.find?_some hi
    simp only [Bool.and_eq_true, beq_iff_eq] at hp
    rw [Option.map_some, Option.map_some, if_pos ⟨hp.1.1, hp.1.2, hp.2⟩]

/-- The gathering as an engine opens it (R95, R96). -/
def SyncInst.opened (set group inst : Nat) (first : W32) : SyncInst :=
  { set, group, inst, arrived := [], offset := 0, first, partner := [], closed := false, sentUp := false }

/-- The gathering is there once it is opened: the one there was, or a new one. -/
theorem State.findSync_openSync (s : State) (set group inst : Nat) : (s.openSync set group inst).findSync set group inst =
    some ((s.findSync set group inst).getD (SyncInst.opened set group inst s.pin)) := by
  unfold State.openSync
  cases h : s.findSync set group inst with
  | some i => exact h
  | none =>
    show (s.syncs ++ [SyncInst.opened set group inst s.pin]).find? _ = _
    have hnone : s.syncs.find? (fun i => i.set == set && i.group == group && i.inst == inst) = none := h
    rw [List.find?_append, hnone]
    simp [SyncInst.opened]

theorem State.openSync_frame (s : State) (set group inst : Nat) :
    s.openSync set group inst = { s with syncs := (s.openSync set group inst).syncs } := by
  unfold State.openSync
  split <;> rfl

/-- An engine's arrival at a gathering, with the OFFSET of its SYNC (R95). -/
def SyncInst.joined (e : Nat) (c : W32) (offset : Nat) (pin : W32) (i : SyncInst) : SyncInst :=
  { i with arrived := i.arrived ++ [(e, c)], offset := offset, first := if i.arrived.isEmpty ∧ i.partner.isEmpty then pin else i.first }

/-- The engine at its k-th SYNC of a group (R95). -/
def Engine.syncing (group k : Nat) (x : Engine) : Engine := { x with syncs := tabSet 0 x.syncs group (k + 1), refuse := false }

/-- Engine e at gathering k of a group, which it has opened where it was not there. -/
def State.syncOpened (s : State) (e id group k : Nat) : State := (s.openSync id group k).modEng e (Engine.syncing group k)

theorem State.syncOpened_frame (s : State) (e id group k : Nat) : s.syncOpened e id group k =
    { s with engines := (s.syncOpened e id group k).engines, syncs := (s.syncOpened e id group k).syncs } := by
  have h := State.openSync_frame s id group k
  unfold State.syncOpened
  generalize s.openSync id group k = u at h ⊢
  rw [State.modEng_frame, h]

theorem State.syncOpened_eng (s : State) (e id group k f : Nat) :
    (s.syncOpened e id group k).eng f = if f = e then (s.eng e).syncing group k else s.eng f := by
  have h : ∀ g, (s.openSync id group k).eng g = s.eng g := fun g => by rw [State.openSync_frame]; rfl
  rw [State.syncOpened, State.eng_modEng, h, h]

/-- The state in which engine e has arrived and waits. -/
def State.syncJoined (s : State) (e id : Nat) (p : Nat × Nat) (k : Nat) : State :=
  ((s.syncOpened e id p.1 k).modSync id p.1 k (SyncInst.joined e (s.eng e).cur.ceil p.2 (s.syncOpened e id p.1 k).pin)).setSt e .waiting 3

theorem exec_sync {s : State} {e : Eng} {w : W64} {p : Nat × Nat} {id k : Nat} (h : s.executes e 0x11 w) (hp : decSync w = some p)
    (hset : (s.eng e).set = some id) (hmember : s.syncMember p.1 e = true) (hk : tabGet 0 (s.eng e).syncs p.1 = k)
    (hopen : ∀ i, s.findSync id p.1 k = some i → i.closed = false) :
    exec (.sync e) s = .next (s.syncJoined e id p k).serveRuns := by
  have hexec : exec (.sync e) s = execSync e s := rfl
  have hfind : (s.syncOpened e id p.1 k).findSync id p.1 k = _ := State.findSync_openSync s id p.1 k
  have hclosed : ((s.syncOpened e id p.1 k).findSync id p.1 k).any (·.closed) = false := by
    rw [hfind, Option.any_some]
    cases hi : s.findSync id p.1 k with
    | none => rfl
    | some i => exact hopen i hi
  rw [hexec, execSync, State.runOp_of_executes h (by decide), hp, State.withForm_some]
  simp only [hset, hmember, hk, Bool.not_true, Bool.false_eq_true, if_false]
  exact congrArg (fun t : State => Host.Outcome.next t.serveRuns) (if_neg (ne_true_of_eq_false hclosed))

/-- The engine has arrived at its gathering, which takes its OFFSET, and waits (R95). -/
theorem State.syncJoined_leaves (s : State) (e id : Nat) (p : Nat × Nat) (k : Nat) : let t := s.syncJoined e id p k
    t = { s with engines := t.engines, syncs := t.syncs } ∧ (∀ f, f ≠ e → t.eng f = s.eng f) ∧
      t.eng e = { s.eng e with st := .waiting, cause := 3, refuse := false, syncs := tabSet 0 (s.eng e).syncs p.1 (k + 1) } ∧
      ∃ i, t.findSync id p.1 k = some i ∧ i.offset = p.2 ∧ (e, (s.eng e).cur.ceil) ∈ i.arrived := by
  intro t
  let u := s.syncOpened e id p.1 k
  let join := SyncInst.joined e (s.eng e).cur.ceil p.2 u.pin
  have hframe : u = { s with engines := u.engines, syncs := u.syncs } := State.syncOpened_frame s e id p.1 k
  have heng : ∀ f, (u.modSync id p.1 k join).eng f = if f = e then (s.eng e).syncing p.1 k else s.eng f := State.syncOpened_eng s e id p.1 k
  have ht : t = (u.modSync id p.1 k join).setSt e .waiting 3 := rfl
  refine ⟨?_, fun f hf => ?_, ?_, join ((s.findSync id p.1 k).getD (SyncInst.opened id p.1 k s.pin)), ?_, rfl, ?_⟩
  · clear_value t u
    rw [ht, hframe]
    rfl
  · rw [ht, State.eng_setSt, if_neg hf, heng, if_neg hf]
  · rw [ht, State.eng_setSt, if_pos rfl, heng, if_pos rfl]
    rfl
  · have hmod : (u.modSync id p.1 k join).findSync id p.1 k = _ := State.findSync_modSync (fun _ => ⟨rfl, rfl, rfl⟩)
    have hopened : u.findSync id p.1 k = _ := State.findSync_openSync s id p.1 k
    rw [hopened] at hmod
    exact hmod
  · exact List.mem_append_right _ (List.mem_singleton.mpr rfl)

/-! ## SHOT_END (R70) -/

theorem exec_shotEnd {s : State} {e : Eng} {w : W64} (h : s.executes e 0x15 w) (hok : bareOk w = true) :
    exec (.shotEnd e) s = .next (s.reportShot e).serveRuns := by
  have hexec : exec (.shotEnd e) s = execShotEnd e s := rfl
  simp only [hexec, execShotEnd, h.1, Bool.false_and, Bool.false_eq_true, if_false]
  rw [State.runOp_of_executes h (by decide), hok, if_pos rfl]

/-- The engine as it waits for the shot rendezvous (R70). -/
def Engine.reporting (x : Engine) : Engine := { x with st := .waiting, cause := 4, refuse := false }

theorem Engine.noteGone_reporting {x : Engine} (h : x.canRun = true) (o : Nat) : x.reporting.noteGone o = (x.noteGone o).reporting := by
  have hshot : x.inShot = true := by
    simp only [Engine.canRun, Bool.or_eq_true, Bool.and_eq_true] at h
    rcases h with h | ⟨⟨h, -⟩, -⟩ <;> simp [Engine.inShot, h]
  have hshot' : x.reporting.inShot = true := rfl
  have hgone' : x.reporting.gone = x.gone := rfl
  unfold Engine.noteGone
  rw [hshot, hshot', hgone']
  simp only [true_and]
  by_cases hgone : o ∈ x.gone
  · rw [if_neg (not_not.mpr hgone), if_neg (not_not.mpr hgone)]
  · rw [if_pos hgone, if_pos hgone]
    rfl

/-- A set with an engine's report in place of its earlier one (R70). -/
def StartSet.reported (e : Nat) (c : W32) (g : StartSet) : StartSet :=
  { g with reports := g.reports.filter (fun r => r.1 != e) ++ [(e, c)] }

theorem State.reportShot_leaves {s : State} {e id : Nat} (hset : (s.eng e).set = some id) (hrun : (s.eng e).canRun = true) :
    let t := s.reportShot e
    t = { s with engines := t.engines, sets := t.sets } ∧ (∀ f, f ≠ e → t.eng f = (s.eng f).noteGone e) ∧
      t.eng e = ((s.eng e).noteGone e).reporting ∧
      t.sets = s.sets.map (fun g => if g.id = id then g.reported e (s.eng e).cur.ceil else g) := by
  intro t
  let u := (s.modSet id (StartSet.reported e (s.eng e).cur.ceil)).modEng e Engine.reporting
  have ht : t = u.noteGone e := by
    unfold t
    simp only [State.reportShot, hset]
    rfl
  have hnoted := State.noteGone_frame u e
  have heng : ∀ f, (u.noteGone e).eng f = (u.eng f).noteGone e := State.noteGone_eng u e
  have hu : ∀ f, u.eng f = if f = e then (s.eng e).reporting else s.eng f := fun f => State.eng_modEng _ e f Engine.reporting
  refine ⟨?_, fun f hf => ?_, ?_, ?_⟩
  · rw [ht, hnoted]
    rfl
  · rw [ht, heng, hu, if_neg hf]
  · rw [ht, heng, hu, if_pos rfl, Engine.noteGone_reporting hrun]
  · rw [ht, hnoted]
    rfl

/-- Settles O9: the contexts, the outcome, the gathering and the report that each leaves, and the step after the first two. -/
theorem engineMeetingInstructions : Obligations.EngineMeetingInstructions := by
  unfold Obligations.EngineMeetingInstructions
  intro s e w hpc x
  refine ⟨fun p h hp hlo hhi hoffer htwin hfree => ?_, fun id v inv h hp htwin hon hown => ?_, fun p id h hp hset hmember => ?_,
    fun id h hok hset => ⟨_, exec_shotEnd h hok, State.reportShot_leaves hset h.2.1⟩⟩
  · intro start
    obtain ⟨hframe, hctxs⟩ := State.takeCtxs_of_free e (s.acquireDesc e p) p.wset p.len (maskChans_nodup e p.mask) hfree
    have hexec := exec_acquire h hp (by omega) hoffer htwin hfree
    generalize foldS (maskChans e p.mask) _ s = u at hframe hctxs hexec
    let v := u.modEng e (fun x => { x with pledgeWait := none })
    have heng : ∀ f, u.eng f = s.eng f := fun f => by rw [hframe]; rfl
    have hown : v.eng e = x := by
      rw [State.eng_modEng_same, heng]
      exact congrArg (fun o => ({ x with pledgeWait := o } : Engine)) h.2.2.1.symm
    have hv : v = { s with engines := v.engines, chans := u.chans } := by
      unfold v
      rw [hframe]
      rfl
    have hoffered := State.offerDesc_eq (s.acquireDesc e p) (show (v.eng e).offer = none by rw [hown]; exact hoffer)
      (show (v.eng e).pc < 16383 by rw [hown]; exact hpc)
    rw [show u.modEng e _ = v from rfl, hoffered] at hexec
    refine ⟨_, hexec, ?_, fun f hf => ?_, ?_, hctxs⟩
    · clear_value v
      rw [hv]
      rfl
    · rw [State.eng_modEng, if_neg hf, State.eng_modEng, if_neg hf, State.eng_modEng, if_neg hf, heng]
    · rw [State.eng_modEng_same, State.eng_modEng_same, hown]
      rfl
  · let en : Entry :=
      { value := if v != inv then 1 else 0, uncertain := false, absent := false, remote := false, stamp := some x.cur.b }
    have hstep := State.advance_of_lt (s := s.deliver (512 + id) en) (e := e) hpc
    have hexec := exec_publish_value h hp htwin hon hown
    rw [hstep] at hexec
    exact ⟨_, hexec, State.eng_modEng_same _ e _, rfl, fun f hf => (State.eng_modEng _ e f _).trans (if_neg hf), rfl⟩
  · intro k hopen
    obtain ⟨hframe, hothers, hown, i, hfind, hoffset, hin⟩ := State.syncJoined_leaves s e id p k
    exact ⟨_, i, exec_sync h hp hset hmember rfl hopen, hframe, hothers, hown, hfind, hoffset, hin⟩

end Sys2Proof.Machine

namespace Sys2Proof.Machine

/-! ## A COMPLETE to an engine at the last word of program memory (R76, R95, R175, R346) -/

/-- The set of `lastWordSet` as one that spans a pair, so that a seam message can mean it. -/
def lastWordPairSet : StartSet := { lastWordSet with pair := true }

/-- Engine 5 waits in SYNC group 0 at word 16,383, engine 6 runs in the same pair set. -/
def lastWordPairState : State := { lastWordState with sets := [lastWordPairSet] }

/-- The completing hub's answer to gathering 0 of SYNC group 0 in the first shot. -/
def lastWordComplete : CompleteMsg :=
  { sync := true, group := 0, inst := 0, shotNo := 0, b := 0, closed := false, last := false }

/-- Engine 5 is released past word 16,383, raises ENG_ILLEGAL (R76) and leaves its START set, which engine 6 notes (R175). -/
theorem goneAfter_complete : goneAfter (exec (.complete lastWordComplete) lastWordPairState) 6 = some [5] := by decide +kernel

/-- Refutes O29: its clause on a COMPLETE of a gathering lets no engine change but those that arrived, and exempts an arrived engine
at the last word of program memory only from what itself becomes; that engine runs off the program, faults and leaves its set, and
every other engine in a shot notes that it left. -/
theorem not_seamReportsAndCompletes : ¬ Obligations.SeamReportsAndCompletes := by
  unfold Obligations.SeamReportsAndCompletes
  rintro ⟨-, -, -, h⟩
  obtain ⟨-, -, -, -, hgather⟩ := h lastWordPairState lastWordComplete lastWordPairSet rfl (by decide +kernel)
  obtain ⟨t, hnext, -, hothers, -⟩ := hgather lastWordSync rfl rfl
  have hgone := goneAfter_complete
  rw [hnext] at hgone
  have hsame : (t.eng 6).gone = [] := congrArg Engine.gone (hothers 6 (by decide))
  rw [goneAfter, State.serveRuns_gone, hsame] at hgone
  exact absurd hgone (by decide)

end Sys2Proof.Machine

namespace Sys2Proof.Machine

/-! ## START (R69, R73, R297, R298) -/

/-- Engine x as it begins a run at block b in START set id, its program's first word pc. -/
def Engine.begun (id pc : Nat) (b : W32) (x : Engine) : Engine :=
  { x.clearShot with
    st := .running, cause := 0, pc, cur := { b, t := 0 }, shotNo := 0, shotStart := b, s0 := b, set := some id }

/-- A START set begins: every engine it names begins its run; of the rest of the unit no engine, tile register or memory byte changes,
and nothing is sent. RUN_ID is taken where no engine is in a shot. -/
theorem State.begin_leaves (s : State) (r : StartReq) (engs far : List Nat) (b : W32) (twin pair : Bool) :
    let t := s.begin r engs far b twin pair
    (∀ e, t.eng e = if e ∈ engs then (s.eng e).begun s.nextSet (s.fld (engAddr e 0) 13 0) b else s.eng e) ∧
      (∀ a, 0x20000000 ≤ a → t.reg a = s.reg a) ∧ s.sameMem t ∧
      t.onet.runId = (if s.anyInShot then s.onet.runId else r.runId) ∧ t.sent = s.sent := by
  unfold State.begin
  extract_lets o numbered id mend g old listed started t
  have hnumbered : numbered = { s with onet := numbered.onet } := by
    unfold numbered
    split <;> rfl
  have hrun : numbered.onet.runId = if s.anyInShot then s.onet.runId else r.runId := apply_ite (fun u : State => u.onet.runId) _ _ _
  have hlisted : listed = { s with onet := numbered.onet, nextSet := listed.nextSet, sets := listed.sets } := by
    unfold listed
    rw [hnumbered]
  have hid : id = s.nextSet := by
    unfold id
    rw [hnumbered]
  obtain ⟨hframe, heng⟩ := foldS_engines (f := fun e s => s.startEngine id b e)
    (y := fun e x => x.begun s.nextSet (s.fld (engAddr e 0) 13 0) b) engs listed
    (fun e u hu => by rw [hid, hu, hlisted]; rfl) (fun _ _ => rfl)
  change started = { listed with engines := started.engines } at hframe
  change ∀ e, started.eng e = _ at heng
  have hlast : t = { started with regs := t.regs, mend := t.mend } ∧ ∀ a, 0x20000000 ≤ a → t.reg a = started.reg a := by
    unfold t
    split
    · refine ⟨rfl, fun a ha => ?_⟩
      unfold State.mendShot
      rw [State.reg_setReg, if_neg (by unfold aMendObs; omega)]
      rfl
    · exact ⟨rfl, fun _ _ => rfl⟩
  obtain ⟨hend, hregs⟩ := hlast
  clear_value t started listed numbered
  have hstarted : started = { s with onet := numbered.onet, nextSet := listed.nextSet, sets := listed.sets, engines := started.engines } := by
    rw [hframe, hlisted]
  have hreg : ∀ a, started.reg a = s.reg a := fun a => by rw [hstarted]; rfl
  refine ⟨fun e => ?_, fun a ha => (hregs a ha).trans (hreg a), fun a => ?_, ?_, ?_⟩
  · have hlistedEng : listed.eng e = s.eng e := by rw [hlisted]; rfl
    have hsame : t.eng e = started.eng e := by rw [hend]; rfl
    rw [hsame, heng, hlistedEng]
  · rw [hend, hstarted]
    rfl
  · rw [hend, hstarted, ← hrun]
  · rw [hend, hstarted]

/-- The request of a START's words. -/
def startReq (w0 w1 w2 w3 : W32) (set : List W32) : StartReq :=
  { count := w0, s0 := w1, gap := w2, runId := (w3 >>> 16).setWidth 16, code := wfld w3 1 0, words := set }

/-- The state in which START is judged: with TWIN a free value stood for the partner's registers (R209). -/
def State.compared (s : State) (h : Hdr) : State := if twinFlag h then s.draw else s

theorem State.compared_frame (s : State) (h : Hdr) : s.compared h = { s with free := (s.compared h).free } := by
  unfold State.compared
  split <;> rfl

theorem State.startBusy_compared (s : State) (h : Hdr) (engs : List Nat) : (s.compared h).startBusy engs = s.startBusy engs := by
  rw [State.compared_frame]
  rfl

theorem State.earliestS0_compared (s : State) (h : Hdr) (twin : Bool) : (s.compared h).earliestS0 twin = s.earliestS0 twin := by
  rw [State.compared_frame]
  rfl

/-- The state of a START that is taken as it answers: relayed, then begun. -/
def State.startBegun (s : State) (h : Hdr) (r : StartReq) (engs far : List Nat) (b : W32) : State :=
  ((s.compared h).relayCmd h 0x21 ({ r with s0 := b } : StartReq).params (s.compared h).partnerJoins).begin r engs far b (twinFlag h)
    ((s.compared h).partnerJoined || (s.compared h).partnerJoins)

/-- The number of engines that START answers: a free value where the lead cannot tell the follow's. -/
def State.startCount (u : State) (h : Hdr) (r : StartReq) (engs far : List Nat) : W32 :=
  if twinFlag h && r.code == 1 then Config.freeWord u.free else BitVec.ofNat 32 (engs.length + far.length)

/-- The state in which START answers that number. -/
def State.counted (u : State) (h : Hdr) (r : StartReq) : State := if twinFlag h && r.code == 1 then u.draw else u

theorem State.counted_frame (u : State) (h : Hdr) (r : StartReq) : u.counted h r = { u with free := (u.counted h r).free } := by
  unfold State.counted
  split <;> rfl

/-- An error is answered whether or not a reply was asked for. -/
theorem State.finish_error_answers {s : State} {h : Hdr} {op : Nat} {st : Byte} {ps : List W32} (hok : st ≠ stOk) (hpending : st ≠ stPending) :
    s.answers (s.finish h op st ps) h op st ps := by
  let counted := (((s.dequeue h).addSat aCmdCount 1).cachePut h (if st = stPending then none else some (s.mkReply h op st ps))).countError h op st
  have hsends : s.finish h op st ps = counted.send (.reply (s.mkReply h op st ps)) :=
    if_neg fun hquiet => hquiet.1.elim hok hpending
  have hcounted : Emits [] s counted :=
    (((State.dequeue_emits s h).trans (Emits.addSat [] _ aCmdCount 1 (.inr (by decide)))).trans (State.cachePut_emits _ _ _)).trans
      (State.countError_emits _ _ _ _)
  obtain ⟨m, hm⟩ := hcounted.sent
  refine ⟨s.mkReply h op st ps, m ++ [.reply (s.mkReply h op st ps)], ?_, by simp, rfl, rfl, rfl, rfl, rfl, rfl⟩
  rw [hsends, State.send_sent, hm, List.append_assoc]

/-- What a START that is not refused leaves as it begins: relayed, its set running. -/
theorem State.startBegun_leaves (s : State) (h : Hdr) (r : StartReq) (engs far : List Nat) (b : W32) :
    let u := (s.startBegun h r engs far b).counted h r
    (∀ e, u.eng e = if e ∈ engs then (s.eng e).begun s.nextSet (s.fld (engAddr e 0) 13 0) b else s.eng e) ∧
      (∀ a, 0x20000000 ≤ a → u.reg a = s.reg a) ∧ s.sameMem u ∧
      u.onet.runId = (if s.anyInShot then s.onet.runId else r.runId) ∧ ∃ m, u.sent = s.sent ++ m := by
  intro u
  unfold u
  obtain ⟨hrelay, -⟩ := State.relayCmd_emits (s.compared h) h 0x21 ({ r with s0 := b } : StartReq).params (s.compared h).partnerJoins
  have hbegin := State.begin_leaves ((s.compared h).relayCmd h 0x21 ({ r with s0 := b } : StartReq).params (s.compared h).partnerJoins)
    r engs far b (twinFlag h) ((s.compared h).partnerJoined || (s.compared h).partnerJoins)
  rw [State.counted_frame]
  unfold State.startBegun
  generalize (s.compared h).relayCmd _ _ _ _ = v at hrelay hbegin ⊢
  obtain ⟨heng, hreg, hmem, hrun, hsent⟩ := hbegin
  have hvreg : ∀ a, 0x20000000 ≤ a → v.reg a = s.reg a := fun a ha => by
    rw [hrelay.regs a (by simp) (emitReg_below_tiles ha), State.compared_frame]
    rfl
  have hv : v = { s with regs := v.regs, links := v.links, cmd := v.cmd, evt := v.evt, sent := v.sent, free := v.free } := by
    have hframe := hrelay.frame
    rw [State.compared_frame] at hframe
    rw [hframe]
  refine ⟨fun e => ?_, fun a ha => ?_, fun a => ?_, ?_, ?_⟩
  · have hstart : v.fld (engAddr e 0) 13 0 = s.fld (engAddr e 0) 13 0 := by
      rw [State.fld, hvreg _ (by unfold engAddr tileBase; omega), State.fld]
    have hnext : v.nextSet = s.nextSet := by rw [hv]
    have hkept : v.eng e = s.eng e := by
      rw [hv]
      rfl
    rw [← hstart, ← hnext, ← hkept]
    exact heng e
  · exact (hreg a ha).trans (hvreg a ha)
  · refine (hmem a).trans ?_
    rw [hv]
    rfl
  · refine hrun.trans ?_
    rw [hv]
    rfl
  · obtain ⟨m, hm⟩ := hrelay.sent
    refine ⟨m, hsent.trans (hm.trans ?_)⟩
    rw [State.compared_frame]

section
variable {s : State} {h : Hdr} {r : StartReq} {engs far : List Nat}
  (hgate : s.pairGate h = none) (hgap : ¬ 0x1000000 ≤ r.gap.toNat)
  (hset : s.readSet r.code r.words (twinFlag h) false = some (engs, far))
include hgate hgap hset

theorem State.start_disagree (hno : ¬ (twinFlag h = false ∨ s.mendersAgree (Config.partnerReg s.free) = true)) :
    s.start h r = (s.compared h).finish h 0x21 stBadParam := by
  have hagree : (!twinFlag h || s.mendersAgree (Config.partnerReg s.free)) = false := by simpa using hno
  simp [State.start, hgate, hgap, hset, hagree, State.compared]

variable (hagree : twinFlag h = false ∨ s.mendersAgree (Config.partnerReg s.free) = true)
include hagree

theorem State.start_busy (hbusy : s.startBusy engs = true) : s.start h r = (s.compared h).finish h 0x21 stBusy := by
  have hyes : (!twinFlag h || s.mendersAgree (Config.partnerReg s.free)) = true := by simpa using hagree
  rw [← State.startBusy_compared s h] at hbusy
  unfold State.compared at hbusy
  simp only [State.start, hgate, if_neg hgap, hset, hyes, hbusy, State.compared, if_true, Bool.not_true, Bool.false_eq_true, if_false]

variable (hfree : s.startBusy engs = false)
include hfree

theorem State.start_late (hne : r.s0 ≠ 0) (hlate : blt r.s0 (s.earliestS0 (twinFlag h)) = true) :
    s.start h r = (s.compared h).finish h 0x21 stRefusedLate := by
  have hyes : (!twinFlag h || s.mendersAgree (Config.partnerReg s.free)) = true := by simpa using hagree
  rw [← State.startBusy_compared s h] at hfree
  rw [← State.earliestS0_compared s h] at hlate
  unfold State.compared at hfree hlate
  simp only [State.start, hgate, if_neg hgap, hset, hyes, hfree, State.compared, Bool.not_true, Bool.false_eq_true, if_false]
  exact if_pos ⟨hne, hlate⟩

/-- A START that nothing refuses begins its set and answers. -/
theorem State.start_begins (hearly : ¬ (r.s0 ≠ 0 ∧ blt r.s0 (s.earliestS0 (twinFlag h)) = true)) :
    let b := if r.s0 = 0 then s.earliestS0 (twinFlag h) else r.s0
    let u := s.startBegun h r engs far b
    s.start h r = (u.counted h r).finish h 0x21 stOk [b, u.startCount h r engs far, (u.counted h r).onet.runId.setWidth 32] := by
  have hyes : (!twinFlag h || s.mendersAgree (Config.partnerReg s.free)) = true := by simpa using hagree
  rw [← State.startBusy_compared s h] at hfree
  rw [← State.earliestS0_compared s h] at hearly ⊢
  unfold State.compared at hfree hearly
  simp only [State.start, hgate, if_neg hgap, hset, hyes, hfree, Bool.not_true, Bool.false_eq_true, if_false]
  exact if_neg hearly

end

/-- Settles O14: START is refused by the first of its causes that holds; what is not refused begins its set, and the answer after it
changes the ways out alone. -/
theorem startBeginsEngines : Obligations.StartBeginsEngines := by
  unfold Obligations.StartBeginsEngines
  intro s h w0 w1 w2 w3 set engs far ⟨ha, hr, ht, hc, hn, hg⟩ hgate hreserved hgap hset least s0 rid agree
  let r := startReq w0 w1 w2 w3 set
  have hgap : ¬ 0x1000000 ≤ r.gap.toNat := Nat.not_le.mpr hgap
  have hexec : exec (.start h w0 w1 w2 w3 set) s = .next (s.start h r) := by
    show execStart h w0 w1 w2 w3 set s = _
    rw [execStart, State.runCmd_taken s h 0x21 true _ 0 ha hr ht hc hn hg]
    exact congrArg Host.Outcome.next (if_neg (by simpa using hreserved))
  have hcompared : s.tilesKept (s.compared h) ∧ (s.compared h).sent = s.sent := by
    rw [State.compared_frame]
    exact ⟨⟨fun _ => rfl, fun _ _ => rfl, fun _ => rfl⟩, rfl⟩
  obtain ⟨hkept, hsent⟩ := hcompared
  have hrefused : ∀ st : Byte, s.start h r = (s.compared h).finish h 0x21 st → st ≠ stOk → st ≠ stPending →
      ∃ t : State, exec (.start h w0 w1 w2 w3 set) s = .next t ∧ s.tilesKept t ∧ s.answers t h 0x21 st [] := by
    intro st hst hok hpending
    rw [hst] at hexec
    exact ⟨_, hexec, hkept.trans ((State.finish_emits _ h 0x21 st []).tilesKept (by simp)),
      (State.finish_error_answers hok hpending).earlier ⟨[], by rw [hsent, List.append_nil]⟩⟩
  refine ⟨fun hagree hfree hw1 => ?_, fun hno => ?_, fun hagree hbusy => ?_, fun hagree hfree hne hlate => ?_⟩
  · have hearly : ¬ (r.s0 ≠ 0 ∧ blt r.s0 (s.earliestS0 (twinFlag h)) = true) := by
      rintro ⟨hne, hlate⟩
      exact hw1.elim hne fun hw => absurd ((blt_iff _ _).mp hlate) (Int.not_lt.mpr hw)
    have hbegins := State.start_begins hgate hgap hset hagree hfree hearly
    change s.start h r = ((s.startBegun h r engs far s0).counted h r).finish h 0x21 stOk
      [s0, (s.startBegun h r engs far s0).startCount h r engs far, ((s.startBegun h r engs far s0).counted h r).onet.runId.setWidth 32]
      at hbegins
    obtain ⟨heng, hreg, hmem, hrun, hout⟩ := State.startBegun_leaves s h r engs far s0
    rw [hbegins] at hexec
    generalize hcount : (s.startBegun h r engs far s0).startCount h r engs far = n at hexec
    generalize (s.startBegun h r engs far s0).counted h r = u at heng hreg hmem hrun hout hexec
    have hfinish := State.finish_emits u h 0x21 stOk [s0, n, u.onet.runId.setWidth 32]
    refine ⟨_, hexec, fun e he => ?_, fun e he => ?_, fun a ha => ?_, fun a => (hfinish.byte a).trans (hmem a), ?_, fun hnotwin => ?_⟩
    · rw [hfinish.eng, heng, if_pos he, Engine.begun]
    · rw [hfinish.eng, heng, if_neg he]
    · exact (hfinish.regs a (by simp) (emitReg_below_tiles ha)).trans (hreg a ha)
    · rw [hfinish.frame]
      exact hrun
    · have hn : n = BitVec.ofNat 32 (engs.length + far.length) := by
        rw [← hcount, State.startCount, hnotwin]
        rfl
      rw [← hn, show rid = u.onet.runId from hrun.symm]
      exact (State.finish_answers (.inl rfl) (.inr (by simp))).earlier hout
  · exact hrefused _ (State.start_disagree hgate hgap hset hno) (by decide) (by decide)
  · exact hrefused _ (State.start_busy hgate hgap hset hagree hbusy) (by decide) (by decide)
  · exact hrefused _ (State.start_late hgate hgap hset hagree hfree hne ((blt_iff _ _).mpr hlate)) (by decide) (by decide)

end Sys2Proof.Machine

namespace Sys2Proof.Machine

/-! ## The updates that wait for a boundary (R117) -/

section
variable {s : State} {u : FrameUpd} (hqueue : s.hem.frameQ = [u]) (hdescs : s.frameDescs = [])
include hqueue hdescs

theorem State.frameAll_single : s.frameAll = [u] := by rw [State.frameAll, hdescs, hqueue, List.nil_append]

theorem State.frameNext_single : s.frameNext = some u.block := by
  rw [State.frameNext, State.frameAll_single hqueue hdescs]
  rfl

end

theorem State.not_frame_of_work {s : State} (h : s.frameDescs = []) {p : Nat × Engine} (hp : p ∈ s.engines) {w : Work} (hw : w ∈ p.2.work)
    (n : Nat) (op : FrameOp) : w.d.body ≠ .frame n op := by
  intro hbody
  have hnone := List.filterMap_eq_nil_iff.mp (List.flatMap_eq_nil_iff.mp h p hp) w hw
  rw [hbody] at hnone
  exact absurd hnone (by simp)

theorem State.latchFlips_frame (s : State) (b : W32) : s.latchFlips b = { s with chans := (s.latchFlips b).chans } :=
  foldS_rel (fun s t => t = { s with chans := t.chans }) (fun _ => rfl) (fun s t u h k => by rw [h] at k; exact k)
    _ _ (fun _ _ _ => rfl) s

/-- The one update that waits is applied at its block, and waits no longer. -/
theorem State.framesAt_single {s : State} {u : FrameUpd} (hqueue : s.hem.frameQ = [u]) (hdescs : s.frameDescs = []) :
    ∃ c, s.framesAt u.block =
      ({ s with chans := c, hem := { s.hem with frameQ := [] } } : State).frameApply u.frame u.block u.op := by
  refine ⟨(s.latchFlips u.block).chans, ?_⟩
  have hall : ({ s with chans := (s.latchFlips u.block).chans } : State).frameAll = [u] :=
    State.frameAll_single (s := { s with chans := (s.latchFlips u.block).chans }) hqueue hdescs
  have hkeep : [u].filter (fun v => v.block == u.block) = [u] := by simp
  have htaken : [u].filter (fun v => v.block != u.block) = [] := by simp
  unfold State.framesAt
  rw [State.latchFlips_frame]
  dsimp only
  rw [hall, hkeep, hqueue, htaken, List.map_congr_left (g := fun p => p) fun p hp => ?_, List.map_id']
  · rfl
  rw [List.filter_eq_self.mpr fun w hw => ?_]
  split
  · exact absurd ‹_› (State.not_frame_of_work hdescs hp hw _ _)
  · rfl

/-! ## One frame update (R84, R115) -/

theorem frameAddr_inj {n a b : Nat} : frameAddr n a = frameAddr n b ↔ a = b := by
  unfold frameAddr
  omega

/-- What an update's kind does to the words of frame n, where t is the DEVTIME of its block's first tick. -/
def State.frameOp (s : State) (n : Nat) (t : W64) : FrameOp → State
  | .setFreq f reset => if reset then ((s.setFreq n f).setReg (frameAddr n 8) 0).setAnchor n t else s.setFreq n f
  | .shift p => s.setReg (frameAddr n 8) (s.phase n + p)
  | .setPhase p => s.setReg (frameAddr n 8) (p - ((freqPhase (s.freq n) t (s.anchor n)) >>> 16).setWidth 32)
  | .pauli x z =>
    s.setReg (frameAddr n 0xC) (putFld (putFld (s.reg (frameAddr n 0xC)) 0 0 (pauliOp x (s.bit (frameAddr n 0xC) 0)).toNat) 1 1
      (pauliOp z (s.bit (frameAddr n 0xC) 1)).toNat)
  | .word off v => s.setReg (frameAddr n off) v
  | .pair anchor lo hi =>
    (s.setReg (frameAddr n (if anchor then 0x10 else 0)) lo).setReg (frameAddr n ((if anchor then 0x10 else 0) + 4))
      (if anchor then hi else hi &&& 0xFFFF)

theorem State.frameApply_eq (s : State) (n : Nat) (b : W32) (op : FrameOp) : s.frameApply n b op =
    ((((s.frameLog n (s.block64 b)).frameOp n (s.tickOf b) op).setReg (frameAddr n 0x18) b).touch (frameAddr n 0)) := by
  cases op <;> rfl

theorem State.frameLog_frame (s : State) (n : Nat) (b : W64) : s.frameLog n b = { s with synth := (s.frameLog n b).synth } :=
  foldS_rel (fun s t => t = { s with synth := t.synth }) (fun _ => rfl) (fun s t u h k => by rw [h] at k; exact k)
    _ _ (fun _ _ _ => rfl) s

theorem State.frameOp_frame (s : State) (n : Nat) (t : W64) (op : FrameOp) : s.frameOp n t op = { s with regs := (s.frameOp n t op).regs } := by
  cases op with
  | setFreq f reset => cases reset <;> rfl
  | _ => rfl

/-- What an update does to the registers rests on the registers alone. -/
theorem State.frameOp_regs {s u : State} (h : u.regs = s.regs) (n : Nat) (t : W64) (op : FrameOp) :
    (u.frameOp n t op).regs = (s.frameOp n t op).regs := by
  have hu : u = { u with regs := s.regs } := by rw [← h]
  rw [hu]
  cases op with
  | setFreq f reset => cases reset <;> rfl
  | _ => rfl

/-- The words of a frame register (R112). -/
def frameWords (n : Nat) : List Nat :=
  [frameAddr n 0, frameAddr n 4, frameAddr n 8, frameAddr n 0xC, frameAddr n 0x10, frameAddr n 0x14, frameAddr n 0x18]

/-- An update leaves every register that is no word of its frame. -/
theorem State.frameOp_sameRegs (s : State) (n : Nat) (t : W64) (op : FrameOp) (hop : ∀ off v, op = .word off v → off = 8 ∨ off = 0xC) :
    s.sameRegs (s.frameOp n t op) (frameWords n) := by
  intro a ha
  simp only [frameWords, List.mem_cons, List.not_mem_nil, or_false, not_or] at ha
  obtain ⟨h0, h4, h8, hC, h10, h14, -⟩ := ha
  cases op with
  | setFreq f reset => cases reset <;> simp [State.frameOp, State.setFreq, State.setAnchor, State.reg_setReg, *]
  | shift p => simp [State.frameOp, State.reg_setReg, *]
  | setPhase p => simp [State.frameOp, State.reg_setReg, *]
  | pauli x z => simp [State.frameOp, State.reg_setReg, *]
  | word off v =>
    obtain rfl | rfl := hop off v rfl
    · simp [State.frameOp, State.reg_setReg, *]
    · simp [State.frameOp, State.reg_setReg, *]
  | pair anchor lo hi => cases anchor <;> simp [State.frameOp, State.reg_setReg, *]

theorem append_halves (f : BitVec 48) : ((f >>> 32).setWidth 32).setWidth 16 ++ f.setWidth 32 = f := by
  refine BitVec.eq_of_getLsbD_eq fun i hi => ?_
  rw [BitVec.getLsbD_append]
  split
  · simp [*]
  · simp [show i - 32 < 16 by omega, show 32 + (i - 32) = i by omega]

theorem append_words (t : W64) : (t >>> 32).setWidth 32 ++ t.setWidth 32 = t := by
  refine BitVec.eq_of_getLsbD_eq fun i hi => ?_
  rw [BitVec.getLsbD_append]
  split
  · simp [*]
  · simp [show i - 32 < 32 by omega, show 32 + (i - 32) = i by omega]

section
variable (s : State) (n : Nat)

theorem State.freq_setReg {off : Nat} (h0 : off ≠ 0) (h4 : off ≠ 4) (v : W32) : (s.setReg (frameAddr n off) v).freq n = s.freq n := by
  simp [State.freq, frameFreq, State.reg_setReg, frameAddr_inj, h0.symm, h4.symm]

theorem State.phase_setReg {off : Nat} (h8 : off ≠ 8) (v : W32) : (s.setReg (frameAddr n off) v).phase n = s.phase n := by
  simp [State.phase, framePhase, State.reg_setReg, frameAddr_inj, h8.symm]

theorem State.phase_setReg_same (v : W32) : (s.setReg (frameAddr n 8) v).phase n = v := by
  simp [State.phase, framePhase, State.reg_setReg]

theorem State.anchor_setReg {off : Nat} (h10 : off ≠ 0x10) (h14 : off ≠ 0x14) (v : W32) :
    (s.setReg (frameAddr n off) v).anchor n = s.anchor n := by
  simp [State.anchor, frameAnchor, State.reg_setReg, frameAddr_inj, h10.symm, h14.symm]

theorem State.freq_setFreq (f : BitVec 48) : (s.setFreq n f).freq n = f := by
  simp only [State.freq, frameFreq, State.setFreq, State.reg_setReg, frameAddr_inj]
  exact append_halves f

theorem State.anchor_setAnchor (t : W64) : (s.setAnchor n t).anchor n = t := by
  simp only [State.anchor, frameAnchor, State.setAnchor, State.reg_setReg, frameAddr_inj]
  exact append_words t

end

/-- SET_FREQ sets FREQ; with RESET the phase offset is 0 and the anchor the block's first tick (R115). -/
theorem State.frameOp_setFreq (s : State) (n : Nat) (t : W64) (f : BitVec 48) (r : Bool) :
    let u := s.frameOp n t (.setFreq f r)
    u.freq n = f ∧ u.reg (frameAddr n 0xC) = s.reg (frameAddr n 0xC) ∧ u.phase n = (if r then 0 else s.phase n) ∧
      u.anchor n = (if r then t else s.anchor n) := by
  intro u
  cases r with
  | false =>
    refine ⟨State.freq_setFreq s n f, ?_, ?_, ?_⟩
    · simp [u, State.frameOp, State.setFreq, State.reg_setReg, frameAddr_inj]
    · simp [u, State.frameOp, State.setFreq, State.phase_setReg]
    · simp [u, State.frameOp, State.setFreq, State.anchor_setReg]
  | true =>
    refine ⟨?_, ?_, ?_, State.anchor_setAnchor _ n t⟩
    · simp [u, State.frameOp, State.setAnchor, State.freq_setReg, State.freq_setFreq]
    · simp [u, State.frameOp, State.setFreq, State.setAnchor, State.reg_setReg, frameAddr_inj]
    · simp [u, State.frameOp, State.setAnchor, State.phase_setReg, State.phase_setReg_same]

/-- The bits [47:16] of a phase offset and a product's phase. -/
theorem phase_bits (p : W32) (c : BitVec 48) : ((p.setWidth 48 <<< 16 + c) >>> 16).setWidth 32 = p + (c >>> 16).setWidth 32 := by
  refine BitVec.eq_of_toNat_eq ?_
  simp [BitVec.toNat_setWidth, BitVec.toNat_add, BitVec.toNat_ushiftRight, BitVec.toNat_shiftLeft, Nat.shiftLeft_eq, Nat.shiftRight_eq_div_pow]
  omega

theorem State.acc_eq (s : State) (n : Nat) (t : W64) :
    s.acc n t = (s.phase n).setWidth 48 <<< 16 + freqPhase (s.freq n) t (s.anchor n) := rfl

/-- A SET_PHASE makes bits [47:16] of the phase accumulator at the block's first tick the phase asked (R115). -/
theorem State.frameOp_setPhase (s : State) (n : Nat) (t : W64) (p : W32) :
    let u := s.frameOp n t (.setPhase p)
    u.freq n = s.freq n ∧ u.anchor n = s.anchor n ∧ ((u.acc n t) >>> 16).setWidth 32 = p := by
  intro u
  have hfreq : u.freq n = s.freq n := State.freq_setReg s n (by decide) (by decide) _
  have hanchor : u.anchor n = s.anchor n := State.anchor_setReg s n (by decide) (by decide) _
  have hphase : u.phase n = p - ((freqPhase (s.freq n) t (s.anchor n)) >>> 16).setWidth 32 := State.phase_setReg_same s n _
  refine ⟨hfreq, hanchor, ?_⟩
  rw [State.acc_eq, phase_bits, hfreq, hanchor, hphase, BitVec.sub_add_cancel]

theorem testBit_toNat_zero (b : Bool) : b.toNat.testBit 0 = b := by cases b <;> rfl

/-- FRAME_PAULI sets the two Pauli bits and no other bit (R84). -/
theorem State.frameOp_pauli (s : State) (n : Nat) (t : W64) (x z : BitVec 2) :
    let u := s.frameOp n t (.pauli x z)
    u.freq n = s.freq n ∧ u.phase n = s.phase n ∧
      u.bit (frameAddr n 0xC) 0 = pauliOp x (s.bit (frameAddr n 0xC) 0) ∧ u.bit (frameAddr n 0xC) 1 = pauliOp z (s.bit (frameAddr n 0xC) 1) ∧
      u.fld (frameAddr n 0xC) 31 2 = s.fld (frameAddr n 0xC) 31 2 := by
  intro u
  have hword : u.reg (frameAddr n 0xC) = putFld (putFld (s.reg (frameAddr n 0xC)) 0 0 (pauliOp x (s.bit (frameAddr n 0xC) 0)).toNat) 1 1
      (pauliOp z (s.bit (frameAddr n 0xC) 1)).toNat  :=
    (State.reg_setReg s _ _ _).trans (if_pos rfl)
  refine ⟨State.freq_setReg s n (by decide) (by decide) _, State.phase_setReg s n (by decide) _, ?_, ?_, ?_⟩
  · rw [State.bit, hword, getLsbD_putFld _ _ _ _ _ (by decide), if_neg (by decide), getLsbD_putFld _ _ _ _ _ (by decide), if_pos (by decide)]
    exact testBit_toNat_zero _
  · rw [State.bit, hword, getLsbD_putFld _ _ _ _ _ (by decide), if_pos (by decide)]
    exact testBit_toNat_zero _
  · rw [State.fld, hword, wfld_putFld_other _ _ _ _ _ _ (by decide) (by decide) (by decide),
      wfld_putFld_other _ _ _ _ _ _ (by decide) (by decide) (by decide), State.fld]

/-- The first tick of the block that lies d blocks ahead, from the device time before and after those blocks. -/
theorem tick_ahead (dev : W64) (d : W32) (h : 0 < d.toInt) :
    ((dev + BitVec.ofInt 64 (d.toInt * 64)) >>> 6) <<< 6 = (dev >>> 6 + d.signExtend 64) <<< 6 := by
  have hd : d.toInt = (d.toNat : Int) := by
    rw [BitVec.toInt_eq_toNat_cond] at h ⊢
    split at h <;> omega
  have hext : d.signExtend 64 = d.setWidth 64 := BitVec.signExtend_eq_setWidth_of_msb_false (by
    rw [BitVec.msb_eq_toInt]
    simpa using Int.le_of_lt h)
  have hadv : (BitVec.ofInt 64 (d.toInt * 64)).toNat = d.toNat * 64 := by
    rw [hd, BitVec.toNat_ofInt]
    omega
  have hlt := dev.isLt
  apply BitVec.eq_of_toNat_eq
  rw [hext]
  simp only [BitVec.toNat_shiftLeft, BitVec.toNat_setWidth, BitVec.toNat_ushiftRight, BitVec.toNat_add, hadv, Nat.shiftRight_eq_div_pow,
    Nat.shiftLeft_eq]
  omega

/-- The first tick of a block stays as time moves on to that block (R115). -/
theorem State.tickOf_advanceTo (s : State) (b : W32) : (s.advanceTo b).tickOf b = s.tickOf b := by
  by_cases h : s.clk.run = true ∧ 0 < (b - s.pin).toInt
  · have hpin := State.pin_advanceTo h.1 h.2
    have hdev : (s.advanceTo b).clk.devtime = s.clk.devtime + BitVec.ofInt 64 ((b - s.pin).toInt * 64) :=
      congrArg (fun t : State => t.clk.devtime) (if_pos h)
    unfold State.tickOf State.block64
    rw [hpin, hdev, BitVec.sub_self, show (0#32).signExtend 64 = 0#64 from rfl, BitVec.add_zero]
    exact tick_ahead s.clk.devtime (b - s.pin) h.2
  · have hstay : s.advanceTo b = s := if_neg h
    rw [hstay]

/-! ## FRAME_UPDATE (R115, R117) -/

/-- What one update leaves: its kind's change of the frame's words, its block in FRAME_LAST, and the rest of the unit but the record of
earlier values and the pages still to be copied. -/
theorem State.frameApply_leaves (s : State) (n : Nat) (b : W32) (op : FrameOp) :
    let t := s.frameApply n b op
    t = { s with regs := t.regs, synth := t.synth, pair := t.pair } ∧
      ∀ a, t.reg a = if a = frameAddr n 0x18 then b else (s.frameOp n (s.tickOf b) op).reg a := by
  intro t
  let logged := s.frameLog n (s.block64 b)
  let written := logged.frameOp n (s.tickOf b) op
  have hlogged : logged = { s with synth := logged.synth } := State.frameLog_frame s n _
  have hwritten : written = { s with synth := logged.synth, regs := written.regs } := by
    have hframe : written = { logged with regs := written.regs } := State.frameOp_frame logged n _ op
    rw [hlogged] at hframe
    exact hframe
  have hregs : written.regs = (s.frameOp n (s.tickOf b) op).regs := State.frameOp_regs (by rw [hlogged]) n _ op
  have ht : t = (written.setReg (frameAddr n 0x18) b).touch (frameAddr n 0) := State.frameApply_eq s n b op
  clear_value t written logged
  rw [State.touch_frame] at ht
  refine ⟨?_, fun a => ?_⟩
  · rw [ht, hwritten]
    rfl
  · rw [ht, ← State.reg_of_regs hregs]
    exact State.reg_setReg _ _ _ _

/-- The frame readers read the same words. -/
theorem State.frame_of_words {s t : State} {n : Nat} (h : ∀ off, off ≠ 0x18 → t.reg (frameAddr n off) = s.reg (frameAddr n off)) :
    t.freq n = s.freq n ∧ t.phase n = s.phase n ∧ t.anchor n = s.anchor n := by
  simp only [State.freq, State.phase, State.anchor, frameFreq, framePhase, frameAnchor]
  rw [h 0 (by decide), h 4 (by decide), h 8 (by decide), h 0x10 (by decide), h 0x14 (by decide)]
  exact ⟨rfl, rfl, rfl⟩

/-- Settles O18: of the registers the update's kind changes the frame's words, and FRAME_LAST records the block. -/
theorem frameUpdateFollowsR115 : Obligations.FrameUpdateFollowsR115 := by
  unfold Obligations.FrameUpdateFollowsR115
  intro s u hqueue hdescs hframe hword
  let v := s.advanceTo u.block
  have hv : v = { s with clk := v.clk } := State.advanceTo_frame s u.block
  obtain ⟨c, happly⟩ := State.framesAt_single (s := v) (u := u) (by rw [hv]; exact hqueue) (by rw [hv]; exact hdescs)
  have hexec : exec .frameUpdate s = .next (v.framesAt u.block).serveRuns := by
    show execFrameUpdate s = _
    rw [execFrameUpdate, State.frameNext_single hqueue hdescs]
  rw [happly] at hexec
  let taken : State := { v with chans := c, hem := { v.hem with frameQ := [] } }
  have htaken : taken = { s with clk := v.clk, chans := c, hem := taken.hem } := by
    unfold taken
    rw [hv]
  have htick : taken.tickOf u.block = s.tickOf u.block := State.tickOf_advanceTo s u.block
  obtain ⟨hleft, hreg⟩ := State.frameApply_leaves taken u.frame u.block u.op
  change exec .frameUpdate s = .next (taken.frameApply u.frame u.block u.op).serveRuns at hexec
  rw [htick] at hreg
  have hempty : taken.hem.frameQ = [] := rfl
  generalize taken.frameApply u.frame u.block u.op = t at hexec hleft hreg
  clear_value taken v
  have hregs : (taken.frameOp u.frame (s.tickOf u.block) u.op).regs = (s.frameOp u.frame (s.tickOf u.block) u.op).regs :=
    State.frameOp_regs (by rw [htaken]) _ _ _
  have hword' : ∀ off, off ≠ 0x18 → t.reg (frameAddr u.frame off) =
      (s.frameOp u.frame (s.tickOf u.block) u.op).reg (frameAddr u.frame off) := fun off hoff => by
    rw [hreg, if_neg (by rwa [frameAddr_inj]), State.reg_of_regs hregs]
  obtain ⟨hfreq, hphase, hanchor⟩ := State.frame_of_words hword'
  have hctrl := hword' 0xC (by decide)
  refine ⟨t, hexec, ?_, fun a => ?_, fun e => ?_, ?_, fun a ha => ?_, fun f r hop => ?_, fun p hop => ?_, fun p hop => ?_, fun x z hop => ?_⟩
  · rw [hleft]
    exact hempty
  · rw [hleft, htaken]
    rfl
  · rw [hleft, htaken]
    rfl
  · rw [hreg, if_pos rfl]
  · rw [hreg, if_neg (fun h : a = frameAddr u.frame 0x18 => ha (by rw [h]; simp)), State.reg_of_regs hregs]
    exact State.frameOp_sameRegs s u.frame _ u.op hword a ha
  · rw [hfreq, hphase, hanchor, hctrl, hop]
    exact State.frameOp_setFreq s u.frame _ f r
  · rw [hfreq, hphase, hanchor, hop]
    exact ⟨State.freq_setReg s _ (by decide) (by decide) _, State.phase_setReg_same s _ _, State.anchor_setReg s _ (by decide) (by decide) _⟩
  · rw [State.acc_eq, hfreq, hphase, hanchor, hop]
    exact State.frameOp_setPhase s u.frame _ p
  · simp only [State.bit, State.fld, hfreq, hphase, hctrl, hop]
    exact State.frameOp_pauli s u.frame _ x z

end Sys2Proof.Machine

namespace Sys2Proof.Machine

/-! ## FLUX_CFG (R131) -/

theorem Engine.active_iff (x : Engine) : x.active = (x.st == .running || x.st == .waiting || x.st == .halted) := rfl

/-- The clamp that a write of v over a word of FLUX_CFG asks for from block b on: none where the mode and the range stay (R131). -/
def rangeClamp (p : Nat) (b : W32) (old v : W32) : List Clamp :=
  if (old ^^^ v) &&& 3 = 0 then []
  else [{ port := p, start := b, release := b + clampBlocks, started := false, wasAwake := false }]

/-- FLUX_CFG of a port's register at a as a write that is taken leaves it. -/
def State.fluxCfgTaken (s : State) (p a : Nat) (v : W32) : State :=
  let u := (s.logPast (s.pin64 + 4) .reg a (s.reg a)).setReg a (v &&& 7)
  { u with hem := { u.hem with clamps := u.hem.clamps ++ rangeClamp p u.effBlock (s.reg a) v } }

theorem State.clamps_append_nil (s : State) : ({ s with hem := { s.hem with clamps := s.hem.clamps ++ [] } } : State) = s := by
  rw [List.append_nil]

theorem State.writeFluxCfg_idle {s : State} {f : Nat} (v : W32) (hidle : (s.eng (1024 + f)).active = false)
    (hnone : s.holdsWork (1024 + f) = false) :
    s.writeFluxCfg f v = some (s.fluxCfgTaken (192 + f) (portAddr (192 + f) 0x1C) v) := by
  have hfree : ¬ (((s.eng (1024 + f)).st == .running || (s.eng (1024 + f)).st == .waiting ||
      (s.eng (1024 + f)).st == .halted || s.holdsWork (1024 + f)) = true) := by
    rw [← Engine.active_iff, hidle, hnone]
    decide
  unfold State.writeFluxCfg State.fluxCfgTaken rangeClamp
  dsimp only
  rw [if_neg hfree]
  by_cases hsame : (s.reg (portAddr (192 + f) 0x1C) ^^^ v) &&& 3 = 0
  · rw [if_pos hsame, if_pos hsame]
    exact congrArg some (State.clamps_append_nil _).symm
  · rw [if_neg hsame, if_neg hsame]

/-- A write to FLUX_CFG that is taken changes that register, the memory of the outputs and, where the mode or the range changes, the
clamps asked for (R131). -/
theorem State.fluxCfgTaken_leaves (s : State) (p a : Nat) (v : W32) : let t := s.fluxCfgTaken p a v
    t = { s with regs := t.regs, hem := t.hem, synth := t.synth } ∧ s.sameRegs t [a] ∧ t.reg a = v &&& 7 ∧
      t.hem.clamps = s.hem.clamps ++ (if (s.reg a ^^^ v) &&& 3 = 0 then []
        else [{ port := p, start := s.pin + 4, release := s.pin + 644, started := false, wasAwake := false }]) := by
  refine ⟨rfl, fun b hb => ?_, (State.reg_setReg _ a a _).trans (if_pos rfl), ?_⟩
  · exact (State.reg_setReg _ a b _).trans (if_neg (by simpa using hb))
  · unfold State.fluxCfgTaken State.effBlock
    dsimp only
    rw [State.pin_of_clk (State.setReg_clk _ _ _), State.pin_of_clk (State.logPast_clk _ _ _ _ _), State.setReg_hem, State.logPast_hem,
      rangeClamp, clampBlocks, BitVec.add_assoc, show (4 : W32) + 640 = 644 from rfl]

theorem exec_fluxCfgWrite {s : State} {f : Fin 256} (v : W32) (hidle : (s.eng (1024 + f.val)).active = false)
    (hnone : s.holdsWork (1024 + f.val) = false) : exec (.fluxCfgWrite f v) s =
      .next ((s.fluxCfgTaken (192 + f) (portAddr (192 + f) 0x1C) v).touch (portAddr (192 + f) 0x1C)) := by
  show execFluxCfgWrite f v s = _
  rw [execFluxCfgWrite, State.writeFluxCfg_idle v hidle hnone]

theorem exec_fluxCfgWrite_busy {s : State} {f : Fin 256} (v : W32)
    (hbusy : (s.eng (1024 + f.val)).active = true ∨ s.holdsWork (1024 + f.val) = true) : exec (.fluxCfgWrite f v) s = .next s := by
  have hexec : exec (.fluxCfgWrite f v) s = execFluxCfgWrite f v s := rfl
  unfold execFluxCfgWrite State.writeFluxCfg at hexec
  dsimp only at hexec
  rw [if_pos (by rwa [← Engine.active_iff, Bool.or_eq_true])] at hexec
  exact hexec

/-! ## The clamp of a change of range (R131, R135) -/

/-- CLAMPED of a flux port: not enabled, in a range clamp, or shut down (R135). -/
theorem State.clampNow_flux {s : State} {p : Nat} (hp : 192 ≤ p) :
    (s.clampNow p).bit (portAddr p 4) 5 = (!s.bit (portAddr p 4) 0 || s.rangeClamped p || s.bit (portAddr p 4) 4) := by
  obtain ⟨-, -, -, hreg, -⟩ := State.synth_kept (State.noteCode_frame (s.showClamp p) p)
  have hnote : (s.clampNow p).bit (portAddr p 4) 5 = (s.showClamp p).bit (portAddr p 4) 5 :=
    congrArg (fun v : W32 => v.getLsbD 5) (hreg _)
  rw [hnote, State.showClamp, if_pos (by simpa [isFlux] using hp), State.bit_setBit _ _ _ _ _ _ (by decide), if_pos ⟨rfl, rfl⟩]

/-- The port with the mode and range of its FLUX_CFG shown, as its clamp begins (R135). -/
def State.rangeShown (s : State) (p : Nat) (b : W32) : State :=
  ((s.advanceTo b).setBit (portAddr p 4) 6 (s.bit (portAddr p 0x1C) 1)).setBit (portAddr p 4) 7 (s.bit (portAddr p 0x1C) 0)

theorem State.rangeShown_leaves (s : State) (p : Nat) (b : W32) : let t := s.rangeShown p b
    (∀ e, t.eng e = s.eng e) ∧ s.sameMem t ∧ s.sameRegs t [portAddr p 4] ∧ t.hem = s.hem ∧
      t.bit (portAddr p 4) 2 = s.bit (portAddr p 4) 2 ∧ t.bit (portAddr p 4) 6 = s.bit (portAddr p 0x1C) 1 ∧
      t.bit (portAddr p 4) 7 = s.bit (portAddr p 0x1C) 0 := by
  obtain ⟨heng, hreg, hmem⟩ := State.clk_kept (State.advanceTo_frame s b)
  have hhem : (s.advanceTo b).hem = s.hem := by rw [State.advanceTo_frame]
  unfold State.rangeShown
  generalize s.advanceTo b = u at heng hreg hmem hhem ⊢
  have hmode := (State.setBit_portStatus u p 6 (s.bit (portAddr p 0x1C) 1)).trans (State.setBit_portStatus _ p 7 (s.bit (portAddr p 0x1C) 0))
  refine ⟨fun e => (hmode.eng e).trans (heng e), fun a => (hmode.mem a).trans (hmem a), fun a ha => (hmode.regs a ha).trans (hreg a),
    by rw [State.setBit_hem, State.setBit_hem, hhem], ?_, ?_, ?_⟩
  · rw [State.bit_setBit _ _ _ _ _ _ (by decide), if_neg (by simp), State.bit_setBit _ _ _ _ _ _ (by decide), if_neg (by simp),
      State.bit, hreg, State.bit]
  · rw [State.bit_setBit _ _ _ _ _ _ (by decide), if_neg (by simp), State.bit_setBit _ _ _ _ _ _ (by decide), if_pos ⟨rfl, rfl⟩]
  · rw [State.bit_setBit _ _ _ _ _ _ (by decide), if_pos ⟨rfl, rfl⟩]

/-- RANGE_CLAMP_START of the one clamp asked for. -/
theorem exec_rangeClampStart {s : State} {f : Fin 256} {c : Clamp} (hone : s.hem.clamps = [c]) (hport : c.port = 192 + f.val)
    (hnew : c.started = false) : exec (.rangeClampStart f) s =
      .next ((s.rangeShown c.port c.start).clampBegin c) := by
  show execRangeClampStart f s = _
  have hfind : s.hem.clamps.find? (fun d => d.port == 192 + f.val && !d.started) = some c := by simp [hone, hport, hnew]
  unfold execRangeClampStart State.rangeShown
  dsimp only
  rw [hfind, State.bit, State.bit, ← State.advanceTo_reg s c.start, hport]

/-- A port whose one clamp begins: not awake, CLAMPED, whether it was awake noted (R131). -/
theorem State.clampBegin_leaves {s : State} {c : Clamp} (hone : s.hem.clamps = [c]) (hnew : c.started = false) (hflux : 192 ≤ c.port) :
    let t := s.clampBegin c
    PortStatusOnly c.port s t ∧ t.hem.clamps = [{ c with started := true, wasAwake := s.bit (portAddr c.port 4) 2 }] ∧
      t.bit (portAddr c.port 4) 2 = false ∧ t.bit (portAddr c.port 4) 5 = true ∧
      ∀ b, b < 32 → b ≠ 2 → b ≠ 5 → t.bit (portAddr c.port 4) b = s.bit (portAddr c.port 4) b := by
  have hawake : (!s.asleep c.port) = s.bit (portAddr c.port 4) 2 := by
    simp [State.asleep, State.awake, hone, hnew]
  let asked : State := { s with hem := { s.hem with clamps := [{ c with started := true, wasAwake := s.bit (portAddr c.port 4) 2 }] } }
  have hbegin : s.clampBegin c = (asked.setBit (portAddr c.port 4) 2 false).clampNow c.port := by
    unfold State.clampBegin
    rw [hone, hawake, List.erase_cons_head]
    rfl
  have hasked : PortStatusOnly c.port s asked := ⟨rfl, fun _ => rfl, fun _ => rfl, fun _ _ => rfl⟩
  have hbit : ∀ b, asked.bit (portAddr c.port 4) b = s.bit (portAddr c.port 4) b := fun _ => rfl
  have hhem : asked.hem.clamps = [{ c with started := true, wasAwake := s.bit (portAddr c.port 4) 2 }] := rfl
  rw [hbegin]
  clear_value asked
  have hslept := State.setBit_portStatus asked c.port 2 false
  obtain ⟨hstatus, hclamps⟩ := State.clampNow_kept (asked.setBit (portAddr c.port 4) 2 false) c.port
  have hclamped : (asked.setBit (portAddr c.port 4) 2 false).rangeClamped c.port = true := by
    rw [State.rangeClamped, State.setBit_hem, hhem]
    simp
  refine ⟨(hasked.trans hslept).trans hstatus, ?_, ?_, ?_, fun b hb h2 h5 => ?_⟩
  · rw [hclamps, State.setBit_hem, hhem]
  · rw [State.clampNow_bit _ _ (by decide) (by decide), State.bit_setBit _ _ _ _ _ _ (by decide), if_pos ⟨rfl, rfl⟩]
  · rw [State.clampNow_flux hflux, hclamped, Bool.or_true, Bool.true_or]
  · rw [State.clampNow_bit _ _ hb h5, State.bit_setBit _ _ _ _ _ _ hb, if_neg (fun h => h2 h.2), hbit]

/-- RANGE_CLAMP_RELEASE of the one clamp of a change of range. -/
theorem exec_rangeClampRelease {s : State} {f : Fin 256} {c : Clamp} (hone : s.hem.clamps = [c]) (hport : c.port = 192 + f.val)
    (hbegun : c.started = true) (hlen : c.release - c.start = 640) :
    exec (.rangeClampRelease f) s = .next ((s.advanceTo c.release).clampEnd c) := by
  show execRangeClampRelease f s = _
  have hfind : s.hem.clamps.find? (fun d => d.port == 192 + f.val && d.started && decide (d.release - d.start = clampBlocks)) = some c := by
    simp [hone, hport, hbegun, hlen, clampBlocks]
  unfold execRangeClampRelease
  rw [hfind]

/-- A port whose one clamp ends: CLAMPED shows its own state again, and one awake before the clamp, or since, is awake (R131). -/
theorem State.clampEnd_leaves {s : State} {c : Clamp} (hone : s.hem.clamps = [c]) (hflux : 192 ≤ c.port) :
    let t := s.clampEnd c
    PortStatusOnly c.port s t ∧ t.hem.clamps = [] ∧ t.bit (portAddr c.port 4) 2 = (c.wasAwake || s.bit (portAddr c.port 4) 2) ∧
      t.bit (portAddr c.port 4) 5 = (!s.bit (portAddr c.port 4) 0 || s.bit (portAddr c.port 4) 4) := by
  let freed : State := { s with hem := { s.hem with clamps := [] } }
  let woken := if c.wasAwake then freed.setBit (portAddr c.port 4) 2 true else freed
  have hend : s.clampEnd c = woken.clampNow c.port := by
    unfold State.clampEnd State.clampOver
    rw [hone, List.erase_cons_head, State.wakeUp_of_clear (by simp)]
  have hfreed : PortStatusOnly c.port s freed := ⟨rfl, fun _ => rfl, fun _ => rfl, fun _ _ => rfl⟩
  have hclear : freed.hem.clamps = [] := rfl
  have hbit : ∀ b, freed.bit (portAddr c.port 4) b = s.bit (portAddr c.port 4) b := fun _ => rfl
  have hwoken : PortStatusOnly c.port freed woken ∧ woken.hem = freed.hem ∧
      ∀ b, b < 32 → woken.bit (portAddr c.port 4) b =
        (if b = 2 then c.wasAwake || s.bit (portAddr c.port 4) 2 else s.bit (portAddr c.port 4) b) := by
    unfold woken
    clear_value freed
    split
    · rename_i hawake
      refine ⟨State.setBit_portStatus freed c.port 2 true, State.setBit_hem _ _ _ _, fun b hb => ?_⟩
      rw [State.bit_setBit _ _ _ _ _ _ hb, hbit, hawake]
      simp
    · rename_i hawake
      refine ⟨.refl c.port freed, rfl, fun b hb => ?_⟩
      rw [hbit, Bool.eq_false_iff.mpr hawake, Bool.false_or]
      split
      · rename_i h
        rw [h]
      · rfl
  clear_value woken freed
  obtain ⟨hwake, hhem, hbits⟩ := hwoken
  obtain ⟨hstatus, hclamps⟩ := State.clampNow_kept woken c.port
  have hopen : woken.rangeClamped c.port = false := by
    rw [State.rangeClamped, hhem, hclear]
    rfl
  rw [hend]
  refine ⟨(hfreed.trans hwake).trans hstatus, by rw [hclamps, hhem, hclear], ?_, ?_⟩
  · rw [State.clampNow_bit _ _ (by decide) (by decide), hbits 2 (by decide), if_pos rfl]
  · rw [State.clampNow_flux hflux, hopen, hbits 0 (by decide), hbits 4 (by decide), Bool.or_false]
    rfl

/-! ## The stream window (R101, R102, R226, R227) -/

theorem State.pacedFor_lt {s : State} {e n : Nat} (h : s.pacedFor e = some n) : n < 32 := List.mem_range.mp (List.mem_of_find?_eq_some h)

/-- Engine e has no request left at the DMA, and of the registers only the channels' status has changed. -/
def State.requestGone (s : State) (e : Nat) (t : State) : Prop :=
  (∀ g, t.eng g = s.eng g) ∧ s.sameMem t ∧ s.sameRegs t ((List.range 32).map (fun n => dmaAddr n 8)) ∧ ∀ r ∈ t.dma.table, r.eng ≠ e

/-- A request is cancelled (R27, R226). -/
theorem State.cancelRequest_leaves (s : State) (e : Nat) : s.requestGone e (s.cancelRequest e) := by
  let dropped : State := { s with
    dma := { s.dma with table := s.dma.table.filter (fun r => r.eng != e), liningHeld := s.dma.liningHeld.filter (fun r => r.eng != e) }
    lining := { s.lining with store := s.lining.store.map (LinMsg.cancel e) } }
  have hkeep : ∀ t : State, (∀ g, t.eng g = dropped.eng g) → t.mem = dropped.mem →
      dropped.sameRegs t ((List.range 32).map (fun n => dmaAddr n 8)) → t.dma.table = dropped.dma.table →
      s.requestGone e t := by
    intro t heng hmem hregs htable
    refine ⟨heng, State.byte_of_mem hmem, hregs, fun r hr => ?_⟩
    rw [htable] at hr
    simpa using (List.mem_filter.mp hr).2
  generalize ht : s.cancelRequest e = t
  unfold State.cancelRequest at ht
  dsimp only at ht
  split at ht
  · rename_i n hpaced
    split at ht
    · rw [← ht]
      exact hkeep _ (fun _ => rfl) rfl (fun _ _ => rfl) rfl
    · split at ht
      · rw [← ht]
        refine hkeep _ (fun g => State.setReg_eng _ _ _ g) rfl (fun a ha => ?_) rfl
        refine (State.reg_setFld _ _ _ _ _ a).trans (if_neg fun h => ha ?_)
        rw [h]
        exact List.mem_map.mpr ⟨n, List.mem_range.mpr (State.pacedFor_lt hpaced), rfl⟩
      · rw [← ht]
        exact hkeep _ (fun _ => rfl) rfl (fun _ _ => rfl) rfl
  · rw [← ht]
    exact hkeep _ (fun _ => rfl) rfl (fun _ _ => rfl) rfl

theorem engAddr_not_dmaStatus (e : Nat) : engAddr e 0x38 ∉ (List.range 32).map (fun n => dmaAddr n 8) := by
  intro h
  obtain ⟨n, hn, haddr⟩ := List.mem_map.mp h
  have hlt := List.mem_range.mp hn
  unfold engAddr tileBase dmaAddr at haddr
  omega

theorem State.modEng_dma (s : State) (e : Nat) (f : Engine → Engine) : (s.modEng e f).dma = s.dma := rfl

/-- The engine's window emptied, with no request outstanding and no sample reserved (R101, R226). -/
def Engine.windowEmptied (x : Engine) : Engine :=
  { x with stream := { x.stream with data := [], req := false }, work := x.work.map (fun w => { w with samples := [] }) }

theorem exec_streamCfgWrite {s : State} {e : Eng} {v : W32} (h : s.streamRefusal e v = none) : exec (.streamCfgWrite e v) s =
    .next (((((s.setReg (engAddr e 0x38) (v &&& 0x1FFFFF)).cancelRequest e).modEng e Engine.windowEmptied)).touch (engAddr e 0x38)) := by
  show execStreamCfgWrite e v s = _
  unfold execStreamCfgWrite State.writeStreamCfg
  rw [h]
  rfl

theorem exec_streamCfgWrite_refused {s : State} {e : Eng} {v : W32} (h : (s.streamRefusal e v).isSome) :
    exec (.streamCfgWrite e v) s = .next s := by
  obtain ⟨st, hst⟩ := Option.isSome_iff_exists.mp h
  show execStreamCfgWrite e v s = _
  unfold execStreamCfgWrite State.writeStreamCfg
  rw [hst]

/-- The request of an engine below its mark (R101, R227). -/
def State.burstRequest (s : State) (e : Nat) : StreamReq :=
  { eng := e, block := s.pin, bytes := 1024 * s.fld (engAddr e 0x38) 20 17, underrun := (s.eng e).stream.underran
    discarding := (s.eng e).stream.untilMark || decide (0 < (s.eng e).stream.owed) }

/-- The engine with a request outstanding. -/
def Engine.asked (x : Engine) : Engine := { x with stream := { x.stream with req := true, underran := false } }

theorem exec_streamRequest {s : State} {e : Eng} (hwants : s.wantsBurst e = true) (hup : s.fieldUp = true) (hfree : s.pacedFor e = none) :
    exec (.streamRequest e) s = .next { s.modEng e Engine.asked with dma := { s.dma with table := s.dma.table ++ [s.burstRequest e] } } := by
  have hexec : exec (.streamRequest e) s = .next (s.streamAsk e) := rfl
  have hup' : (s.modEng e Engine.asked).fieldUp = true := hup
  have hfree' : (s.modEng e Engine.asked).pacedFor e = none := hfree
  have hreach : ∀ u : State, u.pacedFor e = none → u.requestReach (s.burstRequest e) =
      { u with dma := { u.dma with table := u.dma.table ++ [s.burstRequest e] } } := fun u hu => by
    unfold State.requestReach
    rw [show (s.burstRequest e).eng = e from rfl, hu]
  rw [hexec, State.streamAsk, if_pos hwants]
  dsimp only
  exact congrArg Host.Outcome.next ((if_pos hup').trans (hreach _ hfree'))

/-- STREAM_REFILL with the engine's burst at the head of what is on its way (R227, R230). -/
theorem exec_streamRefill {s : State} {e : Eng} {data : List Byte} {mark cancelled : Bool} {rest : List LinMsg} (hhost : s.hostUp = true)
    (hfield : s.fieldUp = true) (hstore : s.lining.store = .refill e data mark none cancelled :: rest) :
    exec (.streamRefill e) s = .next (({ s with lining := { s.lining with store := rest } } : State).takeRefill e data mark cancelled) := by
  have hnext : s.nextRefill e = some (.refill e data mark none cancelled) := by
    rw [State.nextRefill, hstore]
    simp [LinMsg.isFor]
  show execStreamRefill e s = _
  unfold execStreamRefill
  rw [hhost, hfield, hnext, hstore]
  dsimp only
  rw [List.erase_cons_head]
  rfl

/-- What a burst that reaches its engine leaves (R226, R228, R230). -/
theorem State.takeRefill_leaves (s : State) (e : Nat) (data : List Byte) (mark cancelled : Bool) :
    let x := (s.eng e).stream
    let lost := min (16 * x.owed) data.length
    let t := s.takeRefill e data mark cancelled
    t = { s with engines := t.engines } ∧ (∀ g : Nat, g ≠ e → t.eng g = s.eng g) ∧
      (cancelled = true ∨ x.req = false → t.eng e = s.eng e) ∧
      (cancelled = false → x.req = true → x.untilMark = true → mark = false →
        t.eng e = { s.eng e with stream := { x with req := false } }) ∧
      (cancelled = false → x.req = true → x.untilMark = false ∨ mark = true →
        t.eng e = { s.eng e with stream := { x with
          req := false, untilMark := false, owed := x.owed - lost / 16, data := x.data ++ data.drop lost } }) := by
  intro x lost t
  by_cases hdrop : (cancelled || !x.req) = true
  · have ht : t = s := if_pos hdrop
    rw [ht]
    refine ⟨rfl, fun _ _ => rfl, fun _ => rfl, fun hc hreq => ?_, fun hc hreq => ?_⟩
    all_goals simp [hc, hreq] at hdrop
  · have ht : t = s.modEng e (fun y => { y with stream := { y.stream.take data mark with req := false } }) := if_neg hdrop
    rw [ht]
    refine ⟨rfl, fun g hg => (State.eng_modEng s e g _).trans (if_neg hg), fun h => absurd ?_ hdrop, fun _ _ hwait hmark => ?_,
      fun _ _ hgo => ?_⟩
    · simpa using h
    · rw [State.eng_modEng_same, Stream.take, if_pos (by simpa [hmark] using hwait)]
    · have hentered : ¬ (x.untilMark && !mark) = true := by
        rcases hgo with hready | hmark
        · simp [hready]
        · simp [hmark]
      rw [State.eng_modEng_same, Stream.take, if_neg hentered]

/-- Settles O23: an equation for each command, and what its state is. -/
theorem fluxRangeClampAndStreamWindow : Obligations.FluxRangeClampAndStreamWindow := by
  unfold Obligations.FluxRangeClampAndStreamWindow
  refine ⟨fun s f v => ⟨fun hidle hnone => ?_, exec_fluxCfgWrite_busy v⟩, fun s f c hone hport => ⟨fun hnew => ?_, fun hbegun hlen => ?_⟩,
    fun s e v => ⟨fun h => ?_, exec_streamCfgWrite_refused⟩, fun s e hwants hup hfree => ?_,
    fun s e data mark cancelled rest hhost hfield hstore => ?_⟩
  · exact ⟨_, exec_fluxCfgWrite v hidle hnone, State.fluxCfgTaken_leaves s (192 + f) (portAddr (192 + f) 0x1C) v⟩
  · have hexec := exec_rangeClampStart hone hport hnew
    obtain ⟨heng, hmem, hregs, hhem, h2, h6, h7⟩ := State.rangeShown_leaves s c.port c.start
    obtain ⟨hstatus, hclamps, hawake, hclamped, hothers⟩ := State.clampBegin_leaves (c := c) (hhem ▸ hone) hnew (by omega)
    rw [← hport]
    exact ⟨_, hexec, hawake, hclamped, (hothers 6 (by decide) (by decide) (by decide)).trans h6,
      (hothers 7 (by decide) (by decide) (by decide)).trans h7, h2 ▸ hclamps, fun a ha => (hstatus.regs a ha).trans (hregs a ha),
      fun e => (hstatus.eng e).trans (heng e), fun a => (hstatus.mem a).trans (hmem a)⟩
  · have hexec := exec_rangeClampRelease hone hport hbegun hlen
    obtain ⟨heng, hreg, hmem⟩ := State.clk_kept (State.advanceTo_frame s c.release)
    have hone' : (s.advanceTo c.release).hem.clamps = [c] := by rw [State.advanceTo_frame]; exact hone
    obtain ⟨hstatus, hclamps, hawake, hclamped⟩ := State.clampEnd_leaves hone' (by omega)
    rw [← hport]
    refine ⟨_, hexec, hclamps, fun a ha => (hstatus.regs a ha).trans (hreg a), ?_, ?_, fun e => (hstatus.eng e).trans (heng e),
      fun a => (hstatus.mem a).trans (hmem a)⟩
    · rw [hawake, State.bit, hreg, State.bit]
    · rw [hclamped, State.bit, State.bit, hreg, State.bit, State.bit]
  · obtain ⟨heng, hmem, hregs, htable⟩ := State.cancelRequest_leaves (s.setReg (engAddr e 0x38) (v &&& 0x1FFFFF)) e
    refine ⟨_, exec_streamCfgWrite h, ?_, fun a ha => ?_, fun a => ?_, fun g hg => ?_, fun r hr => htable r ?_, ?_⟩
    · rw [State.modEng_reg, hregs _ (engAddr_not_dmaStatus e), State.reg_setReg, if_pos rfl]
    · obtain ⟨hne, hna⟩ := not_or.mp (fun h => ha (List.mem_cons.mpr h))
      rw [State.modEng_reg, hregs a hna, State.reg_setReg, if_neg hne]
    · rw [State.modEng_byte, hmem, State.setReg_byte]
    · rw [State.eng_modEng, if_neg hg, heng, State.setReg_eng]
    · rwa [State.modEng_dma] at hr
    · rw [State.eng_modEng_same, heng, State.setReg_eng, Engine.windowEmptied]
  · rw [exec_streamRequest hwants hup hfree]
    refine ⟨_, rfl, ?_, rfl, fun g hg => (State.eng_modEng s e g _).trans (if_neg hg), fun _ _ => rfl, fun _ => rfl⟩
    exact congrArg (fun x : Engine => x.stream.req) (State.eng_modEng_same s e Engine.asked)
  · let u : State := { s with lining := { s.lining with store := rest } }
    have hexec : exec (.streamRefill e) s = .next (u.takeRefill e data mark cancelled) := exec_streamRefill hhost hfield hstore
    obtain ⟨hframe, hothers, hdropped, hwaits, htaken⟩ := State.takeRefill_leaves u e data mark cancelled
    generalize u.takeRefill e data mark cancelled = t at hexec hframe hothers hdropped hwaits htaken
    exact ⟨t, hexec, by rw [hframe], by rw [hframe], hothers, hdropped, hwaits, htaken⟩

end Sys2Proof.Machine

namespace Sys2Proof.Machine

/-! ## What follows an engine event leaves device time (R37, R91) -/

theorem State.reportSet_clk (s : State) (id : Nat) : (s.reportSet id).clk = s.clk := by
  unfold State.reportSet
  split
  · split
    · exact (State.sendSeam_emits s _ _ _).clk
    · rfl
  · rfl

theorem State.reportSync_clk (s : State) (i : SyncInst) : (s.reportSync i).clk = s.clk := by
  unfold State.reportSync
  split
  · rfl
  · split
    · split
      · exact (State.sendSeam_emits s _ _ _).clk
      · rfl
    · rfl

theorem State.reportLeft_clk (s : State) (id group : Nat) : (s.reportLeft id group).clk = s.clk := by
  unfold State.reportLeft
  split
  · rfl
  · split
    · split
      · rfl
      · exact (State.sendSeam_emits s _ _ _).clk
    · rfl

theorem State.wakeReader_clk (s : State) (e : Nat) : (s.wakeReader e).clk = s.clk := by
  unfold State.wakeReader
  dsimp only
  split <;> rfl

theorem State.serveMender_clk (s : State) : s.serveMender.clk = s.clk := by
  unfold State.serveMender
  split
  · rfl
  · split
    · split
      · exact State.forceClose_clk s s.pin
      · rfl
    · rfl

/-- A loop whose passes leave device time leaves it. -/
theorem foldS_clk_eq {α : Type} {f : α → State → State} (l : List α) (hf : ∀ x s, (f x s).clk = s.clk) (s : State) :
    (foldS l f s).clk = s.clk :=
  foldS_rel (fun s t => t.clk = s.clk) (fun _ => rfl) (fun _ _ _ h k => k.trans h) f l (fun x _ s => hf x s) s

theorem State.serveRuns_clk (s : State) : s.serveRuns.clk = s.clk := by
  unfold State.serveRuns State.wakeReaders
  rw [foldS_clk_eq _ fun e s => State.wakeReader_clk s e,
    foldS_clk_eq _ fun id s => foldS_clk_eq _ (fun n s => State.reportLeft_clk s id n) s,
    foldS_clk_eq _ fun i s => State.reportSync_clk s i, foldS_clk_eq _ fun id s => State.reportSet_clk s id]
  exact State.serveMender_clk s

/-! ## A deadline half the range of blocks away (R39, R177) -/

/-- A pledge of source 5 whose stamp lies 55 blocks, which is D, before block 2^31. -/
def farPledge : Pledge := { source := 5, stamp := 0x7FFFFFC9, absentTo := [] }

/-- A twinset lead at pin block 0 that holds this pledge, with slot 0 of engine 0 bound to its source. -/
def farPledgeState : State := { pledged true with onet := { Onet.reset with pledges := [farPledge] } }

/-- The pin block of the next state, where there is one. -/
def pinAfter (r : Res) : Option W32 :=
  match r with
  | .next t => some t.pin
  | _ => none

/-- Block 2^31 does not lie ahead of block 0 (R39), so time does not move on to it. -/
theorem pinAfter_remoteDeadline : pinAfter (exec .remoteDeadline farPledgeState) = some 0 := by decide +kernel

/-- Refutes O30: its clause on REMOTE_DEADLINE has the pin block at or after the deadline wherever device time runs, but the statement
lets the deadline lie 2^31 blocks from the pin block. The signed difference is then -2^31 both ways (R39): time does not move on to the
deadline, and the pin block is not at or after it either, so that no slot is due. -/
theorem not_remoteOutcomesAndDeadlines : ¬ Obligations.RemoteOutcomesAndDeadlines := by
  unfold Obligations.RemoteOutcomesAndDeadlines
  rintro ⟨-, -, -, h, -⟩
  obtain ⟨t, hnext, hcome, -⟩ := h farPledgeState farPledge 0x80000000 rfl rfl (by decide +kernel) (by decide +kernel) rfl (.inl rfl)
  have hpin := pinAfter_remoteDeadline
  rw [hnext] at hpin
  have hstay : t.pin = 0 := (State.pin_of_clk (State.serveRuns_clk t)).symm.trans (Option.some.inj hpin)
  rw [hstay] at hcome
  exact absurd hcome (by decide)

end Sys2Proof.Machine

namespace Sys2Proof.Machine

/-! ## Register sets of a tile (R104, R134) -/

theorem portAddr_ne {p off off' : Nat} (h : off ≠ off') : portAddr p off ≠ portAddr p off' := by
  unfold portAddr
  omega

theorem idxOfPort_lt (p : Nat) : idxOfPort p < 16 := by
  unfold idxOfPort
  split
  · omega
  · split <;> omega

theorem idxOfEng_lt (e : Nat) : idxOfEng e < 32 := by
  unfold idxOfEng
  split <;> omega

/-- A port's registers lie above those of the engines of a tile. -/
theorem portAddr_ne_engAddr {p e off off' : Nat} (h : off < 0x200) (h' : off' < 0x40) : portAddr p off ≠ engAddr e off' := by
  have hp := idxOfPort_lt p
  have he := idxOfEng_lt e
  unfold portAddr engAddr tileBase
  omega

/-- Every field source is one of the 1,344 event sources (R304). -/
theorem fieldSource_lt {n : Nat} (h : isFieldSource n = true) : n < 1344 := by
  simp only [isFieldSource, Bool.or_eq_true, Bool.and_eq_true, decide_eq_true_eq, beq_iff_eq] at h
  omega

/-! ## Commits asked for (R127, R135) -/

/-- A commit of each port of a list for a block (R127). -/
def State.askCommits (s : State) (ps : List Nat) (blk : W32) : State := foldS ps (fun p s => s.askCommit p blk none) s

/-- What a host command asks of the Hem for a port: the commit at the later of the block named and the first possible, late where
that is not the one named. -/
def commitAsked (blk first : W32) (p : Nat) : Commit := { port := p, block := bmax blk first, late := blt blk first, eng := none }

/-- The commit requests stand last of those that wait, one for each port, and each port shows its own. -/
theorem State.askCommits_leaves (ps : List Nat) (blk : W32) (s : State) : let t := s.askCommits ps blk
    (∀ e, t.eng e = s.eng e) ∧ s.sameMem t ∧ t.hem.commits = s.hem.commits ++ ps.map (commitAsked blk (s.pin + 4)) ∧
      (∀ p ∈ ps, t.bit (portAddr p 4) 8 = true) ∧ s.sameRegs t (ps.map (fun p => portAddr p 4)) := by
  induction ps generalizing s with
  | nil => exact ⟨fun _ => rfl, fun _ => rfl, (List.append_nil _).symm, fun _ h => absurd h List.not_mem_nil, fun _ _ => rfl⟩
  | cons p ps ih =>
    obtain ⟨hcommits, hbit, hmem, heng, hregs⟩ := State.askCommit_leaves s p blk none
    have hpin : (s.askCommit p blk none).pin = s.pin := State.pin_of_clk (State.setBit_clk _ _ 8 true)
    obtain ⟨keng, kmem, kcommits, kbits, kregs⟩ := ih (s.askCommit p blk none)
    have hcons : s.askCommits (p :: ps) blk = (s.askCommit p blk none).askCommits ps blk := foldS_cons _ _ _ _
    rw [hcons]
    refine ⟨fun e => (keng e).trans (heng e), fun a => (kmem a).trans (hmem a), ?_, fun q hq => ?_, fun a ha => ?_⟩
    · rw [kcommits, hcommits, hpin, List.append_assoc]
      rfl
    · obtain rfl | hq := List.mem_cons.mp hq
      · by_cases hagain : portAddr q 4 ∈ ps.map (fun p => portAddr p 4)
        · obtain ⟨r, hr, haddr⟩ := List.mem_map.mp hagain
          rw [← haddr]
          exact kbits r hr
        · rw [State.bit, kregs _ hagain]
          exact hbit
      · exact kbits q hq
    · obtain ⟨hne, hna⟩ := List.ne_and_not_mem_of_not_mem_cons ha
      rw [kregs a hna, hregs a (by simpa using hne)]

theorem exec_portCommit (s : State) (p : OPort) (blk : W32) : exec (.portCommit p blk) s = .next (s.askCommits [p.val] blk) := rfl

theorem exec_tileCommit (s : State) (n : Tile) (blk : W32) : exec (.tileCommit n blk) s = .next (s.askCommits (tilePorts n) blk) := rfl

/-! ## A commit applies (R127, R128) -/

/-- Shadow registers become their working copies at block b. -/
def State.copyShadows (s : State) (b : W32) (l : List Nat) : State :=
  foldS l (fun a s => (s.logPast (s.block64 b) .work a (s.workReg a)).setWork a (s.shadowAt a b)) s

/-- With no write held back, a shadow register's value for a commit is the one it holds (R128). -/
theorem State.shadowAt_of_no_log {s : State} (h : s.hem.shadowLog = []) (a : Nat) (b : W32) : s.shadowAt a b = s.reg a := by
  rw [State.shadowAt, h, List.find?_nil]

/-- The registers of the list become their working copies, and nothing else changes but the memory of the outputs. -/
theorem State.copyShadows_leaves (b : W32) (l : List Nat) (s : State) (hlog : s.hem.shadowLog = []) : let t := s.copyShadows b l
    t = { s with work := t.work, synth := t.synth } ∧ ∀ a, t.workReg a = if a ∈ l then s.reg a else s.workReg a := by
  induction l generalizing s with
  | nil => exact ⟨rfl, fun _ => rfl⟩
  | cons x l ih =>
    let u := (s.logPast (s.block64 b) .work x (s.workReg x)).setWork x (s.shadowAt x b)
    have hcons : s.copyShadows b (x :: l) = u.copyShadows b l := foldS_cons _ _ _ _
    have hu : u = { s with work := u.work, synth := u.synth } := rfl
    have hwork : ∀ a, u.workReg a = if a = x then s.reg x else s.workReg a := fun a => by
      unfold u
      rw [State.workReg_setWork, State.shadowAt_of_no_log hlog]
      rfl
    have hreg : ∀ a, u.reg a = s.reg a := fun _ => rfl
    obtain ⟨hframe, hcopies⟩ := ih u hlog
    rw [hcons]
    clear_value u
    generalize u.copyShadows b l = t at hframe hcopies
    refine ⟨?_, fun a => ?_⟩
    · rw [hu] at hframe
      exact hframe
    · rw [hcopies, hwork, hreg]
      by_cases hx : a = x <;> simp [hx]

/-- The commit leaves those that wait; with none left for its port, no earlier value of the shadow registers is kept (R128). -/
def State.commitTaken (s : State) (c : Commit) (regs : List Nat) : State :=
  let commits := s.hem.commits.erase c
  { s with hem := { s.hem with
    commits
    shadowLog := if commits.any (fun x => x.port == c.port) then s.hem.shadowLog else s.hem.shadowLog.filter (fun w => !(w.addr ∈ regs)) } }

/-- LAST_COMMIT and PORT_STATUS of a port, at their addresses, as a commit of block b leaves them (R127, R135, R358). -/
def State.commitShown (s : State) (b : W32) (pend : Bool) (last status : Nat) : State :=
  ((s.setReg last b).setBit status 8 pend).touch last

theorem State.commitShown_leaves (s : State) (b : W32) (pend : Bool) {last status : Nat} (hne : last ≠ status) :
    let t := s.commitShown b pend last status
    (∀ e, t.eng e = s.eng e) ∧ s.sameMem t ∧ (∀ a, t.workReg a = s.workReg a) ∧ t.hem = s.hem ∧ t.reg last = b ∧
      t.bit status 8 = pend ∧ s.sameRegs t [last, status] := by
  let u := (s.setReg last b).setBit status 8 pend
  have htouch : s.commitShown b pend last status = { u with pair := (u.touch last).pair } := State.touch_frame u last
  have hother : ∀ a, a ≠ status → u.reg a = if a = last then b else s.reg a := fun a ha =>
    (State.reg_setBit _ status 8 pend a ha).trans (State.reg_setReg s last a b)
  have hstatus : u.bit status 8 = pend := by
    unfold u
    rw [State.bit_setBit _ _ _ _ _ _ (by decide), if_pos ⟨rfl, rfl⟩]
  rw [htouch]
  refine ⟨fun _ => rfl, fun _ => rfl, fun _ => rfl, rfl, ?_, hstatus, fun a ha => ?_⟩
  · exact (hother last hne).trans (if_pos rfl)
  · obtain ⟨hlast, hstat⟩ : a ≠ last ∧ a ≠ status := by simpa using ha
    exact (hother a hstat).trans (if_neg hlast)

/-- The flag that a late commit sets: COMMIT_LATE of the engine that asked, or of the port where the host did (R88, R127). -/
def Commit.lateFlag (c : Commit) : FlagReg × Nat :=
  match c.eng with
  | some g => (engFlags g, 5)
  | none => (portFlags c.port, 2)

theorem Commit.lateFlag_field {c : Commit} (hport : c.port < 448) (heng : ∀ g, c.eng = some g → g < 1280) :
    isFieldSource c.lateFlag.1.source = true := by
  unfold Commit.lateFlag
  split
  · rename_i g hg
    exact engFlags_field (heng g hg)
  · exact portFlags_field hport

theorem Commit.lateFlag_addr_ne (c : Commit) {off : Nat} (hlt : off < 0x200) (hoff : off ≠ 8) : portAddr c.port off ≠ c.lateFlag.1.addr := by
  unfold Commit.lateFlag
  split
  · exact portAddr_ne_engAddr hlt (by decide)
  · exact portAddr_ne hoff

theorem Commit.lateFlag_bit_lt (c : Commit) : c.lateFlag.2 < 32 := by
  unfold Commit.lateFlag
  split
  · exact (by decide : 5 < 32)
  · exact (by decide : 2 < 32)

/-- The flag of a commit is set where it is late. -/
def State.commitFlagged (s : State) (c : Commit) : State := if c.late then s.flag c.lateFlag.1 c.lateFlag.2 else s

theorem State.commitFlagged_eng (s : State) {c : Commit} {g : Nat} (heng : c.eng = some g) (hlate : c.late = true) :
    s.commitFlagged c = s.flag (engFlags g) 5 := by
  simp only [State.commitFlagged, Commit.lateFlag, heng, hlate, if_true]

theorem State.commitFlagged_port (s : State) {c : Commit} (heng : c.eng = none) (hlate : c.late = true) :
    s.commitFlagged c = s.flag (portFlags c.port) 2 := by
  simp only [State.commitFlagged, Commit.lateFlag, heng, hlate, if_true]

theorem State.commitFlagged_inTime (s : State) {c : Commit} (hlate : c.late = false) : s.commitFlagged c = s := by
  simp only [State.commitFlagged, hlate, Bool.false_eq_true, if_false]

theorem State.applyCommit_eq (s : State) (c : Commit) : s.applyCommit c =
    (((s.copyShadows c.block (shadowRegs c.port)).commitTaken c (shadowRegs c.port)).commitShown c.block
      (((s.copyShadows c.block (shadowRegs c.port)).hem.commits.erase c).any (fun x => x.port == c.port))
      (portAddr c.port 0x14) (portAddr c.port 4)).commitFlagged c := by
  unfold State.applyCommit
  dsimp only
  split
  · rename_i heng hlate
    rw [State.commitFlagged_eng _ heng hlate]
    rfl
  · rename_i heng hlate
    rw [State.commitFlagged_port _ heng hlate]
    rfl
  · rename_i hlate
    rw [State.commitFlagged_inTime _ hlate]
    rfl

/-- The one commit that waits applies: its flag apart, where it is late (R127, R128). -/
def State.commitDone (s : State) (c : Commit) : State :=
  ((s.copyShadows c.block (shadowRegs c.port)).commitTaken c (shadowRegs c.port)).commitShown c.block false
    (portAddr c.port 0x14) (portAddr c.port 4)

theorem State.commitDone_leaves {s : State} {c : Commit} (hone : s.hem.commits = [c]) (hlog : s.hem.shadowLog = []) :
    s.applyCommit c = (s.commitDone c).commitFlagged c ∧
      (∀ a, (s.commitDone c).workReg a = if a ∈ shadowRegs c.port then s.reg a else s.workReg a) ∧
      (s.commitDone c).reg (portAddr c.port 0x14) = c.block ∧ (s.commitDone c).bit (portAddr c.port 4) 8 = false ∧
      (s.commitDone c).hem.commits = [] ∧ s.sameRegs (s.commitDone c) [portAddr c.port 0x14, portAddr c.port 4] ∧
      (∀ e, (s.commitDone c).eng e = s.eng e) ∧ s.sameMem (s.commitDone c) := by
  obtain ⟨hframe, hcopies⟩ := State.copyShadows_leaves c.block (shadowRegs c.port) s hlog
  rw [State.applyCommit_eq]
  unfold State.commitDone
  generalize s.copyShadows c.block (shadowRegs c.port) = u at hframe hcopies
  have hnone : u.hem.commits.erase c = [] := by rw [hframe, hone, List.erase_cons_head]
  have hkept : (∀ e, u.eng e = s.eng e) ∧ (∀ a, u.byte a = s.byte a) ∧ ∀ a, u.reg a = s.reg a := by
    rw [hframe]
    exact ⟨fun _ => rfl, fun _ => rfl, fun _ => rfl⟩
  obtain ⟨hueng, humem, hureg⟩ := hkept
  obtain ⟨heng, hmem, hwork, hhem, hlast, hpending, hregs⟩ :=
    State.commitShown_leaves (u.commitTaken c (shadowRegs c.port)) c.block false (portAddr_ne (p := c.port) (show 0x14 ≠ 4 by decide))
  refine ⟨by rw [hnone, List.any_nil], fun a => (hwork a).trans (hcopies a), hlast, hpending, ?_, fun a ha => (hregs a ha).trans (hureg a),
    fun e => (heng e).trans (hueng e), fun a => (hmem a).trans (humem a)⟩
  rw [hhem, State.commitTaken, hnone]

/-- A flag of a field source changes its own register and the ways out alone. -/
theorem State.flag_leaves {f : FlagReg} (hf : isFieldSource f.source = true) (s : State) {b : Nat} (hb : b < 32) : let t := s.flag f b
    t.bit f.addr b = true ∧ s.sameRegs t [f.addr] ∧ (∀ a, t.workReg a = s.workReg a) ∧ t.hem = s.hem ∧ (∀ e, t.eng e = s.eng e) ∧
      s.sameMem t := by
  have hemits := State.flag_emits s f b (fieldSource_lt hf)
  refine ⟨State.bit_flag_of_field hf s hb, fun a ha => State.reg_flag_of_field hf s b (by simpa using ha), fun a => ?_, ?_, hemits.eng,
    hemits.byte⟩
  · rw [hemits.frame]
    rfl
  · rw [hemits.frame]

/-- What a commit leaves that is the one that waits, with no shadow write held back (R127, R128). -/
theorem State.applyCommit_leaves {s : State} {c : Commit} (hone : s.hem.commits = [c]) (hlog : s.hem.shadowLog = [])
    (hport : c.port < 448) (hengine : ∀ g, c.eng = some g → g < 1280) : let t := s.applyCommit c
    (∀ a, t.workReg a = if a ∈ shadowRegs c.port then s.reg a else s.workReg a) ∧
      t.reg (portAddr c.port 0x14) = c.block ∧ t.bit (portAddr c.port 4) 8 = false ∧ t.hem.commits = [] ∧
      (c.late = true → t.bit c.lateFlag.1.addr c.lateFlag.2 = true) ∧
      s.sameRegs t ([portAddr c.port 0x14, portAddr c.port 4] ++ if c.late then [c.lateFlag.1.addr] else []) ∧
      (∀ e, t.eng e = s.eng e) ∧ s.sameMem t := by
  obtain ⟨happlied, hwork, hlast, hpending, hcommits, hregs, heng, hmem⟩ := State.commitDone_leaves hone hlog
  rw [happlied]
  unfold State.commitFlagged
  generalize s.commitDone c = u at hwork hlast hpending hcommits hregs heng hmem
  by_cases hlate : c.late
  · rw [if_pos hlate, if_pos hlate]
    obtain ⟨hset, ksame, kwork, khem, keng, kmem⟩ :=
      State.flag_leaves (Commit.lateFlag_field hport hengine) u c.lateFlag_bit_lt
    have hown : ∀ {off}, off < 0x200 → off ≠ 8 → (u.flag c.lateFlag.1 c.lateFlag.2).reg (portAddr c.port off) = u.reg (portAddr c.port off) :=
      fun hlt hoff => ksame _ (by simpa using c.lateFlag_addr_ne hlt hoff)
    refine ⟨fun a => (kwork a).trans (hwork a), (hown (by decide) (by decide)).trans hlast, ?_, by rw [khem, hcommits], fun _ => hset,
      fun a ha => ?_, fun e => (keng e).trans (heng e), fun a => (kmem a).trans (hmem a)⟩
    · rw [State.bit, hown (by decide) (by decide)]
      exact hpending
    · obtain ⟨hport', hflag⟩ := not_or.mp (fun h => ha (List.mem_append.mpr h))
      exact (ksame a hflag).trans (hregs a hport')
  · rw [if_neg hlate, if_neg hlate]
    exact ⟨hwork, hlast, hpending, hcommits, fun h => absurd h hlate, by rwa [List.append_nil], heng, hmem⟩

theorem exec_commitApply {s : State} {c : Commit} (hone : s.hem.commits = [c]) :
    exec .commitApply s = .next ((s.advanceTo c.block).applyCommit c) := by
  have hkept : (s.advanceTo c.block).hem.commits = [c] := by rw [State.advanceTo_frame, hone]
  show execCommitApply s = _
  unfold execCommitApply
  rw [hone]
  dsimp only [firstBy, List.foldl_nil]
  rw [hkept, List.filter_singleton, beq_self_eq_true]
  rfl

/-- Settles O22: a commit command asks port by port; a commit copies the shadow registers one after another, and the flag of a late one,
the port's or the engine's, lies beside LAST_COMMIT and PORT_STATUS. That time moves on to a block that lies ahead is log entry 2. -/
theorem commitsCopyShadows : Obligations.CommitsCopyShadows := by
  unfold Obligations.CommitsCopyShadows
  refine ⟨fun s blk c ps hc => ?_, fun s c hone hlog hport hengine => ?_⟩
  · have hexec : exec c s = .next (s.askCommits ps blk) := by
      obtain ⟨p, rfl, rfl⟩ | ⟨n, rfl, rfl⟩ := hc
      · exact exec_portCommit s p blk
      · exact exec_tileCommit s n blk
    exact ⟨_, hexec, State.askCommits_leaves ps blk s⟩
  · intro flag
    have hflag : flag = (c.lateFlag.1.addr, c.lateFlag.2) := by
      unfold flag Commit.lateFlag
      cases c.eng <;> rfl
    rw [hflag]
    have hhem : (s.advanceTo c.block).hem = s.hem := by rw [State.advanceTo_frame]
    have hwork : ∀ a, (s.advanceTo c.block).workReg a = s.workReg a := fun a => by rw [State.advanceTo_frame]; rfl
    obtain ⟨heng, hreg, hmem⟩ := State.clk_kept (State.advanceTo_frame s c.block)
    obtain ⟨kwork, hlast, hpending, hcommits, hlate, hregs, keng, kmem⟩ :=
      State.applyCommit_leaves (s := s.advanceTo c.block) (by rw [hhem, hone]) (by rw [hhem, hlog]) hport hengine
    refine ⟨_, exec_commitApply hone, fun a ha => ?_, fun a ha => ?_, hlast, hpending, hcommits, hlate,
      fun a ha => (hregs a ha).trans (hreg a), fun e => (keng e).trans (heng e), fun a => (kmem a).trans (hmem a)⟩
    · rw [kwork, if_pos ha, hreg]
    · rw [kwork, if_neg ha, hwork]

end Sys2Proof.Machine

namespace Sys2Proof.Machine

/-! ## What a calibration changes (R143, R368, R387) -/

/-- Between s and t a calibration wrote registers of the kind w, noted in the journal of the FM's routine: time, engines, memory, what was
sent, the tiles under calibration and the rest of the routine stand. CTRL_STATUS of the FM shows the routine. -/
structure Calibrates (w : Nat → Prop) (s t : State) : Prop where
  clk : t.clk = s.clk
  engines : t.engines = s.engines
  mem : t.mem = s.mem
  sent : t.sent = s.sent
  calRun : t.hem.calRun = s.hem.calRun
  routine : ∀ l, s.cmd.fm = some l → ∃ j, t.cmd.fm = some { l with journal := j }
  regs : ∀ a, ¬ w a → a ≠ ctrlAddr .fm 8 → t.reg a = s.reg a

theorem Calibrates.trans {w : Nat → Prop} {s t u : State} (h : Calibrates w s t) (k : Calibrates w t u) : Calibrates w s u := by
  refine ⟨k.clk.trans h.clk, k.engines.trans h.engines, k.mem.trans h.mem, k.sent.trans h.sent, k.calRun.trans h.calRun, fun l hl => ?_,
    fun a ha hfm => (k.regs a ha hfm).trans (h.regs a ha hfm)⟩
  obtain ⟨j, hj⟩ := h.routine l hl
  obtain ⟨i, hi⟩ := k.routine _ hj
  exact ⟨i, hi⟩

theorem Calibrates.mono {w w' : Nat → Prop} {s t : State} (h : Calibrates w s t) (hw : ∀ a, w a → w' a) : Calibrates w' s t :=
  ⟨h.clk, h.engines, h.mem, h.sent, h.calRun, h.routine, fun a ha => h.regs a (fun q => ha (hw a q))⟩

theorem Calibrates.pin {w : Nat → Prop} {s t : State} (h : Calibrates w s t) : t.pin = s.pin := State.pin_of_clk h.clk

section
variable {w : Nat → Prop}

/-- A change of the windows, the events and the memory of the outputs writes no register. -/
theorem Calibrates.unseen {s t : State} (h : t = { s with synth := t.synth, chans := t.chans, evt := t.evt }) : Calibrates w s t := by
  rw [h]
  exact ⟨rfl, rfl, rfl, rfl, rfl, fun l hl => ⟨l.journal, hl⟩, fun _ _ _ => rfl⟩

/-- Nor does a change of the Hem's tables other than that of the tiles under calibration. -/
theorem Calibrates.tables (s : State) {h : Hem} (hrun : h.calRun = s.hem.calRun) : Calibrates w s { s with hem := h } :=
  ⟨rfl, rfl, rfl, rfl, hrun, fun l hl => ⟨l.journal, hl⟩, fun _ _ _ => rfl⟩

theorem Calibrates.refl (s : State) : Calibrates w s s := .unseen rfl

theorem Calibrates.setReg (s : State) {a : Nat} (ha : w a) (v : W32) : Calibrates w s (s.setReg a v) :=
  ⟨rfl, rfl, rfl, rfl, rfl, fun l hl => ⟨l.journal, hl⟩, fun b hb _ => (State.reg_setReg s a b v).trans (if_neg fun h : b = a => hb (by rwa [h]))⟩

theorem Calibrates.setBit (s : State) {a : Nat} (ha : w a) (b : Nat) (v : Bool) : Calibrates w s (s.setBit a b v) := .setReg s ha _

theorem Calibrates.remember (s : State) (a : Nat) : Calibrates w s (s.remember a) := .unseen (by rw [State.remember_frame])

/-- A flag of a field source: its register, and the notice on its way. -/
theorem Calibrates.flag (s : State) {f : FlagReg} (hf : isFieldSource f.source = true) (ha : w f.addr) (b : Nat) :
    Calibrates w s (s.flag f b) := by
  obtain ⟨-, h⟩ | ⟨n, h⟩ := State.flag_of_field hf s b
  · rw [h]
    exact .refl s
  · rw [h]
    have hraised : Calibrates w (s.setReg f.addr (s.reg f.addr ||| (1#32 <<< b)))
        ((s.setReg f.addr (s.reg f.addr ||| (1#32 <<< b))).fieldRaise n) := by
      unfold State.fieldRaise
      split <;> exact .unseen rfl
    exact (Calibrates.setReg s ha _).trans hraised

/-- The FM's routine with another journal. -/
theorem Calibrates.journal {s : State} {l : Long} (hl : s.cmd.fm = some l) (j : List (Nat × W32)) :
    Calibrates w s (s.setLong .fm (some { l with journal := j })) := by
  refine ⟨rfl, rfl, rfl, rfl, rfl, fun l' hl' => ⟨j, ?_⟩, fun a _ ha => ?_⟩
  · rw [hl] at hl'
    obtain rfl := Option.some.inj hl'
    rfl
  · exact (State.reg_setFld _ _ 15 8 _ a).trans (if_neg ha)

end

/-- A register written by the FM holds its value; the routine's journal notes it (R368). -/
theorem State.setJournal_leaves (s : State) {a : Nat} (ha : a ≠ ctrlAddr .fm 8) (v : W32) :
    Calibrates (· = a) s (s.setJournal .fm a v) ∧ (s.setJournal .fm a v).reg a = v := by
  let u := (s.remember a).setReg a v
  have hwritten : Calibrates (· = a) s u := (Calibrates.remember s a).trans (Calibrates.setReg (w := (· = a)) _ rfl v)
  have hvalue : u.reg a = v := (State.reg_setReg _ a a v).trans (if_pos rfl)
  have hset : s.setJournal .fm a v = match u.cmd.fm with
      | some l => u.setLong .fm (some { l with journal := (a, s.reg a) :: l.journal })
      | none => u := rfl
  clear_value u
  rw [hset]
  cases hfm : u.cmd.fm with
  | none => exact ⟨hwritten, hvalue⟩
  | some l =>
    have hnoted : Calibrates (fun _ => False) u (u.setLong .fm (some { l with journal := (a, s.reg a) :: l.journal })) := .journal hfm _
    exact ⟨hwritten.trans (hnoted.mono fun _ h => h.elim), (hnoted.regs a id ha).trans hvalue⟩

/-- The registers of a list written by the FM, in order. -/
def State.journalAll (s : State) (rs : List (Nat × W32)) : State := foldS rs (fun r s => s.setJournal .fm r.1 r.2) s

theorem State.journalAll_cons (s : State) (r : Nat × W32) (rs : List (Nat × W32)) :
    s.journalAll (r :: rs) = (s.setJournal .fm r.1 r.2).journalAll rs := rfl

theorem State.journalAll_append (s : State) (rs qs : List (Nat × W32)) : s.journalAll (rs ++ qs) = (s.journalAll rs).journalAll qs :=
  List.foldl_append

/-- Each of them, none named twice, holds its value. -/
theorem State.journalAll_leaves {rs : List (Nat × W32)} (hfm : ∀ r ∈ rs, r.1 ≠ ctrlAddr .fm 8)
    (hd : rs.Pairwise (fun r q => r.1 ≠ q.1)) (s : State) :
    Calibrates (fun a => ∃ r ∈ rs, a = r.1) s (s.journalAll rs) ∧ ∀ r ∈ rs, (s.journalAll rs).reg r.1 = r.2 := by
  induction rs generalizing s with
  | nil => exact ⟨.refl s, fun r hr => absurd hr List.not_mem_nil⟩
  | cons q rs ih =>
    obtain ⟨hne, hd⟩ := List.pairwise_cons.mp hd
    obtain ⟨hwritten, hvalue⟩ := State.setJournal_leaves s (hfm q List.mem_cons_self) q.2
    obtain ⟨hrest, hvalues⟩ := ih (fun r hr => hfm r (List.mem_cons_of_mem q hr)) hd (s.setJournal .fm q.1 q.2)
    rw [State.journalAll_cons]
    refine ⟨(hwritten.mono fun a ha => ⟨q, List.mem_cons_self, ha⟩).trans
      (hrest.mono fun a ⟨r, hr, ha⟩ => ⟨r, List.mem_cons_of_mem q hr, ha⟩), fun r hr => ?_⟩
    obtain rfl | hr := List.mem_cons.mp hr
    · rw [hrest.regs _ (fun ⟨p, hp, h⟩ => hne p hp h) (hfm r List.mem_cons_self), hvalue]
    · exact hvalues r hr

/-- A loop over a list whose members differ pairwise, seen from one of them: what went before it, its pass, what comes after. -/
theorem foldS_around {α : Type} {f : α → State → State} {r : α → α → Prop} {l : List α} (hd : l.Pairwise r) {x : α} (hx : x ∈ l) (s : State) :
    ∃ l₁ l₂, (∀ y ∈ l₁, y ∈ l ∧ r y x) ∧ (∀ y ∈ l₂, y ∈ l ∧ r x y) ∧ foldS l f s = foldS l₂ f (f x (foldS l₁ f s)) := by
  obtain ⟨l₁, l₂, rfl⟩ := List.append_of_mem hx
  obtain ⟨-, hafter, hcross⟩ := List.pairwise_append.mp hd
  refine ⟨l₁, l₂, fun y hy => ⟨by simp [hy], hcross y hy x List.mem_cons_self⟩,
    fun y hy => ⟨by simp [hy], (List.pairwise_cons.mp hafter).1 y hy⟩, ?_⟩
  rw [foldS, List.foldl_append, List.foldl_cons]
  rfl

/-! ## The FM's routine ends with its last tile (R143, R387) -/

theorem State.transmit_routine (s : State) (o : Out) : (s.transmit o).cmd.fm = s.cmd.fm := by
  unfold State.transmit
  dsimp only
  split
  · rfl
  · split <;> split <;> rfl

theorem State.send_routine (s : State) (o : Out) : (s.send o).cmd.fm = s.cmd.fm := by
  unfold State.send
  dsimp only
  rw [State.transmit_routine]
  split <;> rfl

theorem State.sendResult_routine (s : State) (o : Out) : (s.sendResult o).cmd.fm = s.cmd.fm := by
  unfold State.sendResult
  split
  · exact State.send_routine s o
  · rfl

theorem State.sendNotice_routine (s : State) (n : Notice) : (s.sendNotice n).cmd.fm = s.cmd.fm := by
  have hlast : ∀ u : State, u.cmd.fm = s.cmd.fm → (if (u.bit 0x00060000 2 && u.bit 0x00040004 0) = true then
      u.send (.notice (some (u.hostMac, u.ownMac)) (noticeWords n (s.fld aNseq 15 0))) else u).cmd.fm = s.cmd.fm := by
    intro u hu
    split
    · exact (State.send_routine u _).trans hu
    · exact hu
  unfold State.sendNotice
  dsimp only
  apply hlast
  split
  · rfl
  · split
    · rfl
    · exact State.sendResult_routine _ _

theorem State.lostNotice_routine (s : State) : s.lostNotice.cmd.fm = s.cmd.fm := by
  unfold State.lostNotice
  dsimp only
  split
  · rfl
  · split
    · exact State.sendNotice_routine _ _
    · rfl

theorem State.hostRaise_routine (s : State) (n : Notice) : (s.hostRaise n).cmd.fm = s.cmd.fm := by
  unfold State.hostRaise
  dsimp only
  split
  · exact (State.sendNotice_routine _ n).trans (State.lostNotice_routine _)
  · rfl

/-- An error is counted at the CI, whose source lies on the host side. -/
theorem State.countError_routine (s : State) (h : Hdr) (op : Nat) (st : Byte) : (s.countError h op st).cmd.fm = s.cmd.fm := by
  unfold State.countError State.raise
  split
  · rfl
  · exact State.hostRaise_routine _ _

theorem State.finalReply_routine (s : State) (h : Hdr) (op : Nat) (st : Byte) (ps : List W32) :
    (s.finalReply h op st ps).cmd.fm = s.cmd.fm := by
  have hcounted : ((s.cachePut h (some (s.mkReply h op st ps))).countError h op st).cmd.fm = s.cmd.fm := State.countError_routine _ h op st
  unfold State.finalReply State.sendReply
  dsimp only
  split
  · exact hcounted
  · exact (State.send_routine _ _).trans hcounted

/-- A final reply goes out where a reply was asked for. -/
theorem State.finalReply_answers (s : State) {h : Hdr} (hack : ackReq h = true) (op : Nat) (st : Byte) (ps : List W32) :
    s.answers (s.finalReply h op st ps) h op st ps := by
  let r := s.mkReply h op st ps
  have hsend : s.finalReply h op st ps = ((s.cachePut h (some r)).countError h op st).send (.reply r) :=
    if_neg fun hquiet => by simp [hack] at hquiet
  obtain ⟨m, hm⟩ := ((State.cachePut_emits s h (some r)).trans (State.countError_emits _ h op st)).sent
  refine ⟨r, m ++ [.reply r], ?_, by simp, rfl, rfl, rfl, rfl, rfl, rfl⟩
  rw [hsend, State.send_sent, hm, List.append_assoc]

/-- The FM's routine with tile n done. -/
def Long.without (l : Long) (n : Nat) (failed : Bool) : Long := { l with tiles := l.tiles.filter (· != n), failed := l.failed || failed }

theorem Long.without_tiles_empty (l : Long) (n : Nat) (failed : Bool) : (l.without n failed).tiles.isEmpty = true ↔ ∀ c ∈ l.tiles, c = n := by
  simp [Long.without]

/-- A tile done leaves the routine; the last one ends it, with its final reply unless that went out already. -/
theorem State.tileDone_leaves {s : State} {l : Long} (hl : s.cmd.fm = some l) (n : Nat) (failed : Bool) : let t := s.tileDone n failed
    Emits [ctrlAddr .fm 8] s t ∧
      (∀ c ∈ l.tiles, c ≠ n → t.cmd.fm.map (·.tiles) = some (l.tiles.filter (· != n))) ∧
      ((∀ c ∈ l.tiles, c = n) → t.cmd.fm = none ∧
        (l.answered = false → ackReq l.h = true →
          s.answers t l.h l.op.toNat (if l.failed || failed then stInternal else stOk) [])) := by
  let x := l.without n failed
  let u := s.setLong .fm (some x)
  have hdone : s.tileDone n failed = if x.tiles.isEmpty then u.endLong .fm (if x.failed then 0x7F else 0x00) else u := by
    unfold State.tileDone
    rw [hl]
    rfl
  have hlong : u.long .fm = some x := rfl
  have hleft : Emits [ctrlAddr .fm 8] s u := State.setLong_emits s .fm _
  have hempty : x.tiles.isEmpty = true ↔ ∀ c ∈ l.tiles, c = n := l.without_tiles_empty n failed
  rw [hdone]
  by_cases hlast : ∀ c ∈ l.tiles, c = n
  · rw [if_pos (hempty.mpr hlast)]
    refine ⟨hleft.trans (State.endLong_emits u .fm _ []), fun c hc hne => absurd (hlast c hc) hne, fun _ => ?_⟩
    unfold State.endLong
    rw [hlong]
    dsimp only
    split
    · rename_i hanswered
      exact ⟨rfl, fun h => absurd (hanswered.symm.trans h) (by decide)⟩
    · refine ⟨State.finalReply_routine _ _ _ _ _, fun _ hack => ?_⟩
      exact (State.finalReply_answers (u.setLong .fm none) hack _ _ []).earlier ⟨[], (List.append_nil _).symm⟩
  · rw [if_neg (fun h => hlast (hempty.mp h))]
    exact ⟨hleft, fun _ _ _ => rfl, fun h => absurd h hlast⟩

end Sys2Proof.Machine

namespace Sys2Proof.Machine

/-! ## The slices of a read-out port (R144, R164) -/

theorem adcAddr_inj {l l' off off' : Nat} (h : off < 0x200) (h' : off' < 0x200) : adcAddr l off = adcAddr l' off' ↔ l = l' ∧ off = off' := by
  unfold adcAddr tileBase
  constructor
  · intro heq
    constructor <;> omega
  · rintro ⟨rfl, rfl⟩
    rfl

theorem adcAddr_ne {l off off' : Nat} (h : off ≠ off') : adcAddr l off ≠ adcAddr l off' := by
  unfold adcAddr
  omega

/-- The registers of a tile are none of a controller's. -/
theorem ne_ctrlAddr_of_tile {a : Nat} (h : 0x20000000 ≤ a) : a ≠ ctrlAddr .fm 8 := by
  have hfm : ctrlAddr .fm 8 = 0x10000408 := rfl
  omega

theorem le_adcAddr (l off : Nat) : 0x20000000 ≤ adcAddr l off := by
  unfold adcAddr tileBase
  omega

/-- A register of input port l's set (R164). -/
def inAdc (l a : Nat) : Prop := ∃ off, off < 0x200 ∧ a = adcAddr l off

theorem inAdc_adcAddr {l off : Nat} (h : off < 0x200) : inAdc l (adcAddr l off) := ⟨off, h, rfl⟩

theorem not_inAdc_of_ne {l l' a : Nat} (hne : l ≠ l') (ha : inAdc l a) : ¬ inAdc l' a := by
  obtain ⟨off, hoff, rfl⟩ := ha
  rintro ⟨off', hoff', heq⟩
  exact hne ((adcAddr_inj hoff hoff').mp heq).1

theorem adcFlags_field {l : Nat} (hl : l < 64) : isFieldSource (adcFlags l).source = true := by
  have hsource : 512 + 8 * l < 1280 := by omega
  simp [isFieldSource, adcFlags, hsource]

/-- The factors of slice k lie in its four words. -/
theorem mem_sliceRegs {l k : Nat} {f : SliceFit} {r : Nat × W32} (h : r ∈ sliceRegs l k f) :
    ∃ off, 0x40 + 16 * k ≤ off ∧ off < 0x50 + 16 * k ∧ r.1 = adcAddr l off := by
  simp only [sliceRegs, List.mem_cons, List.not_mem_nil, or_false] at h
  obtain rfl | rfl | rfl | rfl := h
  · exact ⟨0x40 + 16 * k, by omega, by omega, rfl⟩
  · exact ⟨0x44 + 16 * k, by omega, by omega, rfl⟩
  · exact ⟨0x48 + 16 * k, by omega, by omega, rfl⟩
  · exact ⟨0x4C + 16 * k, by omega, by omega, rfl⟩

theorem sliceRegs_pairwise (l k : Nat) (f : SliceFit) : (sliceRegs l k f).Pairwise (fun r q => r.1 ≠ q.1) := by
  simp only [sliceRegs, List.pairwise_cons, List.mem_cons, List.not_mem_nil, or_false, forall_eq_or_imp, forall_eq, false_imp_iff,
    implies_true, List.Pairwise.nil, and_true]
  refine ⟨⟨?_, ?_, ?_⟩, ⟨?_, ?_⟩, ?_⟩ <;> exact adcAddr_ne (by omega)

/-- The registers and values that a calibration of port l writes: the factors of the slices that pass (R144). -/
def goodRegs (l : Nat) (fits : List SliceFit) : List (Nat × W32) := (fits.filter SliceFit.good).flatMap (fun f => sliceRegs l f.slice f)

theorem mem_goodRegs {l : Nat} {fits : List SliceFit} {r : Nat × W32} (h : r ∈ goodRegs l fits) :
    ∃ off, 0x40 ≤ off ∧ off < 0x200 ∧ r.1 = adcAddr l off := by
  obtain ⟨f, -, hr⟩ := List.mem_flatMap.mp h
  obtain ⟨off, hlo, hhi, haddr⟩ := mem_sliceRegs hr
  have hslice := f.slice.isLt
  exact ⟨off, by omega, by omega, haddr⟩

theorem goodRegs_pairwise {fits : List SliceFit} (hd : fits.Pairwise (fun f g => f.slice ≠ g.slice)) (l : Nat) :
    (goodRegs l fits).Pairwise (fun r q => r.1 ≠ q.1) := by
  refine List.pairwise_flatMap.mpr ⟨fun f _ => sliceRegs_pairwise l f.slice f, (hd.filter SliceFit.good).imp fun {f g} hne r hr q hq => ?_⟩
  obtain ⟨off, hlo, hhi, haddr⟩ := mem_sliceRegs hr
  obtain ⟨off', hlo', hhi', haddr'⟩ := mem_sliceRegs hq
  have hval : f.slice.val ≠ g.slice.val := fun h => hne (Fin.ext h)
  rw [haddr, haddr']
  exact adcAddr_ne (by omega)

/-! ## The slices that fail (R144) -/

/-- The numbers of the slices whose fits fail. -/
def badSlices (fits : List SliceFit) : List Nat := ((fits.filter (fun f => !SliceFit.good f)).map (fun f => f.slice.val)).dedup

/-- SLICE_FAILED with these slices alone. -/
def badMask (fits : List SliceFit) : W32 := BitVec.ofNat 32 ((badSlices fits).map (2 ^ ·)).sum

theorem mem_badSlices_lt {fits : List SliceFit} {k : Nat} (h : k ∈ badSlices fits) : k < 17 := by
  obtain ⟨f, -, rfl⟩ := List.mem_map.mp (List.mem_dedup.mp h)
  exact f.slice.isLt

theorem badSlices_of_good {fits : List SliceFit} (h : ∀ f ∈ fits, SliceFit.good f = true) : badSlices fits = [] := by
  have hnone : fits.filter (fun f => !SliceFit.good f) = [] := List.filter_eq_nil_iff.mpr fun f hf => by simp [h f hf]
  rw [badSlices, hnone]
  rfl

/-- With no slice fitted twice, as many slices fail as fits do. -/
theorem length_badSlices {fits : List SliceFit} (hd : fits.Pairwise (fun f g => f.slice ≠ g.slice)) :
    (badSlices fits).length = (fits.filter (fun f => !SliceFit.good f)).length := by
  have hnodup : ((fits.filter (fun f => !SliceFit.good f)).map (fun f => f.slice.val)).Nodup :=
    List.pairwise_map.mpr ((hd.filter _).imp fun hne h => hne (Fin.ext h))
  rw [badSlices, List.dedup_eq_self.mpr hnodup, List.length_map]

/-- The sum of distinct powers of two has the bits of their exponents. -/
theorem testBit_sum_two_pow {l : List Nat} (hd : l.Nodup) (k : Nat) : (l.map (2 ^ ·)).sum.testBit k = true ↔ k ∈ l := by
  rw [← List.sum_toFinset (2 ^ ·) hd, ← Nat.mem_bitIndices, ← List.mem_toFinset, Finset.toFinset_bitIndices_sum_two_pow, List.mem_toFinset]

theorem getLsbD_badMask (fits : List SliceFit) {k : Nat} (hk : k < 32) : (badMask fits).getLsbD k = true ↔ k ∈ badSlices fits := by
  rw [badMask, BitVec.getLsbD_ofNat, decide_eq_true hk, Bool.true_and]
  exact testBit_sum_two_pow (List.nodup_dedup _) k

theorem State.mem_failedSlices {s : State} {l k : Nat} : k ∈ s.failedSlices l ↔ k < 17 ∧ s.bit (adcAddr l 0x18) k = true := by
  simp [State.failedSlices]

theorem State.nodup_failedSlices (s : State) (l : Nat) : (s.failedSlices l).Nodup := List.nodup_range.filter _

/-- With SLICE_FAILED written anew, no more slices are failed than fits. -/
theorem State.failedSlices_le {s : State} {l : Nat} {fits : List SliceFit} (h : s.reg (adcAddr l 0x18) = badMask fits) :
    (s.failedSlices l).length ≤ (badSlices fits).length := by
  refine (List.subperm_of_subset (s.nodup_failedSlices l) fun k hk => ?_).length_le
  obtain ⟨hlt, hbit⟩ := State.mem_failedSlices.mp hk
  rw [State.bit, h] at hbit
  exact (getLsbD_badMask fits (by omega)).mp hbit

/-- With failing slices added to SLICE_FAILED, no fewer. -/
theorem State.le_failedSlices {s : State} {l : Nat} {fits : List SliceFit} {v : W32} (h : s.reg (adcAddr l 0x18) = v ||| badMask fits) :
    (badSlices fits).length ≤ (s.failedSlices l).length := by
  refine (List.subperm_of_subset (List.nodup_dedup _) fun k hk => ?_).length_le
  have hlt := mem_badSlices_lt hk
  have hbad := (getLsbD_badMask fits (show k < 32 by omega)).mpr hk
  refine State.mem_failedSlices.mpr ⟨hlt, ?_⟩
  rw [State.bit, h, BitVec.getLsbD_or, hbad, Bool.or_true]

/-! ## What failed slices come to (R144) -/

theorem State.portUnavailable_calibrates {w : Nat → Prop} (s : State) (l : Nat) (b : W32) : Calibrates w s (s.portUnavailable l b) :=
  foldS_rel (Calibrates w) .refl (fun _ _ _ => .trans) _ _ (fun _ _ _ => .unseen rfl) s

/-- A port with two slices failed or more: FAULT, unavailable (R144). -/
def State.portFaulted (s : State) (l : Nat) : State :=
  ((((s.remember (adcAddr l 4)).setBit (adcAddr l 4) 11 true).flag (adcFlags l) 4).flag (adcFlags l) 3).portUnavailable l s.pin

/-- A port with one: it is the spare, and there is no other (R144). -/
def State.spareTaken (s : State) (l k : Nat) : State :=
  (((s.remember (adcAddr l 4)).setFld (adcAddr l 4) 4 0 k).setBit (adcAddr l 4) 10 true).setBit (adcAddr l 4) 9 false

/-- A new spare leaves bits 11 and up of ADC_STATUS, here at address a. -/
theorem State.bit_newSpare (s : State) (a k : Nat) {b : Nat} (hlo : 10 < b) (hhi : b < 32) :
    ((((s.remember a).setFld a 4 0 k).setBit a 10 true).setBit a 9 false).bit a b = s.bit a b := by
  rw [State.bit_setBit _ _ _ _ _ _ hhi, if_neg (by omega), State.bit_setBit _ _ _ _ _ _ hhi, if_neg (by omega),
    State.bit_setFld _ _ _ _ _ _ _ hhi, if_neg (by omega), State.remember_frame]
  rfl

theorem State.judgeSlices_none {s : State} {l : Nat} (h : s.failedSlices l = []) : s.judgeSlices l = s := by
  unfold State.judgeSlices
  rw [h]

theorem State.judgeSlices_one {s : State} {l k : Nat} (h : s.failedSlices l = [k]) : s.judgeSlices l = s.spareTaken l k := by
  unfold State.judgeSlices
  rw [h]
  rfl

theorem State.judgeSlices_more {s : State} {l : Nat} (h : 2 ≤ (s.failedSlices l).length) : s.judgeSlices l = s.portFaulted l := by
  unfold State.judgeSlices
  match hfailed : s.failedSlices l, h with
  | _ :: _ :: _, _ => rfl

/-- A flag of a field source leaves no bit cleared. -/
theorem State.bit_flag_kept {f : FlagReg} (hf : isFieldSource f.source = true) {s : State} {a k : Nat} (h : s.bit a k = true) (b : Nat) :
    (s.flag f b).bit a k = true := by
  obtain ⟨-, hset⟩ | ⟨n, hset⟩ := State.flag_of_field hf s b
  · rw [hset]
    exact h
  · rw [hset, State.bit, State.fieldRaise_reg, State.reg_setReg]
    split
    · rename_i heq
      rw [← heq, BitVec.getLsbD_or]
      exact Bool.or_eq_true_iff.mpr (.inl h)
    · exact h

section
variable {l : Nat} (hl : l < 64)
include hl

theorem State.flag_adc_calibrates (s : State) (b : Nat) : Calibrates (inAdc l) s (s.flag (adcFlags l) b) :=
  Calibrates.flag s (adcFlags_field hl) (inAdc_adcAddr (by decide)) b

theorem State.portFaulted_leaves (s : State) : Calibrates (inAdc l) s (s.portFaulted l) ∧
    (s.portFaulted l).bit (adcAddr l 4) 11 = true ∧ (s.portFaulted l).bit (adcAddr l 8) 4 = true := by
  have hfield := adcFlags_field hl
  let u := (s.remember (adcAddr l 4)).setBit (adcAddr l 4) 11 true
  have hu : Calibrates (inAdc l) s u := (Calibrates.remember s _).trans (Calibrates.setBit _ (inAdc_adcAddr (by decide)) 11 true)
  have hfault : u.bit (adcAddr l 4) 11 = true := (State.bit_setBit _ _ 11 true _ 11 (by decide)).trans (if_pos ⟨rfl, rfl⟩)
  let v := (u.flag (adcFlags l) 4).flag (adcFlags l) 3
  have hv : Calibrates (inAdc l) u v := (State.flag_adc_calibrates hl u 4).trans (State.flag_adc_calibrates hl _ 3)
  have hstays : v.bit (adcAddr l 4) 11 = true := State.bit_flag_kept hfield (State.bit_flag_kept hfield hfault 4) 3
  have hflag : v.bit (adcAddr l 8) 4 = true := State.bit_flag_kept hfield (State.bit_flag_of_field hfield u (by decide)) 3
  have hlast : Calibrates (fun _ => False) v (s.portFaulted l) := State.portUnavailable_calibrates v l s.pin
  have hreg : ∀ off, (s.portFaulted l).reg (adcAddr l off) = v.reg (adcAddr l off) := fun off =>
    hlast.regs _ id (ne_ctrlAddr_of_tile (le_adcAddr l off))
  refine ⟨(hu.trans hv).trans (hlast.mono fun _ h => h.elim), ?_, ?_⟩
  · rw [State.bit, hreg]
    exact hstays
  · rw [State.bit, hreg]
    exact hflag

theorem State.judgeSlices_calibrates (s : State) : Calibrates (inAdc l) s (s.judgeSlices l) := by
  match hfailed : s.failedSlices l with
  | [] =>
    rw [State.judgeSlices_none hfailed]
    exact .refl s
  | [k] =>
    have hstatus : inAdc l (adcAddr l 4) := inAdc_adcAddr (by decide)
    rw [State.judgeSlices_one hfailed]
    exact (((Calibrates.remember s _).trans (Calibrates.setReg _ hstatus _)).trans (Calibrates.setBit _ hstatus 10 true)).trans
      (Calibrates.setBit _ hstatus 9 false)
  | _ :: _ :: _ =>
    rw [State.judgeSlices_more (by rw [hfailed]; simp)]
    exact (State.portFaulted_leaves hl s).1

omit hl in
/-- With one slice failed at most, FAULT stands as it was. -/
theorem State.judgeSlices_fault_kept {s : State} (h : (s.failedSlices l).length ≤ 1) :
    (s.judgeSlices l).bit (adcAddr l 4) 11 = s.bit (adcAddr l 4) 11 := by
  match hfailed : s.failedSlices l with
  | [] => rw [State.judgeSlices_none hfailed]
  | [k] =>
    rw [State.judgeSlices_one hfailed, State.spareTaken, State.bit_newSpare s _ k (by decide) (by decide)]
  | _ :: _ :: _ =>
    rw [hfailed] at h
    simp at h

end

/-! ## The fits of one port (R143, R144) -/

/-- The good fits of port l written, and SLICE_FAIL set where one fails. -/
def State.fitsNoted (s : State) (l : Nat) (fits : List SliceFit) : State :=
  if (badSlices fits).isEmpty then s.journalAll (goodRegs l fits) else (s.journalAll (goodRegs l fits)).flag (adcFlags l) 2

/-- ADC_STATUS of a port whose calibration passes: no FAULT, no NOSPARE, CAL_DONE. -/
def calPassed (st : W32) : W32 := putFld (putFld (putFld st 11 11 0) 10 10 0) 7 7 1

theorem getLsbD_calPassed (st : W32) : (calPassed st).getLsbD 11 = false ∧ (calPassed st).getLsbD 10 = false ∧ (calPassed st).getLsbD 7 = true := by
  simp (disch := decide) only [calPassed, getLsbD_putFld]
  simp

/-- The factors are written fit by fit, those of a failing slice left out. -/
theorem foldS_factors (l : Nat) (fits : List SliceFit) (s : State) :
    foldS fits (fun f s => if !(SliceFit.inRange f && f.residualOk) then s else foldS (sliceRegs l f.slice f) (fun r s => s.setJournal .fm r.1 r.2) s) s =
      s.journalAll (goodRegs l fits) := by
  induction fits generalizing s with
  | nil => rfl
  | cons f fits ih =>
    rw [foldS_cons, ih]
    cases hgood : SliceFit.good f with
    | true =>
      have hpass : (SliceFit.inRange f && f.residualOk) = true := hgood
      unfold goodRegs
      rw [hpass, List.filter_cons_of_pos hgood, List.flatMap_cons, State.journalAll_append]
      rfl
    | false =>
      have hfail : (SliceFit.inRange f && f.residualOk) = false := hgood
      unfold goodRegs
      rw [hfail, List.filter_cons_of_neg (by simp [hgood])]
      rfl

theorem State.calPort_eq (s : State) (l : Nat) (fits : List SliceFit) : s.calPort l fits =
    if (badSlices fits).length ≤ 1 then
      ((((s.fitsNoted l fits).setJournal .fm (adcAddr l 0x18) (badMask fits)).setJournal .fm (adcAddr l 4)
        (calPassed ((s.journalAll (goodRegs l fits)).reg (adcAddr l 4)))).judgeSlices l).dwellBegin l
    else ((s.fitsNoted l fits).setJournal .fm (adcAddr l 0x18) ((s.fitsNoted l fits).reg (adcAddr l 0x18) ||| badMask fits)).judgeSlices l := by
  unfold State.fitsNoted
  rw [← foldS_factors]
  rfl

section
variable {l : Nat} {fits : List SliceFit}

/-- What a port's fits leave in its registers (R143, R144): FAULT shows that two slices or more failed, with CAL_FAIL; where all pass, no slice
is failed, there is a spare, CAL_DONE is set and each slice holds its factors. -/
structure FitsWritten (l : Nat) (fits : List SliceFit) (t : State) : Prop where
  fault : t.bit (adcAddr l 4) 11 = decide (2 ≤ (fits.filter (fun f => !SliceFit.good f)).length)
  calFail : 2 ≤ (fits.filter (fun f => !SliceFit.good f)).length → t.bit (adcAddr l 8) 4 = true
  passed : (∀ f ∈ fits, SliceFit.good f = true) → t.reg (adcAddr l 0x18) = 0 ∧ t.bit (adcAddr l 4) 10 = false ∧
    t.bit (adcAddr l 4) 7 = true ∧ ∀ f ∈ fits, ∀ r ∈ sliceRegs l f.slice f, t.reg r.1 = r.2

theorem State.fitsNoted_calibrates (hl : l < 64) (hd : fits.Pairwise (fun f g => f.slice ≠ g.slice)) (s : State) :
    Calibrates (inAdc l) s (s.journalAll (goodRegs l fits)) ∧ Calibrates (inAdc l) s (s.fitsNoted l fits) ∧
      ∀ r ∈ goodRegs l fits, (s.journalAll (goodRegs l fits)).reg r.1 = r.2 := by
  have hfm : ∀ r ∈ goodRegs l fits, r.1 ≠ ctrlAddr .fm 8 := fun r hr => by
    obtain ⟨off, -, -, haddr⟩ := mem_goodRegs hr
    rw [haddr]
    exact ne_ctrlAddr_of_tile (le_adcAddr l off)
  obtain ⟨hwritten, hvalues⟩ := State.journalAll_leaves hfm (goodRegs_pairwise hd l) s
  have hfactors : Calibrates (inAdc l) s (s.journalAll (goodRegs l fits)) := hwritten.mono fun a ⟨r, hr, ha⟩ => by
    obtain ⟨off, -, hoff, haddr⟩ := mem_goodRegs hr
    exact ⟨off, hoff, ha.trans haddr⟩
  refine ⟨hfactors, ?_, hvalues⟩
  unfold State.fitsNoted
  split
  · exact hfactors
  · exact hfactors.trans (State.flag_adc_calibrates hl _ 2)

/-- SLICE_FAILED and ADC_STATUS of a port that one slice failed at most, as its calibration writes them. -/
theorem State.passNoted_leaves (n : State) (l : Nat) (fits : List SliceFit) (st : W32) :
    let t := (n.setJournal .fm (adcAddr l 0x18) (badMask fits)).setJournal .fm (adcAddr l 4) (calPassed st)
    Calibrates (fun a => a = adcAddr l 0x18 ∨ a = adcAddr l 4) n t ∧ t.reg (adcAddr l 0x18) = badMask fits ∧
      t.reg (adcAddr l 4) = calPassed st := by
  have hfm : ∀ off, adcAddr l off ≠ ctrlAddr .fm 8 := fun off => ne_ctrlAddr_of_tile (le_adcAddr l off)
  obtain ⟨hmask, hmaskv⟩ := State.setJournal_leaves n (hfm 0x18) (badMask fits)
  obtain ⟨hstatus, hstatusv⟩ := State.setJournal_leaves (n.setJournal .fm (adcAddr l 0x18) (badMask fits)) (hfm 4) (calPassed st)
  exact ⟨(hmask.mono fun _ => .inl).trans (hstatus.mono fun _ => .inr),
    (hstatus.regs _ (adcAddr_ne (by decide)) (hfm 0x18)).trans hmaskv, hstatusv⟩

theorem State.dwellBegin_calibrates {w : Nat → Prop} (s : State) (l : Nat) : Calibrates w s (s.dwellBegin l) := .tables s rfl

theorem State.dwellBegin_reg (s : State) (l a : Nat) : (s.dwellBegin l).reg a = s.reg a := rfl

/-- A calibration at which one slice of the port failed at most. -/
theorem State.calPort_pass (hl : l < 64) (hd : fits.Pairwise (fun f g => f.slice ≠ g.slice)) (s : State) (hfew : (badSlices fits).length ≤ 1) :
    Calibrates (inAdc l) s (s.calPort l fits) ∧ FitsWritten l fits (s.calPort l fits) := by
  obtain ⟨-, hnoted, hvalues⟩ := State.fitsNoted_calibrates hl hd s
  rw [State.calPort_eq, if_pos hfew]
  obtain ⟨hwritten, hmask, hstatus⟩ := State.passNoted_leaves (s.fitsNoted l fits) l fits ((s.journalAll (goodRegs l fits)).reg (adcAddr l 4))
  generalize ((s.fitsNoted l fits).setJournal .fm (adcAddr l 0x18) (badMask fits)).setJournal .fm (adcAddr l 4) _ = v at hwritten hmask hstatus
  have hfailed := State.failedSlices_le hmask
  have hown : Calibrates (inAdc l) s v := hnoted.trans (hwritten.mono fun a ha => by
    obtain rfl | rfl := ha <;> exact inAdc_adcAddr (by decide))
  obtain ⟨hno11, hno10, hdone⟩ := getLsbD_calPassed ((s.journalAll (goodRegs l fits)).reg (adcAddr l 4))
  refine ⟨(hown.trans (State.judgeSlices_calibrates hl v)).trans (State.dwellBegin_calibrates _ l), ?_, fun h => ?_, fun hgood => ?_⟩
  · rw [State.bit, State.dwellBegin_reg, ← State.bit, State.judgeSlices_fault_kept (hfailed.trans hfew), State.bit, hstatus, hno11]
    exact (decide_eq_false (by rw [← length_badSlices hd]; omega)).symm
  · rw [← length_badSlices hd] at h
    omega
  · have hnone := badSlices_of_good hgood
    have hfits : s.fitsNoted l fits = s.journalAll (goodRegs l fits) := if_pos (by rw [hnone]; rfl)
    rw [hnone] at hfailed
    rw [State.judgeSlices_none (List.length_eq_zero_iff.mp (Nat.le_zero.mp hfailed))]
    refine ⟨?_, ?_, ?_, fun f hf r hr => ?_⟩
    · rw [State.dwellBegin_reg, hmask, badMask, hnone]
      rfl
    · rw [State.bit, State.dwellBegin_reg, hstatus, hno10]
    · rw [State.bit, State.dwellBegin_reg, hstatus, hdone]
    · have hmem : r ∈ goodRegs l fits := List.mem_flatMap.mpr ⟨f, List.mem_filter.mpr ⟨hf, hgood f hf⟩, hr⟩
      obtain ⟨off, hlo, -, haddr⟩ := mem_goodRegs hmem
      have hother : ¬ (r.1 = adcAddr l 0x18 ∨ r.1 = adcAddr l 4) := by
        rw [haddr]
        exact not_or.mpr ⟨adcAddr_ne (by omega), adcAddr_ne (by omega)⟩
      rw [State.dwellBegin_reg, hwritten.regs _ hother (haddr ▸ ne_ctrlAddr_of_tile (le_adcAddr l off)), hfits, hvalues r hmem]

/-- A calibration at which two slices of the port failed or more. -/
theorem State.calPort_fail (hl : l < 64) (hd : fits.Pairwise (fun f g => f.slice ≠ g.slice)) (s : State) (hmany : 2 ≤ (badSlices fits).length) :
    Calibrates (inAdc l) s (s.calPort l fits) ∧ FitsWritten l fits (s.calPort l fits) := by
  obtain ⟨-, hnoted, -⟩ := State.fitsNoted_calibrates hl hd s
  rw [State.calPort_eq, if_neg (by omega)]
  obtain ⟨hmask, hmaskv⟩ := State.setJournal_leaves (s.fitsNoted l fits) (ne_ctrlAddr_of_tile (le_adcAddr l 0x18))
    ((s.fitsNoted l fits).reg (adcAddr l 0x18) ||| badMask fits)
  generalize (s.fitsNoted l fits).setJournal .fm (adcAddr l 0x18) _ = v at hmask hmaskv
  have hown : Calibrates (inAdc l) s v := hnoted.trans (hmask.mono fun a ha => ⟨0x18, by decide, ha⟩)
  obtain ⟨hfaulted, hfault, hflag⟩ := State.portFaulted_leaves hl v
  rw [State.judgeSlices_more (hmany.trans (State.le_failedSlices hmaskv))]
  refine ⟨hown.trans hfaulted, ?_, fun _ => hflag, fun hgood => ?_⟩
  · rw [hfault]
    exact (decide_eq_true (by rw [← length_badSlices hd]; exact hmany)).symm
  · rw [badSlices_of_good hgood] at hmany
    exact absurd hmany (by decide)

theorem State.calPort_leaves (hl : l < 64) (hd : fits.Pairwise (fun f g => f.slice ≠ g.slice)) (s : State) :
    Calibrates (inAdc l) s (s.calPort l fits) ∧ FitsWritten l fits (s.calPort l fits) := by
  by_cases hfew : (badSlices fits).length ≤ 1
  · exact State.calPort_pass hl hd s hfew
  · exact State.calPort_fail hl hd s (by omega)

end

end Sys2Proof.Machine

namespace Sys2Proof.Machine

/-! ## A read-out tile's calibration is done (R143, R144) -/

theorem FitsWritten.of_kept {l : Nat} {fits : List SliceFit} {s t : State} (h : FitsWritten l fits s)
    (hbits : ∀ b, b < 32 → b ≠ 8 → t.bit (adcAddr l 4) b = s.bit (adcAddr l 4) b)
    (hregs : ∀ off, off < 0x200 → off ≠ 4 → off ≠ 0x1C → t.reg (adcAddr l off) = s.reg (adcAddr l off)) : FitsWritten l fits t := by
  refine ⟨(hbits 11 (by decide) (by decide)).trans h.fault, fun hmany => ?_, fun hgood => ?_⟩
  · rw [State.bit, hregs 8 (by decide) (by decide) (by decide)]
    exact h.calFail hmany
  · obtain ⟨hnone, hspare, hdone, hfactors⟩ := h.passed hgood
    refine ⟨(hregs 0x18 (by decide) (by decide) (by decide)).trans hnone, (hbits 10 (by decide) (by decide)).trans hspare,
      (hbits 7 (by decide) (by decide)).trans hdone, fun f hf r hr => ?_⟩
    obtain ⟨off, hlo, hhi, haddr⟩ := mem_sliceRegs hr
    have hslice := f.slice.isLt
    rw [haddr, hregs off (by omega) (by omega) (by omega), ← haddr]
    exact hfactors f hf r hr

/-- A port at the end of its calibration: its fits, the block in CAL_BLOCK, and CAL_RUNNING cleared. -/
def State.portCalibrated (s : State) (l : Nat) (fits : List SliceFit) : State :=
  ((s.calPort l fits).setJournal .fm (adcAddr l 0x1C) (s.calPort l fits).pin).setBit (adcAddr l 4) 8 false

/-- What the end of a port's calibration at block b leaves in its registers. -/
structure PortCalibrated (l : Nat) (fits : List SliceFit) (b : W32) (t : State) : Prop where
  idle : t.bit (adcAddr l 4) 8 = false
  block : t.reg (adcAddr l 0x1C) = b
  written : FitsWritten l fits t

theorem PortCalibrated.of_regs {l : Nat} {fits : List SliceFit} {b : W32} {s t : State} (h : PortCalibrated l fits b s)
    (hregs : ∀ a, inAdc l a → t.reg a = s.reg a) : PortCalibrated l fits b t := by
  have hbits : ∀ i, t.bit (adcAddr l 4) i = s.bit (adcAddr l 4) i := fun i => by
    rw [State.bit, hregs _ (inAdc_adcAddr (by decide)), State.bit]
  exact ⟨(hbits 8).trans h.idle, (hregs _ (inAdc_adcAddr (by decide))).trans h.block,
    h.written.of_kept (fun i _ _ => hbits i) fun off hoff _ _ => hregs _ (inAdc_adcAddr hoff)⟩

theorem State.portCalibrated_leaves {l : Nat} {fits : List SliceFit} (hl : l < 64) (hd : fits.Pairwise (fun f g => f.slice ≠ g.slice))
    (s : State) : Calibrates (inAdc l) s (s.portCalibrated l fits) ∧ PortCalibrated l fits s.pin (s.portCalibrated l fits) := by
  obtain ⟨hcal, hfits⟩ := State.calPort_leaves hl hd s
  unfold State.portCalibrated
  rw [hcal.pin]
  generalize s.calPort l fits = u at hcal hfits
  have hfm : ∀ off, adcAddr l off ≠ ctrlAddr .fm 8 := fun off => ne_ctrlAddr_of_tile (le_adcAddr l off)
  obtain ⟨hblock, hblockv⟩ := State.setJournal_leaves u (hfm 0x1C) s.pin
  generalize u.setJournal .fm (adcAddr l 0x1C) s.pin = v at hblock hblockv
  have hvreg : ∀ off, off ≠ 0x1C → v.reg (adcAddr l off) = u.reg (adcAddr l off) := fun off hoff => hblock.regs _ (adcAddr_ne hoff) (hfm off)
  have hregs : ∀ off, off ≠ 4 → (v.setBit (adcAddr l 4) 8 false).reg (adcAddr l off) = v.reg (adcAddr l off) := fun off hoff =>
    State.reg_setBit v _ 8 false _ (adcAddr_ne hoff)
  refine ⟨(hcal.trans (hblock.mono fun a ha => ⟨0x1C, by decide, ha⟩)).trans (Calibrates.setBit v (inAdc_adcAddr (by decide)) 8 false), ?_, ?_,
    hfits.of_kept (fun b hb h8 => ?_) fun off _ h4 h1C => (hregs off h4).trans (hvreg off h1C)⟩
  · exact (State.bit_setBit v _ 8 false _ 8 (by decide)).trans (if_pos ⟨rfl, rfl⟩)
  · exact (hregs 0x1C (by decide)).trans hblockv
  · rw [State.bit_setBit _ _ _ _ _ _ hb, if_neg (fun h => h8 h.2), State.bit, hvreg 4 (by decide), State.bit]

/-- The fits of port p of a tile. -/
def portFits (fits : List SliceFit) (p : Fin 4) : List SliceFit := fits.filter (fun f => f.port == p)

theorem mem_portFits {fits : List SliceFit} {p : Fin 4} {f : SliceFit} : f ∈ portFits fits p ↔ f ∈ fits ∧ f.port = p := by
  simp [portFits]

theorem portFits_pairwise {fits : List SliceFit} (h : fitsOnce fits) (p : Fin 4) :
    (portFits fits p).Pairwise (fun f g => f.slice ≠ g.slice) := by
  refine (List.Pairwise.filter _ h).imp_of_mem fun {f g} hf hg hne hslice => hne ⟨?_, hslice⟩
  rw [(mem_portFits.mp hf).2, (mem_portFits.mp hg).2]

theorem portFits_bad (fits : List SliceFit) (p : Fin 4) :
    (portFits fits p).filter (fun f => !SliceFit.good f) = fits.filter (fun f => f.port == p && !SliceFit.good f) := by
  rw [portFits, List.filter_filter]
  exact List.filter_congr fun f _ => Bool.and_comm _ _

/-- The four ports of read-out tile 16 + k at the end of their calibration. -/
def State.portsCalibrated (s : State) (k : Fin 16) (fits : List SliceFit) : State :=
  foldS (List.finRange 4) (fun p s => s.portCalibrated (4 * k.val + p.val) (portFits fits p)) s

theorem State.portsCalibrated_leaves {fits : List SliceFit} (h : fitsOnce fits) (k : Fin 16) (s : State) :
    Calibrates (fun a => ∃ l, inAdc l a) s (s.portsCalibrated k fits) ∧
      ∀ p : Fin 4, PortCalibrated (4 * k.val + p.val) (portFits fits p) s.pin (s.portsCalibrated k fits) := by
  have hpass := fun (p : Fin 4) (u : State) =>
    State.portCalibrated_leaves (l := 4 * k.val + p.val) (by omega) (portFits_pairwise h p) u
  have hloop : ∀ (w : Nat → Prop) (l : List (Fin 4)), (∀ p ∈ l, ∀ a, inAdc (4 * k.val + p.val) a → w a) → ∀ u : State,
      Calibrates w u (foldS l (fun p s => s.portCalibrated (4 * k.val + p.val) (portFits fits p)) u) := fun w l hw u =>
    foldS_rel (Calibrates w) .refl (fun _ _ _ => .trans) _ l (fun p hp v => (hpass p v).1.mono (hw p hp)) u
  refine ⟨hloop _ _ (fun p _ a ha => ⟨_, ha⟩) s, fun p => ?_⟩
  obtain ⟨l₁, l₂, -, hafter, hsplit⟩ := foldS_around (f := fun p s => s.portCalibrated (4 * k.val + p.val) (portFits fits p))
    (List.nodup_finRange 4) (List.mem_finRange p) s
  have hearlier := hloop (fun _ => True) l₁ (fun _ _ _ _ => trivial) s
  have hlater := hloop (fun a => ¬ inAdc (4 * k.val + p.val) a) l₂ (fun q hq a ha => not_inAdc_of_ne
    (fun heq => (hafter q hq).2 (Fin.ext (by omega))) ha)
  rw [State.portsCalibrated, hsplit]
  generalize foldS l₁ _ s = u at hearlier
  obtain ⟨-, hport⟩ := hpass p u
  rw [hearlier.pin] at hport
  refine hport.of_regs fun a ha => (hlater _).regs a (fun hna => hna ha) ?_
  obtain ⟨off, -, rfl⟩ := ha
  exact ne_ctrlAddr_of_tile (le_adcAddr _ off)

/-- Clearings of ENABLE whose block has come: ADC_STATUS and the windows (R157). -/
theorem State.adcSettle_calibrates (s : State) : Calibrates (fun _ => True) s s.adcSettle := by
  unfold State.adcSettle
  dsimp only
  split
  · exact .refl s
  · refine (Calibrates.tables s (h := { s.hem with adcOff := s.hem.adcOff.filter (fun r => !bge s.pin r.2) }) rfl).trans
      (foldS_rel (Calibrates fun _ => True) .refl (fun _ _ _ => .trans) _ _ (fun r _ u => ?_) _)
    have hlogged : Calibrates (fun _ => True) u (u.logPast (u.block64 r.2) .reg (adcAddr r.1 4) (u.reg (adcAddr r.1 4))) := .unseen rfl
    exact (hlogged.trans (Calibrates.setBit _ trivial 6 false)).trans (State.portUnavailable_calibrates _ r.1 r.2)

/-- Tile n is no longer under calibration. -/
def State.calEnded (s : State) (n : Nat) : State := { s with hem := { s.hem with calRun := tabDel n s.hem.calRun } }

/-- Between s and t tile n left the calibration: engines, memory, what was sent and all of the FM's routine but its journal stand. -/
structure LeavesCal (n : Nat) (s t : State) : Prop where
  engines : t.engines = s.engines
  mem : t.mem = s.mem
  sent : t.sent = s.sent
  calRun : tabFind t.hem.calRun n = none
  routine : ∀ l, s.cmd.fm = some l → ∃ j, t.cmd.fm = some { l with journal := j }

theorem LeavesCal.of_calEnded {w w' : Nat → Prop} {n : Nat} {s u t : State} {b : W32} (h : Calibrates w (s.advanceTo b) u)
    (k : Calibrates w' (u.calEnded n) t) : LeavesCal n s t := by
  have hadv := State.advanceTo_frame s b
  refine ⟨k.engines.trans (h.engines.trans (by rw [hadv])), k.mem.trans (h.mem.trans (by rw [hadv])),
    k.sent.trans (h.sent.trans (by rw [hadv])), ?_, fun l hl => ?_⟩
  · rw [k.calRun, State.calEnded, tabFind_tabDel, if_pos rfl]
  · obtain ⟨i, hi⟩ := h.routine l (by rw [hadv]; exact hl)
    obtain ⟨j, hj⟩ := k.routine _ hi
    exact ⟨j, hj⟩

/-- The routine is then done with the tile, and nothing that the tile's calibration left changes. -/
theorem LeavesCal.tileDone {n : Nat} {s u : State} (h : LeavesCal n s u) {l : Long} (hl : s.cmd.fm = some l) (failed : Bool) :
    let t := u.tileDone n failed
    tabFind t.hem.calRun n = none ∧ (∀ e, t.eng e = s.eng e) ∧ s.sameMem t ∧ t.hem = u.hem ∧ t.pin = u.pin ∧
      (∀ a, emitReg a = false → a ≠ ctrlAddr .fm 8 → t.reg a = u.reg a) ∧
      (∀ c ∈ l.tiles, c ≠ n → t.cmd.fm.map (·.tiles) = some (l.tiles.filter (· != n))) ∧
      ((∀ c ∈ l.tiles, c = n) → t.cmd.fm = none ∧
        (l.answered = false → ackReq l.h = true → s.answers t l.h l.op.toNat (if l.failed || failed then stInternal else stOk) [])) := by
  obtain ⟨j, hj⟩ := h.routine l hl
  obtain ⟨hemits, hmore, hlast⟩ := State.tileDone_leaves hj n failed
  have hhem : (u.tileDone n failed).hem = u.hem := by rw [hemits.frame]
  refine ⟨by rw [hhem]; exact h.calRun, fun e => ?_, fun a => ?_, hhem, State.pin_of_clk hemits.clk,
    fun a he ha => hemits.regs a (by simpa using ha) he, hmore, fun hall => ?_⟩
  · rw [hemits.eng, State.eng, h.engines, State.eng]
  · rw [hemits.byte, State.byte_of_mem h.mem]
  · obtain ⟨hnone, hanswer⟩ := hlast hall
    exact ⟨hnone, fun hunanswered hack => (hanswer hunanswered hack).earlier ⟨[], by rw [h.sent, List.append_nil]⟩⟩

theorem exec_readoutCalTileDone {s : State} {k : Fin 16} {b : W32} (fits : List SliceFit) (h : tabFind s.hem.calRun (16 + k.val) = some b) :
    exec (.readoutCalTileDone k fits) s =
      let u := ((s.advanceTo b).adcSettle.calEnded (16 + k.val)).portsCalibrated k fits
      .next (u.tileDone (16 + k.val) ((List.range 4).any (fun p => u.bit (adcAddr (4 * k.val + p) 4) 11))) := by
  show execReadoutCalTileDone k fits s = _
  unfold execReadoutCalTileDone
  rw [h]
  rfl

/-- A tile failed where FAULT shows at one of its ports: two of its fits or more failed (R144). -/
theorem fault_any {u : State} {k : Fin 16} {fits : List SliceFit} {b : W32}
    (h : ∀ p : Fin 4, PortCalibrated (4 * k.val + p.val) (portFits fits p) b u) :
    (List.range 4).any (fun p => u.bit (adcAddr (4 * k.val + p) 4) 11) =
      (List.finRange 4).any (fun p => decide (2 ≤ (fits.filter (fun f => f.port == p && !SliceFit.good f)).length)) := by
  have hrange : List.range 4 = (List.finRange 4).map Fin.val := by decide
  rw [hrange, List.any_map]
  refine List.any_congr rfl fun p => ?_
  rw [← portFits_bad]
  exact (h p).written.fault

end Sys2Proof.Machine

namespace Sys2Proof.Machine

/-! ## A flux port's factors (R386, R387) -/

/-- The registers and values of a flux port's fits. -/
def fluxRegs (p : Nat) (fits : List FluxFit) : List (Nat × W32) :=
  fits.flatMap (fun f => [(portAddr p (0x100 + 8 * f.r.val), (BitVec.ofInt 18 f.offset).setWidth 32),
    (portAddr p (0x104 + 8 * f.r.val), (BitVec.ofInt 18 f.gain).setWidth 32)])

/-- A factor register of flux port p. -/
def isFactor (p a : Nat) : Prop := ∃ off, 0x100 ≤ off ∧ off < 0x120 ∧ a = portAddr p off

theorem le_portAddr (p off : Nat) : 0x20000000 ≤ portAddr p off := by
  unfold portAddr tileBase
  omega

theorem le_of_isFactor {p a : Nat} (h : isFactor p a) : 0x20000000 ≤ a := by
  obtain ⟨off, -, -, rfl⟩ := h
  exact le_portAddr p off

theorem isFactor_of_fluxRegs {p : Nat} {fits : List FluxFit} {r : Nat × W32} (h : r ∈ fluxRegs p fits) : isFactor p r.1 := by
  obtain ⟨f, -, hr⟩ := List.mem_flatMap.mp h
  have hlt := f.r.isLt
  simp only [List.mem_cons, List.not_mem_nil, or_false] at hr
  obtain rfl | rfl := hr
  · exact ⟨0x100 + 8 * f.r.val, by omega, by omega, rfl⟩
  · exact ⟨0x104 + 8 * f.r.val, by omega, by omega, rfl⟩

/-- A fit names the two factors of its mode and range. -/
theorem mem_fluxRegs (p : Nat) {fits : List FluxFit} {f : FluxFit} (hf : f ∈ fits) :
    (portAddr p (0x100 + 8 * f.r.val), (BitVec.ofInt 18 f.offset).setWidth 32) ∈ fluxRegs p fits ∧
      (portAddr p (0x104 + 8 * f.r.val), (BitVec.ofInt 18 f.gain).setWidth 32) ∈ fluxRegs p fits :=
  ⟨List.mem_flatMap.mpr ⟨f, hf, List.mem_cons_self⟩, List.mem_flatMap.mpr ⟨f, hf, List.mem_cons_of_mem _ List.mem_cons_self⟩⟩

theorem fluxRegs_pairwise {fits : List FluxFit} (hd : fits.Pairwise (fun f g => f.r ≠ g.r)) (p : Nat) :
    (fluxRegs p fits).Pairwise (fun r q => r.1 ≠ q.1) := by
  refine List.pairwise_flatMap.mpr ⟨fun f _ => ?_, hd.imp fun {f g} hne r hr q hq => ?_⟩
  · simp only [List.pairwise_cons, List.mem_cons, List.not_mem_nil, or_false, forall_eq, false_imp_iff, implies_true, List.Pairwise.nil,
      and_true]
    exact portAddr_ne (by omega)
  · have hval : f.r.val ≠ g.r.val := fun h => hne (Fin.ext h)
    simp only [List.mem_cons, List.not_mem_nil, or_false] at hr hq
    obtain rfl | rfl := hr <;> obtain rfl | rfl := hq <;> exact portAddr_ne (by omega)

theorem portAddr_flux (m : Nat) {i : Nat} (hi : i < 16) (off : Nat) :
    portAddr (192 + 16 * m + i) off = tileBase (32 + m) + 0xC200 + 0x200 * i + off := by
  have htile : tileOfPort (192 + 16 * m + i) = 32 + m := by
    unfold tileOfPort
    rw [if_neg (by omega), if_neg (by omega)]
    omega
  have hidx : idxOfPort (192 + 16 * m + i) = i := by
    unfold idxOfPort
    rw [if_neg (by omega), if_neg (by omega)]
    omega
  rw [portAddr, htile, hidx]

/-- Two flux ports of a tile share no factor register. -/
theorem not_isFactor_of_ne {m i j a : Nat} (hi : i < 16) (hj : j < 16) (hne : i ≠ j) (ha : isFactor (192 + 16 * m + i) a) :
    ¬ isFactor (192 + 16 * m + j) a := by
  obtain ⟨off, hlo, hhi, rfl⟩ := ha
  rintro ⟨off', hlo', hhi', heq⟩
  rw [portAddr_flux m hi, portAddr_flux m hj] at heq
  omega

/-- PORT_STATUS is no factor register. -/
theorem not_isFactor_portStatus (p q : Nat) : ¬ isFactor p (portAddr q 4) := by
  rintro ⟨off, hlo, hhi, heq⟩
  unfold portAddr tileBase at heq
  omega

theorem fhFlags_field : isFieldSource fhFlags.source = true := by decide

theorem fhFlags_ne_of_tile {a : Nat} (h : 0x20000000 ≤ a) : a ≠ fhFlags.addr := by
  have hfh : fhFlags.addr = 0x10050008 := rfl
  omega

theorem State.journalAll_pair (s : State) (r q : Nat × W32) : s.journalAll [r, q] = (s.setJournal .fm r.1 r.2).setJournal .fm q.1 q.2 := rfl

theorem foldS_fluxFactors (p : Nat) (fits : List FluxFit) (s : State) :
    foldS fits (fun f s => (s.setJournal .fm (portAddr p (0x100 + 8 * f.r.val)) ((BitVec.ofInt 18 f.offset).setWidth 32)).setJournal .fm
      (portAddr p (0x104 + 8 * f.r.val)) ((BitVec.ofInt 18 f.gain).setWidth 32)) s = s.journalAll (fluxRegs p fits) := by
  induction fits generalizing s with
  | nil => rfl
  | cons f fits ih =>
    rw [foldS_cons, ih]
    unfold fluxRegs
    rw [List.flatMap_cons, State.journalAll_append, State.journalAll_pair]

theorem State.calFlux_eq (s : State) (p : Nat) (fits : List FluxFit) :
    s.calFlux p fits = if fits.all FluxFit.inRange then s.journalAll (fluxRegs p fits) else s.flag fhFlags 7 := by
  rw [← foldS_fluxFactors]
  rfl

/-- What the calibration of a flux port leaves from s to t (R387): the factors, where every fit lies in its field; else the factors of s, and
FLUX_CAL_FAIL. -/
structure FluxCalibrated (p : Nat) (fits : List FluxFit) (s t : State) : Prop where
  written : (∀ f ∈ fits, FluxFit.inRange f = true) → ∀ r ∈ fluxRegs p fits, t.reg r.1 = r.2
  failed : (∃ f ∈ fits, FluxFit.inRange f = false) → t.bit fhFlags.addr 7 = true ∧ ∀ a, isFactor p a → t.reg a = s.reg a

theorem FluxCalibrated.of_regs {p : Nat} {fits : List FluxFit} {s u t v : State} (h : FluxCalibrated p fits u t)
    (hbefore : ∀ a, isFactor p a → u.reg a = s.reg a) (hafter : ∀ a, isFactor p a → v.reg a = t.reg a)
    (hflag : t.bit fhFlags.addr 7 = true → v.bit fhFlags.addr 7 = true) : FluxCalibrated p fits s v :=
  ⟨fun hall r hr => (hafter _ (isFactor_of_fluxRegs hr)).trans (h.written hall r hr),
    fun hsome => ⟨hflag (h.failed hsome).1, fun a ha => (hafter a ha).trans (((h.failed hsome).2 a ha).trans (hbefore a ha))⟩⟩

theorem State.calFlux_leaves {fits : List FluxFit} (hd : fits.Pairwise (fun f g => f.r ≠ g.r)) (p : Nat) (s : State) :
    Calibrates (fun a => isFactor p a ∨ a = fhFlags.addr) s (s.calFlux p fits) ∧ FluxCalibrated p fits s (s.calFlux p fits) ∧
      (s.bit fhFlags.addr 7 = true → (s.calFlux p fits).bit fhFlags.addr 7 = true) := by
  rw [State.calFlux_eq]
  split
  · rename_i hall
    obtain ⟨hwritten, hvalues⟩ := State.journalAll_leaves (fun r hr => ne_ctrlAddr_of_tile (le_of_isFactor (isFactor_of_fluxRegs hr)))
      (fluxRegs_pairwise hd p) s
    have hfactors : Calibrates (isFactor p) s (s.journalAll (fluxRegs p fits)) :=
      hwritten.mono fun a ⟨r, hr, ha⟩ => ha ▸ isFactor_of_fluxRegs hr
    refine ⟨hfactors.mono fun _ => .inl, ⟨fun _ => hvalues, fun ⟨f, hf, hbad⟩ => ?_⟩, fun hset => ?_⟩
    · exact absurd ((List.all_eq_true.mp hall f hf).symm.trans hbad) (by decide)
    · rw [State.bit, hfactors.regs _ (fun h => fhFlags_ne_of_tile (le_of_isFactor h) rfl) (by decide)]
      exact hset
  · rename_i hsome
    refine ⟨Calibrates.flag s fhFlags_field (.inr rfl) 7, ⟨fun hall => absurd (List.all_eq_true.mpr hall) hsome, fun _ => ⟨?_, fun a ha => ?_⟩⟩,
      fun hset => State.bit_flag_kept fhFlags_field hset 7⟩
    · exact State.bit_flag_of_field fhFlags_field s (by decide)
    · exact State.reg_flag_of_field fhFlags_field s 7 (fhFlags_ne_of_tile (le_of_isFactor ha))

/-! ## The ports of a flux tile (R387) -/

/-- The fits of port i of a flux tile. -/
def fluxFits (fits : List FluxFit) (i : Fin 16) : List FluxFit := fits.filter (fun f => f.port == i)

theorem mem_fluxFits {fits : List FluxFit} {i : Fin 16} {f : FluxFit} : f ∈ fluxFits fits i ↔ f ∈ fits ∧ f.port = i := by
  simp [fluxFits]

theorem fluxFits_pairwise {fits : List FluxFit} (h : fits.Pairwise (fun f g => ¬(f.port = g.port ∧ f.r = g.r))) (i : Fin 16) :
    (fluxFits fits i).Pairwise (fun f g => f.r ≠ g.r) := by
  refine (List.Pairwise.filter _ h).imp_of_mem fun {f g} hf hg hne hr => hne ⟨?_, hr⟩
  rw [(mem_fluxFits.mp hf).2, (mem_fluxFits.mp hg).2]

/-- The sixteen ports of flux tile 32 + m take their fits. -/
def State.portsFitted (s : State) (m : Fin 16) (fits : List FluxFit) : State :=
  foldS (List.finRange 16) (fun i s => s.calFlux (192 + 16 * m.val + i.val) (fluxFits fits i)) s

/-- The factor registers of a flux tile's ports, and FH_FLAGS. -/
def isTileFactor (m : Fin 16) (a : Nat) : Prop := (∃ i : Fin 16, isFactor (192 + 16 * m.val + i.val) a) ∨ a = fhFlags.addr

theorem State.portsFitted_leaves {fits : List FluxFit} (h : fits.Pairwise (fun f g => ¬(f.port = g.port ∧ f.r = g.r))) (m : Fin 16) (s : State) :
    Calibrates (isTileFactor m) s (s.portsFitted m fits) ∧
      ∀ i : Fin 16, FluxCalibrated (192 + 16 * m.val + i.val) (fluxFits fits i) s (s.portsFitted m fits) := by
  have hpass := fun (i : Fin 16) (u : State) => State.calFlux_leaves (fluxFits_pairwise h i) (192 + 16 * m.val + i.val) u
  have hloop : ∀ (w : Nat → Prop) (l : List (Fin 16)), (∀ i ∈ l, ∀ a, isFactor (192 + 16 * m.val + i.val) a ∨ a = fhFlags.addr → w a) →
      ∀ u : State, Calibrates w u (foldS l (fun i s => s.calFlux (192 + 16 * m.val + i.val) (fluxFits fits i)) u) := fun w l hw u =>
    foldS_rel (Calibrates w) .refl (fun _ _ _ => .trans) _ l (fun i hi v => (hpass i v).1.mono (hw i hi)) u
  have hflag : ∀ (l : List (Fin 16)) (u : State), u.bit fhFlags.addr 7 = true →
      (foldS l (fun i s => s.calFlux (192 + 16 * m.val + i.val) (fluxFits fits i)) u).bit fhFlags.addr 7 = true := fun l u =>
    foldS_rel (fun s t => s.bit fhFlags.addr 7 = true → t.bit fhFlags.addr 7 = true) (fun _ => id) (fun _ _ _ h k => k ∘ h) _ l
      (fun i _ v => (hpass i v).2.2) u
  refine ⟨hloop _ _ (fun i _ a ha => ha.imp_left fun ha => ⟨i, ha⟩) s, fun i => ?_⟩
  obtain ⟨l₁, l₂, hbefore, hafter, hsplit⟩ := foldS_around (f := fun i s => s.calFlux (192 + 16 * m.val + i.val) (fluxFits fits i))
    (List.nodup_finRange 16) (List.mem_finRange i) s
  have hothers : ∀ l : List (Fin 16), (∀ j ∈ l, j ≠ i) → ∀ (u : State) (a : Nat), isFactor (192 + 16 * m.val + i.val) a →
      (foldS l (fun i s => s.calFlux (192 + 16 * m.val + i.val) (fluxFits fits i)) u).reg a = u.reg a := fun l hl u a ha => by
    refine (hloop (fun a => ¬ isFactor (192 + 16 * m.val + i.val) a) l (fun j hj b hb => ?_) u).regs a (fun hna => hna ha)
      (ne_ctrlAddr_of_tile (le_of_isFactor ha))
    obtain hb | rfl := hb
    · exact not_isFactor_of_ne j.isLt i.isLt (fun heq => hl j hj (Fin.ext heq)) hb
    · exact fun hfactor => fhFlags_ne_of_tile (le_of_isFactor hfactor) rfl
  rw [State.portsFitted, hsplit]
  exact (hpass i _).2.1.of_regs (hothers l₁ (fun j hj => (hbefore j hj).2) s) (hothers l₂ (fun j hj => ((hafter j hj).2).symm) _) (hflag l₂ _)

/-! ## The clamps of a calibration end (R131, R387) -/

/-- No clamp that a calibration of a tile began is put there anew. -/
def noNewCal (s t : State) : Prop := ∀ n, (∀ c ∈ s.hem.clamps, Clamp.isCal n c = false) → ∀ c ∈ t.hem.clamps, Clamp.isCal n c = false

/-- A register that holds a port's status. -/
def isPortStatus (a : Nat) : Prop := ∃ p, a = portAddr p 4

theorem State.showClamp_calibrates (s : State) (p : Nat) : Calibrates isPortStatus s (s.showClamp p) := by
  unfold State.showClamp
  split
  · exact Calibrates.setBit s ⟨p, rfl⟩ 5 _
  · exact .refl s

theorem State.noteCode_calibrates {w : Nat → Prop} (s : State) (p : Nat) : Calibrates w s (s.noteCode p) :=
  .unseen (by rw [State.noteCode_frame])

theorem State.clampNow_calibrates (s : State) (p : Nat) : Calibrates isPortStatus s (s.clampNow p) :=
  (s.showClamp_calibrates p).trans (State.noteCode_calibrates _ p)

theorem State.wakeUp_calibrates (s : State) (p : Nat) :
    Calibrates isPortStatus s (s.wakeUp p) ∧ noNewCal s (s.wakeUp p) := by
  unfold State.wakeUp
  split
  · refine ⟨.tables s rfl, fun n hn c hc => ?_⟩
    obtain ⟨d, hd, rfl⟩ := List.mem_map.mp hc
    rw [← hn d hd]
    split <;> rfl
  · refine ⟨Calibrates.setBit s ⟨p, rfl⟩ 2 true, fun n hn => ?_⟩
    rw [State.setBit_hem]
    exact hn

theorem State.clampOver_calibrates (s : State) (c : Clamp) :
    Calibrates isPortStatus s (s.clampOver c) ∧ noNewCal s (s.clampOver c) := by
  have hwoken : Calibrates isPortStatus s (if c.wasAwake then s.wakeUp c.port else s) ∧
      noNewCal s (if c.wasAwake then s.wakeUp c.port else s) := by
    split
    · exact s.wakeUp_calibrates c.port
    · exact ⟨.refl s, fun _ hn => hn⟩
  unfold State.clampOver
  generalize (if c.wasAwake then s.wakeUp c.port else s) = u at hwoken
  obtain ⟨hcal, hnone⟩ := hwoken
  refine ⟨hcal.trans (u.clampNow_calibrates c.port), fun n hn => ?_⟩
  rw [(u.clampNow_kept c.port).2]
  exact hnone n hn

/-- The ports of the tile leave the calibration's clamp: the status of ports changes, and no clamp of a calibration of the tile is left. -/
theorem State.endCalClamps_leaves (s : State) (n : Nat) :
    Calibrates isPortStatus s (s.endCalClamps n) ∧ ∀ c ∈ (s.endCalClamps n).hem.clamps, Clamp.isCal n c = false := by
  let u : State := { s with hem := { s.hem with clamps := s.hem.clamps.filter (fun c => !Clamp.isCal n c) } }
  have hu : Calibrates isPortStatus s u := .tables s rfl
  have hnone : ∀ c ∈ u.hem.clamps, Clamp.isCal n c = false := fun c hc => by
    simpa using (List.mem_filter.mp hc).2
  obtain ⟨hcal, hkept⟩ := foldS_rel (fun s t => Calibrates isPortStatus s t ∧ noNewCal s t)
    (fun s => ⟨.refl s, fun _ hn => hn⟩) (fun _ _ _ h k => ⟨h.1.trans k.1, fun n hn => k.2 n (h.2 n hn)⟩) (fun c s => s.clampOver c)
    (s.hem.clamps.filter (Clamp.isCal n)) (fun c _ v => v.clampOver_calibrates c) u
  exact ⟨hu.trans hcal, hkept n hnone⟩

theorem exec_fluxCalTileDone {s : State} {m : Fin 16} {b : W32} (fits : List FluxFit) (h : tabFind s.hem.calRun (32 + m.val) = some b) :
    exec (.fluxCalTileDone m fits) s =
      .next (((((s.advanceTo b).calEnded (32 + m.val)).portsFitted m fits).endCalClamps (32 + m.val)).tileDone (32 + m.val)
        (!fits.all FluxFit.inRange)) := by
  show execFluxCalTileDone m fits s = _
  unfold execFluxCalTileDone
  rw [h]
  rfl

/-! ## READOUT_CAL_TILE_DONE and FLUX_CAL_TILE_DONE -/

/-- A read-out tile's calibration is done (R143, R144). The final status names a failure of the tiles before it or of its own. -/
theorem readoutCalTileDone_leaves {s : State} {k : Fin 16} {fits : List SliceFit} {b : W32} {l : Long}
    (hrun : tabFind s.hem.calRun (16 + k.val) = some b) (hl : s.cmd.fm = some l) (hfits : fitsOnce fits) :
    ∃ t : State, exec (.readoutCalTileDone k fits) s = .next t ∧ tabFind t.hem.calRun (16 + k.val) = none ∧
      (∀ e, t.eng e = s.eng e) ∧ s.sameMem t ∧
      (∀ p : Fin 4, PortCalibrated (4 * k.val + p.val) (portFits fits p) t.pin t) ∧
      (∀ c ∈ l.tiles, c ≠ 16 + k.val → t.cmd.fm.map (·.tiles) = some (l.tiles.filter (· != 16 + k.val))) ∧
      ((∀ c ∈ l.tiles, c = 16 + k.val) → t.cmd.fm = none ∧ (l.answered = false → ackReq l.h = true → s.answers t l.h l.op.toNat
        (if l.failed || (List.finRange 4).any (fun p => decide (2 ≤ (fits.filter (fun f => f.port == p && !SliceFit.good f)).length))
          then stInternal else stOk) [])) := by
  have hsettled := State.adcSettle_calibrates (s.advanceTo b)
  have hexec := exec_readoutCalTileDone fits hrun
  dsimp only at hexec
  generalize (s.advanceTo b).adcSettle = v at hsettled hexec
  obtain ⟨hcal, hports⟩ := State.portsCalibrated_leaves hfits k (v.calEnded (16 + k.val))
  generalize (v.calEnded (16 + k.val)).portsCalibrated k fits = u at hcal hports hexec
  rw [fault_any hports] at hexec
  obtain ⟨hdone, heng, hmem, -, hpin, hregs, hmore, hlast⟩ := (LeavesCal.of_calEnded hsettled hcal).tileDone hl
    ((List.finRange 4).any (fun p => decide (2 ≤ (fits.filter (fun f => f.port == p && !SliceFit.good f)).length)))
  refine ⟨_, hexec, hdone, heng, hmem, fun p => ?_, hmore, hlast⟩
  rw [hpin, hcal.pin]
  refine (hports p).of_regs fun a ⟨off, _, ha⟩ => ?_
  have htile : 0x20000000 ≤ a := ha ▸ le_adcAddr _ off
  exact hregs a (emitReg_below_tiles htile) (ne_ctrlAddr_of_tile htile)

/-- A flux tile's calibration is done (R387). -/
theorem fluxCalTileDone_leaves {s : State} {m : Fin 16} {fits : List FluxFit} {b : W32} {l : Long}
    (hrun : tabFind s.hem.calRun (32 + m.val) = some b) (hl : s.cmd.fm = some l)
    (hfits : fits.Pairwise (fun f g => ¬(f.port = g.port ∧ f.r = g.r))) :
    ∃ t : State, exec (.fluxCalTileDone m fits) s = .next t ∧ tabFind t.hem.calRun (32 + m.val) = none ∧
      (∀ e, t.eng e = s.eng e) ∧ s.sameMem t ∧ (∀ c ∈ t.hem.clamps, Clamp.isCal (32 + m.val) c = false) ∧
      (∀ i : Fin 16, FluxCalibrated (192 + 16 * m.val + i.val) (fluxFits fits i) s t) ∧
      (∀ c ∈ l.tiles, c ≠ 32 + m.val → t.cmd.fm.map (·.tiles) = some (l.tiles.filter (· != 32 + m.val))) ∧
      ((∀ c ∈ l.tiles, c = 32 + m.val) → t.cmd.fm = none ∧ (l.answered = false → ackReq l.h = true → s.answers t l.h l.op.toNat
        (if l.failed || !fits.all FluxFit.inRange then stInternal else stOk) [])) := by
  have hexec := exec_fluxCalTileDone fits hrun
  have hstart : ∀ a, ((s.advanceTo b).calEnded (32 + m.val)).reg a = s.reg a := State.advanceTo_reg s b
  obtain ⟨hcal, hports⟩ := State.portsFitted_leaves hfits m ((s.advanceTo b).calEnded (32 + m.val))
  generalize ((s.advanceTo b).calEnded (32 + m.val)).portsFitted m fits = v at hcal hports hexec
  obtain ⟨hclamps, hnone⟩ := v.endCalClamps_leaves (32 + m.val)
  generalize v.endCalClamps (32 + m.val) = u at hclamps hnone hexec
  have hall : Calibrates (fun _ => True) ((s.advanceTo b).calEnded (32 + m.val)) u :=
    (hcal.mono fun _ _ => trivial).trans (hclamps.mono fun _ _ => trivial)
  have hleaves : LeavesCal (32 + m.val) s u := LeavesCal.of_calEnded (Calibrates.refl (w := fun _ => True) _) hall
  obtain ⟨hdone, heng, hmem, hhem, -, hregs, hmore, hlast⟩ := hleaves.tileDone hl (!fits.all FluxFit.inRange)
  refine ⟨_, hexec, hdone, heng, hmem, by rwa [hhem], fun i => (hports i).of_regs (fun a _ => hstart a) (fun a ha => ?_) (fun hset => ?_),
    hmore, hlast⟩
  · have htile := le_of_isFactor ha
    rw [hregs a (emitReg_below_tiles htile) (ne_ctrlAddr_of_tile htile)]
    exact hclamps.regs a (fun ⟨q, hq⟩ => not_isFactor_portStatus _ q (hq ▸ ha)) (ne_ctrlAddr_of_tile htile)
  · rw [State.bit, hregs _ (by decide) (by decide), hclamps.regs _ (fun ⟨q, hq⟩ => fhFlags_ne_of_tile (le_portAddr q 4) hq.symm) (by decide)]
    exact hset

/-- Settles O28: a port's registers are written in its own pass over the tile and by no other, so FAULT after the last pass tells the ports at
which two slices failed; the tile's end touches the routine and the ways out alone. That a calibration which passes clears NOSPARE is
the model's choice (log entry 97). -/
theorem calibrationTilesComplete : Obligations.CalibrationTilesComplete := by
  unfold Obligations.CalibrationTilesComplete
  constructor
  · intro s k fits b l n hrun hl hfits fault
    obtain ⟨t, hexec, hdone, heng, hmem, hports, hmore, hlast⟩ := readoutCalTileDone_leaves hrun hl hfits
    refine ⟨t, hexec, hdone, heng, hmem, fun p => ?_, hmore, hlast⟩
    obtain ⟨hidle, hblock, hfault, hcalFail, hpassed⟩ := hports p
    rw [portFits_bad] at hfault hcalFail
    refine ⟨hidle, hblock, fun hgood => ?_, fun hmany => ⟨hfault.trans (decide_eq_true hmany), hcalFail hmany⟩⟩
    have hnone : fits.filter (fun f => f.port == p && !SliceFit.good f) = [] := List.filter_eq_nil_iff.mpr fun f hf => by
      simpa using hgood f hf
    obtain ⟨hslices, hspare, hcalDone, hfactors⟩ := hpassed fun f hf => hgood f (mem_portFits.mp hf).1 (mem_portFits.mp hf).2
    rw [hnone] at hfault
    exact ⟨hslices, hfault, hspare, hcalDone, fun f hf hp => hfactors f (mem_portFits.mpr ⟨hf, hp⟩)⟩
  · intro s m fits b l n hrun hl hfits
    obtain ⟨t, hexec, hdone, heng, hmem, hclamps, hports, hmore, hlast⟩ := fluxCalTileDone_leaves hrun hl hfits
    refine ⟨t, hexec, hdone, heng, hmem, fun c hc hcal => ?_, fun i => ⟨fun hall f hf hp => ?_, fun ⟨f, hf, hp, hbad⟩ => ?_⟩, hmore, hlast⟩
    · obtain ⟨htile, hbegun, hlen⟩ := hcal
      have hcal : Clamp.isCal n c = true := by simpa [Clamp.isCal, htile, hbegun, clampBlocks] using hlen
      exact absurd (hcal.symm.trans (hclamps c hc)) (by decide)
    · have hfactors := (hports i).written fun g hg => hall g (mem_fluxFits.mp hg).1 (mem_fluxFits.mp hg).2
      have hmem := mem_fluxRegs (192 + 16 * m.val + i.val) (mem_fluxFits.mpr ⟨hf, hp⟩)
      exact ⟨hfactors _ hmem.1, hfactors _ hmem.2⟩
    · obtain ⟨hset, hkept⟩ := (hports i).failed ⟨f, mem_fluxFits.mpr ⟨hf, hp⟩, hbad⟩
      exact ⟨hset, fun r => ⟨hkept _ ⟨_, by omega, by omega, rfl⟩, hkept _ ⟨_, by omega, by omega, rfl⟩⟩⟩

end Sys2Proof.Machine

namespace Sys2Proof.Machine

/-! ## The read-out ports: what their operations leave (R139, R157) -/

/-- Between s and t the clocks, registers, Hem tables, windows, notices on their way and the memory of the outputs changed, and nothing
else. -/
def State.readoutOnly (s t : State) : Prop :=
  t = { s with clk := t.clk, regs := t.regs, hem := t.hem, synth := t.synth, chans := t.chans, evt := t.evt }

theorem State.readoutOnly.trans {s t u : State} (h : s.readoutOnly t) (k : t.readoutOnly u) : s.readoutOnly u := by
  unfold State.readoutOnly at h k ⊢
  rw [h] at k
  exact k

theorem State.readoutOnly.of_chans {s t : State} (h : t = { s with chans := t.chans }) : s.readoutOnly t := by
  unfold State.readoutOnly
  rw [h]

theorem State.readoutOnly.kept {s t : State} (h : s.readoutOnly t) : (∀ e, t.eng e = s.eng e) ∧ s.sameMem t := by
  unfold State.readoutOnly at h
  rw [h]
  exact ⟨fun _ => rfl, fun _ => rfl⟩

theorem State.readoutOnly_advanceTo (s : State) (b : W32) : s.readoutOnly (s.advanceTo b) := by
  unfold State.readoutOnly
  rw [State.advanceTo_frame]

theorem State.readoutOnly_advance64 (s : State) (b : W64) : s.readoutOnly (s.advance64 b) := by
  unfold State.readoutOnly
  rw [State.advance64_frame]

theorem State.remember_reg (s : State) (a x : Nat) : (s.remember a).reg x = s.reg x :=
  State.reg_of_regs (by rw [State.remember_frame]) x

theorem State.readoutOnly_remember (s : State) (a : Nat) : s.readoutOnly (s.remember a) := by
  unfold State.readoutOnly
  rw [State.remember_frame]

/-- A flag of a field source writes its register and puts a notice on its way. -/
theorem State.flag_frame_of_field {f : FlagReg} (hf : isFieldSource f.source = true) (s : State) (b : Nat) :
    s.flag f b = { s with regs := (s.flag f b).regs, evt := (s.flag f b).evt } := by
  obtain ⟨-, h⟩ | ⟨n, h⟩ := State.flag_of_field hf s b
  · rw [h]
  · rw [h]
    unfold State.fieldRaise
    split <;> rfl

theorem State.readoutOnly_setReg (s : State) (a : Nat) (v : W32) : s.readoutOnly (s.setReg a v) := s.setReg_frame a v

theorem State.readoutOnly_setBit (s : State) (a b : Nat) (v : Bool) : s.readoutOnly (s.setBit a b v) := s.setReg_frame a _

/-- Between s and t registers of a list were written, with notices on their way and the memory of the outputs; nothing else changed. -/
def State.notesRegs (s t : State) (l : List Nat) : Prop := t = { s with regs := t.regs, synth := t.synth, evt := t.evt } ∧ s.sameRegs t l

theorem State.notesRegs.trans {s t u : State} {l : List Nat} (h : s.notesRegs t l) (k : t.notesRegs u l) : s.notesRegs u l := by
  obtain ⟨hframe, hregs⟩ := h
  obtain ⟨kframe, kregs⟩ := k
  refine ⟨?_, fun a ha => (kregs a ha).trans (hregs a ha)⟩
  rw [hframe] at kframe
  exact kframe

theorem State.notesRegs.mono {s t : State} {l l' : List Nat} (h : s.notesRegs t l) (hl : l ⊆ l') : s.notesRegs t l' :=
  ⟨h.1, fun a ha => h.2 a fun hin => ha (hl hin)⟩

theorem State.notesRegs.kept {s t : State} {l : List Nat} (h : s.notesRegs t l) :
    t.clk = s.clk ∧ t.hem = s.hem ∧ t.chans = s.chans ∧ s.readoutOnly t := by
  obtain ⟨hframe, -⟩ := h
  unfold State.readoutOnly
  rw [hframe]
  exact ⟨rfl, rfl, rfl, rfl⟩

theorem State.notesRegs_refl (s : State) (l : List Nat) : s.notesRegs s l := ⟨rfl, fun _ _ => rfl⟩

theorem State.notesRegs_setReg (s : State) {a : Nat} {l : List Nat} (ha : a ∈ l) (v : W32) : s.notesRegs (s.setReg a v) l :=
  ⟨by rw [State.setReg_frame], fun x hx => (State.reg_setReg s a x v).trans (if_neg fun h => hx (by rwa [h]))⟩

theorem State.notesRegs_setBit (s : State) {a : Nat} {l : List Nat} (ha : a ∈ l) (b : Nat) (v : Bool) : s.notesRegs (s.setBit a b v) l :=
  s.notesRegs_setReg ha _

theorem State.notesRegs_remember (s : State) (a : Nat) (l : List Nat) : s.notesRegs (s.remember a) l :=
  ⟨by rw [State.remember_frame], fun x _ => s.remember_reg a x⟩

theorem State.notesRegs_flag {f : FlagReg} (hf : isFieldSource f.source = true) {l : List Nat} (ha : f.addr ∈ l) (s : State) (b : Nat) :
    s.notesRegs (s.flag f b) l :=
  ⟨by rw [State.flag_frame_of_field hf], fun _ hx => State.reg_flag_of_field hf s b fun h => hx (by rwa [h])⟩

/-- With no clearing of ENABLE on its way no input port leaves (R157). -/
theorem State.adcSettle_of_none {s : State} (h : s.hem.adcOff = []) : s.adcSettle = s := by
  unfold State.adcSettle
  rw [h]
  rfl

/-- Time moved on to a block with no input port leaving. -/
theorem State.adcSettle_advanceTo {s : State} (h : s.hem.adcOff = []) (b : W32) : (s.advanceTo b).adcSettle = s.advanceTo b :=
  State.adcSettle_of_none (by rw [State.advanceTo_frame]; exact h)

theorem State.adcSettle_advance64 {s : State} (h : s.hem.adcOff = []) (b : W64) : (s.advance64 b).adcSettle = s.advance64 b :=
  State.adcSettle_of_none (by rw [State.advance64_frame]; exact h)

/-- A change of each window of some channels, by a function that looks at the clock alone. -/
theorem foldS_mapCtxs {g : State → Ctx → Ctx} (hg : ∀ u v : State, u.clk = v.clk → g u = g v) {l : List Nat} (hl : l.Nodup) (s : State) :
    let t := foldS l (fun c u => u.setCtxs c ((u.ctxs c).map (g u))) s
    t = { s with chans := t.chans } ∧ ∀ c, t.ctxs c = if c ∈ l then (s.ctxs c).map (g s) else s.ctxs c := by
  induction l generalizing s with
  | nil => exact ⟨rfl, fun c => (if_neg List.not_mem_nil).symm⟩
  | cons d l ih =>
    obtain ⟨hd, hl⟩ := List.nodup_cons.mp hl
    obtain ⟨hframe, hctxs⟩ := ih hl (s.setCtxs d ((s.ctxs d).map (g s)))
    rw [foldS_cons]
    refine ⟨hframe, fun c => (hctxs c).trans ?_⟩
    rw [State.ctxs_setCtxs, hg (s.setCtxs d _) s rfl]
    by_cases hc : c = d
    · subst hc
      simp [hd]
    · simp [hc]

theorem portChans_nodup (l : Nat) : (portChans l).Nodup := List.nodup_range.map fun _ _ h => Nat.add_left_cancel h

/-! ## ADC_ENABLE, ADC_PORT_READY and ADC_OVER_RANGE (R139, R157, R165) -/

/-- The Hem's tables as a change of ROT_EN to 1 leaves them: a dwell begins (R165). -/
def Hem.adcRotate (h : Hem) (pin : W64) (l : Nat) (was now : Bool) : Hem := if !was && now then { h with rotAt := tabIns l pin h.rotAt } else h

/-- The same as a change of ENABLE leaves them: the governor is asked, or the port leaves (R157). -/
def Hem.adcEnable (h : Hem) (pin : W32) (l : Nat) (was now : Bool) : Hem :=
  if !was && now then { h with requests := h.requests ++ [{ kind := .inport l, arrival := pin, use := none, eng := 512 + 8 * l }] }
  else if was && !now then { h with
    adcOff := h.adcOff ++ [(l, pin + 4)]
    inWait := tabDel l h.inWait
    requests := h.requests.filter (fun r => r.kind != .inport l) }
  else h

/-- The Hem's tables after a write to ADC_CTRL. -/
def State.adcCtrlHem (s : State) (l : Nat) (v : W32) : Hem :=
  (s.hem.adcRotate s.pin64 l (s.bit (adcAddr l 0) 1) (v.getLsbD 1)).adcEnable s.pin l (s.bit (adcAddr l 0) 0) (v.getLsbD 0)

theorem Hem.adcRotate_kept (h : Hem) (pin : W64) (l : Nat) (was now : Bool) : (h.adcRotate pin l was now).requests = h.requests ∧
    (h.adcRotate pin l was now).adcOff = h.adcOff := by
  unfold Hem.adcRotate
  split <;> exact ⟨rfl, rfl⟩

/-- What follows the write itself. -/
def State.adcCtrlFrom (s : State) (l : Nat) (rot rotNow was now : Bool) : State :=
  let s := if !rot && rotNow then s.dwellBegin l else s
  if !was && now then s.govAsk (.inport l) none (512 + 8 * l)
  else if was && !now then
    { s with hem := { s.hem with
        adcOff := s.hem.adcOff ++ [(l, s.effBlock)]
        inWait := tabDel l s.hem.inWait
        requests := s.hem.requests.filter (fun r => r.kind != .inport l) } }
  else s

theorem State.writeAdcCtrl_from (s : State) (l : Nat) (v : W32) : s.writeAdcCtrl l v = (s.setReg (adcAddr l 0) (v &&& 7)).adcCtrlFrom l
    (s.bit (adcAddr l 0) 1) (v.getLsbD 1) (s.bit (adcAddr l 0) 0) (v.getLsbD 0) := rfl

theorem State.adcCtrlFrom_eq (s : State) (l : Nat) (rot rotNow was now : Bool) : s.adcCtrlFrom l rot rotNow was now =
    { s with hem := (s.hem.adcRotate s.pin64 l rot rotNow).adcEnable s.pin l was now } := by
  cases rot <;> cases rotNow <;> cases was <;> cases now <;> rfl

theorem State.writeAdcCtrl_eq (s : State) (l : Nat) (v : W32) :
    s.writeAdcCtrl l v = { s.setReg (adcAddr l 0) (v &&& 7) with hem := s.adcCtrlHem l v } := by
  have hclk := State.setReg_clk s (adcAddr l 0) (v &&& 7)
  have hpin64 : (s.setReg (adcAddr l 0) (v &&& 7)).pin64 = s.pin64 := by rw [State.pin64, hclk, State.pin64]
  rw [State.writeAdcCtrl_from, State.adcCtrlFrom_eq, State.setReg_hem, State.pin_of_clk hclk, hpin64, State.adcCtrlHem]

/-- Port l waits no longer for its grant, in the block b in which it becomes READY. -/
def State.adcGranted (s : State) (l : Nat) (b : W32) : State := { s.advanceTo b with hem := { s.hem with inWait := tabDel l s.hem.inWait } }

theorem State.adcGranted_leaves (s : State) (l : Nat) (b : W32) : let t := s.adcGranted l b
    s.readoutOnly t ∧ (∀ a, t.reg a = s.reg a) ∧ tabFind t.hem.inWait l = none := by
  refine ⟨(s.readoutOnly_advanceTo b).trans rfl, fun a => ?_, ?_⟩
  · exact (State.reg_of_regs (s := s.adcGranted l b) (t := s.advanceTo b) rfl a).trans (s.advanceTo_reg b a)
  · exact (tabFind_tabDel l l s.hem.inWait).trans (if_pos rfl)

theorem exec_adcPortReady {s : State} {l : Feed} {b : W32} (h : tabFind s.hem.inWait l = some b) (hoff : s.hem.adcOff = []) :
    exec (.adcPortReady l) s = .next (if s.bit (adcAddr l 0) 0 then
      ((s.adcGranted l b).remember (adcAddr l 4)).setBit (adcAddr l 4) 6 true else s.adcGranted l b) := by
  have hhem : (s.advanceTo b).hem = s.hem := by rw [State.advanceTo_frame]
  have hbit : (s.adcGranted l b).bit (adcAddr l 0) 0 = s.bit (adcAddr l 0) 0 := congrArg (·.getLsbD 0) ((s.adcGranted_leaves l b).2.1 _)
  show execAdcPortReady l s = _
  unfold execAdcPortReady
  rw [h]
  dsimp only
  rw [State.adcSettle_advanceTo hoff, hhem, ← hbit]
  rfl

/-- A count and a flag of a field source. -/
theorem State.counted_flag_leaves {f : FlagReg} (hf : isFieldSource f.source = true) {a : Nat} (ha : a ≠ f.addr) {b : Nat} (hb : b < 32)
    (s : State) : let t := (s.addSat a 1).flag f b
    s.notesRegs t [a, f.addr] ∧ (t.reg a).toNat = min 0xFFFFFFFF ((s.reg a).toNat + 1) ∧ t.bit f.addr b = true := by
  refine ⟨(s.notesRegs_setReg (by simp) _).trans (State.notesRegs_flag hf (by simp) _ b), ?_, State.bit_flag_of_field hf _ hb⟩
  rw [State.reg_flag_of_field hf _ b ha, State.addSat_toNat]

/-- The over-range sample counted and flagged, before the windows are marked. -/
def State.overRangeNoted (s : State) (l : Nat) : State := (s.addSat (adcAddr l 0xC) 1).flag (adcFlags l) 0

/-- Over-range sample n of port l marked in the windows of the port's channels (R139). -/
def State.markPort (s : State) (l n : Nat) : State := foldS (portChans l) (fun c u => u.setCtxs c ((u.ctxs c).map (u.marked n))) s

theorem exec_adcOverRange (l : Feed) (m : Fin 32) (s : State) :
    exec (.adcOverRange l m) s = .next ((s.overRangeNoted l).markPort l (32 * s.pin64.toNat + m.val)) := rfl

theorem State.marked_of_clk (n : Nat) {u v : State} (h : u.clk = v.clk) : u.marked n = v.marked n := by
  have hblock : ∀ b, u.block64 b = v.block64 b := State.block64_of_clk h
  funext x
  have hfirst : u.firstSample x = v.firstSample x := by rw [State.firstSample, hblock, State.firstSample]
  rw [State.marked, State.marked, hfirst]

theorem State.markPort_leaves (s : State) (l n : Nat) : let t := s.markPort l n
    t = { s with chans := t.chans } ∧ ∀ c, t.ctxs c = if c ∈ portChans l then (s.ctxs c).map (s.marked n) else s.ctxs c :=
  foldS_mapCtxs (g := fun u => u.marked n) (fun _ _ => State.marked_of_clk n) (portChans_nodup l) s

/-- A granted port, still enabled or not (R157). -/
theorem adcPortReady_leaves {s : State} {l : Feed} {b : W32} (h : tabFind s.hem.inWait l = some b) (hoff : s.hem.adcOff = []) :
    ∃ t : State, exec (.adcPortReady l) s = .next t ∧ s.readoutOnly t ∧ tabFind t.hem.inWait l = none ∧
      (s.bit (adcAddr l 0) 0 = true → t.bit (adcAddr l 4) 6 = true ∧ s.sameRegs t [adcAddr l 4]) ∧
      (s.bit (adcAddr l 0) 0 = false → s.sameRegs t []) := by
  have hexec := exec_adcPortReady h hoff
  obtain ⟨hgranted, hregs, hwaits⟩ := s.adcGranted_leaves l b
  generalize s.adcGranted l b = u at hexec hgranted hregs hwaits
  cases hon : s.bit (adcAddr l 0) 0 with
  | true =>
    rw [hon, if_pos rfl] at hexec
    generalize adcAddr l 4 = a at hexec ⊢
    have hrem := u.remember_frame a
    refine ⟨_, hexec, (hgranted.trans (u.readoutOnly_remember a)).trans (State.readoutOnly_setBit _ a 6 true), ?_, fun _ => ⟨?_, fun x hx => ?_⟩, fun h => absurd h (by decide)⟩
    · rw [State.setBit_hem, hrem]
      exact hwaits
    · rw [State.bit_setBit _ _ _ _ _ _ (by decide), if_pos ⟨rfl, rfl⟩]
    · rw [State.reg_setBit _ _ _ _ _ (by simpa using hx), State.remember_reg]
      exact hregs x
  | false =>
    rw [hon, if_neg (by decide)] at hexec
    exact ⟨_, hexec, hgranted, hwaits, fun h => absurd h (by decide), fun _ a _ => hregs a⟩

/-- A sample over range is counted and flagged, and every window of the port's channels that includes it is marked (R139). -/
theorem adcOverRange_leaves (s : State) (l : Feed) (m : Fin 32) :
    ∃ t : State, exec (.adcOverRange l m) s = .next t ∧ s.readoutOnly t ∧ s.sameRegs t [adcAddr l 0xC, adcAddr l 8] ∧
      (t.reg (adcAddr l 0xC)).toNat = min 0xFFFFFFFF ((s.reg (adcAddr l 0xC)).toNat + 1) ∧ t.bit (adcAddr l 8) 0 = true ∧
      ∀ c, t.ctxs c = if c ∈ portChans l then (s.ctxs c).map (s.marked (32 * s.pin64.toNat + m.val)) else s.ctxs c := by
  have hexec := exec_adcOverRange l m s
  obtain ⟨hnoted, hcount, hflag⟩ := State.counted_flag_leaves (adcFlags_field l.isLt)
    (a := adcAddr l 0xC) (adcAddr_ne (by decide)) (b := 0) (by decide) s
  rw [State.overRangeNoted] at hexec
  generalize (s.addSat (adcAddr l 0xC) 1).flag (adcFlags l) 0 = u at hexec hnoted hcount hflag
  obtain ⟨hclk, -, hchans, honly⟩ := hnoted.kept
  obtain ⟨hframe, hctxs⟩ := u.markPort_leaves l (32 * s.pin64.toNat + m.val)
  generalize u.markPort l (32 * s.pin64.toNat + m.val) = t at hexec hframe hctxs
  obtain ⟨-, -, hreg, -⟩ := State.chans_kept hframe
  have hsame : ∀ c, u.ctxs c = s.ctxs c := fun c => by rw [State.ctxs, hchans, State.ctxs]
  refine ⟨t, hexec, honly.trans (.of_chans hframe), fun a ha => (hreg a).trans (hnoted.2 a ha), (congrArg BitVec.toNat (hreg _)).trans hcount,
    (congrArg (·.getLsbD 0) (hreg _)).trans hflag, fun c => ?_⟩
  rw [hctxs, hsame, State.marked_of_clk _ hclk]

/-- Settles O25: ADC_CTRL is written whole and its ENABLE asks through the Hem's tables; a sample over range is told to the windows alone. -/
theorem inputPortsAndOverRange : Obligations.InputPortsAndOverRange := by
  refine ⟨fun s l v => ?_, fun s l b hwait hoff => ?_, fun s l m => ?_⟩
  · obtain ⟨hframe, hregs, hctrl⟩ := State.setReg_onlyTables s (adcAddr l 0) (v &&& 7) (s.adcCtrlHem l v)
    obtain ⟨hrequests, hleaving⟩ := s.hem.adcRotate_kept s.pin64 l (s.bit (adcAddr l 0) 1) (v.getLsbD 1)
    refine ⟨_, congrArg Host.Outcome.next (s.writeAdcCtrl_eq l v), hframe, hregs, hctrl, fun hwas hnow => ?_, fun hwas hnow => ?_, fun hsame => ?_⟩
    · show s.adcCtrlHem l v = _
      rw [State.adcCtrlHem, hwas, hnow, ← hrequests]
      rfl
    · show (s.adcCtrlHem l v).adcOff = _ ∧ tabFind (s.adcCtrlHem l v).inWait l = none ∧ ∀ r ∈ (s.adcCtrlHem l v).requests, _
      rw [State.adcCtrlHem, hwas, hnow, ← hleaving]
      refine ⟨rfl, (tabFind_tabDel l.val l.val _).trans (if_pos rfl), fun r hr => ?_⟩
      simpa using (List.mem_filter.mp hr).2
    · show s.adcCtrlHem l v = _
      rw [State.adcCtrlHem, hsame]
      cases v.getLsbD 0 <;> rfl
  · obtain ⟨t, hexec, hkept, hwaits, hon, hoff⟩ := adcPortReady_leaves hwait hoff
    exact ⟨t, hexec, hwaits, hkept.kept.1, hkept.kept.2, hon, hoff⟩
  · obtain ⟨t, hexec, hkept, hregs, hcount, hflag, hctxs⟩ := adcOverRange_leaves s l m
    exact ⟨t, hexec, hregs, hcount, hflag, fun c hc => (hctxs c).trans (if_pos hc), fun c hc => (hctxs c).trans (if_neg hc), hkept.kept.1,
      hkept.kept.2⟩

end Sys2Proof.Machine

namespace Sys2Proof.Machine

/-! ## A slice fails (R144, R147) -/

/-- The windows of a port end where they are open now; no other changes (R156). -/
theorem State.portUnavailable_leaves (s : State) (l : Nat) : let t := s.portUnavailable l s.pin
    t = { s with chans := t.chans } ∧ ∀ c, t.ctxs c = if c ∈ portChans l then (s.ctxs c).map s.unavailable else s.ctxs c :=
  foldS_mapCtxs (g := fun _ => s.unavailable) (fun _ _ _ => rfl) (portChans_nodup l) s

theorem State.unavailable_of_clk {s t : State} (h : t.clk = s.clk) : t.unavailable = s.unavailable := by
  funext x
  rw [State.unavailable, State.unavailable, State.ctxOpen, State.ctxOpen, State.pin_of_clk h]

theorem State.hem_of_chans {s t : State} (h : t = { s with chans := t.chans }) : t.hem = s.hem := by rw [h]

/-- FAULT with its two flags, at a status register a and a flags register f. -/
theorem State.faultNoted_leaves {f : FlagReg} (hf : isFieldSource f.source = true) {a : Nat} (ha : a ≠ f.addr) (s : State) :
    let t := (((s.remember a).setBit a 11 true).flag f 4).flag f 3
    s.notesRegs t [a, f.addr] ∧ t.bit a 11 = true ∧ t.bit f.addr 3 = true ∧ t.bit f.addr 4 = true ∧
      ∀ b, s.bit f.addr b = true → t.bit f.addr b = true := by
  have hfault : ((s.remember a).setBit a 11 true).bit a 11 = true := (State.bit_setBit _ _ 11 true _ 11 (by decide)).trans (if_pos ⟨rfl, rfl⟩)
  refine ⟨((((s.notesRegs_remember a _).trans (State.notesRegs_setBit _ (by simp) 11 true)).trans
      (State.notesRegs_flag hf (by simp) _ 4)).trans (State.notesRegs_flag hf (by simp) _ 3)),
    State.bit_flag_kept hf (State.bit_flag_kept hf hfault 4) 3, State.bit_flag_of_field hf _ (by decide),
    State.bit_flag_kept hf (State.bit_flag_of_field hf _ (by decide)) 3, fun b hb => ?_⟩
  refine State.bit_flag_kept hf (State.bit_flag_kept hf ?_ 4) 3
  rw [State.bit, State.reg_setBit _ _ _ _ _ ha.symm, State.remember_reg]
  exact hb

/-- The spare named in a status register a: SPARE, NOSPARE, no swap waiting, and FAULT as it was. -/
theorem State.spareNoted_leaves (s : State) (a : Nat) {k : Nat} (hk : k < 32) :
    let t := (((s.remember a).setFld a 4 0 k).setBit a 10 true).setBit a 9 false
    s.notesRegs t [a] ∧ t.fld a 4 0 = k ∧ t.bit a 10 = true ∧ t.bit a 9 = false ∧ t.bit a 11 = s.bit a 11 := by
  refine ⟨(((s.notesRegs_remember a _).trans (State.notesRegs_setReg _ (by simp) _)).trans (State.notesRegs_setBit _ (by simp) 10 true)).trans
    (State.notesRegs_setBit _ (by simp) 9 false), ?_, ?_, ?_, s.bit_newSpare a k (by decide) (by decide)⟩
  · rw [State.setBit, State.fld_setFld_other _ _ _ _ _ _ _ (by decide) (by decide) (by decide), State.setBit,
      State.fld_setFld_other _ _ _ _ _ _ _ (by decide) (by decide) (by decide), State.fld_setFld _ _ _ _ _ (by decide) (by decide)]
    exact Nat.mod_eq_of_lt hk
  · rw [State.bit_setBit _ _ _ _ _ _ (by decide), if_neg (by omega), State.bit_setBit _ _ _ _ _ _ (by decide), if_pos ⟨rfl, rfl⟩]
  · rw [State.bit_setBit _ _ _ _ _ _ (by decide), if_pos ⟨rfl, rfl⟩]

section
variable {l : Nat} (hl : l < 64)

/-- What the failed slices of a port come to leaves: its ADC_STATUS and flags, none cleared, and the windows. -/
structure JudgesSlices (l : Nat) (s t : State) : Prop where
  only : s.readoutOnly t
  clk : t.clk = s.clk
  hem : t.hem = s.hem
  regs : s.sameRegs t [adcAddr l 4, adcAddr l 8]
  flags : ∀ b, s.bit (adcAddr l 8) b = true → t.bit (adcAddr l 8) b = true

/-- Registers written with no flag cleared. -/
theorem JudgesSlices.of_notesRegs {s t : State} (h : s.notesRegs t [adcAddr l 4, adcAddr l 8])
    (hflags : ∀ b, s.bit (adcAddr l 8) b = true → t.bit (adcAddr l 8) b = true) : JudgesSlices l s t := by
  obtain ⟨hclk, hhem, -, honly⟩ := h.kept
  exact ⟨honly, hclk, hhem, h.2, hflags⟩

theorem State.spareTaken_leaves (s : State) {k : Nat} (hk : k < 32) : let t := s.spareTaken l k
    JudgesSlices l s t ∧ t.fld (adcAddr l 4) 4 0 = k ∧ t.bit (adcAddr l 4) 10 = true ∧ t.bit (adcAddr l 4) 9 = false ∧
      t.bit (adcAddr l 4) 11 = s.bit (adcAddr l 4) 11 ∧ t.chans = s.chans := by
  obtain ⟨hnoted, hspare, hnospare, hwaits, hfault⟩ := s.spareNoted_leaves (adcAddr l 4) hk
  refine ⟨.of_notesRegs (hnoted.mono (by simp)) fun b hb => ?_, hspare, hnospare, hwaits, hfault, hnoted.kept.2.2.1⟩
  rw [State.spareTaken, State.bit, hnoted.2 _ (by simpa using adcAddr_ne (by decide))]
  exact hb

include hl

theorem State.portFaulted_ends (s : State) : let t := s.portFaulted l
    JudgesSlices l s t ∧ t.bit (adcAddr l 4) 11 = true ∧ t.bit (adcAddr l 8) 3 = true ∧ t.bit (adcAddr l 8) 4 = true ∧
      ∀ c, t.ctxs c = if c ∈ portChans l then (s.ctxs c).map t.unavailable else s.ctxs c := by
  obtain ⟨hnoted, hfault, hport, hcal, hflags⟩ := State.faultNoted_leaves (adcFlags_field hl) (a := adcAddr l 4) (adcAddr_ne (by decide)) s
  obtain ⟨hclk, hhem, hchans, honly⟩ := hnoted.kept
  rw [State.portFaulted]
  obtain ⟨u, hu⟩ : ∃ u, u = (((s.remember (adcAddr l 4)).setBit (adcAddr l 4) 11 true).flag (adcFlags l) 4).flag (adcFlags l) 3 := ⟨_, rfl⟩
  rw [← hu] at hnoted hfault hport hcal hflags hclk hhem hchans honly ⊢
  rw [← State.pin_of_clk hclk]
  obtain ⟨hframe, hctxs⟩ := u.portUnavailable_leaves l
  obtain ⟨t, ht⟩ : ∃ t, t = u.portUnavailable l u.pin := ⟨_, rfl⟩
  rw [← ht] at hframe hctxs ⊢
  obtain ⟨tclk, -, treg, -⟩ := State.chans_kept hframe
  have hbit : ∀ a b, t.bit a b = u.bit a b := fun a b => congrArg (·.getLsbD b) (treg a)
  have hsame : ∀ c, u.ctxs c = s.ctxs c := fun c => by rw [State.ctxs, hchans, State.ctxs]
  refine ⟨⟨honly.trans (.of_chans hframe), tclk.trans hclk, (State.hem_of_chans hframe).trans hhem, fun a ha => (treg a).trans (hnoted.2 a ha),
    fun b hb => (hbit _ b).trans (hflags b hb)⟩, (hbit _ _).trans hfault, (hbit _ _).trans hport, (hbit _ _).trans hcal, fun c => ?_⟩
  rw [hctxs, hsame, State.unavailable_of_clk tclk]

/-- What the failed slices of a port come to. -/
theorem State.judgeSlices_leaves (s : State) : JudgesSlices l s (s.judgeSlices l) := by
  match hfailed : s.failedSlices l with
  | [] =>
    rw [State.judgeSlices_none hfailed]
    exact .of_notesRegs (s.notesRegs_refl _) fun _ hb => hb
  | [k] =>
    have hk : k < 17 := (State.mem_failedSlices.mp (by rw [hfailed]; simp)).1
    rw [State.judgeSlices_one hfailed]
    exact (s.spareTaken_leaves (by omega)).1
  | _ :: _ :: _ =>
    rw [State.judgeSlices_more (by rw [hfailed]; simp)]
    exact (State.portFaulted_ends hl s).1

end

/-- A bit set in a status register a, and a flag of a field source. -/
theorem State.setBit_flag_leaves {f : FlagReg} (hf : isFieldSource f.source = true) {a : Nat} (ha : a ≠ f.addr) {k b : Nat}
    (hb : b < 32) (s : State) : let t := (s.setBit a k true).flag f b
    s.notesRegs t [f.addr, a] ∧ t.bit f.addr b = true ∧ ∀ j, j < 32 → t.bit a j = (decide (j = k) || s.bit a j) := by
  refine ⟨(s.notesRegs_setBit (by simp) k true).trans (State.notesRegs_flag hf (by simp) _ b), State.bit_flag_of_field hf _ hb, fun j hj => ?_⟩
  rw [State.bit, State.reg_flag_of_field hf _ b ha]
  refine (State.bit_setBit s a k true a j hj).trans ?_
  by_cases h : j = k <;> simp [h]

/-- Slice k of port l noted as failed, from the next block on (R144, R147). -/
def State.sliceFailNoted (s : State) (l k : Nat) : State := ((s.advanceTo (s.pin + 1)).setBit (adcAddr l 0x18) k true).flag (adcFlags l) 2

theorem State.sliceFail_eq {s : State} (h : s.hem.adcOff = []) (l k : Nat) : s.sliceFail l k = (s.sliceFailNoted l k).judgeSlices l := by
  unfold State.sliceFail
  rw [State.adcSettle_advanceTo h]
  rfl

section
variable {l k : Nat} (hl : l < 64) (hk : k < 32)
include hl hk

omit hk in
theorem State.sliceFailNoted_leaves (s : State) : let t := s.sliceFailNoted l k
    s.readoutOnly t ∧ t.hem = s.hem ∧ t.chans = s.chans ∧ s.sameRegs t [adcAddr l 8, adcAddr l 0x18] ∧ t.bit (adcAddr l 8) 2 = true ∧
      ∀ j, j < 32 → t.bit (adcAddr l 0x18) j = (decide (j = k) || s.bit (adcAddr l 0x18) j) := by
  obtain ⟨hnoted, hflag, hfailed⟩ := State.setBit_flag_leaves (adcFlags_field hl) (a := adcAddr l 0x18) (adcAddr_ne (by decide)) (k := k)
    (b := 2) (by decide) (s.advanceTo (s.pin + 1))
  obtain ⟨-, hhem, hchans, honly⟩ := hnoted.kept
  have hadv := s.advanceTo_frame (s.pin + 1)
  have hreg : ∀ a, (s.advanceTo (s.pin + 1)).reg a = s.reg a := s.advanceTo_reg _
  refine ⟨(s.readoutOnly_advanceTo _).trans honly, hhem.trans (by rw [hadv]), hchans.trans (by rw [hadv]),
    fun a ha => (hnoted.2 a ha).trans (hreg a), hflag, fun j hj => (hfailed j hj).trans ?_⟩
  rw [State.bit, hreg, State.bit]

/-- What a failing slice leaves: it is in SLICE_FAILED, with its flag set. -/
theorem State.sliceFail_leaves {s : State} (hoff : s.hem.adcOff = []) : let t := s.sliceFail l k
    s.readoutOnly t ∧ t.hem = s.hem ∧ t.bit (adcAddr l 0x18) k = true ∧ t.bit (adcAddr l 8) 2 = true ∧
      s.sameRegs t [adcAddr l 4, adcAddr l 8, adcAddr l 0x18] := by
  obtain ⟨honly, hhem, -, hregs, hflag, hfailed⟩ := State.sliceFailNoted_leaves (k := k) hl s
  have hjudged : JudgesSlices l (s.sliceFailNoted l k) (s.sliceFail l k) := by
    rw [State.sliceFail_eq hoff]
    exact State.judgeSlices_leaves hl _
  refine ⟨honly.trans hjudged.only, hjudged.hem.trans hhem, ?_, hjudged.flags 2 hflag, fun a ha => ?_⟩
  · rw [State.bit, hjudged.regs _ (by simp [adcAddr_ne]), ← State.bit, hfailed k hk]
    simp
  · simp only [List.mem_cons, not_or] at ha
    obtain ⟨hstatus, hflags, hslices, -⟩ := ha
    rw [hjudged.regs a (by simp [hstatus, hflags]), hregs a (by simp [hslices, hflags])]

end

section
variable {s t : State} {l k : Nat} (h : ∀ j, j < 32 → t.bit (adcAddr l 0x18) j = (decide (j = k) || s.bit (adcAddr l 0x18) j))
include h

/-- The first slice of a port to fail is alone in SLICE_FAILED. -/
theorem State.failedSlices_first (hk : k < 17) (hnone : s.failedSlices l = []) : t.failedSlices l = [k] := by
  refine List.perm_singleton.mp ((List.perm_ext_iff_of_nodup (t.nodup_failedSlices l) (List.nodup_singleton k)).mpr fun j => ?_)
  have hclear : j < 17 → s.bit (adcAddr l 0x18) j = false := fun hj => by
    have hnot : j ∉ s.failedSlices l := by rw [hnone]; exact List.not_mem_nil
    simpa [State.mem_failedSlices, hj] using hnot
  rw [State.mem_failedSlices, List.mem_singleton]
  refine ⟨fun ⟨hj, hbit⟩ => ?_, fun hj => ⟨hj ▸ hk, ?_⟩⟩
  · rw [h j (by omega), hclear hj, Bool.or_false] at hbit
    exact of_decide_eq_true hbit
  · rw [h j (by omega), hj]
    simp

/-- A further one makes two at least. -/
theorem State.failedSlices_further (hk : k < 17) (hclear : s.bit (adcAddr l 0x18) k = false) (hsome : s.failedSlices l ≠ []) :
    2 ≤ (t.failedSlices l).length := by
  obtain ⟨j, hj⟩ := List.exists_mem_of_ne_nil _ hsome
  obtain ⟨hlt, hbit⟩ := State.mem_failedSlices.mp hj
  have hne : j ≠ k := fun heq => by rw [heq, hclear] at hbit; exact absurd hbit (by decide)
  have hboth : [j, k] ⊆ t.failedSlices l := by
    intro i hi
    obtain rfl | hi := List.mem_cons.mp hi
    · exact State.mem_failedSlices.mpr ⟨hlt, by rw [h i (by omega), hbit, Bool.or_true]⟩
    · obtain rfl := List.mem_singleton.mp hi
      exact State.mem_failedSlices.mpr ⟨hk, by rw [h i (by omega)]; simp⟩
  exact (List.subperm_of_subset (by simpa using hne) hboth).length_le

end

theorem exec_inServiceSliceFailure_idle {s : State} {l : Feed} {k : Fin 17} (h : s.fld (adcAddr l 4) 4 0 = k.val ∨ s.bit (adcAddr l 0x18) k = true) :
    exec (.inServiceSliceFailure l k) s = .next s := if_pos h

theorem exec_inServiceSliceFailure {s : State} {l : Feed} {k : Fin 17} (hspare : s.fld (adcAddr l 4) 4 0 ≠ k.val)
    (hclear : s.bit (adcAddr l 0x18) k = false) : exec (.inServiceSliceFailure l k) s = .next (s.sliceFail l k) :=
  if_neg fun h => h.elim hspare fun hset => by rw [hclear] at hset; exact absurd hset (by decide)

/-- What a slice failing in service comes to: the first one of the port is its spare, a further one puts it in FAULT (R144, R147). -/
theorem State.sliceFail_inService {s : State} {l : Feed} {k : Fin 17} (hclear : s.bit (adcAddr l 0x18) k = false) (hoff : s.hem.adcOff = []) :
    let t := s.sliceFail l k
    (s.failedSlices l = [] → t.fld (adcAddr l 4) 4 0 = k.val ∧ t.bit (adcAddr l 4) 10 = true ∧ t.bit (adcAddr l 4) 9 = false ∧
      t.bit (adcAddr l 4) 11 = s.bit (adcAddr l 4) 11 ∧ t.chans = s.chans) ∧
    (s.failedSlices l ≠ [] → t.bit (adcAddr l 4) 11 = true ∧ t.bit (adcAddr l 8) 3 = true ∧ t.bit (adcAddr l 8) 4 = true ∧
      ∀ c, t.ctxs c = if c ∈ portChans l then (s.ctxs c).map t.unavailable else s.ctxs c) := by
  obtain ⟨-, -, hchans, hregs, -, hfailed⟩ := State.sliceFailNoted_leaves (k := k) l.isLt s
  rw [State.sliceFail_eq hoff]
  refine ⟨fun hnone => ?_, fun hsome => ?_⟩
  · obtain ⟨-, hspare, hnospare, hwaits, hfault, hsame⟩ := State.spareTaken_leaves (l := l) (s.sliceFailNoted l k) (show k.val < 32 by omega)
    rw [State.judgeSlices_one (State.failedSlices_first hfailed k.isLt hnone)]
    refine ⟨hspare, hnospare, hwaits, hfault.trans ?_, hsame.trans hchans⟩
    rw [State.bit, hregs _ (by simp [adcAddr_ne]), State.bit]
  · obtain ⟨-, hfault, hport, hcal, hctxs⟩ := State.portFaulted_ends l.isLt (s.sliceFailNoted l k)
    rw [State.judgeSlices_more (State.failedSlices_further hfailed k.isLt hclear hsome)]
    refine ⟨hfault, hport, hcal, fun c => ?_⟩
    have hsame : (s.sliceFailNoted l k).ctxs c = s.ctxs c := by rw [State.ctxs, hchans, State.ctxs]
    rw [hctxs, hsame]

/-! ## Rotation (R140, R144-R147) -/

/-- Dwells of port l that failed in a row. -/
def State.setRotBad (s : State) (l n : Nat) : State := { s with hem := { s.hem with rotBad := tabSet 0 s.hem.rotBad l n } }

theorem State.setRotBad_leaves (s : State) (l n : Nat) : let t := s.setRotBad l n
    s.readoutOnly t ∧ t.clk = s.clk ∧ t.chans = s.chans ∧ (∀ a, t.reg a = s.reg a) ∧ t.hem.adcOff = s.hem.adcOff ∧
      tabGet 0 t.hem.rotBad l = n :=
  ⟨rfl, rfl, rfl, fun _ => rfl, rfl, (tabGet_tabSet_const 0 s.hem.rotBad l l n).trans (if_pos rfl)⟩

/-- The end of port l's dwell (R145). -/
def State.dwellEnd (s : State) (l : Nat) : State := s.advance64 (s.rotBlock l (s.dwellBlocks l))

/-- The factors of slice k written (R144, R164). -/
def State.writeFactors (s : State) (rs : List (Nat × W32)) : State := foldS rs (fun r u => (u.remember r.1).setReg r.1 r.2) s

theorem State.writeFactors_leaves {rs : List (Nat × W32)} (hd : rs.Pairwise (fun r q => r.1 ≠ q.1)) (s : State) : let t := s.writeFactors rs
    s.notesRegs t (rs.map (·.1)) ∧ ∀ r ∈ rs, t.reg r.1 = r.2 := by
  induction rs generalizing s with
  | nil => exact ⟨s.notesRegs_refl [], fun r hr => absurd hr List.not_mem_nil⟩
  | cons q rs ih =>
    obtain ⟨hne, hd⟩ := List.pairwise_cons.mp hd
    have hwritten : s.notesRegs ((s.remember q.1).setReg q.1 q.2) ((q :: rs).map (·.1)) :=
      (s.notesRegs_remember q.1 _).trans (State.notesRegs_setReg _ (by simp) q.2)
    obtain ⟨hrest, hvalues⟩ := ih hd ((s.remember q.1).setReg q.1 q.2)
    refine ⟨hwritten.trans (hrest.mono (by simp)), fun r hr => ?_⟩
    obtain rfl | hr := List.mem_cons.mp hr
    · refine (hrest.2 r.1 fun hin => ?_).trans ((State.reg_setReg _ _ _ _).trans (if_pos rfl))
      obtain ⟨p, hp, heq⟩ := List.mem_map.mp hin
      exact hne p hp heq.symm
    · exact hvalues r hr

/-- Whether the spare moves up next, by the status register a of its port (R140). -/
def State.spareUp (s : State) (a : Nat) : Bool := decide (s.fld a 4 0 = 0 ∨ (s.bit a 5 = true ∧ s.fld a 4 0 < 16))

/-- The next spare. -/
def State.nextSpare (s : State) (a : Nat) : Nat := if s.spareUp a then s.fld a 4 0 + 1 else s.fld a 4 0 - 1

theorem State.nextSpare_le {s : State} {a : Nat} (h : s.fld a 4 0 ≤ 16) : s.nextSpare a ≤ 16 := by
  unfold State.nextSpare State.spareUp
  split
  · rename_i hup
    have := of_decide_eq_true hup
    omega
  · omega

/-- SPARE and DIRECTION written, no swap waiting. -/
def State.spareMoved (s : State) (a n : Nat) (up : Bool) : State := (((s.remember a).setFld a 4 0 n).setBit a 5 up).setBit a 9 false

theorem State.spareMoved_leaves (s : State) (a : Nat) {n : Nat} (hn : n < 32) (up : Bool) : let t := s.spareMoved a n up
    s.notesRegs t [a] ∧ t.fld a 4 0 = n ∧ t.bit a 5 = up ∧ t.bit a 9 = false := by
  refine ⟨(((s.notesRegs_remember a _).trans (State.notesRegs_setReg _ (by simp) _)).trans (State.notesRegs_setBit _ (by simp) 5 up)).trans
    (State.notesRegs_setBit _ (by simp) 9 false), ?_, ?_, ?_⟩
  · rw [State.spareMoved, State.setBit, State.fld_setFld_other _ _ _ _ _ _ _ (by decide) (by decide) (by decide), State.setBit,
      State.fld_setFld_other _ _ _ _ _ _ _ (by decide) (by decide) (by decide), State.fld_setFld _ _ _ _ _ (by decide) (by decide)]
    exact Nat.mod_eq_of_lt hn
  · rw [State.spareMoved, State.bit_setBit _ _ _ _ _ _ (by decide), if_neg (by omega), State.bit_setBit _ _ _ _ _ _ (by decide),
      if_pos ⟨rfl, rfl⟩]
  · rw [State.spareMoved, State.bit_setBit _ _ _ _ _ _ (by decide), if_pos ⟨rfl, rfl⟩]

/-- DIRECTION after a step to spare n, having moved up or not (R140). -/
def spareDirection (n : Nat) (up : Bool) : Bool := if n = 0 then true else if 16 ≤ n then false else up

theorem State.rotate_eq (s : State) (l : Nat) : s.rotate l =
    let u := s.spareMoved (adcAddr l 4) (s.nextSpare (adcAddr l 4)) (spareDirection (s.nextSpare (adcAddr l 4)) (s.spareUp (adcAddr l 4)))
    (u.setReg (adcAddr l 0x14) (u.reg (adcAddr l 0x14) + 1)).dwellBegin l := by
  have hup : s.spareUp (adcAddr l 4) = (decide (s.fld (adcAddr l 4) 4 0 = 0) || (s.bit (adcAddr l 4) 5 && decide (s.fld (adcAddr l 4) 4 0 < 16))) := by
    simp [State.spareUp]
  unfold State.rotate State.nextSpare
  rw [hup]
  rfl

theorem State.dwellBegin_leaves (s : State) (l : Nat) : let t := s.dwellBegin l
    s.readoutOnly t ∧ t.hem.rotBad = s.hem.rotBad ∧ tabFind t.hem.rotAt l = some s.pin64 ∧ ∀ a, t.reg a = s.reg a :=
  ⟨rfl, rfl, (tabFind_tabIns l l s.pin64 s.hem.rotAt).trans (if_pos rfl), fun _ => rfl⟩

/-- A register of a count counted up, and a dwell begun. -/
theorem State.countedDwell_leaves (s : State) (c l : Nat) : let t := (s.setReg c (s.reg c + 1)).dwellBegin l
    s.readoutOnly t ∧ t.hem.rotBad = s.hem.rotBad ∧ t.reg c = s.reg c + 1 ∧ s.sameRegs t [c] := by
  obtain ⟨honly, hbad, -, hregs⟩ := (s.setReg c (s.reg c + 1)).dwellBegin_leaves l
  refine ⟨(s.readoutOnly_setReg c _).trans honly, hbad, ?_, fun a ha => ?_⟩
  · rw [hregs, State.reg_setReg, if_pos rfl]
  · rw [hregs, State.reg_setReg, if_neg (by simpa using ha)]

/-- A step of the rotation (R140). -/
theorem State.rotate_leaves {s : State} {l : Nat} (hspare : s.fld (adcAddr l 4) 4 0 ≤ 16) : let t := s.rotate l
    s.readoutOnly t ∧ t.hem.rotBad = s.hem.rotBad ∧ t.fld (adcAddr l 4) 4 0 = s.nextSpare (adcAddr l 4) ∧ t.bit (adcAddr l 4) 9 = false ∧
      t.bit (adcAddr l 4) 5 = spareDirection (s.nextSpare (adcAddr l 4)) (s.spareUp (adcAddr l 4)) ∧
      t.reg (adcAddr l 0x14) = s.reg (adcAddr l 0x14) + 1 ∧ s.sameRegs t [adcAddr l 4, adcAddr l 0x14] := by
  have hnext := State.nextSpare_le hspare
  have hne : adcAddr l 0x14 ≠ adcAddr l 4 := adcAddr_ne (by decide)
  rw [State.rotate_eq]
  generalize adcAddr l 4 = a at *
  generalize adcAddr l 0x14 = c at *
  obtain ⟨hmoved, hfld, hdir, hwaits⟩ := s.spareMoved_leaves a (show s.nextSpare a < 32 by omega) (spareDirection (s.nextSpare a) (s.spareUp a))
  obtain ⟨u, hu⟩ : ∃ u, u = s.spareMoved a (s.nextSpare a) (spareDirection (s.nextSpare a) (s.spareUp a)) := ⟨_, rfl⟩
  rw [← hu] at hmoved hfld hdir hwaits ⊢
  obtain ⟨-, hhem, -, honly⟩ := hmoved.kept
  obtain ⟨tonly, tbad, tcount, tregs⟩ := u.countedDwell_leaves c l
  have hstatus : ((u.setReg c (u.reg c + 1)).dwellBegin l).reg a = u.reg a := tregs a (by simpa using hne.symm)
  refine ⟨honly.trans tonly, tbad.trans (by rw [hhem]), ?_, ?_, ?_, ?_, fun x hx => ?_⟩
  · rw [State.fld, hstatus, ← State.fld, hfld]
  · rw [State.bit, hstatus, ← State.bit, hwaits]
  · rw [State.bit, hstatus, ← State.bit, hdir]
  · rw [tcount, hmoved.2 c (by simpa using hne)]
  · simp only [List.mem_cons, not_or] at hx
    obtain ⟨hxa, hxc, -⟩ := hx
    rw [tregs x (by simpa using hxc), hmoved.2 x (by simpa using hxa)]

theorem State.integrating_of_same {s t : State} (hclk : t.clk = s.clk) (hchans : t.chans = s.chans) (l : Nat) :
    t.integrating l = s.integrating l := by
  have hopen : t.ctxOpen = s.ctxOpen := by
    funext x
    rw [State.ctxOpen, State.ctxOpen, State.pin_of_clk hclk]
  have hctxs : ∀ c, t.ctxs c = s.ctxs c := fun c => by rw [State.ctxs, hchans, State.ctxs]
  simp only [State.integrating, hopen, hctxs]

/-- The swap put off to a quiet boundary (R146). -/
theorem State.swapHeld_leaves (s : State) (a l : Nat) : let t := (s.setBit a 9 true).dwellBegin l
    s.readoutOnly t ∧ t.hem.rotBad = s.hem.rotBad ∧ t.fld a 4 0 = s.fld a 4 0 ∧ t.bit a 9 = true ∧ t.bit a 5 = s.bit a 5 ∧ s.sameRegs t [a] := by
  obtain ⟨honly, hbad, -, hregs⟩ := (s.setBit a 9 true).dwellBegin_leaves l
  refine ⟨(s.readoutOnly_setBit a 9 true).trans honly, hbad, ?_, ?_, ?_, fun x hx => ?_⟩
  · rw [State.fld, hregs, ← State.fld, State.setBit, State.fld_setFld_other _ _ _ _ _ _ _ (by decide) (by decide) (by decide)]
  · rw [State.bit, hregs, ← State.bit, State.bit_setBit _ _ _ _ _ _ (by decide), if_pos ⟨rfl, rfl⟩]
  · rw [State.bit, hregs, ← State.bit, State.bit_setBit _ _ _ _ _ _ (by decide), if_neg (by omega)]
  · rw [hregs, State.reg_setBit _ _ _ _ _ (by simpa using hx)]

theorem State.dwellEnd_leaves (s : State) (l : Nat) : let t := s.dwellEnd l
    t = { s with clk := t.clk } ∧ s.readoutOnly t ∧ t.hem = s.hem ∧ t.chans = s.chans ∧ ∀ a, t.reg a = s.reg a := by
  have hframe := s.advance64_frame (s.rotBlock l (s.dwellBlocks l))
  refine ⟨hframe, s.readoutOnly_advance64 _, ?_, ?_, s.advance64_reg _⟩ <;> · rw [State.dwellEnd, hframe]

section
variable {s : State} {l : Feed} (hoff : s.hem.adcOff = [])
include hoff

theorem exec_rotationStep_idle (conv : Bool) (fit : SliceFit) (h : s.rotates l = false) : exec (.rotationStep l conv fit) s = .next s := by
  show execRotationStep l conv fit s = _
  unfold execRotationStep
  rw [State.adcSettle_of_none hoff]
  dsimp only
  rw [h]
  rfl

/-- The spare, adapted or waiting to take over (R144-R146). -/
def State.swapReady (s : State) (l : Nat) (fit : SliceFit) : State :=
  if s.bit (adcAddr l 4) 9 then s.setRotBad l 0
  else ((s.dwellEnd l).setRotBad l 0).writeFactors (sliceRegs l (s.fld (adcAddr l 4) 4 0) fit)

/-- A dwell over, the spare not converged (R147). -/
theorem exec_rotationStep_fails {conv : Bool} {fit : SliceFit} (h : s.rotates l = true) (hbad : (conv && SliceFit.inRange fit) = false)
    (hwaits : s.bit (adcAddr l 4) 9 = false) : exec (.rotationStep l conv fit) s =
      .next (if 3 ≤ tabGet 0 s.hem.rotBad l + 1 then ((s.dwellEnd l).setRotBad l 0).sliceFail l (s.fld (adcAddr l 4) 4 0)
        else ((s.dwellEnd l).setRotBad l (tabGet 0 s.hem.rotBad l + 1)).dwellBegin l) := by
  obtain ⟨-, -, hhem, -, hregs⟩ := s.dwellEnd_leaves l
  have hcount : tabGet 0 (s.dwellEnd l).hem.rotBad l = tabGet 0 s.hem.rotBad l := by rw [hhem]
  have hfld : (s.dwellEnd l).fld (adcAddr l 4) 4 0 = s.fld (adcAddr l 4) 4 0 := by rw [State.fld, hregs, ← State.fld]
  have hsettled : (s.dwellEnd l).adcSettle = s.dwellEnd l := State.adcSettle_advance64 hoff _
  show execRotationStep l conv fit s = _
  unfold execRotationStep
  rw [State.adcSettle_of_none hoff]
  dsimp only
  rw [h, hbad, hwaits, ← State.dwellEnd]
  simp only [Bool.not_true, Bool.false_eq_true, if_false, Bool.not_false, Bool.and_self, if_true]
  rw [hsettled, hcount, hfld]
  rfl

/-- The spare converged, or a swap that waits (R145, R146). -/
theorem exec_rotationStep_swaps {conv : Bool} {fit : SliceFit} (h : s.rotates l = true)
    (hgood : (conv && SliceFit.inRange fit) = true ∨ s.bit (adcAddr l 4) 9 = true) : let v := s.swapReady l fit
    exec (.rotationStep l conv fit) s = .next (if v.bit (adcAddr l 0) 2 && v.integrating l then
      (if s.bit (adcAddr l 4) 9 then v else (v.setBit (adcAddr l 4) 9 true).dwellBegin l) else v.rotate l) := by
  obtain ⟨-, -, hhem, -, hregs⟩ := s.dwellEnd_leaves l
  have hfld : (s.dwellEnd l).fld (adcAddr l 4) 4 0 = s.fld (adcAddr l 4) 4 0 := by rw [State.fld, hregs, ← State.fld]
  have hsettled : (s.dwellEnd l).adcSettle = s.dwellEnd l := State.adcSettle_advance64 hoff _
  have hnot : (!(conv && SliceFit.inRange fit) && !s.bit (adcAddr l 4) 9) = false := by
    obtain hg | hw := hgood
    · rw [hg]
      rfl
    · rw [hw, Bool.not_true, Bool.and_false]
  intro v
  show execRotationStep l conv fit s = _
  unfold execRotationStep
  rw [State.adcSettle_of_none hoff]
  dsimp only
  rw [h, hnot, ← State.dwellEnd]
  cases hwaits : s.bit (adcAddr l 4) 9 with
  | true =>
    have hv : v = s.setRotBad l 0 := if_pos hwaits
    simp only [Bool.not_true, Bool.false_eq_true, if_false, if_true]
    rw [State.adcSettle_of_none hoff, hv]
    rfl
  | false =>
    have hv : v = ((s.dwellEnd l).setRotBad l 0).writeFactors (sliceRegs l (s.fld (adcAddr l 4) 4 0) fit) := if_neg (by rw [hwaits]; decide)
    simp only [Bool.not_true, Bool.false_eq_true, if_false]
    rw [hsettled, hfld, hv]
    rfl

end

/-- What the spare ready to take over leaves. -/
theorem State.swapReady_leaves (s : State) (l : Nat) (fit : SliceFit) : let v := s.swapReady l fit
    let rs := sliceRegs l (s.fld (adcAddr l 4) 4 0) fit
    s.readoutOnly v ∧ tabGet 0 v.hem.rotBad l = 0 ∧ v.integrating l = (if s.bit (adcAddr l 4) 9 then s else s.dwellEnd l).integrating l ∧
      s.sameRegs v (rs.map (·.1)) ∧ (s.bit (adcAddr l 4) 9 = false → ∀ r ∈ rs, v.reg r.1 = r.2) ∧
      (s.bit (adcAddr l 4) 9 = true → ∀ r ∈ rs, v.reg r.1 = s.reg r.1) := by
  cases hwaits : s.bit (adcAddr l 4) 9 with
  | true =>
    obtain ⟨honly, hclk, hchans, hregs, -, hbad⟩ := s.setRotBad_leaves l 0
    rw [State.swapReady, if_pos hwaits, if_pos rfl]
    exact ⟨honly, hbad, State.integrating_of_same hclk hchans l, fun a _ => hregs a, fun h => absurd h (by decide), fun _ r _ => hregs r.1⟩
  | false =>
    obtain ⟨-, donly, -, -, dregs⟩ := s.dwellEnd_leaves l
    obtain ⟨honly, hclk, hchans, hregs, -, hbad⟩ := (s.dwellEnd l).setRotBad_leaves l 0
    obtain ⟨hwritten, hvalues⟩ := ((s.dwellEnd l).setRotBad l 0).writeFactors_leaves (sliceRegs_pairwise l (s.fld (adcAddr l 4) 4 0) fit)
    obtain ⟨wclk, whem, wchans, wonly⟩ := hwritten.kept
    rw [State.swapReady, if_neg (by rw [hwaits]; decide), if_neg (by decide)]
    refine ⟨(donly.trans honly).trans wonly, by rw [whem]; exact hbad, State.integrating_of_same (wclk.trans hclk) (wchans.trans hchans) l,
      fun a ha => ?_, fun _ => hvalues, fun h => absurd h (by decide)⟩
    rw [hwritten.2 a ha, hregs, dregs]

theorem State.clk_hem_trans {s d t : State} (h : d = { s with clk := d.clk }) (k : t = { d with hem := t.hem }) :
    t = { s with clk := d.clk, hem := t.hem } := by
  rw [h] at k
  exact k

/-- A dwell without convergence is counted, and the next begins. -/
theorem State.failedDwell_leaves (s : State) (l n : Nat) : let t := (s.setRotBad l n).dwellBegin l
    t = { s with hem := t.hem } ∧ tabGet 0 t.hem.rotBad l = n ∧ tabFind t.hem.rotAt l = some s.pin64 := by
  obtain ⟨-, hclk, -, -, -, hbad⟩ := s.setRotBad_leaves l n
  obtain ⟨-, hsame, hbegun, -⟩ := (s.setRotBad l n).dwellBegin_leaves l
  exact ⟨rfl, (congrArg (tabGet 0 · l) hsame).trans hbad, hbegun⟩

theorem State.nextSpare_eq (s : State) (a : Nat) : s.nextSpare a =
    if s.fld a 4 0 = 0 ∨ (s.bit a 5 = true ∧ s.fld a 4 0 < 16) then s.fld a 4 0 + 1 else s.fld a 4 0 - 1 := by
  simp only [State.nextSpare, State.spareUp, decide_eq_true_eq]

theorem spareDirection_eq {n : Nat} (h : n ≤ 16) (up : Bool) : spareDirection n up = if n = 0 then true else if n = 16 then false else up := by
  have hlast : 16 ≤ n ↔ n = 16 := by omega
  simp only [spareDirection, hlast]

/-- What a swap leaves, begun or waiting on (R140, R145, R146). -/
structure Swapped (l : Nat) (fit : SliceFit) (hold : Bool) (s t : State) : Prop where
  only : s.readoutOnly t
  bad : tabGet 0 t.hem.rotBad l = 0
  spare : t.fld (adcAddr l 4) 4 0 = if hold then s.fld (adcAddr l 4) 4 0 else s.nextSpare (adcAddr l 4)
  waits : t.bit (adcAddr l 4) 9 = hold
  direction : t.bit (adcAddr l 4) 5 =
    if hold then s.bit (adcAddr l 4) 5 else spareDirection (s.nextSpare (adcAddr l 4)) (s.spareUp (adcAddr l 4))
  count : t.reg (adcAddr l 0x14) = s.reg (adcAddr l 0x14) + if hold then 0 else 1
  written : s.bit (adcAddr l 4) 9 = false → ∀ r ∈ sliceRegs l (s.fld (adcAddr l 4) 4 0) fit, t.reg r.1 = r.2
  kept : s.bit (adcAddr l 4) 9 = true → ∀ r ∈ sliceRegs l (s.fld (adcAddr l 4) 4 0) fit, t.reg r.1 = s.reg r.1
  regs : s.sameRegs t (adcAddr l 4 :: adcAddr l 0x14 :: (sliceRegs l (s.fld (adcAddr l 4) 4 0) fit).map (·.1))

/-- The registers of a slice's factors hold no status. -/
theorem not_mem_sliceRegs {l k off : Nat} (f : SliceFit) (h : off < 0x40) : adcAddr l off ∉ (sliceRegs l k f).map (·.1) := by
  intro hin
  obtain ⟨r, hr, heq⟩ := List.mem_map.mp hin
  obtain ⟨off', hlo, -, hoff'⟩ := mem_sliceRegs hr
  exact adcAddr_ne (l := l) (off := off) (off' := off') (by omega) (heq.symm.trans hoff')

/-- From the spare ready to take over to the port after the swap: its status, its count and no factor change. -/
theorem Swapped.of_ready {s t : State} {l : Nat} {fit : SliceFit} {hold : Bool} (honly : (s.swapReady l fit).readoutOnly t)
    (hbad : t.hem.rotBad = (s.swapReady l fit).hem.rotBad) (hregs : (s.swapReady l fit).sameRegs t [adcAddr l 4, adcAddr l 0x14])
    (hspare : t.fld (adcAddr l 4) 4 0 = if hold then s.fld (adcAddr l 4) 4 0 else s.nextSpare (adcAddr l 4))
    (hwaits : t.bit (adcAddr l 4) 9 = hold)
    (hdir : t.bit (adcAddr l 4) 5 =
      if hold then s.bit (adcAddr l 4) 5 else spareDirection (s.nextSpare (adcAddr l 4)) (s.spareUp (adcAddr l 4)))
    (hcount : t.reg (adcAddr l 0x14) = s.reg (adcAddr l 0x14) + if hold then 0 else 1) : Swapped l fit hold s t := by
  obtain ⟨ronly, rbad, -, rregs, rwritten, rkept⟩ := s.swapReady_leaves l fit
  have hfactor : ∀ r ∈ sliceRegs l (s.fld (adcAddr l 4) 4 0) fit, t.reg r.1 = (s.swapReady l fit).reg r.1 := fun r hr => hregs r.1 (by
    obtain ⟨off, hlo, -, hoff⟩ := mem_sliceRegs hr
    rw [hoff]
    simp only [List.mem_cons, List.not_mem_nil, or_false, not_or]
    exact ⟨adcAddr_ne (by omega), adcAddr_ne (by omega)⟩)
  refine ⟨ronly.trans honly, (congrArg (tabGet 0 · l) hbad).trans rbad, hspare, hwaits, hdir, hcount,
    fun hw r hr => (hfactor r hr).trans (rwritten hw r hr), fun hw r hr => (hfactor r hr).trans (rkept hw r hr), fun a ha => ?_⟩
  simp only [List.mem_cons, not_or] at ha
  obtain ⟨hstatus, hcounter, hfactors⟩ := ha
  rw [hregs a (by simp [hstatus, hcounter]), rregs a hfactors]

theorem rotationStep_swaps {s : State} {l : Feed} (hoff : s.hem.adcOff = []) {conv : Bool} {fit : SliceFit} (hrot : s.rotates l = true)
    (hgood : (conv && SliceFit.inRange fit) = true ∨ s.bit (adcAddr l 4) 9 = true) (hle : s.fld (adcAddr l 4) 4 0 ≤ 16) :
    ∃ t : State, exec (.rotationStep l conv fit) s = .next t ∧
      Swapped l fit (s.bit (adcAddr l 0) 2 && (if s.bit (adcAddr l 4) 9 then s else s.dwellEnd l).integrating l) s t := by
  have hexec := exec_rotationStep_swaps hoff hrot hgood
  obtain ⟨-, -, hint, hregs, -, -⟩ := s.swapReady_leaves l fit
  have hreg : ∀ off, off < 0x40 → (s.swapReady l fit).reg (adcAddr l off) = s.reg (adcAddr l off) := fun off h =>
    hregs _ (not_mem_sliceRegs fit h)
  have hfld : (s.swapReady l fit).fld (adcAddr l 4) 4 0 = s.fld (adcAddr l 4) 4 0 := by rw [State.fld, hreg 4 (by decide), ← State.fld]
  have hbit : ∀ off b, off < 0x40 → (s.swapReady l fit).bit (adcAddr l off) b = s.bit (adcAddr l off) b := fun off b h =>
    congrArg (·.getLsbD b) (hreg off h)
  have hup : (s.swapReady l fit).spareUp (adcAddr l 4) = s.spareUp (adcAddr l 4) := by
    rw [State.spareUp, hfld, hbit 4 5 (by decide), ← State.spareUp]
  have hnext : (s.swapReady l fit).nextSpare (adcAddr l 4) = s.nextSpare (adcAddr l 4) := by
    rw [State.nextSpare, hup, hfld, ← State.nextSpare]
  dsimp only at hexec
  rw [hint, hbit 0 2 (by decide)] at hexec
  refine ⟨_, hexec, ?_⟩
  cases hhold : s.bit (adcAddr l 0) 2 && (if s.bit (adcAddr l 4) 9 then s else s.dwellEnd l).integrating l with
  | true =>
    rw [if_pos rfl]
    cases hwaits : s.bit (adcAddr l 4) 9 with
    | true =>
      rw [if_pos rfl]
      refine .of_ready rfl rfl (fun _ _ => rfl) hfld ((hbit 4 9 (by decide)).trans hwaits) (hbit 4 5 (by decide)) ?_
      rw [hreg 0x14 (by decide), if_pos rfl]
      exact (BitVec.add_zero _).symm
    | false =>
      obtain ⟨honly, hbad, hspare, hset, hdir, hother⟩ := (s.swapReady l fit).swapHeld_leaves (adcAddr l 4) l
      rw [if_neg (by decide)]
      refine .of_ready honly hbad (fun a ha => hother a fun hin => ha (by simp at hin; simp [hin])) (hspare.trans hfld) hset
        (hdir.trans (hbit 4 5 (by decide))) ?_
      rw [hother _ (by simpa using adcAddr_ne (by decide)), hreg 0x14 (by decide), if_pos rfl]
      exact (BitVec.add_zero _).symm
  | false =>
    obtain ⟨honly, hbad, hspare, hclear, hdir, hcount, hother⟩ := State.rotate_leaves (s := s.swapReady l fit) (by rw [hfld]; exact hle)
    rw [if_neg (by decide)]
    rw [hnext] at hspare
    rw [hnext, hup] at hdir
    rw [hreg 0x14 (by decide)] at hcount
    exact .of_ready honly hbad hother hspare hclear hdir hcount

theorem exec_rotStalled_idle {s : State} {l : Feed} (h : s.bit (adcAddr l 4) 9 = false) : exec (.rotStalled l) s = .next s := by
  show execRotStalled l s = _
  unfold execRotStalled
  rw [h]
  rfl

/-- A swap that has waited for long is told (R146). -/
theorem rotStalled_leaves {s : State} {l : Feed} (h : s.bit (adcAddr l 4) 9 = true) :
    ∃ t : State, exec (.rotStalled l) s = .next t ∧ s.readoutOnly t ∧ t.bit (adcAddr l 8) 1 = true ∧ s.sameRegs t [adcAddr l 8] := by
  have hexec : exec (.rotStalled l) s = .next ((s.advance64 (s.rotBlock l 400000000)).flag (adcFlags l) 1) := by
    show execRotStalled l s = _
    unfold execRotStalled
    rw [h]
    rfl
  have hnoted := State.notesRegs_flag (adcFlags_field l.isLt) (l := [adcAddr l 8]) (List.mem_singleton.mpr rfl)
    (s.advance64 (s.rotBlock l 400000000)) 1
  refine ⟨_, hexec, (s.readoutOnly_advance64 _).trans hnoted.kept.2.2.2, State.bit_flag_of_field (adcFlags_field l.isLt) _ (by decide),
    fun a ha => (hnoted.2 a ha).trans (s.advance64_reg _ a)⟩

/-- Settles O27: the swap is the spare made ready, then held back or stepped on; a failing slice is noted, then judged with those before
it. That two failed slices set CAL_FAIL in service too is the model's choice (log entry 97). -/
theorem sliceRotationAndFailure : Obligations.SliceRotationAndFailure := by
  refine ⟨fun s l conv fit hoff => ?_, fun s l => ?_, fun s l k => ?_⟩
  · intro a sp good bad dwell
    obtain ⟨hframe, donly, dhem, -, dregs⟩ := s.dwellEnd_leaves l
    refine ⟨exec_rotationStep_idle hoff conv fit, fun hrot hbad hwaits hfew => ?_, fun hrot hbad hwaits hmany => ?_, fun hrot hgood hle => ?_⟩
    · have hexec := exec_rotationStep_fails hoff hrot hbad hwaits
      obtain ⟨hdwell, hcount, hbegun⟩ := (s.dwellEnd l).failedDwell_leaves l (bad + 1)
      rw [if_neg (by omega)] at hexec
      exact ⟨_, hexec, State.clk_hem_trans hframe hdwell, hcount, hbegun⟩
    · have hexec := exec_rotationStep_fails hoff hrot hbad hwaits
      obtain ⟨bonly, -, -, bregs, boff, bzero⟩ := (s.dwellEnd l).setRotBad_leaves l 0
      have hsp : sp < 32 := Nat.mod_lt _ (by decide)
      obtain ⟨fonly, fhem, fslice, fflag, fregs⟩ := State.sliceFail_leaves (s := (s.dwellEnd l).setRotBad l 0) l.isLt hsp
        (boff.trans (by rw [dhem]; exact hoff))
      obtain ⟨heng, hmem⟩ := ((donly.trans bonly).trans fonly).kept
      rw [if_pos (by omega)] at hexec
      exact ⟨_, hexec, (congrArg (fun h : Hem => tabGet 0 h.rotBad l) fhem).trans bzero, fflag, fun _ => fslice,
        fun x hx => ((fregs x hx).trans (bregs x)).trans (dregs x), heng, hmem⟩
    · obtain ⟨t, hexec, hswap⟩ := rotationStep_swaps hoff hrot hgood hle
      obtain ⟨heng, hmem⟩ := hswap.only.kept
      refine ⟨t, hexec, hswap.bad, ?_, hswap.waits, ?_, hswap.count, hswap.written, hswap.kept, hswap.regs, heng, hmem⟩
      · have hspare := hswap.spare
        rw [State.nextSpare_eq] at hspare
        exact hspare
      · have hdir := hswap.direction
        rw [spareDirection_eq (State.nextSpare_le hle), State.nextSpare_eq] at hdir
        exact hdir
  · refine ⟨fun hwaits => ?_, fun hclear => ?_⟩
    · obtain ⟨t, hexec, honly, hflag, hregs⟩ := rotStalled_leaves hwaits
      exact ⟨t, hexec, hflag, hregs, honly.kept.1, honly.kept.2⟩
    · exact exec_rotStalled_idle hclear
  · refine ⟨exec_inServiceSliceFailure_idle, fun hspare hclear hoff => ?_⟩
    have hk : k.val < 32 := by omega
    obtain ⟨honly, -, hslice, hflag, hregs⟩ := State.sliceFail_leaves l.isLt hk hoff
    obtain ⟨hfirst, hfurther⟩ := State.sliceFail_inService hclear hoff
    obtain ⟨heng, hmem⟩ := honly.kept
    refine ⟨_, exec_inServiceSliceFailure hspare hclear, hslice, hflag, hregs, heng, hmem, hfirst, fun hsome => ?_⟩
    obtain ⟨hfault, hport, hcal, hctxs⟩ := hfurther hsome
    exact ⟨hfault, hport, hcal, fun c hc => (hctxs c).trans (if_pos hc), fun c hc => (hctxs c).trans (if_neg hc)⟩

end Sys2Proof.Machine

namespace Sys2Proof.Machine

/-! ## WINDOW_OPEN (R152, R156) -/

theorem firstBy_head {α : Type} {before : α → α → Bool} {x : α} {xs : List α} (h : ∀ y ∈ xs, before x y = true) :
    firstBy before (x :: xs) = some x := by
  have hfold : xs.foldl (fun m y => if before m y then m else y) x = x := by
    induction xs with
    | nil => rfl
    | cons y ys ih =>
      rw [List.foldl_cons, if_pos (h y List.mem_cons_self)]
      exact ih fun z hz => h z (List.mem_cons_of_mem y hz)
  rw [firstBy, hfold]

theorem State.modCtx_first {s : State} {c : Nat} {done rest : List Ctx} {x : Ctx} (hctxs : s.ctxs c = done ++ x :: rest)
    (hdone : x ∉ done) (y : Ctx) : s.modCtx c x y = s.setCtxs c (done ++ y :: rest) := by
  have hidx : (done ++ x :: rest).findIdx? (· == x) = some done.length := by
    have hnone : done.findIdx? (· == x) = none := by
      simp only [List.findIdx?_eq_none_iff, beq_eq_false_iff_ne]
      exact fun z hz heq => hdone (heq ▸ hz)
    rw [List.findIdx?_append, hnone, List.findIdx?_cons]
    simp
  unfold State.modCtx
  rw [hctxs, hidx]
  simp

/-- A window of channel c as it opens, UNAVAILABLE unless its port is READY and the channel enabled (R152, R156). -/
def State.opensWindow (s : State) (c : Nat) (x : Ctx) : Ctx := { x with
  opened := true
  words := if x.words.isEmpty then s.wset c x.wset else x.words
  dead := if s.adcReady (portOfChan c) && s.bit (chAddr c 0) 0 then none else some 2 }

theorem exec_windowOpen {s : State} {c : Chan} {done rest : List Ctx} {x : Ctx} (hctxs : s.ctxs c = done ++ x :: rest)
    (hdone : ∀ y ∈ done, y.opened = true ∨ y.dead ≠ none) (hopened : x.opened = false) (hdead : x.dead = none)
    (haccepted : s.ctxAccepted x = true) (hfirst : ∀ y ∈ rest, blt y.start x.start = false) (hoff : s.hem.adcOff = []) :
    exec (.windowOpen c) s = .next ((s.advanceTo x.start).setCtxs c (done ++ s.opensWindow c x :: rest)) := by
  have hnext : firstBy (fun a b : Ctx => !blt b.start a.start)
      ((s.ctxs c).filter (fun x => !x.opened && x.dead.isNone && s.ctxAccepted x)) = some x := by
    have hnone : done.filter (fun x => !x.opened && x.dead.isNone && s.ctxAccepted x) = [] := List.filter_eq_nil_iff.mpr fun y hy => by
      obtain h | h := hdone y hy
      · simp [h]
      · simp [Option.isNone_iff_eq_none, h]
    rw [hctxs, List.filter_append, hnone, List.nil_append, List.filter_cons_of_pos (by simp [hopened, hdead, haccepted])]
    exact firstBy_head fun y hy => by rw [hfirst y (List.mem_of_mem_filter hy), Bool.not_false]
  have hreg : ∀ a, (s.advanceTo x.start).reg a = s.reg a := s.advanceTo_reg x.start
  have hsame : (s.advanceTo x.start).ctxs c = done ++ x :: rest := by
    rw [← hctxs, State.ctxs, State.advanceTo_frame, State.ctxs]
  have hwset : (s.advanceTo x.start).wset c x.wset = s.wset c x.wset := by simp only [State.wset, hreg]
  have hready : (s.advanceTo x.start).adcReady (portOfChan c) = s.adcReady (portOfChan c) := by simp only [State.adcReady, State.bit, hreg]
  have hon : (s.advanceTo x.start).bit (chAddr c 0) 0 = s.bit (chAddr c 0) 0 := congrArg (·.getLsbD 0) (hreg _)
  have hnot : x ∉ done := fun hx => by simpa [hopened, hdead] using hdone x hx
  show execWindowOpen c s = _
  unfold execWindowOpen
  rw [hnext]
  dsimp only
  rw [State.adcSettle_advanceTo hoff, hwset, hready, hon, State.modCtx_first hsame hnot, State.opensWindow]

theorem windowOpen_leaves (s : State) (c : Nat) (b : W32) (l : List Ctx) : let t := (s.advanceTo b).setCtxs c l
    s.readoutOnly t ∧ t.ctxs c = l ∧ (∀ d, d ≠ c → t.ctxs d = s.ctxs d) ∧ ∀ a, t.reg a = s.reg a := by
  refine ⟨(s.readoutOnly_advanceTo b).trans rfl, ?_, fun d hd => ?_, fun a => s.advanceTo_reg b a⟩
  · rw [State.ctxs_setCtxs, if_pos rfl]
  · rw [State.ctxs_setCtxs, if_neg hd, State.ctxs, State.advanceTo_frame, State.ctxs]

/-! ## The registers of an outcome (R166, R167, R243) -/

theorem filterMap_tabIns {α β : Type} {f : Nat × α → Option β} {k : Nat} (hf : ∀ v, f (k, v) = none) (v : α) (t : Tab α) :
    (tabIns k v t).filterMap f = t.filterMap f := by
  induction t with
  | nil => simp [tabIns, hf]
  | cons p t ih =>
    obtain ⟨k', v'⟩ := p
    unfold tabIns
    split
    · rw [List.filterMap_cons_none (hf v)]
    · split
      · subst k'
        rw [List.filterMap_cons_none (hf v), List.filterMap_cons_none (hf v')]
      · rw [List.filterMap_cons, ih, List.filterMap_cons]

theorem filterMap_tabDel {α β : Type} {f : Nat × α → Option β} {k : Nat} (hf : ∀ v, f (k, v) = none) (t : Tab α) :
    (tabDel k t).filterMap f = t.filterMap f := by
  induction t with
  | nil => rfl
  | cons p t ih =>
    obtain ⟨k', v'⟩ := p
    unfold tabDel
    split
    · subst k'
      rw [ih, List.filterMap_cons_none (hf v')]
    · rw [List.filterMap_cons, ih, List.filterMap_cons]

theorem filterMap_tabSet {α β : Type} [DecidableEq α] {f : Nat × α → Option β} {k : Nat} (hf : ∀ v, f (k, v) = none) (d v : α) (t : Tab α) :
    (tabSet d t k v).filterMap f = t.filterMap f := by
  unfold tabSet
  split
  · exact filterMap_tabDel hf t
  · exact filterMap_tabIns hf v t

/-- A register that is no SLOT_BIND binds no slot (R173). -/
theorem State.boundSlots_setReg {a : Nat} (ha : bindOf a = none) (s : State) (v : W32) (n : Nat) (b : Bool) :
    (s.setReg a v).boundSlots n b = s.boundSlots n b :=
  filterMap_tabSet (fun _ => by simp only [ha]) (regReset a) v s.regs

/-- No SLOT_BIND register lies this high in its tile. -/
theorem bindOf_none {a : Nat} (h : 0xB800 ≤ a % 0x1000000) : bindOf a = none := by
  have hcount : ∀ n, engsInTile n ≤ 32 := fun n => by unfold engsInTile; split <;> omega
  unfold bindOf
  split
  · have := hcount ((a - 0x20000000) / 0x1000000)
    exact if_neg fun hin => by omega
  · rfl

/-- Between s and t registers of a list and pockets were written, with notices on their way, and no slot was bound or unbound. -/
def State.notesOutcome (s t : State) (l : List Nat) : Prop :=
  t = { s with regs := t.regs, pockets := t.pockets, evt := t.evt } ∧ s.sameRegs t l ∧ ∀ n b, t.boundSlots n b = s.boundSlots n b

theorem State.notesOutcome_refl (s : State) (l : List Nat) : s.notesOutcome s l := ⟨rfl, fun _ _ => rfl, fun _ _ => rfl⟩

theorem State.notesOutcome.trans {s t u : State} {l : List Nat} (h : s.notesOutcome t l) (k : t.notesOutcome u l) : s.notesOutcome u l := by
  obtain ⟨hframe, hregs, hbound⟩ := h
  obtain ⟨kframe, kregs, kbound⟩ := k
  refine ⟨?_, fun a ha => (kregs a ha).trans (hregs a ha), fun n b => (kbound n b).trans (hbound n b)⟩
  rw [hframe] at kframe
  exact kframe

theorem State.notesOutcome.mono {s t : State} {l l' : List Nat} (h : s.notesOutcome t l) (hl : l ⊆ l') : s.notesOutcome t l' :=
  ⟨h.1, fun a ha => h.2.1 a fun hin => ha (hl hin), h.2.2⟩

theorem State.notesOutcome_setReg (s : State) {a : Nat} {l : List Nat} (ha : a ∈ l) (hbind : bindOf a = none) (v : W32) :
    s.notesOutcome (s.setReg a v) l :=
  ⟨s.setReg_frame a v, fun x hx => (State.reg_setReg s a x v).trans (if_neg fun h => hx (by rwa [h])), s.boundSlots_setReg hbind v⟩

theorem State.notesOutcome_setPocket (s : State) (k : Nat) (x : Pocket) (l : List Nat) : s.notesOutcome (s.setPocket k x) l :=
  ⟨rfl, fun _ _ => rfl, fun _ _ => rfl⟩

theorem State.notesOutcome_flag {f : FlagReg} (hf : isFieldSource f.source = true) {l : List Nat} (ha : f.addr ∈ l)
    (hbind : bindOf f.addr = none) (s : State) (b : Nat) : s.notesOutcome (s.flag f b) l := by
  obtain ⟨-, h⟩ | ⟨n, h⟩ := State.flag_of_field hf s b
  · rw [h]
    exact s.notesOutcome_refl l
  · refine ⟨?_, fun x hx => State.reg_flag_of_field hf s b fun h => hx (by rwa [h]), fun m r => ?_⟩
    · rw [State.flag_frame_of_field hf]
    · rw [h, ← s.boundSlots_setReg hbind (s.reg f.addr ||| (1#32 <<< b)) m r]
      generalize s.setReg f.addr _ = u
      unfold State.fieldRaise
      split <;> rfl

theorem chAddr_inj {c i j : Nat} : chAddr c i = chAddr c j ↔ i = j := Nat.add_right_inj

theorem bindOf_chAddr (c : Nat) {off : Nat} (h : off < 0x80) : bindOf (chAddr c off) = none :=
  bindOf_none (by unfold chAddr tileBase; omega)

theorem bindOf_pocketAddr (k : Nat) {off : Nat} (h : off < 0x80) : bindOf (pocketAddr k off) = none :=
  bindOf_none (by unfold pocketAddr tileBase; omega)

theorem chAddr_ne_pocketAddr (c k : Nat) {i j : Nat} (hi : i < 0x80) (hj : j < 0x80) : chAddr c i ≠ pocketAddr k j := by
  unfold chAddr pocketAddr tileBase
  omega

theorem chAddr_notMem_pocketMissRegs (c : Nat) {i : Nat} (hi : i < 0x80) : chAddr c i ∉ pocketMissRegs := by
  simp only [pocketMissRegs, List.mem_flatMap, List.mem_cons, List.not_mem_nil, or_false, not_exists, not_and, not_or]
  exact fun k _ => ⟨chAddr_ne_pocketAddr c k hi (by decide), chAddr_ne_pocketAddr c k hi (by decide)⟩

theorem chAddr_ne_resultsLost (c : Nat) {i : Nat} (hi : i < 0x80) : chAddr c i ≠ aResultsLost := by
  unfold chAddr tileBase aResultsLost
  omega

theorem State.bit_of_reg {s t : State} {a : Nat} (h : t.reg a = s.reg a) (b : Nat) : t.bit a b = s.bit a b := congrArg (·.getLsbD b) h

/-- The registers that every outcome writes: two words, a count of outcomes and a count of the uncertain ones. -/
def State.outcomeCounted (s : State) (word stamp count unsure : Nat) (v w : W32) (uncertain : Bool) : State :=
  let s := ((s.setReg word v).setReg stamp w).addSat count 1
  if uncertain then s.addSat unsure 1 else s

theorem State.outcomeCounted_leaves (s : State) {word stamp count unsure : Nat} (hne : [word, stamp, count, unsure].Nodup)
    (hbind : ∀ a ∈ [word, stamp, count, unsure], bindOf a = none) (v w : W32) (u : Bool) :
    let t := s.outcomeCounted word stamp count unsure v w u
    s.notesOutcome t [word, stamp, count, unsure] ∧ t.reg word = v ∧ t.reg stamp = w ∧
      (t.reg count).toNat = min 0xFFFFFFFF ((s.reg count).toNat + 1) ∧ (t.reg unsure).toNat = min 0xFFFFFFFF ((s.reg unsure).toNat + u.toNat) := by
  have hall : ∀ (r : State), ∀ a ∈ [word, stamp, count, unsure], ∀ x, r.notesOutcome (r.setReg a x) [word, stamp, count, unsure] :=
    fun r a ha x => r.notesOutcome_setReg ha (hbind a ha) x
  simp only [List.nodup_cons, List.mem_cons, List.not_mem_nil, or_false, not_or, not_false_eq_true, List.nodup_nil, and_true] at hne
  obtain ⟨⟨hws, hwc, hwu⟩, ⟨hsc, hsu⟩, hcu⟩ := hne
  have hlt := (s.reg unsure).isLt
  have hfirst : s.notesOutcome (((s.setReg word v).setReg stamp w).addSat count 1) [word, stamp, count, unsure] :=
    ((hall s word (by simp) v).trans (hall _ stamp (by simp) w)).trans (hall _ count (by simp) _)
  cases u with
  | false =>
    refine ⟨hfirst, ?_, ?_, ?_, ?_⟩
    · simp [State.outcomeCounted, State.reg_addSat, State.reg_setReg, hwc, hws]
    · simp [State.outcomeCounted, State.reg_addSat, State.reg_setReg, hsc]
    · simp [State.outcomeCounted, State.addSat_toNat, State.reg_setReg, Ne.symm hwc, Ne.symm hsc]
    · simp [State.outcomeCounted, State.reg_addSat, State.reg_setReg, Ne.symm hwu, Ne.symm hsu, Ne.symm hcu]
      omega
  | true =>
    refine ⟨hfirst.trans (hall _ unsure (by simp) _), ?_, ?_, ?_, ?_⟩
    · simp [State.outcomeCounted, State.reg_addSat, State.reg_setReg, hwc, hws, hwu]
    · simp [State.outcomeCounted, State.reg_addSat, State.reg_setReg, hsc, hsu]
    · simp [State.outcomeCounted, State.reg_addSat, State.reg_setReg, Ne.symm hwc, Ne.symm hsc, hcu]
    · simp [State.outcomeCounted, State.reg_addSat, State.reg_setReg, Ne.symm hwu, Ne.symm hsu, Ne.symm hcu]

/-- The values of an integrated outcome in four registers, with two flags. -/
def State.outcomeValues (s : State) (f : FlagReg) (i q d e : Nat) (o : WinOut) : State :=
  let s := (((s.setReg i (sat32w o.i)).setReg q (sat32w o.q)).setReg d (sat32w o.d0)).setReg e (sat32w o.d1)
  let s := if o.short then s.flag f 1 else s
  if o.sat then s.flag f 2 else s

theorem State.outcomeValues_leaves (s : State) {f : FlagReg} (hf : isFieldSource f.source = true) {i q d e : Nat}
    (hne : [f.addr, i, q, d, e].Nodup) (hbind : ∀ a ∈ [f.addr, i, q, d, e], bindOf a = none) (o : WinOut) :
    let t := s.outcomeValues f i q d e o
    s.notesOutcome t [f.addr, i, q, d, e] ∧ t.reg i = sat32w o.i ∧ t.reg q = sat32w o.q ∧ t.reg d = sat32w o.d0 ∧ t.reg e = sat32w o.d1 := by
  have hset : ∀ (r : State), ∀ a ∈ [f.addr, i, q, d, e], ∀ x, r.notesOutcome (r.setReg a x) [f.addr, i, q, d, e] :=
    fun r a ha x => r.notesOutcome_setReg ha (hbind a ha) x
  have hflag : ∀ (r : State) (c : Bool) (b : Nat), r.notesOutcome (if c then r.flag f b else r) [f.addr] := fun r c b => by
    split
    · exact State.notesOutcome_flag hf (by simp) (hbind _ (by simp)) r b
    · exact r.notesOutcome_refl _
  have hflags : ∀ r : State, r.notesOutcome
      (let r := if o.short then r.flag f 1 else r
      if o.sat then r.flag f 2 else r) [f.addr] := fun r => (hflag r o.short 1).trans (hflag _ o.sat 2)
  simp only [List.nodup_cons, List.mem_cons, List.not_mem_nil, or_false, not_or, not_false_eq_true, List.nodup_nil, and_true] at hne
  obtain ⟨⟨hfi, hfq, hfd, hfe⟩, ⟨hiq, hid, hie⟩, ⟨hqd, hqe⟩, hde⟩ := hne
  have hreg : ∀ a, f.addr ≠ a → (s.outcomeValues f i q d e o).reg a =
      ((((s.setReg i (sat32w o.i)).setReg q (sat32w o.q)).setReg d (sat32w o.d0)).setReg e (sat32w o.d1)).reg a :=
    fun a ha => (hflags _).2.1 a (by simpa using ha.symm)
  refine ⟨((((hset s i (by simp) _).trans (hset _ q (by simp) _)).trans (hset _ d (by simp) _)).trans (hset _ e (by simp) _)).trans
    ((hflags _).mono (by simp)), ?_, ?_, ?_, ?_⟩
  · rw [hreg i hfi]
    simp [State.reg_setReg, hiq, hid, hie]
  · rw [hreg q hfq]
    simp [State.reg_setReg, hqd, hqe]
  · rw [hreg d hfd]
    simp [State.reg_setReg, hde]
  · rw [hreg e hfe]
    simp [State.reg_setReg]

theorem chFlags_field (c : Chan) : isFieldSource (chFlags c).source = true := by
  have := c.isLt
  have hsrc : (chFlags c).source = 512 + c.val := rfl
  simp only [isFieldSource, hsrc]
  simp
  omega

/-- The registers of a channel that an outcome writes (R166, R167). -/
def outcomeRegs : List Nat := [0xC, 0x10, 0x14, 0x18, 0x1C, 0x20, 0x24, 0x28, 0x2C, 0x30]

theorem chAddr_regs {c : Nat} {l : List Nat} (hl : l ⊆ outcomeRegs) :
    l.map (chAddr c) ⊆ outcomeRegs.map (chAddr c) ∧ ∀ a ∈ l.map (chAddr c), bindOf a = none := by
  refine ⟨List.map_subset _ hl, fun a ha => ?_⟩
  obtain ⟨i, hi, rfl⟩ := List.mem_map.mp ha
  have hsmall : ∀ j ∈ outcomeRegs, j < 0x80 := by decide
  exact bindOf_chAddr c (hsmall i (hl hi))

theorem chAddr_nodup (c : Nat) {l : List Nat} (hl : l.Nodup) : (l.map (chAddr c)).Nodup := hl.map fun _ _ => chAddr_inj.mp

theorem chAddr_notMem {c i : Nat} {l : List Nat} (hi : i ∉ l) : chAddr c i ∉ l.map (chAddr c) := fun h => by
  obtain ⟨j, hj, heq⟩ := List.mem_map.mp h
  exact hi (chAddr_inj.mp heq ▸ hj)

/-- What an outcome does beyond its counts: the count and flag of an ABSENT one, or the values of an integrated one. -/
def State.outcomeDetail (s : State) (c : Nat) (o : WinOut) : State :=
  if o.absent.isSome then (s.addSat (chAddr c 0x14) 1).flag (chFlags c) 3
  else s.outcomeValues (chFlags c) (chAddr c 0x24) (chAddr c 0x28) (chAddr c 0x2C) (chAddr c 0x30) o

theorem State.noteOutcome_eq (s : State) (c : Nat) (x : Ctx) (o : WinOut) : s.noteOutcome c x o =
    (s.outcomeCounted (chAddr c 0x1C) (chAddr c 0x20) (chAddr c 0x10) (chAddr c 0x18) (s.outWord0 1 c o) x.stamp o.uncertain).outcomeDetail
      c o := rfl

/-- A count and a flag of an outcome. -/
theorem State.notesOutcome_counted {f : FlagReg} (hf : isFieldSource f.source = true) {a : Nat} (ha : a ≠ f.addr)
    (hbind : ∀ x ∈ [f.addr, a], bindOf x = none) {b : Nat} (hb : b < 32) (s : State) : let t := (s.addSat a 1).flag f b
    s.notesOutcome t [f.addr, a] ∧ (t.reg a).toNat = min 0xFFFFFFFF ((s.reg a).toNat + 1) ∧ t.bit f.addr b = true := by
  obtain ⟨-, hcount, hflag⟩ := State.counted_flag_leaves hf ha hb s
  exact ⟨(s.notesOutcome_setReg (by simp) (hbind a (by simp)) _).trans (State.notesOutcome_flag hf (by simp) (hbind _ (by simp)) _ b), hcount, hflag⟩

theorem State.outcomeDetail_leaves (s : State) (c : Chan) (o : WinOut) : let t := s.outcomeDetail c o
    s.notesOutcome t ([0xC, 0x14, 0x24, 0x28, 0x2C, 0x30].map (chAddr c)) ∧
      (t.reg (chAddr c 0x14)).toNat = min 0xFFFFFFFF ((s.reg (chAddr c 0x14)).toNat + o.absent.isSome.toNat) ∧
      (o.absent = none → t.reg (chAddr c 0x24) = sat32w o.i ∧ t.reg (chAddr c 0x28) = sat32w o.q ∧
        t.reg (chAddr c 0x2C) = sat32w o.d0 ∧ t.reg (chAddr c 0x30) = sat32w o.d1) ∧
      (o.absent ≠ none → t.bit (chAddr c 0xC) 3 = true ∧ ∀ i ∈ [0x24, 0x28, 0x2C, 0x30], t.reg (chAddr c i) = s.reg (chAddr c i)) := by
  have hlt := (s.reg (chAddr c 0x14)).isLt
  unfold State.outcomeDetail
  cases habsent : o.absent with
  | none =>
    obtain ⟨hnotes, hvalues⟩ := s.outcomeValues_leaves (chFlags_field c) (chAddr_nodup c (l := [0xC, 0x24, 0x28, 0x2C, 0x30]) (by decide))
      (chAddr_regs (l := [0xC, 0x24, 0x28, 0x2C, 0x30]) (by decide)).2 o
    have hsub : [0xC, 0x24, 0x28, 0x2C, 0x30].map (chAddr c) ⊆ [0xC, 0x14, 0x24, 0x28, 0x2C, 0x30].map (chAddr c) := List.map_subset _ (by decide)
    have hkept : chAddr c 0x14 ∉ [0xC, 0x24, 0x28, 0x2C, 0x30].map (chAddr c) := chAddr_notMem (by decide)
    rw [Option.isSome_none, if_neg (by decide)]
    refine ⟨hnotes.mono hsub, ?_, fun _ => hvalues, fun h => absurd rfl h⟩
    rw [hnotes.2.1 _ hkept, Bool.toNat_false]
    omega
  | some cause =>
    obtain ⟨hnotes, hcount, hflag⟩ := State.notesOutcome_counted (chFlags_field c) (a := chAddr c 0x14) (fun h => absurd (chAddr_inj.mp h) (by decide))
      (chAddr_regs (l := [0xC, 0x14]) (by decide)).2 (b := 3) (by decide) s
    have hsub : [0xC, 0x14].map (chAddr c) ⊆ [0xC, 0x14, 0x24, 0x28, 0x2C, 0x30].map (chAddr c) := List.map_subset _ (by decide)
    rw [Option.isSome_some, if_pos rfl]
    refine ⟨hnotes.mono hsub, hcount, fun h => absurd h (by simp), fun _ => ⟨hflag, fun i hi => ?_⟩⟩
    have hother : i ∉ [0xC, 0x14] := fun h => by
      have : ∀ j ∈ [0x24, 0x28, 0x2C, 0x30], j ∉ [0xC, 0x14] := by decide
      exact this i hi h
    exact hnotes.2.1 _ (chAddr_notMem (l := [0xC, 0x14]) hother)

/-- What the counts, words and values of channel c come to with the outcome o of a window stamped at a block. -/
structure OutcomeNoted (s t : State) (c : Nat) (word stamp : W32) (o : WinOut) : Prop where
  word : t.reg (chAddr c 0x1C) = word
  stamp : t.reg (chAddr c 0x20) = stamp
  count : (t.reg (chAddr c 0x10)).toNat = min 0xFFFFFFFF ((s.reg (chAddr c 0x10)).toNat + 1)
  absents : (t.reg (chAddr c 0x14)).toNat = min 0xFFFFFFFF ((s.reg (chAddr c 0x14)).toNat + o.absent.isSome.toNat)
  unsure : (t.reg (chAddr c 0x18)).toNat = min 0xFFFFFFFF ((s.reg (chAddr c 0x18)).toNat + o.uncertain.toNat)
  values : o.absent = none → t.reg (chAddr c 0x24) = sat32w o.i ∧ t.reg (chAddr c 0x28) = sat32w o.q ∧
    t.reg (chAddr c 0x2C) = sat32w o.d0 ∧ t.reg (chAddr c 0x30) = sat32w o.d1
  absent : o.absent ≠ none → t.bit (chAddr c 0xC) 3 = true ∧ ∀ i ∈ [0x24, 0x28, 0x2C, 0x30], t.reg (chAddr c i) = s.reg (chAddr c i)

/-- What keeps a channel's registers keeps what they came to. -/
theorem OutcomeNoted.congr {s t s' t' : State} {c : Nat} {word stamp : W32} {o : WinOut} (h : OutcomeNoted s t c word stamp o)
    (hs : ∀ i ∈ outcomeRegs, s.reg (chAddr c i) = s'.reg (chAddr c i))
    (ht : ∀ i ∈ outcomeRegs, t.reg (chAddr c i) = t'.reg (chAddr c i)) : OutcomeNoted s' t' c word stamp o := by
  obtain ⟨hword, hstamp, hcount, habsents, hunsure, hvalues, habsent⟩ := h
  rw [ht _ (by decide)] at hword hstamp hcount habsents hunsure
  rw [hs _ (by decide)] at hcount habsents hunsure
  rw [ht _ (by decide), ht _ (by decide), ht _ (by decide), ht _ (by decide)] at hvalues
  refine ⟨hword, hstamp, hcount, habsents, hunsure, hvalues, fun h => ?_⟩
  obtain ⟨hflag, hkept⟩ := habsent h
  refine ⟨(State.bit_of_reg (ht _ (by decide)) 3).symm.trans hflag, fun i hi => ?_⟩
  have hin : i ∈ outcomeRegs := (by decide : [0x24, 0x28, 0x2C, 0x30] ⊆ outcomeRegs) hi
  rw [← ht i hin, ← hs i hin]
  exact hkept i hi

theorem State.noteOutcome_leaves (s : State) (c : Chan) (x : Ctx) (o : WinOut) : let t := s.noteOutcome c x o
    s.notesOutcome t (outcomeRegs.map (chAddr c)) ∧ OutcomeNoted s t c (s.outWord0 1 c o) x.stamp o := by
  obtain ⟨hcounted, hword, hstamp, hcount, hunsure⟩ := s.outcomeCounted_leaves (chAddr_nodup c (l := [0x1C, 0x20, 0x10, 0x18]) (by decide))
    (chAddr_regs (l := [0x1C, 0x20, 0x10, 0x18]) (by decide)).2 (s.outWord0 1 c o) x.stamp o.uncertain
  rw [State.noteOutcome_eq]
  generalize s.outcomeCounted _ _ _ _ _ _ _ = u at *
  obtain ⟨hdetail, habsents, hvalues, habsent⟩ := u.outcomeDetail_leaves c o
  have hearlier : ∀ i ∈ [0x14, 0x24, 0x28, 0x2C, 0x30], u.reg (chAddr c i) = s.reg (chAddr c i) := fun i hi => by
    have hother : ∀ j ∈ [0x14, 0x24, 0x28, 0x2C, 0x30], j ∉ [0x1C, 0x20, 0x10, 0x18] := by decide
    exact hcounted.2.1 _ (chAddr_notMem (l := [0x1C, 0x20, 0x10, 0x18]) (hother i hi))
  have hlater : ∀ i ∈ [0x1C, 0x20, 0x10, 0x18], (u.outcomeDetail c o).reg (chAddr c i) = u.reg (chAddr c i) := fun i hi => by
    have hother : ∀ j ∈ [0x1C, 0x20, 0x10, 0x18], j ∉ [0xC, 0x14, 0x24, 0x28, 0x2C, 0x30] := by decide
    exact hdetail.2.1 _ (chAddr_notMem (hother i hi))
  refine ⟨(hcounted.mono (chAddr_regs (c := c) (l := [0x1C, 0x20, 0x10, 0x18]) (by decide)).1).trans (hdetail.mono (chAddr_regs (by decide)).1), ?_⟩
  refine ⟨(hlater _ (by simp)).trans hword, (hlater _ (by simp)).trans hstamp, ?_, ?_, ?_, hvalues, fun h => ⟨(habsent h).1, fun i hi => ?_⟩⟩
  · rw [hlater _ (by simp), hcount]
  · rw [habsents, hearlier _ (by simp)]
  · rw [hlater _ (by simp), hunsure]
  · rw [(habsent h).2 i hi, hearlier i (List.mem_cons_of_mem _ hi)]

/-! ## The pockets that an outcome triggers (R238, R242) -/

theorem State.missCause_notesOutcome {k : Nat} (hk : k < 16) (s : State) (n : Nat) : s.notesOutcome (s.missCause k n) pocketMissRegs := by
  have hflags : pocketAddr k 0x24 ∈ pocketMissRegs := List.mem_flatMap.mpr ⟨k, List.mem_range.mpr hk, by simp⟩
  have hcount : pocketAddr k 0x28 ∈ pocketMissRegs := List.mem_flatMap.mpr ⟨k, List.mem_range.mpr hk, by simp⟩
  unfold State.missCause
  split
  · exact s.notesOutcome_refl _
  · exact ((s.notesOutcome_setPocket k _ _).trans (State.notesOutcome_setReg _ hcount (bindOf_pocketAddr k (by decide)) _)).trans
      (State.notesOutcome_flag (pocketFlags_field hk) hflags (bindOf_pocketAddr k (by decide)) _ 2)

theorem State.pocketCause_notesOutcome {k : Nat} (hk : k < 16) (s : State) (cause : Nat) (p : W64) :
    s.notesOutcome (s.pocketCause k cause p) pocketMissRegs := by
  unfold State.pocketCause
  dsimp only
  split
  · exact s.notesOutcome_refl _
  · split
    · exact s.notesOutcome_setPocket k _ _
    · exact s.missCause_notesOutcome hk 1
    · exact s.missCause_notesOutcome hk 1
    · exact s.notesOutcome_refl _

theorem State.pocketOutcome_notesOutcome (s : State) (c : Nat) (stamp : W32) (value : BitVec 2) (absent : Bool) (entry : List W32) :
    s.notesOutcome (s.pocketOutcome c stamp value absent entry) pocketMissRegs := by
  have hcauses := foldS_rel (fun s t => s.notesOutcome t pocketMissRegs) (fun s => s.notesOutcome_refl _) (fun _ _ _ => .trans)
    (fun k s => let v := s.reg (pocketAddr k 0x1C)
      if wfld v 8 0 = c ∧ (v.getLsbD 11 ∨ (absent ∧ v.getLsbD 12) ∨ wfld v 10 9 = value.toNat) then s.pocketCause k 1 (s.tickOf stamp) else s)
    (List.range 16) (fun k hk s => by
      dsimp only
      split
      · exact s.pocketCause_notesOutcome (List.mem_range.mp hk) 1 _
      · exact s.notesOutcome_refl _) s
  unfold State.pocketOutcome
  dsimp only
  split
  · exact hcauses.trans (State.notesOutcome_setPocket _ _ _ _)
  · exact hcauses

/-! ## An outcome on the network and in its record (R161, R162, R169, R174) -/

theorem State.putRecord_frame (s : State) (words : List W32) : s.putRecord words = { s with onet := (s.putRecord words).onet } := by
  unfold State.putRecord
  split <;> rfl

/-- A channel's outcome in a unit of no twinset that neither shadows nor feeds a standby (R169, R176, R180). -/
theorem State.releaseOutcome_alone {s : State} {c : Nat} (hc : c < 512) (htwin : s.twin = false) (hshadow : s.shadow = false)
    (hpair : s.pairState ≠ 3) (en : Entry) (words : List W32) (flips b1 : Bool) :
    s.releaseOutcome c en words flips b1 = (s.putRecord words).deliver c en := by
  have hkept : (s.putRecord words).pairState = s.pairState := by rw [State.putRecord_frame, State.pairState, State.pairState]; rfl
  unfold State.releaseOutcome
  simp [htwin, hc, hshadow, hkept, hpair]

/-- Between s and t records were formed: nothing changed but what the network holds, the count of records lost and notices on their way. -/
def State.formsRecords (s t : State) : Prop :=
  t = { s with onet := t.onet, regs := t.regs, evt := t.evt } ∧ s.sameRegs t [aResultsLost] ∧ t.onet.deliv = s.onet.deliv

theorem State.formsRecords_refl (s : State) : s.formsRecords s := ⟨rfl, fun _ _ => rfl, rfl⟩

theorem State.formsRecords.trans {s t u : State} (h : s.formsRecords t) (k : t.formsRecords u) : s.formsRecords u := by
  obtain ⟨hframe, hregs, hdeliv⟩ := h
  obtain ⟨kframe, kregs, kdeliv⟩ := k
  refine ⟨?_, fun a ha => (kregs a ha).trans (hregs a ha), kdeliv.trans hdeliv⟩
  rw [hframe] at kframe
  exact kframe

theorem State.fieldRaise_formsRecords (s : State) (n : Notice) : s.formsRecords (s.fieldRaise n) := by
  refine ⟨?_, fun a _ => s.fieldRaise_reg n a, ?_⟩
  all_goals
    unfold State.fieldRaise
    split <;> rfl

theorem State.loseRecord_formsRecords (s : State) : s.formsRecords s.loseRecord := by
  have hcount : s.formsRecords (s.addSat aResultsLost 1) :=
    ⟨s.setReg_frame _ _, fun a ha => (s.reg_addSat _ _ a).trans (if_neg (by simpa using ha)), rfl⟩
  unfold State.loseRecord
  dsimp only
  split
  · exact hcount.trans (State.fieldRaise_formsRecords _ _)
  · exact hcount

/-- The next RECORD_SEQ of a stream is taken (R309). -/
def State.seqTaken (s : State) (stream : Nat) : State :=
  { s with onet := if stream = 0 then { s.onet with seq0 := (if stream = 0 then s.onet.seq0 else s.onet.seq1) + 1 }
      else { s.onet with seq1 := (if stream = 0 then s.onet.seq0 else s.onet.seq1) + 1 } }

theorem State.seqTaken_formsRecords (s : State) (stream : Nat) : s.formsRecords (s.seqTaken stream) := by
  refine ⟨rfl, fun _ _ => rfl, ?_⟩
  unfold State.seqTaken
  dsimp only
  split <;> rfl

theorem State.formRecord_eq (s : State) (y : Option Nat) (stream : Nat) (words : List W32) : s.formRecord y stream words =
    if (if y.isSome then 4096 else 1024) ≤ (s.seqTaken stream).recsOf y then (s.seqTaken stream).loseRecord
    else { s.seqTaken stream with onet := { (s.seqTaken stream).onet with recs := (s.seqTaken stream).onet.recs ++
      [{ yoke := y, stream, seq := if stream = 0 then s.onet.seq0 else s.onet.seq1, words }] } } := rfl

theorem State.formRecord_formsRecords (s : State) (y : Option Nat) (stream : Nat) (words : List W32) :
    s.formsRecords (s.formRecord y stream words) := by
  have hseq := s.seqTaken_formsRecords stream
  rw [State.formRecord_eq]
  by_cases hfull : (if y.isSome then 4096 else 1024) ≤ (s.seqTaken stream).recsOf y
  · rw [if_pos hfull]
    exact hseq.trans (State.loseRecord_formsRecords _)
  · rw [if_neg hfull]
    exact hseq.trans ⟨rfl, fun _ _ => rfl, rfl⟩

theorem State.formSome_formsRecords (n : Nat) (s : State) : s.formsRecords (s.formSome n) := by
  induction n generalizing s with
  | zero => exact s.formsRecords_refl
  | succ n ih =>
    have hless : ∀ rest, s.formsRecords { s with onet := { s.onet with unformed := rest } } := fun _ => ⟨rfl, fun _ _ => rfl, rfl⟩
    unfold State.formSome
    split
    · exact s.formsRecords_refl
    · split
      · exact s.formsRecords_refl
      · dsimp only
        exact ((hless _).trans (State.formRecord_formsRecords _ _ _ _)).trans (ih _)

theorem State.formReady_of_none {s : State} (h : s.onet.unformed = []) : s.formReady = s := by
  unfold State.formReady
  rw [h]
  rfl

/-- A record whose turn has come, with none before it and room in its yoke's queue, is formed (R162, R309). -/
theorem State.formReady_one {s : State} {ws : List W32} (h : s.onet.unformed = [ws]) (hturn : s.recBlocked (recKey ws) = false)
    (hroom : s.recsOf (some (yokeOfTile (16 + (recKey ws).2 / 32))) < 4096) : s.formReady.onet.recs =
      s.onet.recs ++ [{ yoke := some (yokeOfTile (16 + (recKey ws).2 / 32)), stream := 0, seq := s.onet.seq0, words := ws }] := by
  unfold State.formReady State.formSome
  rw [h]
  dsimp only [List.length_cons, List.length_nil]
  rw [hturn, if_neg (by decide)]
  unfold State.formSome State.formRecord
  simp only [if_true, Option.isSome_some]
  exact congrArg (fun t : State => t.onet.recs) (if_neg (Nat.not_le.mpr hroom))

theorem State.outWord0_channel (s : State) (rtype : Nat) {c : Nat} (hc : c < 512) (o : WinOut) : wfld (s.outWord0 rtype c o) 17 9 = c := by
  have hvalue := o.value.isLt
  have hraw := o.raw.isLt
  have hbit : ∀ b : Bool, b.toNat ≤ 1 := by decide
  have := hbit o.uncertain
  have := hbit o.absent.isSome
  have := hbit o.flipped
  have := hbit o.sat
  have := hbit s.follow
  have hvalid : (if (s.qubitOfChan c).isNone then 2 ^ 27 else 0) = 0 ∨ (if (s.qubitOfChan c).isNone then 2 ^ 27 else 0) = 2 ^ 27 := by
    split <;> simp
  simp only [wfld, State.outWord0, BitVec.toNat_ofNat]
  omega

/-! ## OUTCOME_RELEASE (R160, R169) -/

theorem State.framesUpTo_of_none {s : State} (h : s.frameAll = []) (b : W32) (n : Nat) : s.framesUpTo b n = s := by
  cases n with
  | zero => rfl
  | succ n =>
    unfold State.framesUpTo State.frameNext
    rw [h]
    rfl

/-- The entry that a window's outcome brings to the slots bound to its channel (R91, R174). -/
def WinOut.entry (o : WinOut) (stamp : W32) : Entry :=
  { value := o.value, uncertain := o.uncertain, absent := o.absent.isSome, remote := false, stamp := some stamp }

/-- The registers and pockets after the outcome o of window x of channel c, which leaves the windows rest. -/
def State.outcomeNotedBy (s : State) (c : Nat) (x : Ctx) (rest : List Ctx) (o : WinOut) : State :=
  let u := (s.setCtxs c rest).noteOutcome c x o
  u.pocketOutcome c x.stamp o.value o.absent.isSome [x.stamp, sat32w o.i, sat32w o.q, u.outWord0 1 c o]

theorem exec_outcomeRelease {s : State} {c : Chan} {x : Ctx} {rest : List Ctx} (given : Option (List (BitVec 16 × BitVec 16)))
    (hctxs : s.ctxs c = x :: rest) (hended : x.opened = true ∨ x.dead ≠ none) (hfirst : ∀ y ∈ rest, blt y.stamp x.stamp = false)
    (hoff : s.hem.adcOff = []) (hframes : s.frameAll = []) : let r := s.advanceTo x.stamp
    let o := r.windowOut c x (r.windowSamples c x given)
    exec (.outcomeRelease c given) s = .next ((r.outcomeNotedBy c x rest o).releaseOutcome c (o.entry x.stamp) (r.outRecord c x o)
      (r.ctxFlips c x) ((x.words.getD 1 0).getLsbD 0)).formReady.serveRuns := by
  have hnext : firstBy (fun a b : Ctx => !blt b.stamp a.stamp) ((s.ctxs c).filter (fun x => x.opened || x.dead.isSome)) = some x := by
    have hkept : (x.opened || x.dead.isSome) = true := by
      obtain h | h := hended
      · simp [h]
      · simp [Option.isSome_iff_ne_none, h]
    rw [hctxs, List.filter_cons_of_pos (p := fun x : Ctx => x.opened || x.dead.isSome) hkept]
    exact firstBy_head fun y hy => by rw [hfirst y (List.mem_of_mem_filter hy), Bool.not_false]
  have hstill : (s.advanceTo x.stamp).frameAll = [] := by rw [State.advanceTo_frame]; exact hframes
  have hsame : (s.advanceTo x.stamp).ctxs c = x :: rest := by
    rw [← hctxs, State.ctxs, State.advanceTo_frame, State.ctxs]
  show execOutcomeRelease c given s = _
  unfold execOutcomeRelease
  rw [hnext]
  dsimp only
  unfold State.releaseWindow
  dsimp only
  rw [State.adcSettle_advanceTo hoff, State.framesUpTo_of_none hstill, hsame, List.find?_cons_of_pos (by simp)]
  dsimp only
  rw [List.erase_cons_head]
  rfl

/-- Between s and t the clocks, registers, windows, pockets, the network's tables and notices on their way changed, and nothing else. -/
def State.releasesOnly (s t : State) : Prop :=
  t = { s with clk := t.clk, regs := t.regs, chans := t.chans, pockets := t.pockets, onet := t.onet, evt := t.evt }

theorem State.releasesOnly.trans {s t u : State} (h : s.releasesOnly t) (k : t.releasesOnly u) : s.releasesOnly u := by
  unfold State.releasesOnly at h k ⊢
  rw [h] at k
  exact k

theorem State.releasesOnly.kept {s t : State} (h : s.releasesOnly t) : (∀ e, t.eng e = s.eng e) ∧ s.sameMem t := by
  unfold State.releasesOnly at h
  rw [h]
  exact ⟨fun _ => rfl, fun _ => rfl⟩

theorem State.notesOutcome.kept {s t : State} {l : List Nat} (h : s.notesOutcome t l) :
    s.releasesOnly t ∧ t.chans = s.chans ∧ t.onet = s.onet ∧ t.hem = s.hem := by
  obtain ⟨hframe, -⟩ := h
  unfold State.releasesOnly
  rw [hframe]
  exact ⟨rfl, rfl, rfl, rfl⟩

theorem State.formsRecords.kept {s t : State} (h : s.formsRecords t) : s.releasesOnly t ∧ t.chans = s.chans := by
  obtain ⟨hframe, -⟩ := h
  unfold State.releasesOnly
  rw [hframe]
  exact ⟨rfl, rfl⟩

/-- Word 0 of an outcome record rests on the qubit map and the unit's role alone (R161). -/
theorem State.outWord0_of {s t : State} (hmem : s.mem = t.mem) (hreg : ∀ a, s.reg a = t.reg a) (rtype c : Nat) (o : WinOut) :
    s.outWord0 rtype c o = t.outWord0 rtype c o := by
  have hword : ∀ a, s.word a = t.word a := fun a => by simp only [State.word, State.byte_of_mem hmem]
  simp only [State.outWord0, State.qubitOfChan, hword, State.follow, State.fld, hreg]

theorem State.outcomeNotedBy_leaves (s : State) (c : Chan) (x : Ctx) (rest : List Ctx) (o : WinOut) :
    let t := s.outcomeNotedBy c x rest o
    (s.setCtxs c rest).notesOutcome t (outcomeRegs.map (chAddr c) ++ pocketMissRegs) ∧
      OutcomeNoted s t c (s.outWord0 1 c o) x.stamp o := by
  obtain ⟨hnotes, hnoted⟩ := (s.setCtxs c rest).noteOutcome_leaves c x o
  have hpockets := ((s.setCtxs c rest).noteOutcome c x o).pocketOutcome_notesOutcome c x.stamp o.value o.absent.isSome
    [x.stamp, sat32w o.i, sat32w o.q, ((s.setCtxs c rest).noteOutcome c x o).outWord0 1 c o]
  have hsmall : ∀ i ∈ outcomeRegs, i < 0x80 := by decide
  refine ⟨(hnotes.mono (List.subset_append_left _ _)).trans (hpockets.mono (List.subset_append_right _ _)), ?_⟩
  rw [State.outWord0_of (s := s.setCtxs c rest) (t := s) rfl (fun _ => rfl)] at hnoted
  exact hnoted.congr (fun _ _ => rfl) fun i hi => (hpockets.2.1 _ (chAddr_notMem_pocketMissRegs c (hsmall i hi))).symm

/-- No record of the channel's later windows comes before that of a window no later than they are (R162). -/
theorem State.recBlocked_last {s : State} {c : Nat} {rest : List Ctx} (hchans : s.chans = [] ∨ s.chans = [(c, rest)]) (hdue : s.onet.due = [])
    {stamp : W32} (hfirst : ∀ y ∈ rest, blt y.stamp stamp = false) : s.recBlocked (stamp, c) = false := by
  unfold State.recBlocked
  obtain h | h := hchans
  · simp [h, hdue]
  · simp only [h, hdue, List.any_cons, List.any_nil, Bool.or_false, Bool.and_eq_false_imp, List.any_eq_false]
    intro _ y hy
    simp [keyLt, hfirst y hy]

/-- The record of an outcome, its words and its key (R161, R162). -/
theorem State.outRecord_key (s : State) {c : Nat} (hc : c < 512) (x : Ctx) (o : WinOut) (hmode : s.fld (chAddr c 0) 2 1 ≠ 0) :
    recKey (s.outRecord c x o) = (x.stamp, c) ∧ (s.outRecord c x o).isEmpty = false := by
  have hchannel := s.outWord0_channel (s.fld (chAddr c 0) 2 1) hc o
  unfold State.outRecord
  dsimp only
  rw [if_neg hmode]
  exact ⟨Prod.ext rfl hchannel, rfl⟩

/-- What becomes of a record put in its place with no other waiting. -/
theorem putRecord_formed {s : State} {c : Nat} (en : Entry) (words : List W32) (hnone : s.onet.unformed = []) 
    (hturn : words.isEmpty = false → s.recBlocked (recKey words) = false ∧
      s.recsOf (some (yokeOfTile (16 + (recKey words).2 / 32))) < 4096) :
    ((s.putRecord words).deliver c en).formReady.onet.recs = s.onet.recs ++ if words.isEmpty then [] else
      [{ yoke := some (yokeOfTile (16 + (recKey words).2 / 32)), stream := 0, seq := s.onet.seq0, words }] := by
  cases hempty : words.isEmpty with
  | true =>
    have hkept : s.putRecord words = s := by unfold State.putRecord; rw [if_pos hempty]
    rw [hkept, State.formReady_of_none (s := s.deliver c en) hnone, if_pos rfl, List.append_nil]
    rfl
  | false =>
    obtain ⟨hfirst, hroom⟩ := hturn hempty
    have hput : s.putRecord words = { s with onet := { s.onet with unformed := [words] } } := by
      unfold State.putRecord
      rw [if_neg (by simp [hempty]), hnone]
      rfl
    rw [hput, if_neg (by decide)]
    exact State.formReady_one (s := State.deliver { s with onet := { s.onet with unformed := [words] } } c en) rfl hfirst hroom

theorem State.fld_of_reg {s t : State} {a : Nat} (h : t.reg a = s.reg a) (hi lo : Nat) : t.fld a hi lo = s.fld a hi lo :=
  congrArg (wfld · hi lo) h

theorem tileRegs_above {c : Nat} : ∀ a ∈ outcomeRegs.map (chAddr c) ++ pocketMissRegs, 0x20000000 ≤ a := by
  intro a ha
  rcases List.mem_append.mp ha with hin | hin
  · obtain ⟨i, -, rfl⟩ := List.mem_map.mp hin
    unfold chAddr tileBase
    omega
  · obtain ⟨k, -, hk⟩ := List.mem_flatMap.mp hin
    simp only [List.mem_cons, List.not_mem_nil, or_false] at hk
    unfold pocketAddr tileBase at hk
    omega

/-- The windows of a unit with one channel's, the first of them gone. -/
theorem setCtxs_single {s : State} {c : Nat} {l : List Ctx} (h : s.chans = [(c, l)]) (rest : List Ctx) :
    (s.setCtxs c rest).chans = [] ∨ (s.setCtxs c rest).chans = [(c, rest)] := by
  unfold State.setCtxs tabSet
  dsimp only
  rw [h]
  split
  · exact .inl (by simp [tabDel])
  · exact .inr (by simp [tabIns])

theorem State.onet_kept {s t : State} (h : t = { s with onet := t.onet }) :
    s.releasesOnly t ∧ t.chans = s.chans ∧ (∀ a, t.reg a = s.reg a) ∧ ∀ n b, t.boundSlots n b = s.boundSlots n b := by
  unfold State.releasesOnly
  rw [h]
  exact ⟨rfl, rfl, fun _ => rfl, fun _ _ => rfl⟩

theorem State.putRecord_deliver (s : State) (words : List W32) (c : Nat) (en : Entry) : let t := (s.putRecord words).deliver c en
    t = { s with onet := t.onet } ∧
      t.onet.deliv = s.onet.deliv ++ (s.boundSlots c false).map (fun b => { eng := b.1, slot := b.2, entry := en }) := by
  unfold State.putRecord
  split <;> exact ⟨rfl, rfl⟩

/-- What OUTCOME_RELEASE leaves before what follows any event of an engine: the outcome in the channel's registers, in the slots bound to
it and in its record. -/
structure OutcomeReleased (r t : State) (c : Nat) (x : Ctx) (rest : List Ctx) (o : WinOut) : Prop where
  only : r.releasesOnly t
  chans : t.chans = (r.setCtxs c rest).chans
  noted : OutcomeNoted r t c (r.outWord0 1 c o) x.stamp o
  deliv : t.onet.deliv = r.onet.deliv ++ (r.boundSlots c false).map (fun b => { eng := b.1, slot := b.2, entry := o.entry x.stamp })
  regs : r.sameRegs t (outcomeRegs.map (chAddr c) ++ aResultsLost :: pocketMissRegs)
  record : r.chans = [(c, x :: rest)] → r.onet.unformed = [] → r.onet.due = [] → r.recsOf (some (yokeOfTile (16 + c / 32))) < 4096 →
    t.onet.recs = r.onet.recs ++ if r.fld (chAddr c 0) 2 1 = 0 then [] else
      [{ yoke := some (yokeOfTile (16 + c / 32)), stream := 0, seq := r.onet.seq0, words := r.outRecord c x o }]

theorem outcomeReleased (r : State) (c : Chan) {x : Ctx} {rest : List Ctx} (o : WinOut) (hfirst : ∀ y ∈ rest, blt y.stamp x.stamp = false)
    (htwin : r.twin = false) (hshadow : r.shadow = false) (hpair : r.pairState ≠ 3) (flips b1 : Bool) : OutcomeReleased r
      ((r.outcomeNotedBy c x rest o).releaseOutcome c (o.entry x.stamp) (r.outRecord c x o) flips b1).formReady c x rest o := by
  obtain ⟨hnotes, hnoted⟩ := r.outcomeNotedBy_leaves c x rest o
  generalize r.outcomeNotedBy c x rest o = n at hnotes hnoted ⊢
  obtain ⟨hnotesOnly, hchans, honet, hhem⟩ := hnotes.kept
  obtain ⟨-, hregs, hbound⟩ := hnotes
  have hpairKept : n.pairState = r.pairState :=
    State.fld_of_reg (s := r) (hregs aPairStatus fun h => absurd (tileRegs_above _ h) (by decide)) 2 0
  have htwinKept : n.twin = false := by rw [State.twin, hhem]; exact htwin
  have hshadowKept : n.shadow = false := by rw [State.shadow, hpairKept]; exact hshadow
  rw [State.releaseOutcome_alone c.isLt htwinKept hshadowKept (hpairKept ▸ hpair)]
  obtain ⟨words, hwords⟩ : ∃ words, words = r.outRecord c x o := ⟨_, rfl⟩
  rw [← hwords]
  have hrecord := putRecord_formed (s := n) (c := c) (o.entry x.stamp) words
  obtain ⟨hputFrame, hdeliv⟩ := n.putRecord_deliver words c (o.entry x.stamp)
  generalize (n.putRecord words).deliver c (o.entry x.stamp) = w at hputFrame hdeliv hrecord ⊢
  have hforms := State.formSome_formsRecords w.onet.unformed.length w
  obtain ⟨hputOnly, hputChans, hputRegs, -⟩ := State.onet_kept hputFrame
  obtain ⟨hformsOnly, hformsChans⟩ := hforms.kept
  obtain ⟨-, hformsRegs, hformsDeliv⟩ := hforms
  have hsetOnly : r.releasesOnly (r.setCtxs c rest) := rfl
  have hlast : ∀ a, a ≠ aResultsLost → w.formReady.reg a = n.reg a := fun a ha => (hformsRegs a (by simpa using ha)).trans (hputRegs a)
  have hsmall : ∀ i ∈ outcomeRegs, i < 0x80 := by decide
  refine ⟨((hsetOnly.trans hnotesOnly).trans hputOnly).trans hformsOnly, (hformsChans.trans hputChans).trans hchans,
    hnoted.congr (fun _ _ => rfl) fun i hi => (hlast _ (chAddr_ne_resultsLost c (hsmall i hi))).symm, ?_, fun a ha => ?_,
    fun hone hnone hdue hroom => ?_⟩
  · rw [State.formReady, hformsDeliv, hdeliv, honet, hbound]
    rfl
  · simp only [List.mem_append, List.mem_cons, not_or] at ha
    obtain ⟨hown, hlost, hpockets⟩ := ha
    exact (hlast a hlost).trans (hregs a (by simp [hown, hpockets]))
  · have hmode : n.fld (chAddr c 0) 2 1 = r.fld (chAddr c 0) 2 1 := by
      refine State.fld_of_reg (s := r) (hregs _ fun h => ?_) 2 1
      rcases List.mem_append.mp h with hin | hin
      · exact chAddr_notMem (by decide) hin
      · exact chAddr_notMem_pocketMissRegs c (by decide) hin
    have hempty : words.isEmpty = decide (r.fld (chAddr c 0) 2 1 = 0) := by
      by_cases hzero : r.fld (chAddr c 0) 2 1 = 0
      · rw [hwords, State.outRecord]
        simp [hzero]
      · rw [hwords, (r.outRecord_key c.isLt x o hzero).2, decide_eq_false hzero]
    have hkey : words.isEmpty = false → recKey words = (x.stamp, c.val) := fun h => by
      rw [hwords]
      exact (r.outRecord_key c.isLt x o (of_decide_eq_false (hempty ▸ h))).1
    have hfinal := hrecord (by rw [honet]; exact hnone) fun h => by
      rw [hkey h]
      refine ⟨State.recBlocked_last (by rw [hchans]; exact setCtxs_single hone rest) (by rw [honet]; exact hdue) hfirst, ?_⟩
      rw [State.recsOf, honet]
      exact hroom
    rw [hfinal, honet]
    cases hno : words.isEmpty with
    | true => rw [if_pos rfl, if_pos (of_decide_eq_true (hempty ▸ hno))]; rfl
    | false => rw [if_neg (by decide), if_neg (of_decide_eq_false (hempty ▸ hno)), hkey hno, ← hwords]; rfl

/-- Moving time on leaves what an outcome's release reads. -/
theorem State.advanceTo_kept (s : State) (b : W32) : let r := s.advanceTo b
    s.releasesOnly r ∧ r.mem = s.mem ∧ r.hem = s.hem ∧ r.chans = s.chans ∧ r.onet = s.onet ∧ ∀ n b, r.boundSlots n b = s.boundSlots n b := by
  have h := s.advanceTo_frame b
  dsimp only
  generalize s.advanceTo b = r at h
  unfold State.releasesOnly
  rw [h]
  exact ⟨rfl, rfl, rfl, rfl, rfl, fun _ _ => rfl⟩

/-- Settles O26: the window's outcome is noted, released and recorded by steps that each name what they write. An ABSENT outcome's values
are the model's choice (log entry 123). -/
theorem windowsOpenAndRelease : Obligations.WindowsOpenAndRelease := by
  refine ⟨fun s c done rest x hctxs hdone hopened hdead haccepted hfirst hoff => ?_,
    fun s c x rest given hctxs hended hfirst hoff hframes htwin hshadow hpair => ?_⟩
  · obtain ⟨honly, hctx, hothers, hregs⟩ := windowOpen_leaves s c x.start (done ++ s.opensWindow c x :: rest)
    exact ⟨_, exec_windowOpen hctxs hdone hopened hdead haccepted hfirst hoff, hctx, hothers, honly.kept.1, fun a _ => hregs a, honly.kept.2⟩
  have hexec := exec_outcomeRelease given hctxs hended hfirst hoff hframes
  obtain ⟨hmoved, hmem, hhem, hchans, honet, hbound⟩ := s.advanceTo_kept x.stamp
  have hreg : ∀ a, (s.advanceTo x.stamp).reg a = s.reg a := s.advanceTo_reg x.stamp
  dsimp only at hexec hmoved hmem hhem hchans honet hbound ⊢
  generalize s.advanceTo x.stamp = r at hexec hmoved hmem hhem hchans honet hbound hreg ⊢
  generalize r.windowOut c x (r.windowSamples c x given) = o at hexec ⊢
  have hpairKept : r.pairState = s.pairState := State.fld_of_reg (hreg _) 2 0
  obtain ⟨honly, hwindows, hnoted, hdeliv, hregs, hrecord⟩ := outcomeReleased r c o hfirst (by rw [State.twin, hhem]; exact htwin)
    (by rw [State.shadow, hpairKept]; exact hshadow) (hpairKept ▸ hpair) (r.ctxFlips c x) ((x.words.getD 1 0).getLsbD 0)
  obtain ⟨hword, hstamp, hcount, habsents, hunsure, hvalues, habsent⟩ := hnoted.congr (fun i _ => hreg _) (fun _ _ => rfl)
  have hmode : r.fld (chAddr c 0) 2 1 = s.fld (chAddr c 0) 2 1 := State.fld_of_reg (hreg _) 2 1
  have hroom : ∀ y, r.recsOf y = s.recsOf y := fun y => by rw [State.recsOf, honet, State.recsOf]
  rw [honet, hbound] at hdeliv
  rw [hchans, honet, hroom, hmode] at hrecord
  refine ⟨_, hexec, ?_, fun d hd => ?_, hword.trans (State.outWord0_of hmem hreg 1 c o), hstamp, hcount, habsents, hunsure, hvalues, habsent,
    hdeliv, hrecord, fun a ha => (hregs a ha).trans (hreg a), (hmoved.trans honly).kept⟩
  · rw [State.ctxs, hwindows]
    exact (State.ctxs_setCtxs r c c rest).trans (if_pos rfl)
  · rw [State.ctxs, hwindows]
    refine (State.ctxs_setCtxs r c d rest).trans ((if_neg hd).trans ?_)
    rw [State.ctxs, hchans, State.ctxs]

end Sys2Proof.Machine

namespace Sys2Proof.Machine

/-! ## Replies leave the controllers' routines (R290, R291) -/

/-- Both controllers' routines stand. -/
def State.sameRoutines (s t : State) : Prop := t.cmd.ci = s.cmd.ci ∧ t.cmd.fm = s.cmd.fm

theorem State.sameRoutines_refl (s : State) : s.sameRoutines s := ⟨rfl, rfl⟩

theorem State.sameRoutines.trans {s t u : State} (h : s.sameRoutines t) (k : t.sameRoutines u) : s.sameRoutines u :=
  ⟨k.1.trans h.1, k.2.trans h.2⟩

/-- The same from a state whose routines are the same already. -/
theorem State.sameRoutines.after {s t u : State} (k : t.sameRoutines u) (hci : t.cmd.ci = s.cmd.ci) (hfm : t.cmd.fm = s.cmd.fm) :
    s.sameRoutines u := State.sameRoutines.trans ⟨hci, hfm⟩ k

theorem State.sameRoutines.long {s t : State} (h : s.sameRoutines t) (c : Ctl) : t.long c = s.long c := by
  cases c
  · exact h.1
  · exact h.2

theorem State.transmit_sameRoutines (s : State) (o : Out) : s.sameRoutines (s.transmit o) := by
  refine ⟨?_, s.transmit_routine o⟩
  unfold State.transmit
  dsimp only
  split
  · rfl
  · split <;> split <;> rfl

theorem State.send_sameRoutines (s : State) (o : Out) : s.sameRoutines (s.send o) := by
  have hsent : ∀ u : State, s.sameRoutines u → s.sameRoutines (State.transmit { u with sent := u.sent ++ [o] } o) :=
    fun u h => h.trans ((State.transmit_sameRoutines _ o).after rfl rfl)
  unfold State.send
  dsimp only
  split
  · exact hsent _ ⟨rfl, rfl⟩
  · exact hsent _ s.sameRoutines_refl

theorem State.sendResult_sameRoutines (s : State) (o : Out) : s.sameRoutines (s.sendResult o) := by
  unfold State.sendResult
  split
  · exact s.send_sameRoutines o
  · exact ⟨rfl, rfl⟩

theorem State.sendNotice_sameRoutines (s : State) (n : Notice) : s.sameRoutines (s.sendNotice n) := by
  have hlast : ∀ u : State, s.sameRoutines u → s.sameRoutines (if (u.bit 0x00060000 2 && u.bit 0x00040004 0) = true then
      u.send (.notice (some (u.hostMac, u.ownMac)) (noticeWords n (s.fld aNseq 15 0))) else u) := by
    intro u hu
    split
    · exact hu.trans (u.send_sameRoutines _)
    · exact hu
  unfold State.sendNotice
  dsimp only
  apply hlast
  split
  · exact ⟨rfl, rfl⟩
  · split
    · exact ⟨rfl, rfl⟩
    · exact (State.sendResult_sameRoutines _ _).after rfl rfl

theorem State.lostNotice_sameRoutines (s : State) : s.sameRoutines s.lostNotice := by
  unfold State.lostNotice
  dsimp only
  split
  · exact s.sameRoutines_refl
  · split
    · exact (State.sendNotice_sameRoutines _ _).after rfl rfl
    · exact ⟨rfl, rfl⟩

theorem State.hostRaise_sameRoutines (s : State) (n : Notice) : s.sameRoutines (s.hostRaise n) := by
  have hpend : s.sameRoutines (s.setPend n.source) := ⟨rfl, rfl⟩
  unfold State.hostRaise
  dsimp only
  split
  · exact (hpend.trans (State.lostNotice_sameRoutines _)).trans (State.sendNotice_sameRoutines _ n)
  · exact hpend

theorem State.raise_sameRoutines (s : State) (source reg bit index : Nat) (detail : BitVec 16) :
    s.sameRoutines (s.raise source reg bit index detail) := by
  unfold State.raise
  split
  · unfold State.fieldRaise
    split <;> exact ⟨rfl, rfl⟩
  · exact State.hostRaise_sameRoutines _ _

theorem State.flag_sameRoutines (s : State) (f : FlagReg) (b : Nat) : s.sameRoutines (s.flag f b) := by
  unfold State.flag State.flagD
  split
  · exact s.sameRoutines_refl
  · exact (State.raise_sameRoutines _ _ _ _ _ _).after rfl rfl

theorem State.countError_sameRoutines (s : State) (h : Hdr) (op : Nat) (st : Byte) : s.sameRoutines (s.countError h op st) := by
  unfold State.countError
  split
  · exact s.sameRoutines_refl
  · exact (State.raise_sameRoutines _ _ _ _ _ _).after rfl rfl

theorem State.sendReply_sameRoutines (s : State) (h : Hdr) (r : Reply) : s.sameRoutines (s.sendReply h r) := by
  unfold State.sendReply
  split
  · exact s.sameRoutines_refl
  · exact s.send_sameRoutines _

theorem State.finish_sameRoutines (s : State) (h : Hdr) (op : Nat) (st : Byte) (ps : List W32) : s.sameRoutines (s.finish h op st ps) := by
  unfold State.finish
  dsimp only
  refine State.sameRoutines.trans ?_ (State.sendReply_sameRoutines _ h _)
  exact (State.countError_sameRoutines _ h op st).after rfl rfl

theorem State.finalReply_sameRoutines (s : State) (h : Hdr) (op : Nat) (st : Byte) (ps : List W32) :
    s.sameRoutines (s.finalReply h op st ps) := by
  unfold State.finalReply
  dsimp only
  refine State.sameRoutines.trans ?_ (State.sendReply_sameRoutines _ h _)
  exact (State.countError_sameRoutines _ h op st).after rfl rfl

/-! ## Refusals, routines that begin and routines that end (R290, R291, R294) -/

/-- What the ways out leave of the stores, the Hem, the banks and time. -/
theorem Emits.stores {l : List Nat} {s t : State} (h : Emits l s t) :
    t.nv = s.nv ∧ t.banks = s.banks ∧ t.hem = s.hem ∧ t.hkHost = s.hkHost ∧ t.hkField = s.hkField ∧ t.free = s.free := by
  have hframe := h.frame
  rw [hframe]
  exact ⟨rfl, rfl, rfl, rfl, rfl, rfl⟩

theorem Emits.unitAddr {l : List Nat} {s t : State} (h : Emits l s t) (hl : aMgmtStatus ∉ l) : t.unitAddr = s.unitAddr :=
  congrArg (BitVec.ofNat 8) (State.fld_of_reg (h.regs aMgmtStatus hl (by decide)) 15 8)

/-- A command that ends with an error has done nothing. -/
theorem State.refused_finish (s : State) (h : Hdr) (op : Nat) {st : Byte} (hok : st ≠ stOk) (hpending : st ≠ stPending) :
    s.refused (s.finish h op st) h op st := by
  have hemits := s.finish_emits h op st []
  obtain ⟨hnv, hbanks, -⟩ := hemits.stores
  obtain ⟨hci, hfm⟩ := s.finish_sameRoutines h op st []
  exact ⟨State.finish_error_answers hok hpending, hemits.tilesKept (by simp), hemits.unitAddr (by simp), hnv, hbanks, hci, hfm⟩

theorem State.long_setLong (s : State) (c : Ctl) (x : Option Long) : (s.setLong c x).long c = x := by
  cases c <;> rfl

/-- The routine that a long command begins. -/
def newLong (h : Hdr) (op : Nat) (arg : W32) (tiles : List Nat) : Long :=
  { op := BitVec.ofNat 8 op, h, arg, tiles, failed := false, journal := [], answered := false, sig := [] }

/-- A long command accepted: PENDING is answered and its routine is there. -/
def State.begunLong (s : State) (c : Ctl) (h : Hdr) (op : Nat) (arg : W32) (tiles : List Nat) : State :=
  (s.finish h op stPending).setLong c (some (newLong h op arg tiles))

theorem State.startLong_busy {s : State} {c : Ctl} (hbusy : s.long c ≠ none) (h : Hdr) (op : Nat) (arg : W32) (tiles : List Nat)
    (body : State → State) : s.startLong c h op arg tiles body = s.finish h op stBusy :=
  if_pos (Option.isSome_iff_ne_none.mpr hbusy)

theorem State.startLong_free {s : State} {c : Ctl} (hfree : s.long c = none) (h : Hdr) (op : Nat) (arg : W32) (tiles : List Nat)
    (body : State → State) : s.startLong c h op arg tiles body = body (s.begunLong c h op arg tiles) :=
  if_neg (by simp [hfree])

theorem State.begunLong_leaves (s : State) (c : Ctl) (h : Hdr) (op : Nat) (arg : W32) (tiles : List Nat) :
    let t := s.begunLong c h op arg tiles
    Emits [ctrlAddr c 8] s t ∧ s.longStarted t c h op ∧ t.long c = some (newLong h op arg tiles) := by
  have hset := (s.finish h op stPending).setLong_emits c (some (newLong h op arg tiles))
  have hlong : (s.begunLong c h op arg tiles).long c = some (newLong h op arg tiles) := State.long_setLong _ c _
  refine ⟨((s.finish_emits h op stPending []).mono (by simp)).trans hset, ⟨fun hack => ?_, _, hlong, rfl, rfl, rfl⟩, hlong⟩
  exact (State.finish_answers (.inr rfl) (.inl hack)).later hset.sent

/-- A routine begun goes on as long as it stands. -/
theorem State.longStarted.later {s t u : State} {c : Ctl} {h : Hdr} {op : Nat} (hstarted : s.longStarted t c h op)
    (hlong : u.long c = t.long c) (hsent : u.sent = t.sent) : s.longStarted u c h op := by
  obtain ⟨hanswers, l, hl, hop⟩ := hstarted
  exact ⟨fun hack => (hanswers hack).later ⟨[], by simp [hsent]⟩, l, hlong.trans hl, hop⟩

/-- R290 has the reply sent: it was asked for, it carries parameters, or its status is an error. -/
def repliesTo (h : Hdr) (st : Byte) (ps : List W32) : Prop := ackReq h = true ∨ ps ≠ [] ∨ (st ≠ stOk ∧ st ≠ stPending)

theorem State.finalReply_replies (s : State) {h : Hdr} {st : Byte} {ps : List W32} (hreplies : repliesTo h st ps) (op : Nat) :
    s.answers (s.finalReply h op st ps) h op st ps := by
  obtain ⟨r, hr⟩ : ∃ r, r = s.mkReply h op st ps := ⟨_, rfl⟩
  have hsend : s.finalReply h op st ps = ((s.cachePut h (some r)).countError h op st).send (.reply r) := by
    rw [hr]
    refine if_neg fun hquiet => ?_
    obtain ⟨hst, hack, hempty⟩ := hquiet
    obtain h | h | ⟨hok, hpending⟩ := hreplies
    · exact absurd (h.symm.trans hack) (by decide)
    · exact h (List.isEmpty_iff.mp hempty)
    · exact hst.elim hok hpending
  obtain ⟨m, hm⟩ := ((State.cachePut_emits s h (some r)).trans (State.countError_emits _ h op st)).sent
  refine ⟨r, m ++ [.reply r], ?_, by simp, ?_⟩
  · rw [hsend, State.send_sent, hm, List.append_assoc]
  · rw [hr]
    exact ⟨rfl, rfl, rfl, rfl, rfl, rfl⟩

/-- A routine not yet answered ends with its final reply. -/
theorem State.endLong_leaves {s : State} {c : Ctl} {l : Long} (hl : s.long c = some l) (hopen : l.answered = false) (st : Byte) (ps : List W32) :
    let t := s.endLong c st ps
    Emits [ctrlAddr c 8] s t ∧ t.long c = none ∧ (repliesTo l.h st ps → s.answers t l.h l.op.toNat st ps) := by
  have hend : s.endLong c st ps = (s.setLong c none).finalReply l.h l.op.toNat st ps := by
    unfold State.endLong
    rw [hl]
    exact if_neg (by simp [hopen])
  have hset := s.setLong_emits c none
  refine ⟨s.endLong_emits c st ps, ?_, fun hreplies => ?_⟩
  · rw [hend, (State.finalReply_sameRoutines _ _ _ _ _).long, State.long_setLong]
  · rw [hend]
    exact (State.finalReply_replies _ hreplies _).earlier hset.sent

/-! ## CALIBRATE (R142, R387, R401) -/

theorem exec_calibrate {c : Instr} {h : Hdr} {w0 : W32}
    (hc : c = .calibrateReadout h w0 ∨ c = .calibrateFlux h w0 ∨ c = .calibrateHostHk h w0 ∨ c = .calibrateFieldHk h w0) (s : State) :
    exec c s = .next (s.calibrate h w0) := by
  obtain rfl | rfl | rfl | rfl := hc <;> rfl

/-- A command that the CI takes runs its own part. -/
theorem State.takes.runs {s : State} {h : Hdr} {op : Nat} {field : Bool} (htakes : s.takes h op field) (body : State → State) :
    s.runCmd h op field body = body s := by
  obtain ⟨halive, hready, hturn, hmode, hcached, hgate⟩ := htakes
  exact State.runCmd_taken s h op field body 0 halive hready hturn hmode hcached hgate

theorem State.calibrate_reserved {s : State} {h : Hdr} {w0 : W32} (hkind : 3 < wfld w0 7 0) (htakes : s.takes h 0x30 false) :
    s.calibrate h w0 = s.finish h 0x30 stBadParam := by
  unfold State.calibrate
  split
  case h_5 => exact htakes.runs _
  all_goals omega

theorem State.calibrate_tiles {s : State} {h : Hdr} {w0 : W32} (hkind : wfld w0 7 0 ≤ 1) (htakes : s.takes h 0x30 true) :
    s.calibrate h w0 = s.calTiles h w0 (wfld w0 7 0 + 1) := by
  unfold State.calibrate
  split
  case h_1 hzero => rw [hzero]; exact htakes.runs _
  case h_2 hone => rw [hone]; exact htakes.runs _
  case h_5 hzero hone _ _ => exact (Nat.le_one_iff_eq_zero_or_eq_one.mp hkind).elim (fun h => (hzero h).elim) fun h => (hone h).elim
  all_goals omega

/-- The side whose housekeeping ADC a KIND calibrates. -/
def hkSide (kind : Nat) : Side := if kind = 2 then .host else .field

theorem State.calibrate_hk {s : State} {h : Hdr} {w0 : W32} (hlow : 2 ≤ wfld w0 7 0) (hhigh : wfld w0 7 0 ≤ 3)
    (htakes : s.takes h 0x30 (wfld w0 7 0 == 3)) : s.calibrate h w0 =
      if 4096 ≤ w0.toNat then s.finish h 0x30 stBadParam
      else if wfld w0 7 0 = 3 ∧ s.refPresent = false then s.finish h 0x30 stBusy
      else s.startLong (hkCtl (hkSide (wfld w0 7 0))) h 0x30 w0 [] (fun u => u.hkCalStart (hkSide (wfld w0 7 0))) := by
  unfold State.calibrate
  split
  case h_3 htwo =>
    rw [htwo] at htakes ⊢
    exact htakes.runs _
  case h_4 hthree =>
    rw [hthree] at htakes ⊢
    refine (htakes.runs _).trans ?_
    cases s.refPresent <;> rfl
  case h_5 _ _ htwo hthree =>
    obtain h | h : wfld w0 7 0 = 2 ∨ wfld w0 7 0 = 3 := by omega
    · exact (htwo h).elim
    · exact (hthree h).elim
  all_goals omega

/-- The governor is asked for each tile in turn (R387, R395). -/
theorem foldS_govAsk (kind : Nat → GovKind) (eng : Nat → Nat) (l : List Nat) (s : State) : foldS l (fun n u => u.govAsk (kind n) none (eng n)) s =
    { s with hem := { s.hem with requests := s.hem.requests ++ l.map fun n => { kind := kind n, arrival := s.pin, use := none, eng := eng n } } } := by
  induction l generalizing s with
  | nil => simp [foldS]
  | cons n l ih =>
    rw [foldS_cons, ih, List.map_cons, List.append_cons]
    rfl

/-- Registers below the tiles and a side's housekeeping ADC change, and nothing else. -/
def State.hkOnly (s t : State) : Prop :=
  t = { s with regs := t.regs, hkHost := t.hkHost, hkField := t.hkField } ∧ ∀ a, 0x20000000 ≤ a → t.reg a = s.reg a

theorem State.hkOnly.trans {s t u : State} (h : s.hkOnly t) (k : t.hkOnly u) : s.hkOnly u := by
  obtain ⟨hframe, hregs⟩ := h
  obtain ⟨kframe, kregs⟩ := k
  refine ⟨?_, fun a ha => (kregs a ha).trans (hregs a ha)⟩
  rw [hframe] at kframe
  exact kframe

theorem State.hkOnly.kept {s t : State} (h : s.hkOnly t) : s.tilesKept t ∧ t.sent = s.sent ∧ t.cmd = s.cmd := by
  obtain ⟨hframe, hregs⟩ := h
  refine ⟨⟨?_, hregs, ?_⟩, ?_⟩
  all_goals rw [hframe]
  · exact fun _ => rfl
  · exact fun _ => rfl
  · exact ⟨rfl, rfl⟩

theorem State.hkOnly_setHk (s : State) (d : Side) (x : HkAdc) : s.hkOnly (s.setHk d x) := by
  cases d <;> exact ⟨rfl, fun _ _ => rfl⟩

theorem State.hkOnly_setReg (s : State) {a : Nat} (ha : a < 0x20000000) (v : W32) : s.hkOnly (s.setReg a v) :=
  ⟨s.setReg_frame a v, fun x hx => (s.reg_setReg a x v).trans (if_neg (by omega))⟩

theorem State.hk_setHk (s : State) (d : Side) (x : HkAdc) : (s.setHk d x).hk d = x := by cases d <;> rfl

theorem State.hk_setReg (s : State) (a : Nat) (v : W32) (d : Side) : (s.setReg a v).hk d = s.hk d := by cases d <;> rfl

theorem State.hk_setBit (s : State) (a b : Nat) (v : Bool) (d : Side) : (s.setBit a b v).hk d = s.hk d := s.hk_setReg a _ d

theorem State.hk_hkChannel (s : State) (d : Side) (c : Nat) : (s.hkChannel d c).hk d = s.hk d :=
  (State.hk_setBit _ _ _ _ d).trans (s.hk_setReg _ _ d)

theorem aHkStatus_below (d : Side) : aHkStatus d < 0x20000000 := by cases d <;> decide

/-- A self-calibration asked for waits, or begins at once on an ADC that is powered down with no request injected (R401). -/
theorem State.hkCalStart_leaves (s : State) (d : Side) : let t := s.hkCalStart d
    s.hkOnly t ∧ (t.hk d).cal = true ∧ (s.bit (aHkStatus d) 0 = false → (s.hk d).inj = none → t.bit (aHkStatus d) 1 = true) := by
  have hbelow := aHkStatus_below d
  have hset : ∀ (u : State) (v : W32), u.hkOnly (u.setReg (aHkStatus d) v) := fun u v => u.hkOnly_setReg hbelow v
  have hasked := s.hkOnly_setHk d { s.hk d with cal := true }
  have hcal : (s.setHk d { s.hk d with cal := true }).hk d = { s.hk d with cal := true } := s.hk_setHk d _
  have hbit : (s.setHk d { s.hk d with cal := true }).bit (aHkStatus d) 0 = s.bit (aHkStatus d) 0 := by cases d <;> rfl
  unfold State.hkCalStart
  dsimp only
  rw [hbit]
  generalize s.setHk d { s.hk d with cal := true } = u at hasked hcal ⊢
  cases hon : s.bit (aHkStatus d) 0 with
  | true =>
    rw [if_pos rfl]
    exact ⟨hasked, by rw [hcal], fun h => absurd h (by decide)⟩
  | false =>
    rw [if_neg (by decide)]
    unfold State.hkNext
    rw [hcal]
    dsimp only
    split
    · rename_i c hinj
      refine ⟨((hasked.trans (u.hkOnly_setHk d _)).trans (hset _ _)).trans (hset _ _), ?_, fun _ hnone => absurd (hinj.symm.trans hnone) (by simp)⟩
      rw [State.hk_hkChannel, State.hk_setHk]
    · rw [if_pos rfl]
      refine ⟨((hasked.trans (u.hkOnly_setHk d _)).trans (hset _ _)).trans (hset _ _), ?_, fun _ _ => ?_⟩
      · rw [State.hk_setBit, State.hk_setBit, State.hk_setHk]
      · rw [State.bit_setBit _ _ _ _ _ _ (by decide), if_neg (by simp), State.bit_setBit _ _ _ _ _ _ (by decide), if_pos ⟨rfl, rfl⟩]

/-- CALIBRATE of tiles refused, or begun (R142, R387). -/
theorem State.calTiles_busy {s : State} {w0 : W32} {t : Nat} (hw : w0.toNat < 4096) (hbusy : s.refPresent = false ∨
    (yokeMaskTiles t (wfld w0 11 8)).any s.tileBusy = true ∨ s.cmd.fm ≠ none) (h : Hdr) : s.calTiles h w0 t = s.finish h 0x30 stBusy := by
  unfold State.calTiles
  dsimp only
  rw [if_neg (by omega)]
  by_cases hrefused : (!s.refPresent || (yokeMaskTiles t (wfld w0 11 8)).any s.tileBusy) = true
  · rw [if_pos hrefused]
  · rw [if_neg hrefused]
    simp only [Bool.or_eq_true, Bool.not_eq_true', not_or] at hrefused
    obtain ⟨href, hquiet⟩ := hrefused
    exact State.startLong_busy (c := .fm) ((hbusy.resolve_left href).resolve_left hquiet) _ _ _ _ _

theorem State.calTiles_free {s : State} {w0 : W32} {t : Nat} (hw : w0.toNat < 4096) (href : s.refPresent = true)
    (hquiet : (yokeMaskTiles t (wfld w0 11 8)).any s.tileBusy = false) (hfree : s.cmd.fm = none) (h : Hdr) : s.calTiles h w0 t =
      let tiles := yokeMaskTiles t (wfld w0 11 8)
      let u := s.begunLong .fm h 0x30 w0 tiles
      if tiles.isEmpty then u.endLong .fm stOk else foldS tiles (fun n u => u.govAsk (.tile n true) none (engOfTile n 0)) u := by
  unfold State.calTiles
  dsimp only
  rw [if_neg (by omega), href, hquiet, if_neg (by decide), State.startLong_free (c := .fm) hfree]

theorem ctrlAddr_below (c : Ctl) {off : Nat} (h : off < 0x100) : ctrlAddr c off < 0x20000000 := by
  cases c <;> simp only [ctrlAddr] <;> omega

/-- A calibration of no tile ends at once; of some, it holds them and puts each before the governor. -/
theorem calTiles_begins (s : State) (h : Hdr) (w0 : W32) {tiles : List Nat} : let u := s.begunLong .fm h 0x30 w0 tiles
    (let t := u.endLong .fm stOk
     (ackReq h = true → s.answers t h 0x30 stOk []) ∧ t.cmd.fm = none ∧ s.tilesKept t) ∧
    (let t := foldS tiles (fun n u => u.govAsk (.tile n true) none (engOfTile n 0)) u
     s.longStarted t .fm h 0x30 ∧ t.cmd.fm.map (·.tiles) = some tiles ∧ s.tilesKept t ∧
      t.hem.requests = s.hem.requests ++ tiles.map (fun n => { kind := .tile n true, arrival := s.pin, use := none, eng := engOfTile n 0 })) := by
  obtain ⟨hemits, hstarted, hlong⟩ := s.begunLong_leaves .fm h 0x30 w0 tiles
  have hbelow : ∀ a ∈ [ctrlAddr .fm 8], a < 0x20000000 := by decide
  have hkept := hemits.tilesKept hbelow
  dsimp only
  generalize s.begunLong .fm h 0x30 w0 tiles = u at hemits hstarted hlong hkept ⊢
  refine ⟨?_, ?_⟩
  · obtain ⟨hends, hnone, hanswers⟩ := State.endLong_leaves hlong rfl stOk []
    exact ⟨fun hack => (hanswers (.inl hack)).earlier hemits.sent, hnone, hkept.trans (hends.tilesKept hbelow)⟩
  · obtain ⟨-, -, hhem, -⟩ := hemits.stores
    rw [foldS_govAsk]
    refine ⟨hstarted.later rfl rfl, ?_, hkept, ?_⟩
    · rw [show u.cmd.fm = _ from hlong]
      rfl
    · dsimp only
      rw [hhem, State.pin_of_clk hemits.clk]

/-- A calibration of a side's housekeeping ADC begins (R401). -/
theorem hkCal_begins (s : State) (d : Side) (h : Hdr) (w0 : W32) : let t := (s.begunLong (hkCtl d) h 0x30 w0 []).hkCalStart d
    s.longStarted t (hkCtl d) h 0x30 ∧ (t.hk d).cal = true ∧ s.tilesKept t ∧
      (s.bit (aHkStatus d) 0 = false → (s.hk d).inj = none → t.bit (aHkStatus d) 1 = true) := by
  obtain ⟨hemits, hstarted, hlong⟩ := s.begunLong_leaves (hkCtl d) h 0x30 w0 []
  have hbelow : ∀ a ∈ [ctrlAddr (hkCtl d) 8], a < 0x20000000 := fun a ha => by
    rw [List.mem_singleton.mp ha]
    exact ctrlAddr_below _ (by decide)
  have hkept := hemits.tilesKept hbelow
  have hstatus : aHkStatus d ∉ [ctrlAddr (hkCtl d) 8] ∧ emitReg (aHkStatus d) = false := by cases d <;> decide
  have hreg := hemits.regs _ hstatus.1 hstatus.2
  obtain ⟨-, -, -, hhost, hfield, -⟩ := hemits.stores
  dsimp only
  generalize s.begunLong (hkCtl d) h 0x30 w0 [] = u at hemits hstarted hlong hkept hreg hhost hfield ⊢
  have hhk : u.hk d = s.hk d := by
    cases d
    · exact hhost
    · exact hfield
  obtain ⟨honly, hcal, hbegins⟩ := u.hkCalStart_leaves d
  obtain ⟨hmore, hsent, hcmd⟩ := honly.kept
  refine ⟨hstarted.later ?_ hsent, hcal, hkept.trans hmore, fun hoff hnone => hbegins ?_ (hhk ▸ hnone)⟩
  · cases hkCtl d
    · exact congrArg (·.ci) hcmd
    · exact congrArg (·.fm) hcmd
  · exact (State.bit_of_reg hreg 0).trans hoff

/-! ## SELF_TEST and SELF_TEST_DONE (R421, R422) -/

theorem exec_selfTest {c : Instr} {h : Hdr} {w0 : W32} (hc : c = .canarySweep h w0 ∨ c = .sensorCheck h w0 ∨ c = .nvVerify h w0 ∨
    c = .memBist h w0 ∨ c = .converterLoop h w0 ∨ c = .engineCheck h w0 ∨ c = .hostMem h w0) (s : State) :
    exec c s = .next (s.selfTest h w0) := by
  obtain rfl | rfl | rfl | rfl | rfl | rfl | rfl := hc <;> rfl

theorem State.selfTest_reserved {s : State} {h : Hdr} {w0 : W32} (hkind : testKind (wfld w0 15 0) = none) (htakes : s.takes h 0x31 false) :
    s.selfTest h w0 = s.finish h 0x31 stBadParam := by
  unfold State.selfTest
  dsimp only
  rw [hkind]
  exact htakes.runs _

theorem State.selfTest_known {s : State} {h : Hdr} {w0 : W32} {k : Ctl} {byYoke : Bool} (hkind : testKind (wfld w0 15 0) = some (k, byYoke))
    (htakes : s.takes h 0x31 (k == .fm)) : s.selfTest h w0 =
      if 0x100000 ≤ w0.toNat ∨ byYoke ≠ (wfld w0 19 16 != 0) then s.finish h 0x31 stBadParam
      else if s.testBusy k (wfld w0 15 0) (wfld w0 19 16) then s.finish h 0x31 stBusy
      else s.startLong k h 0x31 w0 [] (fun s => if wfld w0 15 0 = 0x11 then s.isolate (wfld w0 19 16) else s) := by
  unfold State.selfTest
  dsimp only
  rw [hkind]
  exact htakes.runs _

/-- The registers, the Hem's tables and the memory of the outputs change, and nothing else. -/
def State.portsOnly (s t : State) : Prop := t = { s with regs := t.regs, hem := t.hem, synth := t.synth }

theorem State.portsOnly.trans {s t u : State} (h : s.portsOnly t) (k : t.portsOnly u) : s.portsOnly u := by
  unfold State.portsOnly at h k ⊢
  rw [h] at k
  exact k

theorem State.portsOnly_refl (s : State) : s.portsOnly s := rfl

theorem State.portsOnly.kept {s t : State} (h : s.portsOnly t) : s.sameMem t ∧ t.sent = s.sent ∧ t.cmd = s.cmd ∧ t.free = s.free := by
  unfold State.portsOnly at h
  rw [h]
  exact ⟨fun _ => rfl, rfl, rfl, rfl⟩

theorem State.portsOnly_setReg (s : State) (a : Nat) (v : W32) : s.portsOnly (s.setReg a v) := s.setReg_frame a v

theorem State.portsOnly_clampNow (s : State) (p : Nat) : s.portsOnly (s.clampNow p) := by
  have hshow : s.portsOnly (s.showClamp p) := by
    unfold State.showClamp
    split
    · exact s.portsOnly_setReg _ _
    · rfl
  have hnote : ∀ u : State, u.portsOnly (u.noteCode p) := fun u => by
    unfold State.portsOnly
    rw [State.noteCode_frame]
  exact hshow.trans (hnote _)

theorem State.portsOnly_setBit (s : State) (a b : Nat) (v : Bool) : s.portsOnly (s.setBit a b v) := s.setReg_frame a _

theorem State.portsOnly_clamps (s : State) (l : List Clamp) : s.portsOnly { s with hem := { s.hem with clamps := l } } := rfl

theorem State.portsOnly_clampBegin (s : State) (c : Clamp) : s.portsOnly (s.clampBegin c) :=
  ((s.portsOnly_clamps _).trans (State.portsOnly_setBit _ (portAddr c.port 4) 2 false)).trans (State.portsOnly_clampNow _ c.port)

theorem State.portsOnly_wakeUp (s : State) (p : Nat) : s.portsOnly (s.wakeUp p) := by
  unfold State.wakeUp
  split
  · rfl
  · exact s.portsOnly_setBit _ 2 true

theorem State.portsOnly_clampOver (s : State) (c : Clamp) : s.portsOnly (s.clampOver c) := by
  have hwoken : s.portsOnly (if c.wasAwake then s.wakeUp c.port else s) := by
    split
    · exact s.portsOnly_wakeUp c.port
    · rfl
  exact hwoken.trans (State.portsOnly_clampNow _ c.port)

theorem State.portsOnly_clampEnd (s : State) (c : Clamp) : s.portsOnly (s.clampEnd c) :=
  (s.portsOnly_clamps _).trans (State.portsOnly_clampOver _ c)

theorem State.portsOnly_foldS {α : Type} {f : α → State → State} (hf : ∀ x u, State.portsOnly u (f x u)) (l : List α) (s : State) :
    s.portsOnly (foldS l f s) :=
  foldS_rel State.portsOnly State.portsOnly_refl (fun _ _ _ => .trans) f l (fun x _ u => hf x u) s

theorem State.portsOnly_isolate (s : State) (yokes : Nat) : s.portsOnly (s.isolate yokes) :=
  State.portsOnly_foldS (fun _ u => u.portsOnly_clampBegin _) _ s

theorem State.portsOnly_unisolate (s : State) : s.portsOnly s.unisolate :=
  State.portsOnly_foldS (fun c u => u.portsOnly_clampEnd c) _ s

theorem State.long_of_cmd {s t : State} (h : t.cmd = s.cmd) (c : Ctl) : t.long c = s.long c := by
  cases c
  · exact congrArg (·.ci) h
  · exact congrArg (·.fm) h

/-- A self-test runs from its command on. -/
theorem selfTest_begins (s : State) (k : Ctl) (h : Hdr) (w0 : W32) : let u := s.begunLong k h 0x31 w0 []
    let t := if wfld w0 15 0 = 0x11 then u.isolate (wfld w0 19 16) else u
    s.longStarted t k h 0x31 ∧ t.runningTest k = some (wfld w0 15 0, wfld w0 19 16) ∧ s.sameMem t ∧ (wfld w0 15 0 ≠ 0x11 → s.tilesKept t) := by
  obtain ⟨hemits, hstarted, hlong⟩ := s.begunLong_leaves k h 0x31 w0 []
  have hkept := hemits.tilesKept fun a ha => by
    rw [List.mem_singleton.mp ha]
    exact ctrlAddr_below k (by decide)
  dsimp only
  generalize s.begunLong k h 0x31 w0 [] = u at hstarted hlong hkept ⊢
  have honly : u.portsOnly (if wfld w0 15 0 = 0x11 then u.isolate (wfld w0 19 16) else u) := by
    split
    · exact u.portsOnly_isolate _
    · rfl
  obtain ⟨hmem, hsent, hcmd, -⟩ := honly.kept
  refine ⟨hstarted.later (State.long_of_cmd hcmd k) hsent, ?_, fun a => (hmem a).trans (hkept.2.2 a), fun hother => ?_⟩
  · rw [State.runningTest, State.long_of_cmd hcmd, hlong]
    rfl
  · rw [if_neg hother]
    exact hkept

/-- A running self-test ends with its result (R421). -/
theorem testEnd_leaves {s : State} {c : Ctl} {l : Long} (hl : s.long c = some l) (hop : l.op = 0x31) (hopen : l.answered = false)
    (fail : Option W32) : let t := s.testEnd c fail
    t.long c = none ∧ s.sameMem t ∧ (match fail with
      | some d => s.answers t l.h 0x31 stOk [1, d] ∧ t.bit bhFlags.addr 3 = true
      | none => s.answers t l.h 0x31 stOk [0, Config.freeWord s.free]) := by
  obtain ⟨hmem, hsent, hcmd, hfree⟩ := s.portsOnly_unisolate.kept
  have hlong : s.unisolate.long c = some l := (State.long_of_cmd hcmd c).trans hl
  unfold State.testEnd
  dsimp only
  generalize s.unisolate = u at hmem hsent hcmd hfree hlong ⊢
  have hopNat : l.op.toNat = 0x31 := by rw [hop]; rfl
  cases fail with
  | some d =>
    obtain ⟨hemits, hnone, hanswers⟩ := State.endLong_leaves hlong hopen stOk [1, d]
    have hflag := (u.endLong c stOk [1, d]).flag_emits bhFlags 3 (by decide)
    refine ⟨((State.flag_sameRoutines _ _ _).long c).trans hnone, fun a => (hflag.byte a).trans ((hemits.byte a).trans (hmem a)), ?_, ?_⟩
    · have := (hanswers (.inr (.inl (by simp)))).later hflag.sent
      rw [hopNat] at this
      exact this.earlier ⟨[], by simp [hsent]⟩
    · rw [State.bit, State.flag_reg _ _ _ (by decide) (by decide) (by decide)]
      simp
  | none =>
    obtain ⟨hemits, hnone, hanswers⟩ := State.endLong_leaves (s := u.draw) hlong hopen stOk [0, Config.freeWord u.free]
    refine ⟨hnone, fun a => (hemits.byte a).trans (hmem a), ?_⟩
    have := hanswers (.inr (.inl (by simp)))
    rw [hopNat, hfree] at this
    rw [hfree]
    exact this.earlier ⟨[], hsent.trans (List.append_nil _).symm⟩

/-! ## The store's commands (R413-R417) -/

/-- The registers of the store. -/
def nvRegs : List Nat := [0x00070000, 0x00070004, 0x0007000C, 0x00070010, 0x00070014]

/-- Pages of the store, its registers and the ways out change, and nothing else; the controllers' routines stand. -/
structure StoreChanges (s t : State) : Prop where
  frame : t = { s with regs := t.regs, nv := t.nv, links := t.links, cmd := t.cmd, evt := t.evt, sent := t.sent }
  regs : ∀ a, a ∉ nvRegs → emitReg a = false → t.reg a = s.reg a
  sent : ∃ m, t.sent = s.sent ++ m
  routines : s.sameRoutines t

theorem StoreChanges.trans {s t u : State} (h : StoreChanges s t) (k : StoreChanges t u) : StoreChanges s u := by
  obtain ⟨hframe, hregs, ⟨m, hm⟩, hroutines⟩ := h
  obtain ⟨kframe, kregs, ⟨n, hn⟩, kroutines⟩ := k
  refine ⟨?_, fun a ha he => (kregs a ha he).trans (hregs a ha he), ⟨m ++ n, by rw [hn, hm, List.append_assoc]⟩, hroutines.trans kroutines⟩
  rw [hframe] at kframe
  exact kframe

theorem StoreChanges.nv (s : State) (x : Nv) : StoreChanges s { s with nv := x } :=
  ⟨rfl, fun _ _ _ => rfl, ⟨[], (List.append_nil _).symm⟩, rfl, rfl⟩

theorem StoreChanges.of_emits {s t : State} {l : List Nat} (h : Emits l s t) (hl : l ⊆ nvRegs) (hroutines : s.sameRoutines t) :
    StoreChanges s t := by
  refine ⟨?_, fun a ha he => h.regs a (fun hin => ha (hl hin)) he, h.sent, hroutines⟩
  have hframe := h.frame
  rw [hframe]

theorem StoreChanges.setReg (s : State) {a : Nat} (ha : a ∈ nvRegs) (v : W32) : StoreChanges s (s.setReg a v) :=
  .of_emits (Emits.setReg [a] s a v (.inl (by simp))) (by simpa using ha) ⟨rfl, rfl⟩

theorem StoreChanges.kept {s t : State} (h : StoreChanges s t) : s.tilesKept t := by
  obtain ⟨hframe, hregs, -⟩ := h
  have hbelow : ∀ a ∈ nvRegs, a < 0x20000000 := by decide
  refine ⟨?_, fun a ha => hregs a (fun hin => absurd (hbelow a hin) (by omega)) (emitReg_below_tiles ha), ?_⟩
  all_goals
    rw [hframe]
    exact fun _ => rfl

/-- What the queue shows in NV_STATUS: the spare slots stand (R423). -/
theorem State.nvShow_leaves (s : State) : StoreChanges s s.nvShow ∧ s.nvShow.nv = s.nv ∧ s.nvShow.sent = s.sent ∧ s.nvShow.cmd = s.cmd ∧
    s.sameRegs s.nvShow [aNvStatus] ∧ s.nvShow.spares = s.spares := by
  have hset : ∀ (v : Bool) (n : Nat), let t := (s.setBit aNvStatus 0 v).setFld aNvStatus 13 1 n
      StoreChanges s t ∧ t.nv = s.nv ∧ t.sent = s.sent ∧ t.cmd = s.cmd ∧ s.sameRegs t [aNvStatus] ∧ t.spares = s.spares := fun v n => by
    refine ⟨(StoreChanges.setReg s (by decide) _).trans (.setReg _ (by decide) _), rfl, rfl, rfl, fun a ha => ?_, ?_⟩
    · have hne : a ≠ aNvStatus := by simpa using ha
      rw [State.reg_setFld, if_neg hne, State.reg_setBit _ _ _ _ _ hne]
    · rw [State.spares, State.fld_setFld_other _ _ _ _ _ _ _ (by decide) (by decide) (by decide), State.setBit,
        State.fld_setFld_other _ _ _ _ _ _ _ (by decide) (by decide) (by decide), State.spares]
  unfold State.nvShow
  split
  · exact hset true _
  · exact hset false 0

theorem State.startsNvWrite {s : State} {h : Hdr} (hfree : s.cmd.ci = none) (w0 : W32) (j : NvJob) :
    let t := s.startLong .ci h 0x50 w0 [] (fun u => u.nvPush j)
    s.longStarted t .ci h 0x50 ∧ s.tilesKept t ∧ t.nv = { s.nv with jobs := s.nv.jobs ++ [j] } := by
  obtain ⟨hemits, hstarted, -⟩ := s.begunLong_leaves .ci h 0x50 w0 []
  have hkept := hemits.tilesKept (by decide)
  obtain ⟨hnv, -⟩ := hemits.stores
  dsimp only
  rw [State.startLong_free (c := .ci) hfree]
  generalize s.begunLong .ci h 0x50 w0 [] = u at hstarted hkept hnv ⊢
  obtain ⟨hpushed, hjobs, hsent, hcmd, -⟩ := State.nvShow_leaves { u with nv := { u.nv with jobs := u.nv.jobs ++ [j] } }
  refine ⟨hstarted.later (congrArg (·.ci) hcmd) hsent, (hkept.trans (StoreChanges.nv u _).kept).trans hpushed.kept, ?_⟩
  rw [← hnv]
  exact hjobs

theorem beWords_ne_nil {n : Nat} {bs : List Byte} (hn : n ≠ 0) (hbs : bs ≠ []) : beWords n bs ≠ [] := by
  cases n with
  | zero => exact absurd rfl hn
  | succ n =>
    rw [beWords, if_neg (by simpa using hbs)]
    exact List.cons_ne_nil _ _

/-- A page that reads from neither copy sets NV_BAD (R415). -/
theorem State.nvBad_refused (s : State) (h : Hdr) : let t := (s.flag nvFlags 1).finish h 0x51 stInternal
    s.refused t h 0x51 stInternal ∧ t.bit nvFlags.addr 1 = true := by
  have hflag := s.flag_emits nvFlags 1 (by decide)
  have hfinish := (s.flag nvFlags 1).finish_emits h 0x51 stInternal []
  have hset : (s.flag nvFlags 1).reg nvFlags.addr = s.reg nvFlags.addr ||| (1#32 <<< 1) := s.flag_reg nvFlags 1 (by decide) (by decide) (by decide)
  have hemits : Emits [nvFlags.addr] s ((s.flag nvFlags 1).finish h 0x51 stInternal) := hflag.trans (hfinish.mono (by simp))
  have hroutines := (s.flag_sameRoutines nvFlags 1).trans ((s.flag nvFlags 1).finish_sameRoutines h 0x51 stInternal [])
  obtain ⟨hnv, hbanks, -⟩ := hemits.stores
  refine ⟨⟨(State.finish_error_answers (by decide) (by decide)).earlier hflag.sent, hemits.tilesKept (by decide),
    hemits.unitAddr (by decide), hnv, hbanks, hroutines.1, hroutines.2⟩, ?_⟩
  rw [State.bit, hfinish.regs _ (by simp) (by decide), hset]
  simp

/-! ## A page program ends (R414, R416) -/

/-- The page with a new copy in the place that the program writes (R414). -/
def NvPage.put (p : NvPage) (c : NvCopy) : NvPage := if p.writesB then { p with b := c } else { p with a := c }

theorem State.nvPage_setNvPage (s : State) (n q : Nat) (p : NvPage) : (s.setNvPage n p).nvPage q = if q = n then p else s.nvPage q :=
  tabGet_tabSet NvPage.factory s.nv.pages n q p

theorem State.nvPage_of_nv {s t : State} (h : t.nv.pages = s.nv.pages) (q : Nat) : t.nvPage q = s.nvPage q := by
  rw [State.nvPage, h, State.nvPage]

/-- Counting a copy's cycles leaves the pages and the spare slots (R417). -/
theorem State.nvCycles_leaves (s : State) (page : Nat) (b : Bool) (n : Nat) :
    StoreChanges s (s.nvCycles page b n) ∧ (s.nvCycles page b n).nv = s.nv ∧ (s.nvCycles page b n).spares = s.spares := by
  have hmax : ∀ (v w : W32), let t := (s.setReg aNvMax v).setReg 0x00070014 w
      Emits [0x00070004, 0x00070010, 0x00070014] s t ∧ s.sameRoutines t := fun v w =>
    ⟨(Emits.setReg _ s _ v (.inl (by decide))).trans (.setReg _ _ _ w (.inl (by decide))), rfl, rfl⟩
  have hflag : ∀ u : State, Emits [0x00070004, 0x00070010, 0x00070014] u (u.flag nvFlags 3) ∧ u.sameRoutines (u.flag nvFlags 3) := fun u =>
    ⟨(u.flag_emits nvFlags 3 (by decide)).mono (by decide), u.flag_sameRoutines _ _⟩
  have hboth : Emits [0x00070004, 0x00070010, 0x00070014] s (s.nvCycles page b n) ∧ s.sameRoutines (s.nvCycles page b n) := by
    unfold State.nvCycles
    dsimp only
    split
    all_goals split
    · exact ⟨(hmax _ _).1.trans (hflag _).1, (hmax _ _).2.trans (hflag _).2⟩
    · exact hflag s
    · exact hmax _ _
    · exact ⟨.refl _ s, s.sameRoutines_refl⟩
  obtain ⟨hemits, hroutines⟩ := hboth
  exact ⟨.of_emits hemits (by decide) hroutines, hemits.stores.1, State.fld_of_reg (hemits.regs aNvStatus (by decide) (by decide)) 22 16⟩

/-- The copy that a program writes, with the contents of its job (R414). -/
def NvPage.fresh (p : NvPage) (j : NvJob) (cycles : Nat) : NvCopy :=
  { data := j.data, vals := j.vals, seq := (if p.writesB then p.a else p.b).seq + 1, valid := true, cycles }

/-- What a page program leaves: c is the copy written, ok whether it holds the contents. -/
structure PageProgrammed (s t : State) (j : NvJob) (fails : Nat) (ok : Bool) (c : NvCopy) : Prop where
  changes : StoreChanges s t
  jobs : t.nv.jobs = s.nv.jobs
  pages : ∀ q, t.nvPage q = if q = j.page then (s.nvPage j.page).put c else s.nvPage q
  verdict : ok = (decide (fails < 2) || decide (s.spares ≠ 0))
  good : ok = true → ∃ n, c = (s.nvPage j.page).fresh j n
  bad : ok = false → c.valid = false ∧ t.bit nvFlags.addr 0 = true
  kept : fails < 2 → t.spares = s.spares
  taken : 2 ≤ fails → s.spares ≠ 0 → t.spares = s.spares - 1

theorem State.spares_lt (s : State) : s.spares < 128 := Nat.mod_lt _ (by decide)

/-- Programs counted (R423). -/
theorem State.nvCounted_leaves (s : State) (n : Nat) : let t := s.addSat 0x0007000C n
    StoreChanges s t ∧ t.nv = s.nv ∧ t.spares = s.spares :=
  ⟨.setReg s (by decide) _, rfl, State.fld_of_reg ((s.reg_addSat _ n aNvStatus).trans (if_neg (by decide))) 22 16⟩

/-- The page's new copy stands, whatever else changes after. -/
theorem PageProgrammed.pages_of {s u t : State} {j : NvJob} {c : NvCopy} (hu : u.nv = s.nv)
    (ht : t.nv = (u.setNvPage j.page ((s.nvPage j.page).put c)).nv) :
    t.nv.jobs = s.nv.jobs ∧ ∀ q, t.nvPage q = if q = j.page then (s.nvPage j.page).put c else s.nvPage q := by
  refine ⟨?_, fun q => ?_⟩
  · rw [ht, ← hu]
    rfl
  · rw [State.nvPage_of_nv (congrArg Nv.pages ht), State.nvPage_setNvPage, State.nvPage_of_nv (congrArg Nv.pages hu)]

/-- A program verified after at most one failure (R414). -/
theorem State.nvWrite_verified (s : State) (j : NvJob) {fails : Nat} (h : fails < 2) :
    (s.nvWrite j fails).1 = true ∧ ∃ c, PageProgrammed s (s.nvWrite j fails).2 j fails true c := by
  let p := s.nvPage j.page
  let n := (if p.writesB then p.b else p.a).cycles + fails + 1
  let u := s.addSat 0x0007000C (min 2 (fails + 1))
  have heq : s.nvWrite j fails = (true, (u.setNvPage j.page (p.put (p.fresh j n))).nvCycles j.page p.writesB n) := by
    unfold State.nvWrite
    exact if_pos h
  obtain ⟨hcounted, hnv, hspares⟩ := s.nvCounted_leaves (min 2 (fails + 1))
  obtain ⟨hcycles, hcyclesNv, hcyclesSpares⟩ := (u.setNvPage j.page (p.put (p.fresh j n))).nvCycles_leaves j.page p.writesB n
  obtain ⟨hjobs, hpages⟩ := PageProgrammed.pages_of hnv hcyclesNv
  rw [heq]
  exact ⟨rfl, _, (hcounted.trans (.nv u _)).trans hcycles, hjobs, hpages, by simp [h], fun _ => ⟨n, rfl⟩, fun h => absurd h (by decide),
    fun _ => hcyclesSpares.trans hspares, fun h2 => absurd h (by omega)⟩

/-- What the second failure of the verification leaves before a spare slot is looked for (R414). -/
def State.nvWorn (s : State) (j : NvJob) (fails : Nat) : State :=
  let p := s.nvPage j.page
  (s.addSat 0x0007000C (min 2 (fails + 1))).nvCycles j.page p.writesB ((if p.writesB then p.b else p.a).cycles + 2)

theorem State.nvWorn_leaves (s : State) (j : NvJob) (fails : Nat) : StoreChanges s (s.nvWorn j fails) ∧ (s.nvWorn j fails).nv = s.nv ∧
    (s.nvWorn j fails).spares = s.spares := by
  obtain ⟨hcounted, hnv, hspares⟩ := s.nvCounted_leaves (min 2 (fails + 1))
  obtain ⟨hcycles, hcyclesNv, hcyclesSpares⟩ := State.nvCycles_leaves (s.addSat 0x0007000C (min 2 (fails + 1))) j.page
    (s.nvPage j.page).writesB ((if (s.nvPage j.page).writesB then (s.nvPage j.page).b else (s.nvPage j.page).a).cycles + 2)
  exact ⟨hcounted.trans hcycles, hcyclesNv.trans hnv, hcyclesSpares.trans hspares⟩

/-- A flag of the store. -/
theorem State.nvFlag_leaves (s : State) {b : Nat} (hb : b < 32) : let t := s.flag nvFlags b
    StoreChanges s t ∧ t.nv = s.nv ∧ t.spares = s.spares ∧ t.bit nvFlags.addr b = true := by
  have hemits := s.flag_emits nvFlags b (by decide)
  refine ⟨.of_emits hemits (by decide) (s.flag_sameRoutines _ _), hemits.stores.1,
    State.fld_of_reg (hemits.regs aNvStatus (by decide) (by decide)) 22 16, ?_⟩
  rw [State.bit, s.flag_reg nvFlags b (by decide) hb (by decide)]
  simp [hb]

/-- Two failures with no spare slot left (R414). -/
theorem State.nvWrite_failed (s : State) (j : NvJob) {fails : Nat} (h : 2 ≤ fails) (hnone : s.spares = 0) :
    (s.nvWrite j fails).1 = false ∧ ∃ c, PageProgrammed s (s.nvWrite j fails).2 j fails false c := by
  let p := s.nvPage j.page
  let c : NvCopy := { (if p.writesB then p.b else p.a) with valid := false, cycles := (if p.writesB then p.b else p.a).cycles + 2 }
  obtain ⟨hworn, hnv, hspares⟩ := s.nvWorn_leaves j fails
  have heq : s.nvWrite j fails = (false, ((s.nvWorn j fails).setNvPage j.page (p.put c)).flag nvFlags 0) := by
    unfold State.nvWrite
    exact (if_neg (by omega)).trans (if_pos (hspares.trans hnone))
  obtain ⟨hflag, hflagNv, hflagSpares, hbit⟩ := ((s.nvWorn j fails).setNvPage j.page (p.put c)).nvFlag_leaves (b := 0) (by decide)
  obtain ⟨hjobs, hpages⟩ := PageProgrammed.pages_of hnv hflagNv
  rw [heq]
  exact ⟨rfl, _, (hworn.trans (.nv _ _)).trans hflag, hjobs, hpages, by simp [hnone]; omega, fun h => absurd h (by decide), fun _ => ⟨rfl, hbit⟩,
    fun h1 => absurd h (by omega), fun _ hsome => absurd hnone hsome⟩

/-- A spare slot is taken (R414, R423). -/
theorem State.spareSlotTaken_leaves (s : State) : let u := s.setFld aNvStatus 22 16 (s.spares - 1)
    let t := if u.spares ≤ 8 then u.flag nvFlags 4 else u
    StoreChanges s t ∧ t.nv = s.nv ∧ t.spares = s.spares - 1 := by
  have hlt := s.spares_lt
  have hset : StoreChanges s (s.setFld aNvStatus 22 16 (s.spares - 1)) := .setReg s (by decide) _
  have hspares : (s.setFld aNvStatus 22 16 (s.spares - 1)).spares = s.spares - 1 := by
    rw [State.spares, State.fld_setFld _ _ _ _ _ (by decide) (by decide)]
    omega
  obtain ⟨hflag, hnv, hflagSpares, -⟩ := (s.setFld aNvStatus 22 16 (s.spares - 1)).nvFlag_leaves (b := 4) (by decide)
  dsimp only
  split
  · exact ⟨hset.trans hflag, hnv, hflagSpares.trans hspares⟩
  · exact ⟨hset, rfl, hspares⟩

/-- Two failures with a spare slot to take (R414). -/
theorem State.nvWrite_moved (s : State) (j : NvJob) {fails : Nat} (h : 2 ≤ fails) (hsome : s.spares ≠ 0) :
    (s.nvWrite j fails).1 = true ∧ ∃ c, PageProgrammed s (s.nvWrite j fails).2 j fails true c := by
  let p := s.nvPage j.page
  obtain ⟨hworn, hnv, hspares⟩ := s.nvWorn_leaves j fails
  obtain ⟨htaken, htakenNv, htakenSpares⟩ := (s.nvWorn j fails).spareSlotTaken_leaves
  obtain ⟨u, hu⟩ : ∃ u, u = (let u := (s.nvWorn j fails).setFld aNvStatus 22 16 ((s.nvWorn j fails).spares - 1)
    if u.spares ≤ 8 then u.flag nvFlags 4 else u) := ⟨_, rfl⟩
  dsimp only at htaken htakenNv htakenSpares hu
  rw [← hu] at htaken htakenNv htakenSpares
  have heq : s.nvWrite j fails = (true, ((u.addSat 0x0007000C 1).setNvPage j.page (p.put (p.fresh j 1))).nvCycles j.page true 1) := by
    unfold State.nvWrite
    rw [hu]
    exact (if_neg (by omega)).trans (if_neg fun hnone => hsome (hspares.symm.trans hnone))
  obtain ⟨hcounted, hcountedNv, hcountedSpares⟩ := u.nvCounted_leaves 1
  obtain ⟨hcycles, hcyclesNv, hcyclesSpares⟩ := ((u.addSat 0x0007000C 1).setNvPage j.page (p.put (p.fresh j 1))).nvCycles_leaves j.page true 1
  obtain ⟨hjobs, hpages⟩ := PageProgrammed.pages_of (hcountedNv.trans (htakenNv.trans hnv)) hcyclesNv
  rw [heq]
  exact ⟨rfl, _, (((hworn.trans htaken).trans hcounted).trans (.nv _ _)).trans hcycles, hjobs, hpages, by simp [hsome], fun _ => ⟨1, rfl⟩,
    fun h => absurd h (by decide), fun h1 => absurd h (by omega),
    fun _ _ => (hcyclesSpares.trans hcountedSpares).trans (htakenSpares.trans (by rw [hspares]))⟩

theorem State.nvWrite_leaves (s : State) (j : NvJob) (fails : Nat) :
    ∃ c, PageProgrammed s (s.nvWrite j fails).2 j fails (s.nvWrite j fails).1 c := by
  have hof : ∀ ok, ((s.nvWrite j fails).1 = ok ∧ ∃ c, PageProgrammed s (s.nvWrite j fails).2 j fails ok c) →
      ∃ c, PageProgrammed s (s.nvWrite j fails).2 j fails (s.nvWrite j fails).1 c := fun ok ⟨h, hc⟩ => h ▸ hc
  by_cases hfew : fails < 2
  · exact hof _ (s.nvWrite_verified j hfew)
  · by_cases hnone : s.spares = 0
    · exact hof _ (s.nvWrite_failed j (by omega) hnone)
    · exact hof _ (s.nvWrite_moved j (by omega) hnone)

/-- The command whose page program ends is answered; another's routine stands (R303, R417). -/
theorem State.nvAnswer_leaves {s : State} {l : Long} (hl : s.cmd.ci = some l) (hopen : l.answered = false) (j : NvJob) (ok : Bool) :
    let t := s.nvAnswer j ok
    Emits [aMgmtStatus, ctrlAddr .ci 8] s t ∧
      (j.h = some l.h → t.cmd.ci = none ∧ (ok = true → ackReq l.h = true → s.answers t l.h l.op.toNat stOk []) ∧
        (ok = false → s.answers t l.h l.op.toNat stInternal [])) ∧
      (j.h ≠ some l.h → t.cmd.ci = some l) := by
  obtain ⟨u, hu⟩ : ∃ u, u = if ok && j.page == pgAddr then s.setBit aMgmtStatus 4 (j.vals.getD 0 0 != 0) else s := ⟨_, rfl⟩
  have hpinned : Emits [aMgmtStatus, ctrlAddr .ci 8] s u ∧ u.cmd = s.cmd ∧ u.sent = s.sent := by
    rw [hu]
    split
    · exact ⟨Emits.setFld _ _ _ _ _ _ (.inl (by simp)), rfl, rfl⟩
    · exact ⟨.refl _ s, rfl, rfl⟩
  obtain ⟨hemits, hcmd, hsent⟩ := hpinned
  have hlong : u.long .ci = some l := (congrArg (·.ci) hcmd).trans hl
  have heq : s.nvAnswer j ok = if j.h = some l.h then u.endLong .ci (if ok then stOk else stInternal) else u := by
    unfold State.nvAnswer
    dsimp only
    rw [← hu, show u.cmd.ci = some l from hlong]
    cases j.h with
    | none => rfl
    | some h =>
      simp only [Option.some.injEq]
      by_cases hh : l.h = h
      · rw [if_pos hh, if_pos hh.symm]
      · rw [if_neg hh, if_neg fun h' => hh h'.symm]
  dsimp only
  rw [heq]
  by_cases hmine : j.h = some l.h
  · rw [if_pos hmine]
    obtain ⟨hends, hnone, hanswers⟩ := State.endLong_leaves hlong hopen (if ok then stOk else stInternal) []
    have hfrom : ∃ m, u.sent = s.sent ++ m := ⟨[], by simp [hsent]⟩
    refine ⟨hemits.trans (hends.mono (by simp)), fun _ => ⟨hnone, fun hok hack => ?_, fun hfailed => ?_⟩, fun h => absurd hmine h⟩
    · subst hok
      exact (hanswers (.inl hack)).earlier hfrom
    · subst hfailed
      exact (hanswers (.inr (.inr ⟨by decide, by decide⟩))).earlier hfrom
  · rw [if_neg hmine]
    exact ⟨hemits, fun h => absurd h hmine, fun _ => hlong⟩

/-- The copy just written, and the other one (R414). -/
theorem NvPage.put_copies (p : NvPage) (c : NvCopy) : (if p.writesB then (p.put c).a = p.a else (p.put c).b = p.b) ∧
    (if p.writesB then (p.put c).b else (p.put c).a) = c := by
  unfold NvPage.put
  cases p.writesB <;> exact ⟨rfl, rfl⟩

/-- The state after a page program of job j, js waiting behind it. -/
def State.nvProgrammed (s : State) (j : NvJob) (js : List NvJob) (fails : Nat) : State :=
  let u := (s.nvWrite j fails).2
  (State.nvShow { u with nv := { u.nv with jobs := js } }).nvAnswer j (s.nvWrite j fails).1

theorem exec_nvProgramDone {s : State} {j : NvJob} {js : List NvJob} (hjobs : s.nv.jobs = j :: js) (halive : s.hostAlive = true)
    {fails : Nat} (hcool : (s.nvProgrammed j js fails).bit aHhStatus 24 = false) :
    exec (.nvProgramDone fails) s = .next (s.nvProgrammed j js fails) := by
  show execNvProgramDone fails s = _
  unfold execNvProgramDone
  rw [hjobs]
  dsimp only
  rw [halive, if_neg (by decide)]
  exact congrArg Host.Outcome.next (if_neg (by rw [Bool.not_eq_true]; exact hcool))

/-- What a page program of the CI's command leaves. -/
theorem State.nvProgrammed_leaves {s : State} {l : Long} (hl : s.cmd.ci = some l) (hopen : l.answered = false) (j : NvJob) (js : List NvJob)
    (fails : Nat) : let t := s.nvProgrammed j js fails
    let ok := decide (fails < 2) || decide (s.spares ≠ 0)
    t.nv.jobs = js ∧ s.tilesKept t ∧ t.bit aHhStatus 24 = s.bit aHhStatus 24 ∧
      (∃ c, (∀ q, t.nvPage q = if q = j.page then (s.nvPage j.page).put c else s.nvPage q) ∧
        (ok = true → ∃ n, c = (s.nvPage j.page).fresh j n) ∧ (ok = false → c.valid = false ∧ t.bit nvFlags.addr 0 = true)) ∧
      (2 ≤ fails → s.spares ≠ 0 → t.spares = s.spares - 1) ∧ (fails < 2 → t.spares = s.spares) ∧
      (j.h = some l.h → t.cmd.ci = none ∧ (ok = true → ackReq l.h = true → s.answers t l.h l.op.toNat stOk []) ∧
        (ok = false → s.answers t l.h l.op.toNat stInternal [])) ∧
      (j.h ≠ some l.h → t.cmd.ci = some l) := by
  obtain ⟨c, hchanges, -, hpages, hverdict, hgood, hbad, hspares, htaken⟩ := s.nvWrite_leaves j fails
  dsimp only
  unfold State.nvProgrammed
  dsimp only
  rw [← hverdict]
  generalize (s.nvWrite j fails).1 = ok at *
  generalize (s.nvWrite j fails).2 = u at *
  obtain ⟨hshown, hshownNv, hshownSent, hshownCmd, hshownRegs, hshownSpares⟩ := State.nvShow_leaves { u with nv := { u.nv with jobs := js } }
  have hall := (hchanges.trans (.nv u _)).trans hshown
  generalize State.nvShow { u with nv := { u.nv with jobs := js } } = v at *
  have hci : v.cmd.ci = some l := hall.routines.1.trans hl
  obtain ⟨hanswer, hmine, hother⟩ := State.nvAnswer_leaves hci hopen j ok
  generalize v.nvAnswer j ok = t at *
  have hnv : t.nv = { u.nv with jobs := js } := hanswer.stores.1.trans hshownNv
  have hflags : t.bit nvFlags.addr 0 = u.bit nvFlags.addr 0 :=
    (State.bit_of_reg (hanswer.regs _ (by decide) (by decide)) 0).trans (State.bit_of_reg (hshownRegs _ (by decide)) 0)
  have hspare : t.spares = u.spares := (State.fld_of_reg (hanswer.regs aNvStatus (by decide) (by decide)) 22 16).trans hshownSpares
  have hthermal : t.bit aHhStatus 24 = s.bit aHhStatus 24 :=
    (State.bit_of_reg (hanswer.regs _ (by decide) (by decide)) 24).trans (State.bit_of_reg (hall.regs _ (by decide) (by decide)) 24)
  refine ⟨by rw [hnv], hall.kept.trans (hanswer.tilesKept (by decide)), hthermal, ⟨c, fun q => ?_, hgood, fun h => ⟨(hbad h).1, hflags.trans (hbad h).2⟩⟩,
    fun h1 h2 => hspare.trans (htaken h1 h2), fun h1 => hspare.trans (hspares h1), fun h => ?_, hother⟩
  · exact (State.nvPage_of_nv (by rw [hnv]) q).trans (hpages q)
  · obtain ⟨hnone, hok, hfailed⟩ := hmine h
    exact ⟨hnone, fun h1 h2 => (hok h1 h2).earlier hall.sent, fun h1 => (hfailed h1).earlier hall.sent⟩

/-! ## The statement of calibrations, tests and the store -/

/-- A command that comes to an error has done nothing. -/
theorem State.refused_of_eq {s t : State} {h : Hdr} {op : Nat} {st : Byte} (ht : t = s.finish h op st) (hst : st ≠ stOk ∧ st ≠ stPending) :
    s.refused t h op st := by
  rw [ht]
  exact s.refused_finish h op hst.1 hst.2

section
variable {s : State} {h : Hdr} {w0 : W32}

/-- A calibration of tiles that is not refused (R142, R387). -/
theorem calTiles_runs {n : Nat} (hw : w0.toNat < 4096) (href : s.refPresent = true) (hquiet : (yokeMaskTiles n (wfld w0 11 8)).any s.tileBusy = false)
    (hfree : s.cmd.fm = none) : let tiles := yokeMaskTiles n (wfld w0 11 8)
    let t := s.calTiles h w0 n
    (tiles = [] → (ackReq h = true → s.answers t h 0x30 stOk []) ∧ t.cmd.fm = none ∧ s.tilesKept t) ∧
    (tiles ≠ [] → s.longStarted t .fm h 0x30 ∧ t.cmd.fm.map (·.tiles) = some tiles ∧ s.tilesKept t ∧
      t.hem.requests = s.hem.requests ++ tiles.map (fun n => { kind := .tile n true, arrival := s.pin, use := none, eng := engOfTile n 0 })) := by
  obtain ⟨hends, hbegins⟩ := calTiles_begins s h w0 (tiles := yokeMaskTiles n (wfld w0 11 8))
  dsimp only
  rw [State.calTiles_free hw href hquiet hfree]
  refine ⟨fun hnone => ?_, fun hsome => ?_⟩
  · dsimp only
    rw [if_pos (List.isEmpty_iff.mpr hnone)]
    exact hends
  · dsimp only
    rw [if_neg (by rwa [List.isEmpty_iff])]
    exact hbegins

/-- KIND 2 and 3 (R294, R401). -/
theorem State.calibrate_hk_busy (hlow : 2 ≤ wfld w0 7 0) (hhigh : wfld w0 7 0 ≤ 3) (htakes : s.takes h 0x30 (wfld w0 7 0 == 3))
    (hw : w0.toNat < 4096) (hbusy : (wfld w0 7 0 = 3 ∧ s.refPresent = false) ∨ s.long (hkCtl (hkSide (wfld w0 7 0))) ≠ none) :
    s.calibrate h w0 = s.finish h 0x30 stBusy := by
  rw [State.calibrate_hk hlow hhigh htakes, if_neg (by omega)]
  split
  · rfl
  · rename_i hpresent
    exact State.startLong_busy (hbusy.resolve_left hpresent) _ _ _ _ _

theorem State.calibrate_hk_free (hlow : 2 ≤ wfld w0 7 0) (hhigh : wfld w0 7 0 ≤ 3) (htakes : s.takes h 0x30 (wfld w0 7 0 == 3))
    (hw : w0.toNat < 4096) (href : wfld w0 7 0 = 3 → s.refPresent = true) (hfree : s.long (hkCtl (hkSide (wfld w0 7 0))) = none) :
    s.calibrate h w0 = (s.begunLong (hkCtl (hkSide (wfld w0 7 0))) h 0x30 w0 []).hkCalStart (hkSide (wfld w0 7 0)) := by
  rw [State.calibrate_hk hlow hhigh htakes, if_neg (by omega), if_neg fun hno => by simp [href hno.1] at hno, State.startLong_free hfree]

theorem State.selfTest_busy {k : Ctl} {byYoke : Bool} (hkind : testKind (wfld w0 15 0) = some (k, byYoke)) (htakes : s.takes h 0x31 (k == .fm))
    (hw : w0.toNat < 0x100000) (hyokes : byYoke = (wfld w0 19 16 != 0))
    (hbusy : s.testBusy k (wfld w0 15 0) (wfld w0 19 16) = true ∨ s.long k ≠ none) : s.selfTest h w0 = s.finish h 0x31 stBusy := by
  rw [State.selfTest_known hkind htakes, if_neg fun hno => hno.elim (by omega) fun hne => hne hyokes]
  split
  · rfl
  · rename_i hquiet
    exact State.startLong_busy (hbusy.resolve_left hquiet) _ _ _ _ _

theorem State.selfTest_free {k : Ctl} {byYoke : Bool} (hkind : testKind (wfld w0 15 0) = some (k, byYoke)) (htakes : s.takes h 0x31 (k == .fm))
    (hw : w0.toNat < 0x100000) (hyokes : byYoke = (wfld w0 19 16 != 0)) (hquiet : s.testBusy k (wfld w0 15 0) (wfld w0 19 16) = false)
    (hfree : s.long k = none) : s.selfTest h w0 =
      if wfld w0 15 0 = 0x11 then (s.begunLong k h 0x31 w0 []).isolate (wfld w0 19 16) else s.begunLong k h 0x31 w0 [] := by
  rw [State.selfTest_known hkind htakes, if_neg fun hno => hno.elim (by omega) fun hne => hne hyokes, hquiet, if_neg (by decide),
    State.startLong_free hfree]

theorem exec_selfTestDone (s : State) (c : Ctl) (fail : Option W32) :
    exec (.selfTestDone c fail) s = .next (if (s.runningTest c).isSome then s.testEnd c fail else s) := rfl

theorem exec_nvProgramDone_idle {fails : Nat} (hidle : s.nv.jobs = [] ∨ s.hostAlive = false) : exec (.nvProgramDone fails) s = .next s := by
  show execNvProgramDone fails s = _
  unfold execNvProgramDone
  split
  · rfl
  · rename_i j js hjobs
    rw [hidle.resolve_left (by simp [hjobs])]
    rfl

/-- NV_READ of a page and span that pass its checks (R415). -/
theorem exec_nvRead {w1 w2 : W32} (htakes : s.takes h 0x51 false) : exec (.nvRead h w0 w1 w2) s = .next (
    if w1.toNat % 4 ≠ 0 ∨ w2.toNat % 4 ≠ 0 then s.finish h 0x51 stMisaligned
    else if w2.toNat = 0 then s.finish h 0x51 stBadParam
    else if 4096 < w1.toNat + w2.toNat ∨ 8191 < w0.toNat then s.finish h 0x51 stRange
    else match s.nvCopy w0.toNat with
      | none => (s.flag nvFlags 1).finish h 0x51 stInternal
      | some c => s.finish h 0x51 stOk
          (beWords (w2.toNat / 4) ((List.range w2.toNat).map (fun i => NvCopy.byte c w0.toNat (w1.toNat + i))))) :=
  congrArg Host.Outcome.next (htakes.runs _)

theorem exec_nvWrite {data : List Byte} (htakes : s.takes h 0x50 false) : exec (.nvWrite h w0 data) s = .next (
    if data.length ≠ 4096 then s.finish h 0x50 stBadParam
    else if w0.toNat < 256 ∨ 8191 < w0.toNat then s.finish h 0x50 stRange
    else s.startLong .ci h 0x50 w0 [] (fun s => s.nvPush { page := w0.toNat, data, vals := [], h := some h, op := 0x50 })) :=
  congrArg Host.Outcome.next (htakes.runs _)

end

/-- Settles O50: each command is its checks in order, then one step whose effects are told apart from what is answered. The DETAIL of a
PASS (log entry 15) and the copy A that a program of a page with no valid copy writes (log entry 76) are the model's choices. -/
theorem calibrationsTestsAndTheStore : Obligations.CalibrationsTestsAndTheStore := by
  have hbad : stBadParam ≠ stOk ∧ stBadParam ≠ stPending := by decide
  have hbusyError : stBusy ≠ stOk ∧ stBusy ≠ stPending := by decide
  refine ⟨fun s h w0 c hc => ?_, fun s h w0 c hc => ?_, fun s c fail => ?_, fun s h w0 data htakes => ?_, fun s h w0 w1 w2 htakes => ?_,
    fun s fails => ?_⟩
  · rw [exec_calibrate hc]
    refine ⟨fun hkind htakes => ⟨_, rfl, State.refused_of_eq (State.calibrate_reserved hkind htakes) hbad⟩, fun hkind htakes => ?_,
      fun hlow hhigh htakes => ⟨fun hw => ⟨_, rfl, State.refused_of_eq ((State.calibrate_hk hlow hhigh htakes).trans (if_pos hw)) hbad⟩,
        fun hw hbusy => ⟨_, rfl, State.refused_of_eq (State.calibrate_hk_busy hlow hhigh htakes hw hbusy) hbusyError⟩,
        fun hw href hfree => ⟨_, rfl, ?_⟩⟩⟩
    · rw [State.calibrate_tiles hkind htakes]
      refine ⟨fun hw => ⟨_, rfl, State.refused_of_eq (if_pos hw) hbad⟩,
        fun hw hbusy => ⟨_, rfl, State.refused_of_eq (State.calTiles_busy hw hbusy h) hbusyError⟩, fun hw href hquiet hfree => ?_⟩
      obtain ⟨hends, hbegins⟩ := calTiles_runs (h := h) hw href hquiet hfree
      exact ⟨fun hnone => ⟨_, rfl, hends hnone⟩, fun hsome => ⟨_, rfl, hbegins hsome⟩⟩
    · rw [State.calibrate_hk_free hlow hhigh htakes hw href hfree]
      exact hkCal_begins s (hkSide (wfld w0 7 0)) h w0
  · rw [exec_selfTest hc]
    refine ⟨fun hkind htakes => ⟨_, rfl, State.refused_of_eq (State.selfTest_reserved hkind htakes) hbad⟩, fun k byYoke hkind htakes =>
      ⟨fun hw => ⟨_, rfl, State.refused_of_eq ((State.selfTest_known hkind htakes).trans (if_pos hw)) hbad⟩,
        fun hw hyokes hbusy => ⟨_, rfl, State.refused_of_eq (State.selfTest_busy hkind htakes hw hyokes hbusy) hbusyError⟩,
        fun hw hyokes hquiet hfree => ⟨_, rfl, ?_⟩⟩⟩
    rw [State.selfTest_free hkind htakes hw hyokes hquiet hfree]
    exact selfTest_begins s k h w0
  · rw [exec_selfTestDone]
    refine ⟨fun hnone => by rw [hnone]; rfl, fun l hl hop hopen => ⟨_, ?_, testEnd_leaves hl hop hopen fail⟩⟩
    have hruns : s.runningTest c = some (wfld l.arg 15 0, wfld l.arg 19 16) := by
      rw [State.runningTest, hl]
      exact if_pos hop
    rw [hruns]
    rfl
  · rw [exec_nvWrite htakes]
    refine ⟨fun hlen => ⟨_, rfl, State.refused_of_eq (if_pos hlen) hbad⟩,
      fun hlen hpage => ⟨_, rfl, State.refused_of_eq ((if_neg (not_not_intro hlen)).trans (if_pos hpage)) (by decide)⟩,
      fun hlen hlow hhigh hbusy => ⟨_, rfl, ?_⟩, fun hlen hlow hhigh hfree => ⟨_, rfl, ?_⟩⟩
    all_goals rw [if_neg (not_not_intro hlen), if_neg (by omega)]
    · exact State.refused_of_eq (State.startLong_busy (c := .ci) hbusy _ _ _ _ _) hbusyError
    · exact State.startsNvWrite hfree w0 _
  · rw [exec_nvRead htakes]
    refine ⟨fun hmis => ⟨_, rfl, State.refused_of_eq (if_pos hmis) (by decide)⟩,
      fun hoff hlen => ⟨_, rfl, State.refused_of_eq ((if_neg (by omega)).trans (if_pos hlen)) hbad⟩,
      fun hoff hlen hsome hpast => ⟨_, rfl, State.refused_of_eq ((if_neg (by omega)).trans ((if_neg hsome).trans (if_pos hpast))) (by decide)⟩,
      fun hoff hlen hsome hin hpage => ?_⟩
    rw [if_neg (by omega), if_neg hsome, if_neg (by omega)]
    refine ⟨fun hnone => ⟨_, rfl, ?_⟩, fun x hx => ⟨_, rfl, ?_⟩⟩
    · rw [hnone]
      exact s.nvBad_refused h
    · rw [hx]
      have hbytes := beWords_ne_nil (n := w2.toNat / 4) (bs := (List.range w2.toNat).map fun i => NvCopy.byte x w0.toNat (w1.toNat + i))
        (by omega) (by simpa using hsome)
      have hemits := s.finish_emits h 0x51 stOk (beWords (w2.toNat / 4) ((List.range w2.toNat).map fun i => NvCopy.byte x w0.toNat (w1.toNat + i)))
      exact ⟨hemits.tilesKept (by simp), hemits.stores.1, State.finish_answers (.inl rfl) (.inr hbytes)⟩
  · refine ⟨exec_nvProgramDone_idle, fun j js l hjobs halive hcool hl hopen => ?_⟩
    obtain ⟨hrest, hkept, hthermal, ⟨c, hpages, hgood, hfailed⟩, htaken, hspares, hmine, hother⟩ := State.nvProgrammed_leaves hl hopen j js fails
    obtain ⟨hold, hnew⟩ := (s.nvPage j.page).put_copies c
    have hpage := (hpages j.page).trans (if_pos rfl)
    refine ⟨_, exec_nvProgramDone hjobs halive (hthermal.trans hcool), hrest, hkept, fun q hq => (hpages q).trans (if_neg hq), ?_, ?_⟩
    · rw [hpage]
      exact hold
    · dsimp only
      rw [hpage, hnew]
      refine ⟨fun hok => ?_, htaken, hspares, hfailed, hmine, hother⟩
      obtain ⟨n, hn⟩ := hgood hok
      rw [hn]
      exact ⟨rfl, rfl, rfl, rfl⟩

end Sys2Proof.Machine

namespace Sys2Proof.Machine

/-! ## MEND_CTRL and the table check (R186, R193) -/

theorem mendFlags_field : isFieldSource mendFlags.source = true := by decide

theorem State.writeMendCtrl_busy {s : State} (h : s.mend.check.isSome = true) (v : W32) (who : Option Deferred) :
    s.writeMendCtrl v who = (.busy, s) := if_pos h

theorem State.writeMendCtrl_checks {s : State} (hidle : s.mend.check = none) (hoff : s.bit aMendCtrl 0 = false) {v : W32}
    (hset : v.getLsbD 0 = true) (who : Option Deferred) :
    s.writeMendCtrl v who = (.checking, s.modMend (fun m => { m with check := some (v &&& 0xF, who) })) := by
  rw [State.writeMendCtrl, hidle, hoff, hset]
  rfl

/-- MEND_CTRL written, a clearing of EN waiting for the detach or not. -/
def State.mendCtrlSet (s : State) (w : W32) (waits : Bool) : State :=
  (s.setReg aMendCtrl w).modMend (fun m => { m with detachAfter := waits })

theorem State.mendCtrlSet_leaves (s : State) (w : W32) (waits : Bool) : let t := s.mendCtrlSet w waits
    t = { s with regs := t.regs, mend := { s.mend with detachAfter := waits } } ∧ t.reg aMendCtrl = w ∧ s.sameRegs t [aMendCtrl] :=
  ⟨rfl, (State.reg_setReg s _ _ w).trans (if_pos rfl),
    fun a ha => (State.reg_setReg s _ a w).trans (if_neg (by simpa using ha))⟩

/-- EN cleared while attached waits for the detach. -/
theorem State.writeMendCtrl_waits {s : State} (hidle : s.mend.check = none) (hon : s.bit aMendCtrl 0 = true) {v : W32}
    (hclear : v.getLsbD 0 = false) (hset : s.mend.set.isSome = true) (who : Option Deferred) :
    (s.writeMendCtrl v who).2 = (s.mendCtrlSet ((v &&& 0xE) ||| 1) true).touch aMendCtrl := by
  rw [State.writeMendCtrl, hidle, hon, hclear, hset]
  rfl

/-- Any other write of MEND_CTRL that asks for no check is done at once. -/
theorem State.writeMendCtrl_done {s : State} (hidle : s.mend.check = none) {v : W32} (hasks : s.bit aMendCtrl 0 = true ∨ v.getLsbD 0 = false)
    (hfree : s.bit aMendCtrl 0 = false ∨ v.getLsbD 0 = true ∨ s.mend.set = none) (who : Option Deferred) :
    (s.writeMendCtrl v who).2 = (s.mendCtrlSet (v &&& 0xF) false).touch aMendCtrl := by
  have hno : (v.getLsbD 0 && !s.bit aMendCtrl 0) = false := by
    obtain h | h := hasks
    · rw [h, Bool.not_true, Bool.and_false]
    · rw [h, Bool.false_and]
  have hnow : (s.bit aMendCtrl 0 && !v.getLsbD 0 && s.mend.set.isSome) = false := by
    obtain h | h | h := hfree
    · rw [h, Bool.false_and, Bool.false_and]
    · rw [h, Bool.not_true, Bool.and_false, Bool.false_and]
    · rw [h, Option.isSome_none, Bool.and_false]
  rw [State.writeMendCtrl, hidle, hno, hnow]
  rfl

/-- MENDER_ENABLE where no check is asked for. -/
theorem exec_menderEnable_writes {s : State} (hidle : s.mend.check = none) {v : W32}
    (hasks : s.bit aMendCtrl 0 = true ∨ v.getLsbD 0 = false) :
    ∃ t : State, exec (.menderEnable v) s = .next (t.touch aMendCtrl) ∧ s.sameRegs t [aMendCtrl] ∧
      t = { s with regs := t.regs, mend := t.mend } ∧
      (s.bit aMendCtrl 0 = true → v.getLsbD 0 = false → s.mend.set.isSome = true →
        t.reg aMendCtrl = (v &&& 0xE) ||| 1 ∧ t.mend = { s.mend with detachAfter := true }) ∧
      (s.bit aMendCtrl 0 = false ∨ v.getLsbD 0 = true ∨ s.mend.set = none →
        t.reg aMendCtrl = v &&& 0xF ∧ t.mend = { s.mend with detachAfter := false }) := by
  by_cases hwaits : s.bit aMendCtrl 0 = true ∧ v.getLsbD 0 = false ∧ s.mend.set.isSome = true
  · obtain ⟨hon, hclear, hset⟩ := hwaits
    obtain ⟨hframe, hctrl, hregs⟩ := s.mendCtrlSet_leaves ((v &&& 0xE) ||| 1) true
    refine ⟨_, congrArg Host.Outcome.next (State.writeMendCtrl_waits hidle hon hclear hset none), hregs, hframe,
      fun _ _ _ => ⟨hctrl, rfl⟩, fun hfree => ?_⟩
    rw [hon, hclear] at hfree
    exact absurd hfree (by simp [Option.isSome_iff_ne_none.mp hset])
  · have hfree : s.bit aMendCtrl 0 = false ∨ v.getLsbD 0 = true ∨ s.mend.set = none := by
      rwa [not_and_or, not_and_or, Bool.not_eq_true, Bool.not_eq_false, Option.not_isSome_iff_eq_none] at hwaits
    obtain ⟨hframe, hctrl, hregs⟩ := s.mendCtrlSet_leaves (v &&& 0xF) false
    exact ⟨_, congrArg Host.Outcome.next (State.writeMendCtrl_done hidle hasks hfree none), hregs, hframe,
      fun hon hclear hset => absurd ⟨hon, hclear, hset⟩ hwaits, fun _ => ⟨hctrl, rfl⟩⟩

/-- The write that the check was for, and its reply where a command waits for it (R193). -/
def State.checkAnswered (s : State) (who : Option Deferred) (st : Byte) : State :=
  who.elim s (fun d => s.finalReply d.h d.op st (if st = 0x00 then d.okParams else d.badParams))

theorem exec_menderCheckDone {s : State} {v : W32} {who : Option Deferred} (h : s.mend.check = some (v, who)) :
    exec .menderCheckDone s = .next (s.endCheck.2.checkAnswered who s.endCheck.1) := by
  show execMenderCheckDone s = _
  rw [execMenderCheckDone, h]
  cases who <;> rfl

theorem State.checkAnswered_emits (s : State) (who : Option Deferred) (st : Byte) : Emits [] s (s.checkAnswered who st) := by
  cases who with
  | none => exact .refl [] s
  | some d => exact State.finalReply_emits s d.h d.op st _

/-- Every entry passes: MEND_CTRL takes the value. -/
theorem State.endCheck_pass {s : State} {v : W32} {who : Option Deferred} (h : s.mend.check = some (v, who)) (hpass : s.checkTables = none) :
    s.endCheck = (0x00, ((s.modMend (fun m => { m with check := none })).mendCtrlSet v false).touch aMendCtrl) := by
  rw [State.endCheck, h]
  dsimp only
  rw [hpass]
  rfl

/-- An entry fails: it is recorded and flagged. -/
theorem State.endCheck_fail {s : State} {v err : W32} {who : Option Deferred} (h : s.mend.check = some (v, who)) (hfail : s.checkTables = some err) :
    s.endCheck = (0x11, ((s.modMend (fun m => { m with check := none })).setReg aMendErr err).flag mendFlags 4) := by
  rw [State.endCheck, h]
  dsimp only
  rw [hfail]

/-- The failing entry in MEND_ERR_ENTRY with its flag. -/
theorem State.entryFailed_leaves (s : State) (err : W32) : let t := (s.setReg aMendErr err).flag mendFlags 4
    t = { s with regs := t.regs, evt := t.evt } ∧ s.sameRegs t [aMendErr, mendFlags.addr] ∧ t.reg aMendErr = err ∧
      t.bit mendFlags.addr 4 = true := by
  have hset := s.setReg_frame aMendErr err
  have hflag := State.flag_frame_of_field mendFlags_field (s.setReg aMendErr err) 4
  rw [hset] at hflag
  refine ⟨hflag, ((s.notesRegs_setReg (by simp) err).trans (State.notesRegs_flag mendFlags_field (by simp) _ 4)).2, ?_,
    State.bit_flag_of_field mendFlags_field _ (by decide)⟩
  rw [State.reg_flag_of_field mendFlags_field _ _ (by decide), State.reg_setReg, if_pos rfl]

/-- The check ended with a status in u: its write is done or refused there, and only a reply that waited follows. -/
theorem menderCheckDone_leaves {s u : State} {v : W32} {who : Option Deferred} {st : Byte} (h : s.mend.check = some (v, who))
    (hend : s.endCheck = (st, u)) (hu : u = { s with regs := u.regs, mend := u.mend, evt := u.evt, pair := u.pair }) :
    ∃ t : State, exec .menderCheckDone s = .next t ∧ t.mend = u.mend ∧ (∀ e, t.eng e = s.eng e) ∧ s.sameMem t ∧
      (∀ a, emitReg a = false → t.reg a = u.reg a) ∧ (who = none → t = u) ∧
      ∀ d ps, who = some d → (if st = 0x00 then d.okParams else d.badParams) = ps → repliesTo d.h st ps → s.answers t d.h d.op st ps := by
  have hexec := exec_menderCheckDone h
  rw [hend] at hexec
  have hemits := u.checkAnswered_emits who st
  refine ⟨_, hexec, by rw [hemits.frame], fun e => (hemits.eng e).trans ?_, fun a => (hemits.byte a).trans ?_,
    fun a => hemits.regs a (by simp), ?_, ?_⟩
  · rw [hu]
    rfl
  · rw [hu]
    rfl
  · rintro rfl
    rfl
  · rintro d ps rfl rfl hreplies
    exact (State.finalReply_replies u hreplies d.op).earlier ⟨[], by rw [hu, List.append_nil]⟩

theorem menderCheckDone_passes {s : State} {v : W32} {who : Option Deferred} (h : s.mend.check = some (v, who)) (hpass : s.checkTables = none) :
    ∃ t : State, exec .menderCheckDone s = .next t ∧ t.mend.check = none ∧ (∀ e, t.eng e = s.eng e) ∧ s.sameMem t ∧
      t.reg aMendCtrl = v ∧ t.reg aMendErr = s.reg aMendErr ∧ (who = none → s.sameRegs t [aMendCtrl]) ∧
      ∀ d, who = some d → ackReq d.h = true → s.answers t d.h d.op stOk d.okParams := by
  have hend := State.endCheck_pass h hpass
  obtain ⟨hframe, hctrl, hregs⟩ := (s.modMend (fun m => { m with check := none })).mendCtrlSet_leaves v false
  rw [State.touch_frame, hframe] at hend
  obtain ⟨t, hexec, hmend, heng, hmem, hkept, hnone, hanswers⟩ := menderCheckDone_leaves h hend rfl
  refine ⟨t, hexec, by rw [hmend]; rfl, heng, hmem, (hkept _ (by decide)).trans hctrl, (hkept _ (by decide)).trans (hregs _ (by decide)),
    fun hwho a ha => ?_, fun d hd hack => hanswers d _ hd rfl (.inl hack)⟩
  rw [hnone hwho]
  exact hregs a ha

theorem menderCheckDone_fails {s : State} {v err : W32} {who : Option Deferred} (h : s.mend.check = some (v, who)) (hfail : s.checkTables = some err) :
    ∃ t : State, exec .menderCheckDone s = .next t ∧ t.mend.check = none ∧ (∀ e, t.eng e = s.eng e) ∧ s.sameMem t ∧
      t.reg aMendErr = err ∧ t.bit mendFlags.addr 4 = true ∧ t.reg aMendCtrl = s.reg aMendCtrl ∧
      (who = none → s.sameRegs t [aMendErr, mendFlags.addr]) ∧ ∀ d, who = some d → s.answers t d.h d.op 0x11 d.badParams := by
  have hend := State.endCheck_fail h hfail
  obtain ⟨hframe, hregs, herr, hflag⟩ := (s.modMend (fun m => { m with check := none })).entryFailed_leaves err
  rw [hframe] at hend
  obtain ⟨t, hexec, hmend, heng, hmem, hkept, hnone, hanswers⟩ := menderCheckDone_leaves h hend rfl
  refine ⟨t, hexec, by rw [hmend]; rfl, heng, hmem, (hkept _ (by decide)).trans herr, (congrArg (·.getLsbD 4) (hkept _ (by decide))).trans hflag,
    (hkept _ (by decide)).trans (hregs _ (by decide)), fun hwho a ha => ?_, fun d hd => hanswers d _ hd rfl (.inr (.inr (by decide)))⟩
  rw [hnone hwho]
  exact hregs a ha

/-! ## The scrub (R194) -/

theorem exec_menderScrub_idle {s : State} {bad : List Nat} (h : s.bit aMendCtrl 0 = false ∨ s.bit 0x10050004 3 = true ∨ bad = []) :
    exec (.menderScrub bad) s = .next s := by
  show execMenderScrub bad s = _
  obtain h | h | h := h <;> simp [execMenderScrub, h]

theorem exec_menderScrub {s : State} {bad : List Nat} (hon : s.bit aMendCtrl 0 = true) (hruns : s.bit 0x10050004 3 = false) (hfound : bad ≠ []) :
    exec (.menderScrub bad) s = .next (((s.modMend (fun m => { m with bad := (m.bad ++ bad).dedup, off := (m.off ++ bad).dedup })).flag
      mendFlags 7).flag mendFlags 4) := by
  show execMenderScrub bad s = _
  simp [execMenderScrub, hon, hruns, hfound]

/-- Two-bit errors are flagged as such and as errors of entries (R194). -/
theorem State.errorsFlagged_leaves (s : State) : let t := (s.flag mendFlags 7).flag mendFlags 4
    s.notesRegs t [mendFlags.addr] ∧ t.bit mendFlags.addr 7 = true ∧ t.bit mendFlags.addr 4 = true :=
  ⟨(State.notesRegs_flag mendFlags_field (by simp) s 7).trans (State.notesRegs_flag mendFlags_field (by simp) _ 4),
    State.bit_flag_kept mendFlags_field (State.bit_flag_of_field mendFlags_field s (by decide)) 4,
    State.bit_flag_of_field mendFlags_field _ (by decide)⟩

theorem menderScrub_finds {s : State} {bad : List Nat} (hon : s.bit aMendCtrl 0 = true) (hruns : s.bit 0x10050004 3 = false) (hfound : bad ≠ []) :
    ∃ t : State, exec (.menderScrub bad) s = .next t ∧ (∀ n, n ∈ t.mend.bad ↔ n ∈ s.mend.bad ∨ n ∈ bad) ∧
      (∀ n, n ∈ t.mend.off ↔ n ∈ s.mend.off ∨ n ∈ bad) ∧ t.bit mendFlags.addr 7 = true ∧ t.bit mendFlags.addr 4 = true ∧
      s.sameRegs t [mendFlags.addr] ∧ (∀ e, t.eng e = s.eng e) ∧ s.sameMem t := by
  have hexec := exec_menderScrub hon hruns hfound
  obtain ⟨⟨hframe, hregs⟩, hmet, herror⟩ :=
    (s.modMend (fun m => { m with bad := (m.bad ++ bad).dedup, off := (m.off ++ bad).dedup })).errorsFlagged_leaves
  refine ⟨_, hexec, fun n => ?_, fun n => ?_, hmet, herror, hregs, fun e => ?_, fun a => ?_⟩
  all_goals rw [hframe]
  · simp [State.modMend]
  · simp [State.modMend]
  · rfl
  · rfl

/-- Settles O31: a write of MEND_CTRL has four outcomes, the check's end two, and the scrub acts or does not. -/
theorem menderSwitchesOnAfterItsCheck : Obligations.MenderSwitchesOnAfterItsCheck := by
  refine ⟨fun s v => ⟨fun hbusy => ?_, fun hidle hoff hset => ?_, fun hidle hasks => exec_menderEnable_writes hidle hasks⟩, fun s v who hcheck => ?_,
    fun s bad => ⟨menderScrub_finds, exec_menderScrub_idle⟩⟩
  · exact congrArg (fun r => Host.Outcome.next r.2) (State.writeMendCtrl_busy hbusy v none)
  · exact congrArg (fun r => Host.Outcome.next r.2) (State.writeMendCtrl_checks hidle hoff hset none)
  · cases htables : s.checkTables with
    | none =>
      obtain ⟨t, hexec, hended, heng, hmem, hctrl, herr, hregs, hanswers⟩ := menderCheckDone_passes hcheck htables
      exact ⟨t, hexec, hended, heng, hmem, fun _ => ⟨hctrl, herr, hregs, hanswers⟩, fun _ h => absurd h (by simp)⟩
    | some err =>
      obtain ⟨t, hexec, hended, heng, hmem, herr, hflag, hctrl, hregs, hanswers⟩ := menderCheckDone_fails hcheck htables
      refine ⟨t, hexec, hended, heng, hmem, fun h => absurd h (by simp), fun err' h => ?_⟩
      obtain rfl := Option.some.inj h
      exact ⟨herr, hflag, hctrl, hregs, hanswers⟩

end Sys2Proof.Machine

namespace Sys2Proof.Machine

/-! ## Rounds that close (R190) -/

/-- Between s and t Mender closed rounds: the list of closes grew, and what it has taken in stays. -/
structure ClosesRounds (s t : State) : Prop where
  frame : t = { s with mend := t.mend, free := t.free }
  ins : t.mend.ins = s.mend.ins
  dets : t.mend.dets = s.mend.dets
  closes : ∃ l, t.mend.closes = s.mend.closes ++ l

theorem ClosesRounds.refl (s : State) : ClosesRounds s s := ⟨rfl, rfl, rfl, [], (List.append_nil _).symm⟩

theorem ClosesRounds.trans {s t u : State} (h : ClosesRounds s t) (k : ClosesRounds t u) : ClosesRounds s u := by
  obtain ⟨hframe, hins, hdets, l, hl⟩ := h
  obtain ⟨kframe, kins, kdets, l', hl'⟩ := k
  rw [hframe] at kframe
  exact ⟨kframe, kins.trans hins, kdets.trans hdets, l ++ l', by rw [hl', hl, List.append_assoc]⟩

theorem State.closeRound_closes (s : State) (stamp : W32) (final : Bool) : ClosesRounds s (s.closeRound stamp final) :=
  ⟨rfl, rfl, rfl, _, rfl⟩

theorem State.closeFull_closes (k : Nat) (s : State) : ClosesRounds s (s.closeFull k) := by
  have hdraw : ∀ u : State, ClosesRounds u u.draw := fun _ => ⟨rfl, rfl, rfl, [], (List.append_nil _).symm⟩
  induction k generalizing s with
  | zero => exact .refl s
  | succ k ih =>
    have hclose := s.closeRound_closes (s.roundStamp s.mend.closed) false
    unfold State.closeFull
    dsimp only
    split
    · split
      · exact (hclose.trans (hdraw _)).trans (ih _)
      · exact hclose.trans (ih _)
    · exact .refl s

theorem State.closeAll_closes (s : State) : ClosesRounds s s.closeAll := State.closeFull_closes _ s

theorem ClosesRounds.kept {s t : State} (h : ClosesRounds s t) :
    (∀ e, t.eng e = s.eng e) ∧ s.sameMem t ∧ (∀ a, t.reg a = s.reg a) ∧ t.onet = s.onet := by
  have hframe := h.frame
  rw [hframe]
  exact ⟨fun _ => rfl, fun _ => rfl, fun _ => rfl, rfl⟩

/-! ## EMPTY_ROUND_CLOSE (R190) -/

theorem exec_emptyRoundClose_idle {s : State} (h : s.mend.set = none ∨ s.finalMade = true ∨ s.activeDets (s.layoutOf s.mend.closed) ≠ []) :
    exec .emptyRoundClose s = .next s := by
  show execEmptyRoundClose s = _
  refine if_pos ?_
  obtain h | h | h := h
  · rw [h, Option.isNone_none, Bool.true_or, Bool.true_or]
  · rw [h, Bool.or_true, Bool.true_or]
  · rw [List.isEmpty_eq_false_iff.mpr h, Bool.not_false, Bool.or_true]

theorem exec_emptyRoundClose {s : State} (hset : s.mend.set ≠ none) (hfinal : s.finalMade = false)
    (hnone : s.activeDets (s.layoutOf s.mend.closed) = []) : exec .emptyRoundClose s =
      .next (((s.advanceTo (s.mend.lastStamp + 80)).closeRound (s.mend.lastStamp + 80) false).closeAll).serveRuns := by
  show execEmptyRoundClose s = _
  exact if_neg (by simp [hset, hfinal, hnone])

/-- The clocks moved on and an empty round closed, with the full ones after it. -/
theorem State.emptyRoundClosed_leaves (s : State) (b : W32) : let t := ((s.advanceTo b).closeRound b false).closeAll
    (∀ e, t.eng e = s.eng e) ∧ s.sameMem t ∧ s.sameRegs t [] ∧ ∃ l, t.mend.closes = s.mend.closes ++
      { round := s.mend.closed, stamp := b, final := s.mendRounds == s.mend.closed + 1, late := s.decoderBusy } :: l := by
  rw [State.advanceTo_frame]
  generalize (s.advanceTo b).clk = c
  let moved : State := { s with clk := c }
  obtain ⟨heng, hmem, hreg, -⟩ := ((moved.closeRound_closes b false).trans (State.closeAll_closes _)).kept
  obtain ⟨l, hl⟩ := (moved.closeRound b false).closeAll_closes.closes
  exact ⟨heng, hmem, fun a _ => hreg a, l, hl.trans (List.append_assoc _ _ _)⟩

/-! ## MENDER_INPUT (R187-R189, R213) -/

theorem exec_menderInput {s : State} {i : MendIn} {rest : List MendIn} {d : Nat} (hin : s.onet.mendIn = i :: rest) (hdet : s.detOf i.source = some d) :
    exec .menderInput s = .next (({ s with onet := { s.onet with mendIn := rest } } : State).menderTake i d).serveRuns := by
  show execMenderInput s = _
  rw [execMenderInput, hin]
  dsimp only
  rw [show ({ s with onet := { s.onet with mendIn := rest } } : State).detOf i.source = some d from hdet]

section
variable {s : State} {i : MendIn} {d : Nat} (hset : s.mend.set ≠ none) (hnew : ∀ b, i.stamp = some b → blt b s.mend.shotStart = false)
include hset hnew

/-- An outcome of the shot that Mender is attached to is taken up. -/
theorem State.input_current : ¬ (s.mend.set.isNone || i.stamp.any (fun b => blt b s.mend.shotStart)) = true := by
  cases hstamp : i.stamp with
  | none => simp [hset]
  | some b => simp [hset, hnew b hstamp]

/-- An outcome with no round to go to is discarded with its flag. -/
theorem State.menderTake_discards (h : s.roundOf d (tabGet DetSt.reset s.mend.dets d).taken = none ∨ s.finalMade = true ∨
    ∃ n, s.roundOf d (tabGet DetSt.reset s.mend.dets d).taken = some n ∧ s.mendRounds ≠ 0 ∧ s.mendRounds ≤ n) :
    s.menderTake i d = s.flag mendFlags 3 := by
  refine (if_neg (State.input_current hset hnew)).trans ?_
  dsimp only
  cases hround : s.roundOf d (tabGet DetSt.reset s.mend.dets d).taken with
  | none => rfl
  | some n =>
    refine if_pos ?_
    obtain h | h | ⟨m, hm, hsome, hle⟩ := h
    · rw [hround] at h
      exact absurd h (by simp)
    · rw [h, Bool.true_or]
    · obtain rfl := Option.some.inj (hround.symm.trans hm)
      simp [hsome, hle]

/-- The ABSENT input counted and flagged, any other taken as it is. -/
def State.absentNoted (s : State) (absent : Bool) : State := if absent then (s.addSat 0x10040020 1).flag mendFlags 2 else s

theorem State.menderTake_takes {n : Nat} (hround : s.roundOf d (tabGet DetSt.reset s.mend.dets d).taken = some n) (hfinal : s.finalMade = false)
    (hin : s.mendRounds = 0 ∨ n < s.mendRounds) :
    s.menderTake i d = ((s.absentNoted i.absent).recordInput n d i.value i.absent i.stamp).closeAll := by
  refine (if_neg (State.input_current hset hnew)).trans ?_
  dsimp only
  rw [hround]
  exact if_neg (by rw [hfinal]; simp; omega)

end

theorem State.absentNoted_leaves (s : State) (absent : Bool) : let t := s.absentNoted absent
    s.notesRegs t [0x10040020, 0x10040014] ∧ (absent = false → t = s) ∧
      (absent = true → t.bit 0x10040014 2 = true ∧ (t.reg 0x10040020).toNat = min 0xFFFFFFFF ((s.reg 0x10040020).toNat + 1)) := by
  cases absent with
  | false => exact ⟨s.notesRegs_refl _, fun _ => rfl, fun h => absurd h (by decide)⟩
  | true =>
    obtain ⟨hnoted, hcount, hflag⟩ := State.counted_flag_leaves mendFlags_field (a := 0x10040020) (by decide) (b := 2) (by decide) s
    exact ⟨hnoted, fun h => absurd h (by decide), fun _ => ⟨hflag, hcount⟩⟩

/-- The event of an input (R189): against REF in the first active round, against the previous value later. -/
def State.inputEvent (s : State) (d : Nat) (prev : Option Bool) (v : Bool) : Bool :=
  prev.elim (s.bit (mendDetAddr d) 30 && (v != s.bit (mendDetAddr d) 29)) (v != ·)

/-- The detector's value and the event are read of its MEND_DET register. -/
theorem State.inputs_of_reg {s t : State} {d : Nat} (h : t.reg (mendDetAddr d) = s.reg (mendDetAddr d)) (x : DetSt) (value : BitVec 2) (absent : Bool)
    (v : Bool) : t.inputValue d x value absent = s.inputValue d x value absent ∧ t.inputEvent d x.prev v = s.inputEvent d x.prev v := by
  unfold State.inputValue State.inputEvent State.bit
  rw [h]
  exact ⟨rfl, rfl⟩

theorem State.recordInput_leaves (s : State) (n d : Nat) (value : BitVec 2) (absent : Bool) (stamp : Option W32) :
    let t := s.recordInput n d value absent stamp
    let x := tabGet DetSt.reset s.mend.dets d
    let v := s.inputValue d x value absent
    t = { s with mend := t.mend } ∧
      t.mend.ins = s.mend.ins ++ [{ round := n, det := d, v := v, event := s.inputEvent d x.prev v, absent := absent }] ∧
      tabGet DetSt.reset t.mend.dets d = { taken := x.taken + 1, prev := some v } := by
  refine ⟨rfl, ?_, ?_⟩
  · unfold State.inputEvent
    dsimp only [State.recordInput, State.modMend]
    cases (tabGet DetSt.reset s.mend.dets d).prev <;> rfl
  · dsimp only [State.recordInput, State.modMend]
    exact (tabGet_tabSet_const _ _ _ _ _).trans (if_pos rfl)

theorem mendDetAddr_not_counted (d : Nat) : mendDetAddr d ∉ [0x10040020, 0x10040014] := by
  unfold mendDetAddr
  simp
  omega

/-- An input recorded for round n, counted where it is ABSENT, and the rounds closed that it makes full. -/
theorem State.inputTaken_leaves (s : State) (i : MendIn) (n d : Nat) :
    let t := ((s.absentNoted i.absent).recordInput n d i.value i.absent i.stamp).closeAll
    let x := tabGet DetSt.reset s.mend.dets d
    let v := s.inputValue d x i.value i.absent
    t.onet = s.onet ∧ (∀ e, t.eng e = s.eng e) ∧ s.sameMem t ∧
      t.mend.ins = s.mend.ins ++ [{ round := n, det := d, v := v, event := s.inputEvent d x.prev v, absent := i.absent }] ∧
      tabGet DetSt.reset t.mend.dets d = { taken := x.taken + 1, prev := some v } ∧
      (i.absent = false → s.sameRegs t []) ∧
      (i.absent = true → s.sameRegs t [0x10040020, 0x10040014] ∧ t.bit 0x10040014 2 = true ∧
        (t.reg 0x10040020).toNat = min 0xFFFFFFFF ((s.reg 0x10040020).toNat + 1)) := by
  obtain ⟨⟨hnoted, hregs⟩, hplain, habsent⟩ := s.absentNoted_leaves i.absent
  generalize s.absentNoted i.absent = u at hnoted hregs hplain habsent
  obtain ⟨hframe, hins, hdets⟩ := u.recordInput_leaves n d i.value i.absent i.stamp
  generalize u.recordInput n d i.value i.absent i.stamp = w at hframe hins hdets
  have hcloses := w.closeAll_closes
  obtain ⟨heng, hmem, hreg, honet⟩ := hcloses.kept
  have hmend : u.mend = s.mend := by rw [hnoted]
  have hinput := State.inputs_of_reg (hregs _ (mendDetAddr_not_counted d))
  have hwreg : ∀ a, w.reg a = u.reg a := fun a => by rw [hframe]; rfl
  rw [hmend, (hinput _ _ _ true).1] at hins hdets
  rw [(hinput _ i.value i.absent _).2] at hins
  refine ⟨honet.trans ?_, fun e => (heng e).trans ?_, fun a => (hmem a).trans ?_, hcloses.ins.trans hins, ?_, fun hno a _ => ?_,
    fun hyes => ⟨fun a ha => (hreg a).trans ((hwreg a).trans (hregs a ha)), ?_, ?_⟩⟩
  · rw [hframe, hnoted]
  · rw [hframe, hnoted]
    rfl
  · rw [hframe, hnoted]
    rfl
  · rw [hcloses.dets]
    exact hdets
  · rw [hreg, hwreg, hplain hno]
  · rw [State.bit, hreg, hwreg]
    exact (habsent hyes).1
  · rw [hreg, hwreg]
    exact (habsent hyes).2

/-- No round waits for the outcome: its detector is active in no layout, the final close is made, or the round is past MEND_ROUNDS. -/
theorem State.input_lost_iff (s : State) (r : Option Nat) :
    (r = none ∨ s.finalMade = true ∨ ∃ n, r = some n ∧ s.mendRounds ≠ 0 ∧ s.mendRounds ≤ n) ↔
      ∀ n, r = some n → s.finalMade = false → ¬ (s.mendRounds = 0 ∨ n < s.mendRounds) := by
  refine ⟨fun hlost n hround hfinal hlast => ?_, fun hpast => ?_⟩
  · obtain h | h | ⟨m, hm, hsome, hle⟩ := hlost
    · exact absurd (hround.symm.trans h) (by simp)
    · exact absurd (hfinal.symm.trans h) (by decide)
    · obtain rfl := Option.some.inj (hround.symm.trans hm)
      omega
  · cases r with
    | none => exact .inl rfl
    | some n =>
      cases hfinal : s.finalMade with
      | true => exact .inr (.inl rfl)
      | false =>
        have hn := hpast n rfl hfinal
        exact .inr (.inr ⟨n, rfl, by omega, by omega⟩)

/-- Settles O32: an input goes to the round of its detector's next outcome or is discarded, and what closes then takes nothing back. -/
theorem menderTakesInputsAndClosesRounds : Obligations.MenderTakesInputsAndClosesRounds := by
  refine ⟨fun s i rest d hin hdet hset hnew => ?_,
    fun s => ⟨fun hset hfinal hnone => ?_, exec_emptyRoundClose_idle⟩⟩
  · have hexec := exec_menderInput hin hdet
    let s' : State := { s with onet := { s.onet with mendIn := rest } }
    have hlost := s.input_lost_iff (s.roundOf d (tabGet DetSt.reset s.mend.dets d).taken)
    by_cases hlosing : s.roundOf d (tabGet DetSt.reset s.mend.dets d).taken = none ∨ s.finalMade = true ∨
        ∃ n, s.roundOf d (tabGet DetSt.reset s.mend.dets d).taken = some n ∧ s.mendRounds ≠ 0 ∧ s.mendRounds ≤ n
    · rw [State.menderTake_discards (s := s') hset hnew hlosing] at hexec
      obtain ⟨hframe, hregs⟩ := State.notesRegs_flag mendFlags_field (l := [mendFlags.addr]) (by simp) s' 3
      refine ⟨_, hexec, by rw [hframe], fun e => by rw [hframe]; rfl, fun a => by rw [hframe]; rfl,
        fun n hround hfinal hlast => absurd hlast (hlost.mp hlosing n hround hfinal), fun _ => ⟨by rw [hframe], ?_, hregs⟩⟩
      exact State.bit_flag_of_field mendFlags_field s' (by decide)
    · obtain ⟨n, hround, hfinal, hlast⟩ : ∃ n, s.roundOf d (tabGet DetSt.reset s.mend.dets d).taken = some n ∧ s.finalMade = false ∧
          (s.mendRounds = 0 ∨ n < s.mendRounds) := by
        by_contra hno
        exact hlosing (hlost.mpr fun n hround hfinal hlast => hno ⟨n, hround, hfinal, hlast⟩)
      rw [State.menderTake_takes (s := s') hset hnew hround hfinal hlast] at hexec
      obtain ⟨honet, heng, hmem, hins, hdets, hplain, habsent⟩ := s'.inputTaken_leaves i n d
      refine ⟨_, hexec, by rw [honet], heng, hmem, fun m hm _ _ => ?_, fun h => absurd h hlosing⟩
      obtain rfl := Option.some.inj (hround.symm.trans hm)
      refine ⟨hins.trans ?_, hdets, hplain, habsent⟩
      unfold State.inputEvent
      dsimp only [s']
      cases tabGet DetSt.reset s.mend.dets d with
      | mk k prev => cases prev <;> rfl
  · obtain ⟨heng, hmem, hregs, l, hl⟩ := s.emptyRoundClosed_leaves (s.mend.lastStamp + 80)
    exact ⟨_, l, exec_emptyRoundClose hset hfinal hnone, heng, hmem, hregs, hl⟩

end Sys2Proof.Machine

namespace Sys2Proof.Machine

/-! ## What a commit writes (R194, R196, R204) -/

/-- Between s and t registers of a list were written, with records formed, publications queued and errors met; nothing else changed. -/
def State.commitNotes (s t : State) (l : List Nat) : Prop :=
  t = { s with regs := t.regs, synth := t.synth, evt := t.evt, onet := t.onet
               mend := { s.mend with off := t.mend.off, pubs := t.mend.pubs } } ∧ s.sameRegs t l

theorem State.commitNotes.trans {s t u : State} {l : List Nat} (h : s.commitNotes t l) (k : t.commitNotes u l) : s.commitNotes u l := by
  obtain ⟨hframe, hregs⟩ := h
  obtain ⟨kframe, kregs⟩ := k
  refine ⟨?_, fun a ha => (kregs a ha).trans (hregs a ha)⟩
  rw [hframe] at kframe
  exact kframe

theorem State.commitNotes.mono {s t : State} {l l' : List Nat} (h : s.commitNotes t l) (hl : l ⊆ l') : s.commitNotes t l' :=
  ⟨h.1, fun a ha => h.2 a fun hin => ha (hl hin)⟩

theorem State.commitNotes_refl (s : State) (l : List Nat) : s.commitNotes s l := ⟨rfl, fun _ _ => rfl⟩

theorem State.notesRegs.commits {s t : State} {l : List Nat} (h : s.notesRegs t l) : s.commitNotes t l := by
  obtain ⟨hframe, hregs⟩ := h
  refine ⟨?_, hregs⟩
  rw [hframe]

theorem State.formsRecords.commits {s t : State} (h : s.formsRecords t) : s.commitNotes t [aResultsLost] := by
  obtain ⟨hframe, hregs, -⟩ := h
  refine ⟨?_, hregs⟩
  rw [hframe]

/-- What a step of a commit leaves of Mender's other state and of the unit's. -/
theorem State.commitNotes.kept {s t : State} {l : List Nat} (h : s.commitNotes t l) :
    t.hem = s.hem ∧ t.mend.closes = s.mend.closes ∧ t.mend.alone = s.mend.alone ∧ t.mend.finalAt = s.mend.finalAt ∧
      (∀ e, t.eng e = s.eng e) ∧ s.sameMem t := by
  obtain ⟨hframe, -⟩ := h
  rw [hframe]
  exact ⟨rfl, rfl, rfl, rfl, fun _ => rfl, fun _ => rfl⟩

theorem State.meetErrors_commits (s : State) (r0 m : Nat) : s.commitNotes (s.meetErrors r0 m) [mendFlags.addr] := by
  unfold State.meetErrors
  extract_lets used met
  split
  · exact s.commitNotes_refl _
  · have hoff : s.commitNotes (s.modMend (fun d => { d with off := d.off ++ met })) [mendFlags.addr] := ⟨rfl, fun _ _ => rfl⟩
    exact hoff.trans (State.errorsFlagged_leaves _).1.commits

theorem State.queuePubs_commits (s : State) (c : Close) (obs : BitVec 16) (absent : Bool) : s.commitNotes (s.queuePubs c obs absent) [] := by
  unfold State.queuePubs
  split
  · exact s.commitNotes_refl _
  · exact ⟨rfl, fun _ _ => rfl⟩

/-- The commit's parities, count, first round and peaks in their registers (R204). -/
def State.windowNoted (s : State) (obs : BitVec 16) (r0 : Nat) (d : Decoded) : State :=
  let s := s.setReg aMendObs (obs.setWidth 32)
  let s := (s.addSat 0x10040018 1).setReg 0x1004002C (BitVec.ofNat 32 r0)
  let pk := s.reg 0x10040024
  s.setReg 0x10040024 (putFld (putFld pk 9 0 (max (wfld pk 9 0) (min 1023 d.defects))) 21 16 (max (wfld pk 21 16) d.steps))

theorem State.windowNoted_leaves (s : State) (obs : BitVec 16) (r0 : Nat) (d : Decoded) : let t := s.windowNoted obs r0 d
    s.notesRegs t [aMendObs, 0x10040018, 0x1004002C, 0x10040024] ∧ t.reg aMendObs = obs.setWidth 32 ∧
      (t.reg 0x10040018).toNat = min 0xFFFFFFFF ((s.reg 0x10040018).toNat + 1) ∧ t.reg 0x1004002C = BitVec.ofNat 32 r0 := by
  have hset : ∀ (u : State) (a : Nat) (v : W32), a ∈ [aMendObs, 0x10040018, 0x1004002C, 0x10040024] →
      u.notesRegs (u.setReg a v) [aMendObs, 0x10040018, 0x1004002C, 0x10040024] := fun u a v ha => u.notesRegs_setReg ha v
  have hcount := (s.setReg aMendObs (obs.setWidth 32)).addSat_toNat 0x10040018 1
  refine ⟨(((hset s _ _ (by simp)).trans (hset _ _ _ (by simp))).trans (hset _ _ _ (by simp))).trans (hset _ _ _ (by simp)), ?_, ?_, ?_⟩
  · simp [State.windowNoted, State.reg_setReg, State.reg_addSat, aMendObs]
  · simpa [State.windowNoted, State.reg_setReg, aMendObs] using hcount
  · simp [State.windowNoted, State.reg_setReg]

/-- The commit's flags: an overflow, which is counted, a late commit, a carry over the seam, a seam lost (R204). -/
def State.windowFlagged (s : State) (overflow late seamCarry alone : Bool) : State :=
  let s := if overflow then (s.addSat 0x1004001C 1).flag mendFlags 0 else s
  let s := if late then s.flag mendFlags 1 else s
  let s := if seamCarry then s.flag mendFlags 5 else s
  if alone then s.flag mendFlags 6 else s

theorem State.windowFlagged_leaves (s : State) (overflow late seamCarry alone : Bool) : let t := s.windowFlagged overflow late seamCarry alone
    s.notesRegs t [0x1004001C, mendFlags.addr] ∧ (alone = true → t.bit mendFlags.addr 6 = true) := by
  have hflag : ∀ (u : State) (b : Nat) (on : Bool), u.notesRegs (if on then u.flag mendFlags b else u) [0x1004001C, mendFlags.addr] := fun u b on => by
    cases on with
    | false => exact u.notesRegs_refl _
    | true => exact State.notesRegs_flag mendFlags_field (by simp) u b
  have hoverflow : s.notesRegs (if overflow then (s.addSat 0x1004001C 1).flag mendFlags 0 else s) [0x1004001C, mendFlags.addr] := by
    cases overflow with
    | false => exact s.notesRegs_refl _
    | true => exact (s.notesRegs_setReg (by simp) _).trans (hflag _ 0 true)
  refine ⟨((hoverflow.trans (hflag _ 1 late)).trans (hflag _ 5 seamCarry)).trans (hflag _ 6 alone), ?_⟩
  rintro rfl
  exact State.bit_flag_of_field mendFlags_field _ (by decide)

/-- A commit's registers, flags and publications, before its frame operations wait (R196, R201, R204). -/
def State.windowPublished (s : State) (c : Close) (obs published : BitVec 16) (r0 : Nat) (d : Decoded) (overflow late seamCarry alone : Bool) : State :=
  let u := ((s.meetErrors r0 c.round).windowNoted obs r0 d).windowFlagged overflow late seamCarry alone
  u.queuePubs c published (overflow && u.bit aMendCtrl 3)

/-- The registers in which a commit leaves what it found. -/
def windowRegs : List Nat := [aMendObs, 0x10040018, 0x1004002C, 0x10040024, 0x1004001C, mendFlags.addr]

theorem State.windowPublished_leaves (s : State) (c : Close) (obs published : BitVec 16) (r0 : Nat) (d : Decoded)
    (overflow late seamCarry alone : Bool) : let t := s.windowPublished c obs published r0 d overflow late seamCarry alone
    s.commitNotes t windowRegs ∧ t.reg aMendObs = obs.setWidth 32 ∧ (t.reg 0x10040018).toNat = min 0xFFFFFFFF ((s.reg 0x10040018).toNat + 1) ∧
      t.reg 0x1004002C = BitVec.ofNat 32 r0 ∧ (alone = true → t.bit mendFlags.addr 6 = true) := by
  have hmet := s.meetErrors_commits r0 c.round
  obtain ⟨hnoted, hobs, hcount, hfirst⟩ := (s.meetErrors r0 c.round).windowNoted_leaves obs r0 d
  rw [hmet.2 _ (by decide)] at hcount
  unfold State.windowPublished
  generalize s.meetErrors r0 c.round = m at hmet hnoted hobs hcount hfirst
  generalize m.windowNoted obs r0 d = n at hnoted hobs hcount hfirst
  obtain ⟨hflagged, hseam⟩ := n.windowFlagged_leaves overflow late seamCarry alone
  generalize n.windowFlagged overflow late seamCarry alone = f at hflagged hseam
  have hpubs := f.queuePubs_commits c published (overflow && f.bit aMendCtrl 3)
  have hreg : ∀ a, a ∉ [0x1004001C, mendFlags.addr] → (f.queuePubs c published (overflow && f.bit aMendCtrl 3)).reg a = n.reg a :=
    fun a ha => (hpubs.2 a (by simp)).trans (hflagged.2 a ha)
  refine ⟨(((hmet.mono ?_).trans (hnoted.commits.mono ?_)).trans (hflagged.commits.mono ?_)).trans (hpubs.mono ?_),
    (hreg _ (by decide)).trans hobs, (congrArg BitVec.toNat (hreg _ (by decide))).trans hcount, (hreg _ (by decide)).trans hfirst,
    fun h => (congrArg (·.getLsbD 6) (hpubs.2 _ (by simp))).trans (hseam h)⟩
  all_goals simp [windowRegs]

/-- Frame operations go to the end of those that wait (R196). -/
theorem foldS_frameQueue {α : Type} (g : α → FrameUpd) (l : List α) (s : State) :
    foldS l (fun x s => s.frameQueue (g x)) s = { s with hem := { s.hem with frameQ := s.hem.frameQ ++ l.map g } } := by
  induction l generalizing s with
  | nil => rw [List.map_nil, List.append_nil, foldS_nil]
  | cons x l ih =>
    show foldS l (fun x s => s.frameQueue (g x)) (s.frameQueue (g x)) = _
    rw [ih, List.map_cons, ← List.singleton_append, ← List.append_assoc]
    rfl

/-- A record formed where one is asked for. -/
theorem State.formRecord_commits (s : State) (asked : Prop) [Decidable asked] (words : List W32) :
    s.commitNotes (if asked then s.formRecord none 1 words else s) [aResultsLost] := by
  split
  · exact (s.formRecord_formsRecords none 1 words).commits
  · exact s.commitNotes_refl _

/-! ## A window committed (R196-R201) -/

/-- The updates that a list of frame operations puts before the Hem for a block (R196). -/
def menderUpdates (b : W32) (ops : List (Nat × Nat)) : List FrameUpd :=
  ops.map (fun x => { block := b, frame := x.1, cls := clsMender, op := .pauli (if x.2 % 2 = 1 then 3 else 0) (if 2 ≤ x.2 then 3 else 0) })

/-- The block at which the frame operations of a commit take effect (R201). -/
def State.commitDue (s : State) (c : Close) : W32 := bmax (c.stamp + BitVec.ofNat 32 s.mendDelays.2) (s.pin + 4)

/-- t has committed the oldest close c of s with parities obs, applying the entries gs, alone or not. -/
structure WindowCommitted (s t : State) (c : Close) (alone : Bool) (obs : BitVec 16) (gs : List GEntry) : Prop where
  closes : t.mend.closes = s.mend.closes.drop 1
  mine : t.mend.mine = none
  exch : t.mend.exch = none
  loses : t.mend.alone = (s.mend.alone || alone)
  obs : t.reg aMendObs = obs.setWidth 32
  count : (t.reg 0x10040018).toNat = min 0xFFFFFFFF ((s.reg 0x10040018).toNat + 1)
  first : t.reg 0x1004002C = BitVec.ofNat 32 (s.windowFirst c)
  finalAt : t.mend.finalAt = if c.final then some (s.commitDue c) else s.mend.finalAt
  frames : t.hem.frameQ = s.hem.frameQ ++ menderUpdates (s.commitDue c) ((frameOps gs).take 1024)
  seam : alone = true → t.bit mendFlags.addr 6 = true
  eng : ∀ e, t.eng e = s.eng e
  mem : s.sameMem t

theorem State.commitWindow_leaves (s : State) (c : Close) (partner : Option XchgMsg) (alone : Bool) :
    ∃ obs gs, WindowCommitted s (s.commitWindow c partner alone) c alone obs gs ∧
      (partner = none → (∀ g ∈ s.commitEdges c, g.cross = false) →
        obs = (s.reg aMendObs).setWidth 16 ^^^ obsXor (s.commitEdges c) ∧ gs = s.commitEdges c) := by
  unfold State.commitWindow
  extract_lets r0 d es cross own theirs added ops ovfFrames obsOwn ovfBits overflow mineOf room carries seamCarry due effect late absentSeen
    shotNo w0 raw frames published parities counted pk noted overflowed lateNoted carried flagged pubsQueued queued reported recorded
  refine ⟨obsOwn, own ++ added, ?_, fun hpartner hcross => ?_⟩
  · have heffect : effect = s.commitDue c := rfl
    have hframes : frames = (frameOps (own ++ added)).take 1024 := rfl
    have hpublished : pubsQueued = s.windowPublished c obsOwn published r0 d overflow late seamCarry alone := rfl
    obtain ⟨hbefore, hobs, hcount, hfirst, hseam⟩ := s.windowPublished_leaves c obsOwn published r0 d overflow late seamCarry alone
    rw [← hpublished] at hbefore hobs hcount hfirst hseam
    have hqueued : queued = { pubsQueued with hem := { pubsQueued.hem with frameQ := pubsQueued.hem.frameQ ++ menderUpdates effect frames } } :=
      foldS_frameQueue _ frames pubsQueued
    have hreported : queued.commitNotes reported [aResultsLost] := queued.formRecord_commits _ _
    have hrecorded : reported.commitNotes recorded [aResultsLost] := reported.formRecord_commits _ _
    clear_value pubsQueued queued reported recorded effect frames
    obtain ⟨hhem, hcloses, halone, hfinal, heng, hmem⟩ := hbefore.kept
    obtain ⟨hhem', hcloses', halone', hfinal', heng', hmem'⟩ := (hreported.trans hrecorded).kept
    have hreg : ∀ a, a ≠ aResultsLost → recorded.reg a = pubsQueued.reg a := fun a ha => by
      rw [(hreported.trans hrecorded).2 a (by simpa using ha), hqueued]
      rfl
    rw [hqueued] at hhem' hcloses' halone' hfinal' heng' hmem'
    refine ⟨congrArg (List.drop 1) (hcloses'.trans hcloses), rfl, rfl, congrArg (· || alone) (halone'.trans halone),
      (hreg _ (by decide)).trans hobs, (congrArg BitVec.toNat (hreg _ (by decide))).trans hcount, (hreg _ (by decide)).trans hfirst, ?_, ?_,
      fun h => (congrArg (·.getLsbD 6) (hreg _ (by decide))).trans (hseam h), fun e => (heng' e).trans (heng e), fun x => (hmem' x).trans (hmem x)⟩
    · rw [← heffect]
      exact congrArg (fun b => if c.final then some effect else b) (hfinal'.trans hfinal)
    · rw [← heffect, ← hframes, ← hhem]
      exact congrArg Hem.frameQ hhem'
  · have hplain : ∀ e ∈ es, e.g.cross = false := fun e he => hcross e.g (List.mem_map_of_mem he)
    have hkept : es.filter (fun e => !e.g.cross) = es := List.filter_eq_self.mpr fun e he => by rw [hplain e he]; rfl
    have hown : own = s.commitEdges c := congrArg (List.map fun e : WEdge => e.g) hkept
    have hnone : cross = [] := List.filter_eq_nil_iff.mpr fun e he => by simp [hplain e he]
    have htheirs : theirs = [] := by
      subst hpartner
      rfl
    have hadded : added = [] := by
      unfold added
      rw [hnone, htheirs]
      rfl
    refine ⟨?_, by rw [hadded, hown, List.append_nil]⟩
    unfold obsOwn
    rw [hadded, hown]
    exact (congrArg _ (ite_self _)).trans BitVec.xor_zero

theorem State.commitWindow_hasCommitted (s : State) (c : Close) (alone : Bool) (hcross : ∀ g ∈ s.commitEdges c, g.cross = false) :
    let t := s.commitWindow c none alone
    s.hasCommitted t c ∧ t.mend.alone = (s.mend.alone || alone) ∧ (alone = true → t.bit mendFlags.addr 6 = true) := by
  obtain ⟨obs, gs, hdone, hown⟩ := s.commitWindow_leaves c none alone
  obtain ⟨rfl, rfl⟩ := hown rfl hcross
  exact ⟨⟨hdone.closes, hdone.mine, hdone.exch, hdone.obs, hdone.count, hdone.first, hdone.finalAt, hdone.frames, hdone.eng, hdone.mem⟩,
    hdone.loses, hdone.seam⟩

/-- A half that commits without its partner has lost the seam (R210). -/
theorem State.commitWindow_alone (s : State) (c : Close) (hcross : ∀ g ∈ s.commitEdges c, g.cross = false) :
    let t := s.commitWindow c none true
    s.hasCommitted t c ∧ t.mend.alone = true ∧ t.bit mendFlags.addr 6 = true := by
  obtain ⟨hdone, hloses, hseam⟩ := s.commitWindow_hasCommitted c true hcross
  exact ⟨hdone, hloses.trans (Bool.or_true _), hseam rfl⟩

/-! ## The exchange (R208, R345) -/

theorem State.sendSeam_up {s : State} (h : s.linkUp .seamA = true) (mtype : Nat) (fields : List Nat) :
    s.sendSeam false mtype fields = s.send (.seam false mtype fields) := if_pos h

/-- Of seam messages of a kind sent in a row over a seam that is UP, the first at least leaves. -/
theorem foldS_sendSeam {α : Type} (mtype : Nat) (fields : α → List Nat) (l : List α) (s : State) :
    let t := foldS l (fun x u => u.sendSeam false mtype (fields x)) s
    Emits [] s t ∧ (s.linkUp .seamA = true → l ≠ [] → s.sentSeam t false mtype) := by
  have hemits : ∀ l u, Emits [] u (foldS l (fun x u => u.sendSeam false mtype (fields x)) u) := fun l u =>
    foldS_rel (Emits []) (.refl []) (fun _ _ _ => .trans) _ l (fun x _ v => v.sendSeam_emits false mtype (fields x)) u
  refine ⟨hemits l s, fun hup hsome => ?_⟩
  cases l with
  | nil => exact absurd rfl hsome
  | cons x l =>
    obtain ⟨m, hm⟩ := (hemits l (s.sendSeam false mtype (fields x))).sent
    refine ⟨fields x, [.seam false mtype (fields x)] ++ m, ?_, by simp⟩
    rw [State.sendSeam_up hup, State.send_sent, List.append_assoc] at hm
    rw [← hm, ← State.sendSeam_up hup]
    rfl

/-- This half's part of the exchange goes out, in at least one flit. -/
theorem State.sendXchg_leaves (s : State) (x : XchgMsg) :
    Emits [] s (s.sendXchg x) ∧ (s.linkUp .seamA = true → s.sentSeam (s.sendXchg x) false 0x05) := by
  unfold State.sendXchg
  extract_lets rounds flits
  have hsome : flits.zipIdx ≠ [] := by
    have hround : x.round ∈ rounds := List.mem_eraseDups.mpr List.mem_cons_self
    rw [ne_eq, List.zipIdx_eq_nil_iff, List.flatMap_eq_nil_iff]
    intro hnone
    have hflit := hnone x.round hround
    rw [List.map_eq_nil_iff, List.range_eq_nil] at hflit
    omega
  obtain ⟨hemits, hsent⟩ := foldS_sendSeam 0x05 (fun f : (Nat × List (Nat × Nat)) × Nat =>
    [f.1.1, x.ovf.toNat, x.obs.toNat, (decide (f.2 + 1 < flits.length)).toNat, f.1.2.length] ++ f.1.2.flatMap (fun p => [p.1, p.2])) flits.zipIdx s
  exact ⟨hemits, fun hup => hsent hup hsome⟩

/-- This half's part out, and held until the partner's comes. -/
def State.partOut (s : State) (x : XchgMsg) : State := (s.sendXchg x).modMend (fun m => { m with mine := some x })

theorem State.partOut_leaves (s : State) (x : XchgMsg) : let t := s.partOut x
    t.mend = { s.mend with mine := some x } ∧ (s.linkUp .seamA = true → s.sentSeam t false 0x05) ∧ (∀ e, t.eng e = s.eng e) ∧ s.sameMem t := by
  obtain ⟨hemits, hsent⟩ := s.sendXchg_leaves x
  unfold State.partOut
  generalize s.sendXchg x = u at hemits hsent
  have hmend : u.mend = s.mend := by rw [hemits.frame]
  refine ⟨congrArg (fun m : Mend => { m with mine := some x }) hmend, fun hup => ?_, fun e => hemits.eng e, fun a => hemits.byte a⟩
  obtain ⟨f, l, hl, hin⟩ := hsent hup
  exact ⟨f, l, hl, hin⟩

section
variable {s : State} {c : Close} {rest : List Close} (hcloses : s.mend.closes = c :: rest)
include hcloses

theorem exec_menderCommit_drops (h : s.commits c = false) :
    exec .menderCommit s = .next { s with mend := { s.mend with closes := rest } } := by
  show execMenderCommit s = _
  rw [execMenderCommit, hcloses]
  exact if_pos (by rw [h]; rfl)

theorem exec_menderCommit_single (h : s.commits c = true) (htwin : s.twin = false) :
    exec .menderCommit s = .next (s.commitWindow c none false).serveRuns := by
  show execMenderCommit s = _
  rw [execMenderCommit, hcloses]
  dsimp only
  rw [h, htwin]
  rfl

theorem exec_menderCommit_alone (h : s.commits c = true) (htwin : s.twin = true) (hlost : s.mend.alone = true ∨ s.linkUp .seamA = false) :
    exec .menderCommit s = .next (s.commitWindow c none true).serveRuns := by
  have hno : (s.mend.alone || !s.linkUp .seamA) = true := by
    obtain hlost | hlost := hlost
    · rw [hlost, Bool.true_or]
    · rw [hlost, Bool.not_false, Bool.or_true]
  show execMenderCommit s = _
  rw [execMenderCommit, hcloses]
  dsimp only
  rw [h, htwin, hno]
  rfl

theorem exec_menderCommit_exchange (h : s.commits c = true) (htwin : s.twin = true) (halone : s.mend.alone = false)
    (hup : s.linkUp .seamA = true) (hmine : s.mend.mine = none) (hexch : s.mend.exch = none) :
    exec .menderCommit s = .next (s.partOut (s.xchgMsg c)) := by
  have hwaits : (s.partOut (s.xchgMsg c)).mend.exch = none := by
    rw [(s.partOut_leaves (s.xchgMsg c)).1]
    exact hexch
  rw [State.partOut] at hwaits ⊢
  show execMenderCommit s = _
  rw [execMenderCommit, hcloses]
  dsimp only
  rw [h, htwin, halone, hup, hmine]
  dsimp only [Bool.not_true, Bool.false_or, Option.isSome_none]
  rw [if_neg (by decide), if_neg (by decide), if_neg (by decide), if_neg (by decide), hwaits]

theorem exec_mendXchg_commits (m : XchgMsg) (htwin : s.twin = true) (hset : s.mend.set ≠ none) (halone : s.mend.alone = false) {x : XchgMsg}
    (hmine : s.mend.mine = some x) : exec (.mendXchg m) s = .next (s.commitWindow c (some m) false).serveRuns := by
  show execMendXchg m s = _
  rw [execMendXchg, if_neg (by simp [htwin, hset, halone]), hmine, hcloses]

theorem exec_seamLostExchange {x : XchgMsg} (hmine : s.mend.mine = some x) :
    exec .seamLostExchange s = .next (s.commitWindow c none true).serveRuns := by
  show execSeamLostExchange s = _
  rw [execSeamLostExchange, hmine, hcloses]

end

theorem exec_mendXchg_holds {s : State} (m : XchgMsg) (htwin : s.twin = true) (hset : s.mend.set ≠ none) (halone : s.mend.alone = false)
    (hmine : s.mend.mine = none) : exec (.mendXchg m) s = .next { s with mend := { s.mend with exch := some m } } := by
  show execMendXchg m s = _
  rw [execMendXchg, if_neg (by simp [htwin, hset, halone]), hmine]
  rfl

theorem exec_seamLostExchange_idle {s : State} (h : s.mend.mine = none ∨ s.mend.closes = []) : exec .seamLostExchange s = .next s := by
  show execSeamLostExchange s = _
  obtain h | h := h
  · rw [execSeamLostExchange, h]
  · rw [execSeamLostExchange, h]
    cases s.mend.mine <;> rfl

/-! ## OBSERVABLE_PUBLISH (R201, R204) -/

/-- An observable as an outcome: ABSENT where its window overflowed and EMIT asks for that (R204). -/
def observableEntry (v absent : Bool) (stamp : W32) : Entry :=
  if absent then absentEntry false (some stamp)
  else { value := if v then 1 else 0, uncertain := false, absent := false, remote := false, stamp := some stamp }

/-- A source that is no channel, in a unit of no twinset. -/
theorem State.releaseOutcome_virtual {s : State} {n : Nat} (hn : 512 ≤ n) (htwin : s.twin = false) (en : Entry) : s.releaseOutcome n en = s.deliver n en := by
  unfold State.releaseOutcome
  rw [htwin]
  exact if_neg (by simp; omega)

/-- At block b the only observable that waits enters the network as an outcome of source n. -/
def State.observableOut (s : State) (b : W32) (n : Nat) (en : Entry) : State :=
  ((s.advanceTo b).modMend (fun m => { m with pubs := [] })).deliver n en

theorem State.observableOut_leaves (s : State) (b : W32) (n : Nat) (en : Entry) : let t := s.observableOut b n en
    t = { s with clk := t.clk, mend := { s.mend with pubs := [] }, onet := t.onet } ∧
      t.onet.deliv = s.onet.deliv ++ toSlots (s.boundSlots n false) en := by
  unfold State.observableOut
  rw [State.advanceTo_frame]
  exact ⟨rfl, rfl⟩

theorem exec_observablePublish {s : State} {b : W32} {id : Nat} {v ab : Bool} {st : W32} (hpubs : s.mend.pubs = [(b, id, v, ab, st)])
    (htwin : s.twin = false) : exec .observablePublish s =
      .next (s.observableOut b (512 + id) (observableEntry v ab st)).serveRuns := by
  have hmoved := s.advanceTo_frame b
  have hwaiting : (s.advanceTo b).mend.pubs = [(b, id, v, ab, st)] := by rw [hmoved, hpubs]
  have hothers : (s.advanceTo b).mend.pubs.filter (fun p => p.1 != b) = [] := by
    rw [hwaiting]
    simp
  have htaken : (s.advanceTo b).modMend (fun m => { m with pubs := m.pubs.filter (fun p => p.1 != b) }) =
      (s.advanceTo b).modMend (fun m => { m with pubs := [] }) :=
    congrArg (fun l => (s.advanceTo b).modMend (fun m => { m with pubs := l })) hothers
  have hnow : [(b, id, v, ab, st)].filter (fun p => p.1 == b) = [(b, id, v, ab, st)] := by simp
  have hsingle : ((s.advanceTo b).modMend (fun m => { m with pubs := [] })).twin = false := by
    rw [hmoved]
    exact htwin
  rw [State.observableOut, ← State.releaseOutcome_virtual (by omega) hsingle]
  have hfirst : firstBy (fun a b : W32 => !blt b a) (s.mend.pubs.map (·.1)) = some b := by
    rw [hpubs]
    rfl
  show execObservablePublish s = _
  rw [execObservablePublish, hfirst]
  dsimp only
  rw [htaken, hwaiting, hnow]
  rfl

/-! ## MENDER_FRAME_UPDATE (R117, R186, R201) -/

/-- An update applied leaves the Hem and memory as they are. -/
theorem foldS_frameApply_leaves (b : W32) (us : List FrameUpd) (s : State) : let t := foldS us (fun u s => s.frameApply u.frame b u.op) s
    t.hem = s.hem ∧ t.mem = s.mem := by
  refine foldS_rel (fun s t : State => t.hem = s.hem ∧ t.mem = s.mem) (fun _ => ⟨rfl, rfl⟩) (fun _ _ _ h k => ⟨k.1.trans h.1, k.2.trans h.2⟩) _ _
    (fun u _ v => ?_) s
  obtain ⟨hframe, -⟩ := v.frameApply_leaves u.frame b u.op
  rw [hframe]
  exact ⟨rfl, rfl⟩

theorem State.framesAt_leaves (s : State) (b : W32) : (s.framesAt b).hem.frameQ = s.hem.frameQ.filter (fun u => u.block != b) ∧
    (s.framesAt b).mem = s.mem := by
  have hlatched := s.latchFlips_frame b
  obtain ⟨hhem, hmem⟩ : (s.framesAt b).hem = _ ∧ (s.framesAt b).mem = _ := foldS_frameApply_leaves b _ _
  refine ⟨(congrArg Hem.frameQ hhem).trans ?_, hmem.trans ?_⟩
  · show (s.latchFlips b).hem.frameQ.filter _ = _
    rw [hlatched]
  · show (s.latchFlips b).mem = _
    rw [hlatched]

theorem State.mendDetach_hem (s : State) : s.mendDetach.hem = s.hem := by
  unfold State.mendDetach
  dsimp only
  split <;> rfl

theorem State.menderReport_leaves (s : State) : s.menderReport.hem = s.hem ∧ s.menderReport.mem = s.mem := by
  have hdetach : ∀ u : State, u.hem = s.hem → u.mem = s.mem → u.mendDetach.hem = s.hem ∧ u.mendDetach.mem = s.mem := fun u hhem hmem =>
    ⟨u.mendDetach_hem.trans hhem, u.mendDetach_keepsRun.mem.trans hmem⟩
  unfold State.menderReport
  split
  · exact ⟨rfl, rfl⟩
  · dsimp only
    split
    · exact hdetach _ rfl rfl
    · split
      · exact hdetach _ rfl rfl
      · exact ⟨rfl, rfl⟩

theorem exec_menderFrameUpdate {s : State} {b : W32} (h : s.mendNext = some b) : ∃ t : State, exec .menderFrameUpdate s = .next t.serveRuns ∧
    t.hem.frameQ = s.hem.frameQ.filter (fun u => u.block != b) ∧ s.sameMem t := by
  have hmoved := s.advanceTo_frame b
  obtain ⟨hqueue, hmem⟩ := (s.advanceTo b).framesAt_leaves b
  have hqueue' : ((s.advanceTo b).framesAt b).hem.frameQ = s.hem.frameQ.filter (fun u => u.block != b) := by rw [hqueue, hmoved]
  have hmem' : ((s.advanceTo b).framesAt b).mem = s.mem := by rw [hmem, hmoved]
  have hexec : exec .menderFrameUpdate s = .next (if ((s.advanceTo b).framesAt b).mend.finalAt = some b
      then ((s.advanceTo b).framesAt b).menderReport else (s.advanceTo b).framesAt b).serveRuns := by
    show execMenderFrameUpdate s = _
    rw [execMenderFrameUpdate, h]
  generalize (s.advanceTo b).framesAt b = u at hexec hqueue' hmem'
  split at hexec
  · obtain ⟨hhem, hkept⟩ := u.menderReport_leaves
    exact ⟨_, hexec, (congrArg Hem.frameQ hhem).trans hqueue', fun a => (State.byte_of_mem (hkept.trans hmem') a)⟩
  · exact ⟨_, hexec, hqueue', fun a => State.byte_of_mem hmem' a⟩

/-- Settles O33: every commit is one window committed, with the partner's part or alone, and what is published or applied later leaves the
rest. -/
theorem menderCommitsWindows : Obligations.MenderCommitsWindows := by
  refine ⟨fun s c rest hcloses => ⟨exec_menderCommit_drops hcloses, fun h htwin hcross => ?_, fun h htwin hlost hcross => ?_,
    fun h htwin halone hup hmine hexch => ?_⟩, fun s m htwin hset halone => ⟨exec_mendXchg_holds m htwin hset halone, fun x c rest hmine hcloses => ?_⟩,
    fun s => ⟨exec_seamLostExchange_idle, fun x c rest hmine hcloses hcross => ?_⟩, fun s b id v ab st hpubs htwin => ?_, fun s b h => ?_⟩
  · obtain ⟨hdone, hloses, -⟩ := s.commitWindow_hasCommitted c false hcross
    exact ⟨_, exec_menderCommit_single hcloses h htwin, hdone, hloses.trans (Bool.or_false _)⟩
  · exact ⟨_, exec_menderCommit_alone hcloses h htwin hlost, s.commitWindow_alone c hcross⟩
  · obtain ⟨hmend, hsent, hkept⟩ := s.partOut_leaves (s.xchgMsg c)
    exact ⟨_, exec_menderCommit_exchange hcloses h htwin halone hup hmine hexch, hmend, hsent hup, hkept⟩
  · obtain ⟨obs, gs, hdone, -⟩ := s.commitWindow_leaves c (some m) false
    exact ⟨_, exec_mendXchg_commits hcloses m htwin hset halone hmine, hdone.closes.trans (congrArg (List.drop 1) hcloses), hdone.mine, hdone.exch,
      hdone.count, hdone.eng, hdone.mem⟩
  · exact ⟨_, exec_seamLostExchange hcloses hmine, s.commitWindow_alone c hcross⟩
  · have hexec := exec_observablePublish hpubs htwin
    obtain ⟨hframe, hdeliv⟩ := s.observableOut_leaves b (512 + id) (observableEntry v ab st)
    generalize s.observableOut b (512 + id) (observableEntry v ab st) = t at hexec hframe hdeliv
    exact ⟨t, hexec, by rw [hframe], hdeliv, fun a _ => by rw [hframe]; rfl, fun e => by rw [hframe]; rfl, fun a => by rw [hframe]; rfl⟩
  · obtain ⟨t, hexec, hqueue, hmem⟩ := exec_menderFrameUpdate h
    refine ⟨t, hexec, fun u hu => ?_, fun u hu hlater => ?_, hmem⟩
    · rw [hqueue] at hu
      simpa using (List.mem_filter.mp hu).2
    · rw [hqueue]
      exact List.mem_filter.mpr ⟨hu, by simpa using hlater⟩

end Sys2Proof.Machine
